-- ==== Sys2Proof/Word.lean ====
section
/-! DEFINITION. The word types, the three-axis triple and the vector of fixed length. -/

namespace Sys2Proof

/-- A byte of a host frame, a link frame or an identity answer. -/
abbrev Byte := BitVec 8

/-- A host tag (0 to 65,535), Table 2-1. -/
abbrev Tag := BitVec 16

/-- A probe ident or slot content, 16 bits (00_scope.md, 5.5; R146). -/
abbrev Ident := BitVec 16

/-- A cell set: bit c stands for cell c (R83). -/
abbrev CellSet := BitVec 20

/-- An event set: bit k stands for the kind numbered k of Table 10-6 (R205). -/
abbrev EventSet := BitVec 20

/-- A station number (R210). -/
abbrev Station := Fin 8

/-- A cell number (00_scope.md, 5.3). -/
abbrev Cell := Fin 20

/-- A slot number (00_scope.md, 5.4). -/
abbrev SlotIx := Fin 24

/-- A temperature channel number (R115). -/
abbrev Chan := Fin 8

/-- The three axes (00_scope.md, 5.2). -/
inductive Axis where
  | x
  | y
  | z
deriving DecidableEq, Repr

/-- One value for each axis. -/
structure V3 (α : Type) where
  x : α
  y : α
  z : α
deriving DecidableEq, Repr

/-- The value of one axis. -/
def V3.get {α : Type} (v : V3 α) : Axis → α
  | .x => v.x
  | .y => v.y
  | .z => v.z

/-- The triple with the value of one axis replaced. -/
def V3.set {α : Type} (v : V3 α) (a : Axis) (w : α) : V3 α :=
  match a with
  | .x => { v with x := w }
  | .y => { v with y := w }
  | .z => { v with z := w }

/-- A function applied to the value of every axis. -/
def V3.map {α β : Type} (f : α → β) (v : V3 α) : V3 β := ⟨f v.x, f v.y, f v.z⟩

/-- A function of two triples, axis by axis. -/
def V3.zip {α β γ : Type} (f : α → β → γ) (v : V3 α) (w : V3 β) : V3 γ :=
  ⟨f v.x w.x, f v.y w.y, f v.z w.z⟩

/-- Whether a condition holds on every axis. -/
def V3.all {α : Type} (p : α → Bool) (v : V3 α) : Bool := p v.x && p v.y && p v.z

/-- A list of exactly n values: a fixed bank of like things. -/
structure Vec (n : Nat) (α : Type) where
  toList : List α
  size_eq : toList.length = n
deriving DecidableEq, Repr

/-- The value at a place. -/
def Vec.get {n : Nat} {α : Type} (v : Vec n α) (i : Fin n) : α :=
  v.toList.get (i.cast v.size_eq.symm)

/-- The vector whose value at i is f i. -/
def Vec.ofFn {n : Nat} {α : Type} (f : Fin n → α) : Vec n α :=
  ⟨List.ofFn f, List.length_ofFn⟩

/-- The vector with the value at one place replaced. -/
def Vec.set {n : Nat} {α : Type} (v : Vec n α) (i : Fin n) (a : α) : Vec n α :=
  Vec.ofFn fun j => if j = i then a else v.get j

/-- A function of place and value, at every place. -/
def Vec.mapIx {n : Nat} {α β : Type} (f : Fin n → α → β) (v : Vec n α) : Vec n β :=
  Vec.ofFn fun i => f i (v.get i)

/-- Whether a cell is a member of a cell set. -/
def CellSet.has (cs : CellSet) (c : Cell) : Bool := cs.getLsbD c.val

/-- The set of the cells that meet a condition. -/
def CellSet.of (p : Cell → Bool) : CellSet := BitVec.ofFnLE p

/-- The members of a set outside another set. -/
def CellSet.minus (a b : CellSet) : CellSet := a &&& ~~~b

/-- Whether every member of a is a member of b. -/
def CellSet.within (a b : CellSet) : Bool := CellSet.minus a b == 0#20

/-- The set of all 20 cells. -/
def CellSet.all : CellSet := BitVec.allOnes 20

end Sys2Proof
end

