-- ==== Sys2Proof/Config.lean ====
section
/-! DEFINITION. The free values: what the manual leaves open. An opaque constant has no body that a
proof can see, so a statement holds whatever it is. -/

namespace Sys2Proof

/-- DESIGN CHOICE (log 16). The signed 32-bit count that stands where a setpoint or a following error
outside the signed 32-bit range would: the manual states none (Table 1-1, R16, R204). -/
opaque Config.countBeyond : Int → BitVec 32

/-- DESIGN CHOICE (log 17). The unsigned 32-bit time that a reply carries for a time of 2^32 ms or
more: the manual states none (R204). -/
opaque Config.timeBeyond : Nat → BitVec 32

end Sys2Proof
end

