-- ==== Sys2Proof/Syntax.lean ====
section
/-! DEFINITION. The commands: one constructor for each row of spec/opcode_table.json, with the
operands that the outside decides. -/

namespace Sys2Proof

/-- The levels of the pins that power-on and RESET STATION read (R210, R144, Table 1-4). -/
structure Pins where
  straps : Station
  lower : V3 Bool
  upper : V3 Bool
  ready : V3 Bool
  seated : Bool
  retracted : Bool
deriving DecidableEq, Repr

/-- The levels sampled in one motion period (01 1.4, R144). -/
structure Samples where
  lower : V3 Bool
  upper : V3 Bool
  ready : V3 Bool
  seated : Bool
  retracted : Bool
deriving DecidableEq, Repr

/-- One watched condition of a motion period (R7, R8, R9, R144). -/
inductive Watch where
  | limit (a : Axis)
  | drive (a : Axis)
  | following (a : Axis)
  | seated
deriving DecidableEq, Repr

/-- What the converter of each channel reports at a sample: a value, or none for a sensor found
open (R117). -/
abbrev Conversions := Vec 8 (Option Int)

/-- The frame kinds of Table 4-2, code 7 included. -/
inductive FrameKind where
  | object
  | release
  | claim
  | wait
  | rackNote
  | sampleCall
  | presence
  | none
deriving DecidableEq, Repr

/-- The channel kinds of Table 6-1 that a reading can carry (R83), in code order. -/
inductive ReadingKind where
  | scaleX
  | scaleY
  | scaleZ
  | arm
  | air
  | part
deriving DecidableEq, Repr

/-- The status of a reading in a PRESENCE (R83), in code order. -/
inductive ReadingStatus where
  | valid
  | holding
  | failed
deriving DecidableEq, Repr

/-- One reading of a PRESENCE (R83). -/
structure Reading where
  channel : Chan
  kind : ReadingKind
  status : ReadingStatus
  value : Int
deriving DecidableEq, Repr

/-- The content of a PRESENCE (Table 4-3): active is the state byte 02h, its negation 01h. -/
structure Report where
  active : Bool
  held : CellSet
  waiting : CellSet
  carried : Ident
  readings : List Reading
deriving DecidableEq, Repr

/-- The characters a receiver read of one frame, CRC included, and whether one of them after
character 1 had a framing error (R79, R87). -/
structure Reception where
  chars : List Byte
  framing : Bool
deriving DecidableEq, Repr

/-- The commands. A host command carries the data bytes of its frame (Table 10-8); a link event
carries the sender and the payload; a sampled event carries what was sampled. -/
inductive Instr where
  | powerOn (pins : Pins)
  | hostFrameCheckFailed (bytes : List Byte) (midByte : Bool)
  | replyShiftOut
  | configure (data : List Byte)
  | start (data : List Byte)
  | resetStation (data : List Byte) (pins : Pins)
  | resetLink (data : List Byte)
  | queueMove (data : List Byte)
  | stop (data : List Byte)
  | resume (data : List Byte)
  | flushMoves (data : List Byte)
  | referenceAxis (data : List Byte)
  | clearFault (data : List Byte)
  | changeProbe (data : List Byte)
  | abortChange (data : List Byte)
  | identifyProbe (data : List Byte)
  | writeProbeSet (data : List Byte)
  | deleteProbe (data : List Byte)
  | selectBank (data : List Byte)
  | setRackSlot (data : List Byte)
  | setFixedTemperature (data : List Byte)
  | clearFixedTemperature (data : List Byte)
  | setPart (data : List Byte)
  | callSample (data : List Byte)
  | forgetPeer (data : List Byte)
  | readPoint (data : List Byte)
  | peekPoint (data : List Byte)
  | flushPoints (data : List Byte)
  | readStatus (data : List Byte)
  | readTemperatures (data : List Byte)
  | readZoneView (data : List Byte)
  | readRackView (data : List Byte)
  | readProbe (data : List Byte)
  | readPeer (data : List Byte)
  | readEvents (data : List Byte)
  | enableEvents (data : List Byte)
  | acknowledgeEvents (data : List Byte)
  | releaseHoldEnd
  | motionPeriod (samples : Samples) (order : List Watch)
  | segmentComplete
  | positionTimeout
  | stopDecelerationEnd
  | scaleCount (axis : Axis) (forward : Bool)
  | scaleFault (axis : Axis)
  | referenceMark (axis : Axis)
  | referenceEnd
  | referenceStopEnd
  | touch (counts : V3 (BitVec 32))
  | correctionEnd
  | frameSendStart
  | arbitrationLost
  | duplicateStationMismatch
  | earlySpoil (own : Bool)
  | frameSpoiled (rx : Reception) (byOther : Bool)
  | duplicateStationFrame (kind : FrameKind)
  | frameDelivered
  | claimAccepted (sender : Station) (number : Byte) (cells : CellSet)
  | settleWindowEnd (station : Station) (number : Byte)
  | objectAccepted (sender : Station) (target : Station) (number : Byte) (cells : CellSet)
  | waitAccepted (sender : Station) (cells : CellSet)
  | claimRetryRoom
  | zoneWaitTimeout
  | zoneOverstay (cell : Cell)
  | releaseAccepted (sender : Station) (cells : CellSet)
  | deferralExpiry (cell : Cell)
  | presenceAccepted (sender : Station) (report : Report)
  | peerLost (peer : Station)
  | rackNoteAccepted (sender : Station) (slot : SlotIx) (content : Ident)
  | sampleCallAccepted (sender : Station) (conversions : Conversions) (order : List Chan)
  | presencePeriod
  | listeningEnd
  | sampleTimer (conversions : Conversions) (order : List Chan)
  | dropTimeout
  | pickTimeout
  | identAnswer (high : Byte) (low : Byte) (check : Byte)
  | identAttemptTimeout
  | lineIdle
  | lineDriverFault
deriving DecidableEq, Repr

end Sys2Proof
end

