-- ==== Sys2Proof/Decode.lean ====
section
/-! DEFINITION. Bytes, CRCs, the host frame (10.1), the link frame (4.2) and the table's words. -/

namespace Sys2Proof

/-! ## Bytes -/

/-- The n low bytes of a number, most significant first. -/
def beBytes : Nat → Nat → List Byte
  | 0, _ => []
  | n + 1, x => beBytes n (x / 256) ++ [BitVec.ofNat 8 x]

/-- The number that bytes spell, most significant first. -/
def beNat (bs : List Byte) : Nat := bs.foldl (fun a b => a * 256 + b.toNat) 0

/-- The signed 16-bit value that bytes spell. -/
def beInt16 (bs : List Byte) : Int := (BitVec.ofNat 16 (beNat bs)).toInt

/-- The signed 32-bit value that bytes spell. -/
def beInt32 (bs : List Byte) : Int := (BitVec.ofNat 32 (beNat bs)).toInt

/-- A signed value as n bytes, two's complement, most significant first. -/
def beSigned (n : Nat) (x : Int) : List Byte := beBytes n (x % (256 ^ n : Nat)).toNat

/-- The bytes of a list from a place on, at most n of them. -/
def slice (off n : Nat) (bs : List Byte) : List Byte := (bs.drop off).take n

/-! ## CRCs -/

/-- One bit of the CRC-8 of R196: polynomial x^8 + x^2 + x + 1, most significant bit first. -/
def crc8Bit (r : Byte) : Byte := if r.msb then (r <<< 1) ^^^ 0x07#8 else r <<< 1

/-- One byte of the CRC-8. -/
def crc8Byte (r b : Byte) : Byte := (crc8Bit)^[8] (r ^^^ b)

/-- The CRC-8 of host frames and identity answers (R143, R196): start 00h, nothing reflected. -/
def crc8 (bs : List Byte) : Byte := bs.foldl crc8Byte 0

/-- One bit of the CRC-16 of R82: polynomial x^16 + x^12 + x^5 + 1, most significant bit first. -/
def crc16Bit (r : BitVec 16) : BitVec 16 := if r.msb then (r <<< 1) ^^^ 0x1021#16 else r <<< 1

/-- One byte of the CRC-16. -/
def crc16Byte (r : BitVec 16) (b : Byte) : BitVec 16 :=
  (crc16Bit)^[8] (r ^^^ (b.setWidth 16 <<< 8))

/-- The CRC-16 of link frames and of the configuration block (R82, R213): start FFFFh. -/
def crc16 (bs : List Byte) : BitVec 16 := bs.foldl crc16Byte 0xFFFF#16

/-! ## The host frame -/

/-- Why a host frame failed its checks (R197), in the order of Table 10-6. -/
inductive PortReason where
  | byteCount
  | length
  | check
  | unknownCode
deriving DecidableEq, Repr

/-- The codes of Table 10-5 run from 01h to 22h. -/
def knownCode (c : Byte) : Bool := 1 ≤ c.toNat && c.toNat ≤ 0x22

/-- The checks of R197 on the bytes of a select period, in their order; midByte: the period ended
inside a byte. -/
def checkHostFrame (bytes : List Byte) (midByte : Bool) : Option PortReason :=
  match bytes with
  | c :: n :: _ :: _ =>
    if n.toNat > 60 then some .length
    else if bytes.length < n.toNat + 3 || (bytes.drop (n.toNat + 3)).any (· != 0) || midByte then
      some .byteCount
    else if crc8 (slice 0 (n.toNat + 2) bytes) != bytes.getD (n.toNat + 2) 0 then some .check
    else if !knownCode c then some .unknownCode
    else none
  | _ => some .byteCount

/-- The command of Table 10-5 that a code and its data spell; pins: the levels RESET STATION reads. -/
def hostInstr (pins : Pins) (code : Byte) (data : List Byte) : Option Instr :=
  match code.toNat with
  | 0x01 => some (.configure data)
  | 0x02 => some (.start data)
  | 0x03 => some (.resetStation data pins)
  | 0x04 => some (.resetLink data)
  | 0x05 => some (.queueMove data)
  | 0x06 => some (.stop data)
  | 0x07 => some (.resume data)
  | 0x08 => some (.flushMoves data)
  | 0x09 => some (.referenceAxis data)
  | 0x0A => some (.clearFault data)
  | 0x0B => some (.changeProbe data)
  | 0x0C => some (.abortChange data)
  | 0x0D => some (.identifyProbe data)
  | 0x0E => some (.writeProbeSet data)
  | 0x0F => some (.deleteProbe data)
  | 0x10 => some (.selectBank data)
  | 0x11 => some (.setRackSlot data)
  | 0x12 => some (.setFixedTemperature data)
  | 0x13 => some (.clearFixedTemperature data)
  | 0x14 => some (.setPart data)
  | 0x15 => some (.callSample data)
  | 0x16 => some (.forgetPeer data)
  | 0x17 => some (.readPoint data)
  | 0x18 => some (.peekPoint data)
  | 0x19 => some (.flushPoints data)
  | 0x1A => some (.readStatus data)
  | 0x1B => some (.readTemperatures data)
  | 0x1C => some (.readZoneView data)
  | 0x1D => some (.readRackView data)
  | 0x1E => some (.readProbe data)
  | 0x1F => some (.readPeer data)
  | 0x20 => some (.readEvents data)
  | 0x21 => some (.enableEvents data)
  | 0x22 => some (.acknowledgeEvents data)
  | _ => none

/-- The command that the bytes of one select period are (R195, R197, R198): none for a period in
which no clock edge came, the failed check for a bad frame, the command for a good one. -/
def decodeHostFrame (pins : Pins) (bytes : List Byte) (midByte : Bool) : Option Instr :=
  if bytes.isEmpty && !midByte then none
  else match checkHostFrame bytes midByte with
    | some _ => some (.hostFrameCheckFailed bytes midByte)
    | none => hostInstr pins (bytes.getD 0 0) (slice 2 (bytes.getD 1 0).toNat bytes)

/-- A host frame as Table 10-1 lays it out. -/
def encodeHostFrame (code : Byte) (data : List Byte) : List Byte :=
  let body := code :: BitVec.ofNat 8 data.length :: data
  body ++ [crc8 body]

/-! ## The link frame -/

/-- The kind code of Table 4-2. -/
def FrameKind.code : FrameKind → Nat
  | .object => 0
  | .release => 1
  | .claim => 2
  | .wait => 3
  | .rackNote => 4
  | .sampleCall => 5
  | .presence => 6
  | .none => 7

/-- The kind a code names (Table 4-2). -/
def FrameKind.ofCode (n : Nat) : FrameKind :=
  match n with
  | 0 => .object
  | 1 => .release
  | 2 => .claim
  | 3 => .wait
  | 4 => .rackNote
  | 5 => .sampleCall
  | 6 => .presence
  | _ => .none

/-- A link frame's kind and content. -/
inductive Msg where
  | object (target : Station) (number : Byte) (cells : CellSet)
  | release (cells : CellSet)
  | claim (number : Byte) (cells : CellSet)
  | wait (cells : CellSet)
  | rackNote (slot : SlotIx) (content : Ident)
  | sampleCall
  | presence (report : Report)
deriving DecidableEq, Repr

/-- The kind of a frame. -/
def Msg.kind : Msg → FrameKind
  | .object .. => .object
  | .release _ => .release
  | .claim .. => .claim
  | .wait _ => .wait
  | .rackNote .. => .rackNote
  | .sampleCall => .sampleCall
  | .presence _ => .presence

/-- A cell set in three bytes (R83). -/
def cellSetBytes (cs : CellSet) : List Byte := beBytes 3 cs.toNat

/-- The cell set that three bytes spell; malformed with any of bits 7 to 4 of the first set (R83). -/
def cellSetOf (bs : List Byte) : Option CellSet :=
  if beNat bs < 2 ^ 20 then some (BitVec.ofNat 20 (beNat bs)) else none

/-- The kind code of a reading (R83). -/
def ReadingKind.code : ReadingKind → Nat
  | .scaleX => 0
  | .scaleY => 1
  | .scaleZ => 2
  | .arm => 3
  | .air => 4
  | .part => 5

/-- The reading kind a code names; none for 6 and 7 (R83). -/
def ReadingKind.ofCode (n : Nat) : Option ReadingKind :=
  match n with
  | 0 => some .scaleX
  | 1 => some .scaleY
  | 2 => some .scaleZ
  | 3 => some .arm
  | 4 => some .air
  | 5 => some .part
  | _ => none

/-- The status code of a reading (R83). -/
def ReadingStatus.code : ReadingStatus → Nat
  | .valid => 0
  | .holding => 1
  | .failed => 2

/-- The status a code names; none for 3 (R83). -/
def ReadingStatus.ofCode (n : Nat) : Option ReadingStatus :=
  match n with
  | 0 => some .valid
  | 1 => some .holding
  | 2 => some .failed
  | _ => none

/-- A temperature lies in the range of Table 4-1. -/
def temperatureOk (t : Int) : Bool := -1000 ≤ t && t ≤ 6000

/-- One reading in three bytes (R83). -/
def readingBytes (r : Reading) : List Byte :=
  BitVec.ofNat 8 (r.channel.val * 32 + r.kind.code * 4 + r.status.code) :: beSigned 2 r.value

/-- The reading that three bytes spell; malformed as R83 gives. -/
def readingOf (b0 b1 b2 : Byte) : Option Reading :=
  match ReadingKind.ofCode (b0.toNat / 4 % 8), ReadingStatus.ofCode (b0.toNat % 4) with
  | some k, some st =>
    let v := beInt16 [b1, b2]
    if temperatureOk v then
      some { channel := Fin.ofNat 8 (b0.toNat / 32), kind := k, status := st, value := v }
    else none
  | _, _ => none

/-- The readings that bytes spell, three bytes each; none when a reading is malformed or the bytes
are not a whole number of readings. -/
def readingsOf : List Byte → Option (List Reading)
  | [] => some []
  | b0 :: b1 :: b2 :: rest =>
    match readingOf b0 b1 b2, readingsOf rest with
    | some r, some rs => some (r :: rs)
    | _, _ => none
  | _ => none

/-- No two readings name the same channel (Table 4-3). -/
def channelsDistinct (rs : List Reading) : Bool := decide (rs.map (·.channel)).Nodup

/-- The payload of a frame (Table 4-3). -/
def Msg.payload : Msg → List Byte
  | .object t n cs => BitVec.ofNat 8 t.val :: n :: cellSetBytes cs
  | .release cs => cellSetBytes cs
  | .claim n cs => n :: cellSetBytes cs
  | .wait cs => cellSetBytes cs
  | .rackNote k c => BitVec.ofNat 8 k.val :: beBytes 2 c.toNat
  | .sampleCall => []
  | .presence r =>
    (if r.active then 2#8 else 1#8) :: cellSetBytes r.held ++ cellSetBytes r.waiting
      ++ beBytes 2 r.carried.toNat ++ [BitVec.ofNat 8 r.readings.length]
      ++ r.readings.flatMap readingBytes

/-- The content of a PRESENCE whose payload is these bytes (Table 4-3). -/
def reportOf (p : List Byte) : Option Report :=
  let st := beNat (slice 0 1 p)
  let n := beNat (slice 9 1 p)
  if p.length = 10 + 3 * n ∧ n ≤ 8 ∧ (st = 1 ∨ st = 2) then
    match cellSetOf (slice 1 3 p), cellSetOf (slice 4 3 p), readingsOf (p.drop 10) with
    | some h, some w, some rs =>
      if channelsDistinct rs then
        some { active := st == 2, held := h, waiting := w,
               carried := BitVec.ofNat 16 (beNat (slice 7 2 p)), readings := rs }
      else none
    | _, _, _ => none
  else none

/-- The frame that a kind and a payload are; none when the payload is malformed for its kind (R83). -/
def Msg.ofPayload (k : FrameKind) (p : List Byte) : Option Msg :=
  match k, p with
  | .object, [t, n, a, b, c] =>
    if t.toNat < 8 then (cellSetOf [a, b, c]).map (Msg.object (Fin.ofNat 8 t.toNat) n) else none
  | .release, [a, b, c] => (cellSetOf [a, b, c]).map Msg.release
  | .claim, [n, a, b, c] => (cellSetOf [a, b, c]).map (Msg.claim n)
  | .wait, [a, b, c] => (cellSetOf [a, b, c]).map Msg.wait
  | .rackNote, [s, a, b] =>
    if s.toNat < 24 then some (.rackNote (Fin.ofNat 24 s.toNat) (BitVec.ofNat 16 (beNat [a, b])))
    else none
  | .sampleCall, [] => some .sampleCall
  | .presence, p => (reportOf p).map Msg.presence
  | _, _ => none

/-- Character 0 of a frame: kind code, station number, bits 1 and 0 both 1 (Table 4-1). -/
def headByte (own : Station) (k : FrameKind) : Byte :=
  BitVec.ofNat 8 (k.code * 32 + own.val * 4 + 3)

/-- The characters of a frame, CRC included (Table 4-1, R82). -/
def encodeFrame (own : Station) (m : Msg) : List Byte :=
  let body := headByte own m.kind :: BitVec.ofNat 8 m.payload.length :: m.payload
  body ++ beBytes 2 (crc16 body).toNat

/-- The sender and the content of a frame whose characters are these; none where a check of R87
finds an error (length, CRC, payload malformed for the kind). -/
def decodeFrame (chars : List Byte) : Option (Station × Msg) :=
  match chars with
  | c0 :: len :: rest =>
    let p := len.toNat
    if p ≤ 34 ∧ rest.length = p + 2 ∧ c0.toNat % 4 = 3
        ∧ beNat (rest.drop p) = (crc16 (slice 0 (p + 2) chars)).toNat then
      (Msg.ofPayload (FrameKind.ofCode (c0.toNat / 32)) (rest.take p)).map
        fun m => (Fin.ofNat 8 (c0.toNat / 4), m)
    else none
  | _ => none

/-- The command that an accepted frame is; conv and order: what the converters report if the frame
is a SAMPLE CALL (R90, R112). -/
def acceptedInstr (conv : Conversions) (order : List Chan) (sender : Station) : Msg → Instr
  | .object t n cs => .objectAccepted sender t n cs
  | .release cs => .releaseAccepted sender cs
  | .claim n cs => .claimAccepted sender n cs
  | .wait cs => .waitAccepted sender cs
  | .rackNote k c => .rackNoteAccepted sender k c
  | .sampleCall => .sampleCallAccepted sender conv order
  | .presence r => .presenceAccepted sender r

/-! ## The table's words -/

/-- No row of spec/opcode_table.json has fields or fixed bits, so no word spells a command (log 7). -/
def decodeTableWord (_nbits _w : Nat) : Option Instr := none

end Sys2Proof
end

