-- ==== Sys2Proof/Machine/State.lean ====
section
/-! DEFINITION. The state of the station, its reset values, and the reasons a step can stop. -/

namespace Sys2Proof.Machine

/-! ## Configuration block (Table 11-2) -/

/-- One cell of the cell map (R51). -/
structure CellMap where
  lo : Int
  hi : Int
  z : Int
deriving DecidableEq, Repr

/-- The clear point and the dock point of a slot (R146). -/
structure SlotPoints where
  clear : V3 Int
  dock : V3 Int
deriving DecidableEq, Repr

/-- The soft limits of one axis, both inside (R23). -/
structure SoftLimits where
  lower : Int
  upper : Int
deriving DecidableEq, Repr

/-- The kind of a local channel (Table 6-1), in code order. -/
inductive ChanKind where
  | scaleX
  | scaleY
  | scaleZ
  | arm
  | air
  | part
  | unused
deriving DecidableEq, Repr

/-- A primary source (Table 6-3). -/
inductive Primary where
  | own (channel : Chan)
  | peer (station : Station) (channel : Chan)
  | partMean
deriving DecidableEq, Repr

/-- A source table entry: primary, and a local backup or none (Table 6-3). -/
structure Source where
  primary : Primary
  backup : Option Chan
deriving DecidableEq, Repr

/-- The configuration of one channel (Table 11-2, field 13). -/
structure ChanConfig where
  kind : ChanKind
  shared : Bool
deriving DecidableEq, Repr

/-- The fields of an accepted configuration block (Table 11-2, R214). -/
structure Block where
  cells : Vec 20 CellMap
  guardBand : Int
  slots : Vec 24 SlotPoints
  soft : V3 SoftLimits
  refFeed : Nat
  refValues : V3 Int
  rapidMax : Nat
  probingMax : Nat
  dockMax : Nat
  accel : Nat
  followLimit : Nat
  band : Nat
  backOff : Nat
  scaleCoeffs : V3 Nat
  channels : Vec 8 ChanConfig
  sources : Vec 5 Source
  qualBand : Nat
  holdLevel : Nat
  hysteresis : Nat
  waitLimit : Nat
  yieldLimit : Nat
deriving DecidableEq, Repr

/-! ## Station -/

/-- The station states (R211), in the code order of Table 10-3. -/
inductive StationState where
  | config
  | joining
  | active
deriving DecidableEq, Repr

/-- The block assembly (R212): the content received so far and the part expected next. -/
structure Assembly where
  content : List Byte
  next : Nat
deriving DecidableEq, Repr

/-- The station number, state and configuration (chapter 11). -/
structure StationBlock where
  number : Station
  state : StationState
  config : Option Block
  assembly : Assembly
deriving DecidableEq, Repr

/-! ## Axes -/

/-- The channel modes (R4), in code order. -/
inductive Mode where
  | off
  | idle
  | moving
  | fault
deriving DecidableEq, Repr

/-- The state of one axis channel (Table 1-1): limits true when active, ready true when present. -/
structure AxisChan where
  scale : Int
  referenced : Bool
  mode : Mode
  setpoint : Int
  lower : Bool
  upper : Bool
  ready : Bool
  enable : Bool
deriving DecidableEq, Repr

/-- The three channels and the arm-retracted level (R1, R10). -/
structure Axes where
  chan : V3 AxisChan
  retracted : Bool
deriving DecidableEq, Repr

/-! ## Motion -/

/-- The motion states (R48), in the code order of Table 10-3. -/
inductive MotionState where
  | idle
  | referencing
  | running
  | held
  | changing
  | faulted
deriving DecidableEq, Repr

/-- The fault reasons of Table 1-3, in its order. -/
inductive FaultReason where
  | collision
  | following
  | limit
  | drive
  | scale
  | positionTimeout
  | probeLost
  | zoneConflict
deriving DecidableEq, Repr

/-- The kinds of a segment record (Table 2-1); the RETRACT of R25 is driven within the PROBE's
record, whose state says RETRACTING. -/
inductive SegKind where
  | rapid
  | probe
  | dock
deriving DecidableEq, Repr

/-- The segment states of Table 2-2; DONE and ABORTED are outcomes whose record is removed at once. -/
inductive SegState where
  | queued
  | waitingZone
  | running
  | touched
  | retracting
  | settling
deriving DecidableEq, Repr

/-- The qualification banks (R139). -/
inductive Bank where
  | a
  | b
deriving DecidableEq, Repr

/-- What R26 fixes when a segment becomes current. -/
structure Geom where
  start : V3 Int
  len : Nat
  need : CellSet
deriving DecidableEq, Repr

/-- A segment record (Table 2-1) with what its run needs: the captured bank (R139), the path
distance and the profile periods sent (R35), the velocity of a STOP deceleration (R44), s_t and whether
the frozen setpoints have been sent again (R39), the back-off distance and periods (R40), and the time it
entered SETTLING (R37). -/
structure Segment where
  tag : Option Tag
  kind : SegKind
  target : V3 Int
  feed : Nat
  geom : Option Geom
  state : SegState
  bank : Option Bank
  dist : Nat
  sent : Nat
  decel : Option Nat
  touchedAt : Option Nat
  resent : Bool
  back : Nat
  backSent : Nat
  settleSince : Nat
deriving DecidableEq, Repr

/-- A reference in progress (R16 to R18): periods made, velocity in force, mark seen, STOP taken. -/
structure RefRun where
  axis : Axis
  k : Nat
  vel : Nat
  marked : Bool
  stopping : Bool
deriving DecidableEq, Repr

/-- The Motion Unit. deferCurrent: the number of an abandoned claim at the end of whose settle window the
current segment follows R26 (R30). deferHandOver: that of one at the end of whose window the hand-over of R47 is
made. -/
structure Motion where
  state : MotionState
  queue : List Segment
  internal : Option Segment
  stopPending : Bool
  reference : Option RefRun
  deferCurrent : Option Byte
  deferHandOver : Option Byte
deriving DecidableEq, Repr

/-! ## Zone -/

/-- The state of a cell in the zone view (R54), in code order. -/
inductive CellState where
  | free
  | claimed (station : Station) (number : Byte)
  | held (station : Station)
  | heldUnknown
deriving DecidableEq, Repr

/-- A yield-owed mark: the waiter, the time owed since, and whether ZONE OVERSTAY was raised for this
owing (R54, R67). -/
structure Owed where
  waiter : Station
  since : Nat
  overstayed : Bool
deriving DecidableEq, Repr

/-- A deferral mark (R54, R70). -/
structure Deferral where
  waiter : Station
  since : Nat
deriving DecidableEq, Repr

/-- One entry of the zone view (R54). -/
structure CellEntry where
  state : CellState
  lost : Bool
  last : Option Station
  owed : Option Owed
  deferral : Option Deferral
deriving DecidableEq, Repr

/-- What a claim was made for: the head of the queue, an internal segment, or the join (R55, R74). -/
inductive ClaimOwner where
  | head
  | internal
  | join
deriving DecidableEq, Repr

/-- The claim record (R55). orphan: the segment it was made for has stopped being current while the
claim was CLAIMING, so that it is withdrawn if it goes to WAITING (R30, R63). -/
structure Claim where
  number : Option Byte
  cells : CellSet
  waitingState : Bool
  waiting : CellSet
  made : Nat
  timeout : Bool
  owner : ClaimOwner
  orphan : Bool
deriving DecidableEq, Repr

/-- A settle window in progress (R57). -/
structure Window where
  station : Station
  number : Byte
  since : Nat
deriving DecidableEq, Repr

/-- The Zone Unit (chapter 3). kept and heldBack: the requests of R56. retryAwaited: the check that
R66 makes once the transmit list has room. -/
structure Zone where
  cells : Vec 20 CellEntry
  claim : Option Claim
  nextNumber : Byte
  windows : List Window
  kept : Option CellSet
  heldBack : Option CellSet
  retryAwaited : Bool
deriving DecidableEq, Repr

/-! ## Link -/

/-- The link states (R97). -/
inductive LinkState where
  | silent
  | listening
  | on
  | deaf
deriving DecidableEq, Repr

/-- A frame of the transmit list; a PRESENCE takes its content when an attempt begins (R107). -/
inductive TxFrame where
  | object (target : Station) (number : Byte) (cells : CellSet)
  | release (cells : CellSet)
  | claim (number : Byte) (cells : CellSet)
  | wait (cells : CellSet)
  | rackNote (slot : SlotIx) (content : Ident)
  | sampleCall
  | presence
deriving DecidableEq, Repr

/-- An entry of the transmit list (R91, R94). -/
structure TxEntry where
  frame : TxFrame
  attempts : Nat
  sending : Bool
deriving DecidableEq, Repr

/-- The Link Controller (chapter 4). lineOut: the characters of the frame being sent. -/
structure Link where
  state : LinkState
  list : List TxEntry
  run : Nat
  waitIdle : Bool
  lineOut : Option (List Byte)
  listeningDue : Option Nat
deriving DecidableEq, Repr

/-! ## Peers -/

/-- A Peer Table entry that is present (R100). -/
structure Peer where
  lost : Bool
  lastHeard : Nat
  report : Option Report
deriving DecidableEq, Repr

/-- The Peer Table (chapter 5): an absent entry is a station not present. -/
structure PeerTable where
  entries : Vec 8 (Option Peer)
  presenceDue : Option Nat
  heldBack : Bool
deriving DecidableEq, Repr

/-! ## Temperatures -/

/-- The channel states (R119), in code order. -/
inductive ChanState where
  | unused
  | starting
  | valid
  | holding
  | failed
deriving DecidableEq, Repr

/-- The record of one local channel (Table 6-1). -/
structure Channel where
  kind : Option ChanKind
  shared : Bool
  state : ChanState
  window : List Int
  reading : Option Int
  invalidRun : Nat
  last : Option Int
deriving DecidableEq, Repr

/-- The tags of a quantity (R123), in code order. -/
inductive TempTag where
  | none
  | fixed
  | backup
  | held
deriving DecidableEq, Repr

/-- A temperature quantity with its fixed override (R123). -/
structure Quantity where
  value : Int
  tag : TempTag
  overrideOn : Bool
  override : Int
deriving DecidableEq, Repr

/-- The Temperature Unit (chapter 6). -/
structure Temps where
  channels : Vec 8 Channel
  quantities : Vec 5 Quantity
  datum : V3 Int
  partCoeff : Nat
  sampleDue : Nat
deriving DecidableEq, Repr

/-- The value and tag of a quantity at the moment of a snapshot (R129). -/
structure Snap where
  value : Int
  tag : TempTag
deriving DecidableEq, Repr

/-- A snapshot of the five quantities with the part setting (R129). -/
structure Snapshot where
  temps : Vec 5 Snap
  datum : V3 Int
  partCoeff : Nat
deriving DecidableEq, Repr

/-! ## Probes -/

/-- One qualification set (Table 7-1). -/
structure QualSet where
  valid : Bool
  offset : V3 Int
  radius : Nat
  qualTemp : Int
  limit : Nat
  count : Nat
deriving DecidableEq, Repr

/-- A library entry (R136). -/
structure LibEntry where
  ident : Ident
  setA : QualSet
  setB : QualSet
deriving DecidableEq, Repr

/-- The current probe (R140). -/
inductive CurrentProbe where
  | none
  | known (ident : Ident)
  | unknown (ident : Ident)
deriving DecidableEq, Repr

/-- The source of a slot's content (Table 7-4). -/
inductive NotedBy where
  | station (s : Station)
  | host
  | none
deriving DecidableEq, Repr

/-- A rack slot record (Table 7-4): content 0000h EMPTY, FFFFh UNKNOWN. -/
structure Slot where
  content : Ident
  notedBy : NotedBy
  unsent : Bool
deriving DecidableEq, Repr

/-- The phases of a change (7.6), in code order. -/
inductive Phase where
  | goingToDrop
  | dropping
  | leavingDrop
  | goingToPick
  | picking
  | identifying
  | leavingPick
deriving DecidableEq, Repr

/-- The reasons a change fails (Table 10-6), in code order. -/
inductive FailReason where
  | seatTimeout
  | wrongProbe
  | identUnreadable
  | aborted
  | fault
deriving DecidableEq, Repr

/-- The change record (R151), with the due time of the 300 ms timer (R153, R154). -/
structure Change where
  target : Ident
  pick : Option SlotIx
  drop : Option SlotIx
  phase : Phase
  abort : Bool
  failure : Option FailReason
  seatDue : Option Nat
deriving DecidableEq, Repr

/-- An identity read in progress (R143): attempts made so far, whether it is the change sequence's own
(R155), and the time of the present attempt's request. -/
structure IdentRead where
  attempts : Nat
  forChange : Bool
  since : Nat
deriving DecidableEq, Repr

/-- A full touch latch (Table 7-8). -/
structure Latch where
  tag : Tag
  counts : V3 Int
  ident : Ident
  bank : Bank
  set : QualSet
  delta : V3 Int
  len : Nat
  snap : Snapshot
deriving DecidableEq, Repr

/-- The Probe Unit (chapter 7). -/
structure Probes where
  library : List LibEntry
  live : Bank
  pendingBank : Option Bank
  current : CurrentProbe
  slots : Vec 24 Slot
  seated : Bool
  latchOpen : Bool
  read : Option IdentRead
  change : Option Change
  latch : Option Latch
deriving DecidableEq, Repr

/-! ## Correction and points -/

/-- A NO CONTACT request (R166). -/
structure NoContact where
  tag : Tag
  ident : Ident
  bank : Bank
  qualTemp : Int
  snap : Snapshot
deriving DecidableEq, Repr

/-- A computation in flight (R164). -/
inductive Work where
  | touch (l : Latch)
  | noContact (r : NoContact)
deriving DecidableEq, Repr

/-- The Correction Unit (chapter 8). requestFirst: the waiting request was filled before the latch, or
before anything that the latch takes from now on. -/
structure Correction where
  computing : Option Work
  request : Option NoContact
  requestFirst : Bool
deriving DecidableEq, Repr

/-- The suspect tags of a record (R172 to R174). -/
structure Suspect where
  fixed : Bool
  backup : Bool
  held : Bool
  due : Bool
  band : Bool
deriving DecidableEq, Repr

/-- A record as the Correction Unit forms it; the point is present in a TOUCH record alone (R180). -/
structure RawRecord where
  tag : Tag
  point : Option (V3 Int)
  ident : Ident
  bank : Bank
  temps : Vec 5 Int
  suspect : Suspect
deriving DecidableEq, Repr

/-- A point record (Table 9-1). -/
structure PointRecord where
  sequence : BitVec 16
  raw : RawRecord
deriving DecidableEq, Repr

/-- The Point Queue (chapter 9). -/
structure Points where
  records : List PointRecord
  counter : BitVec 16
  hold : Bool
  suspect : Bool
  overrun : Nat
deriving DecidableEq, Repr

/-! ## Host port and events -/

/-- The reply codes of Table 10-4. -/
inductive Code where
  | ok
  | clamped
  | frame
  | wrongState
  | busy
  | outOfRange
  | queueFull
  | notReferenced
  | unknownProbe
  | notInRack
  | rackFull
  | libraryFull
  | already
  | tooLate
  | empty
  | crc
deriving DecidableEq, Repr

/-- A reply: code and data; the status byte is taken when it leaves (R199). -/
structure Reply where
  code : Code
  data : List Byte
deriving DecidableEq, Repr

/-- The Host Port: the reply buffer, and the characters of the reply being shifted out (R199). -/
structure Port where
  reply : Reply
  shiftOut : List Byte
deriving DecidableEq, Repr

/-- Why a PROBE head was refused (R28). -/
inductive RefuseReason where
  | noProbe
  | zeroLength
deriving DecidableEq, Repr

/-- Why LINK FAULT was raised (Table 10-6), in code order. -/
inductive LinkReason where
  | duplicateStation
  | spoiled
  | deaf
  | listFull
deriving DecidableEq, Repr

/-- The kept values of Table 10-6, each absent until its kind is raised. -/
structure Kept where
  pointReady : Option (BitVec 16)
  overrun : Option (BitVec 16)
  segmentDone : Option Tag
  probeRefused : Option (RefuseReason × Tag)
  motionFault : Option (FaultReason × Option Tag)
  zoneWait : Option CellSet
  zoneWaitTimeout : Option CellSet
  zoneOverstay : Option (Cell × Station)
  zoneConflict : Option (Station × CellSet)
  changeDone : Option Ident
  changeFailed : Option (FailReason × Ident)
  rackConflict : Option (SlotIx × Ident)
  seatedChange : Option Bool
  sensorFault : Option Chan
  peerLost : Option Station
  linkFault : Option (LinkReason × Option FrameKind)
  portError : Option PortReason
deriving DecidableEq, Repr

/-- The Event Unit (10.4, 10.5). -/
structure Events where
  pending : EventSet
  enable : EventSet
  kept : Kept
  releaseHold : Bool
deriving DecidableEq, Repr

/-! ## The whole -/

/-- The state of the station, the queue of waiting commands and the millisecond clock (log 2). -/
structure State where
  pending : List Instr
  clock : Nat
  station : StationBlock
  axes : Axes
  motion : Motion
  zone : Zone
  link : Link
  peers : PeerTable
  temps : Temps
  probes : Probes
  corr : Correction
  points : Points
  port : Port
  events : Events
deriving DecidableEq, Repr

/-- Nothing in the manual stops the part: no fault. -/
inductive Fault where
deriving DecidableEq, Repr

/-- notModelled: exec's arm of a command without a meaning; safe, since the model stops. No arm
raises it. -/
inductive Refusal where
  | notModelled (mnemonic : String)
deriving DecidableEq, Repr

/-- The outcome of a step. -/
abbrev Result := Host.Outcome State Fault Refusal

/-! ## Reset values -/

/-- A cell after power-on (R78). -/
def CellEntry.reset : CellEntry :=
  { state := .free, lost := false, last := none, owed := none, deferral := none }

/-- A channel after power-on (R134). -/
def Channel.reset : Channel :=
  { kind := none, shared := false, state := .starting, window := [], reading := none,
    invalidRun := 0, last := none }

/-- A quantity after power-on (R134). -/
def Quantity.reset : Quantity := { value := 2000, tag := .held, overrideOn := false, override := 2000 }

/-- A slot after power-on (R146). -/
def Slot.reset : Slot := { content := 0xFFFF#16, notedBy := .none, unsent := false }

/-- No kept value (R209). -/
def Kept.reset : Kept :=
  { pointReady := none, overrun := none, segmentDone := none, probeRefused := none,
    motionFault := none, zoneWait := none, zoneWaitTimeout := none, zoneOverstay := none,
    zoneConflict := none, changeDone := none, changeFailed := none, rackConflict := none,
    seatedChange := none, sensorFault := none, peerLost := none, linkFault := none,
    portError := none }

/-- An axis channel after power-on, its levels as sampled (R19). -/
def AxisChan.reset (lower upper ready : Bool) : AxisChan :=
  { scale := 0, referenced := false, mode := .off, setpoint := 0, lower := lower, upper := upper,
    ready := ready, enable := false }

/-- The station after power-on or RESET STATION with these pin levels (R217). Nothing is being shifted out, so
that the rest of a select period in progress carries 00h: the model's choice (log 42). -/
def State.powerOn (p : Pins) : State where
  pending := []
  clock := 0
  station := { number := p.straps, state := .config, config := none,
               assembly := { content := [], next := 0 } }
  axes := { chan := { x := .reset p.lower.x p.upper.x p.ready.x
                      y := .reset p.lower.y p.upper.y p.ready.y
                      z := .reset p.lower.z p.upper.z p.ready.z }
            retracted := p.retracted }
  motion := { state := .idle, queue := [], internal := none, stopPending := false,
              reference := none, deferCurrent := none, deferHandOver := none }
  zone := { cells := Vec.ofFn fun _ => .reset, claim := none, nextNumber := 0, windows := [],
            kept := none, heldBack := none, retryAwaited := false }
  link := { state := .silent, list := [], run := 0, waitIdle := false, lineOut := none,
            listeningDue := none }
  peers := { entries := Vec.ofFn fun _ => none, presenceDue := none, heldBack := false }
  temps := { channels := Vec.ofFn fun _ => .reset, quantities := Vec.ofFn fun _ => .reset,
             datum := ⟨0, 0, 0⟩, partCoeff := 0, sampleDue := 100 }
  probes := { library := [], live := .a, pendingBank := none,
              current := if p.seated then .unknown 0xFFFF#16 else .none,
              slots := Vec.ofFn fun _ => .reset, seated := p.seated, latchOpen := false,
              read := none, change := none, latch := none }
  corr := { computing := none, request := none, requestFirst := false }
  points := { records := [], counter := 0, hold := false, suspect := false, overrun := 0 }
  port := { reply := { code := .ok, data := [] }, shiftOut := [] }
  events := { pending := 0, enable := 0x80001#20, kept := .reset, releaseHold := false }

/-- DESIGN CHOICE (log 6): every pin low, switch inactive, signal lost, line off, straps 0. -/
def Pins.low : Pins :=
  { straps := 0, lower := ⟨false, false, false⟩, upper := ⟨false, false, false⟩,
    ready := ⟨false, false, false⟩, seated := false, retracted := false }

/-- The station right after power-on with every pin low, nothing waiting in the queue. -/
def State.reset : State := State.powerOn Pins.low

/-! ## Updates, one for each part of the state -/

/-- The queue of waiting commands replaced. -/
def State.setPending (s : State) (v : List Instr) : State := { s with pending := v }
/-- The clock replaced. -/
def State.setClock (s : State) (v : Nat) : State := { s with clock := v }
/-- The station block replaced. -/
def State.setStation (s : State) (v : StationBlock) : State := { s with station := v }
/-- The axes replaced. -/
def State.setAxes (s : State) (v : Axes) : State := { s with axes := v }
/-- The Motion Unit replaced. -/
def State.setMotion (s : State) (v : Motion) : State := { s with motion := v }
/-- The Zone Unit replaced. -/
def State.setZone (s : State) (v : Zone) : State := { s with zone := v }
/-- The Link Controller replaced. -/
def State.setLink (s : State) (v : Link) : State := { s with link := v }
/-- The Peer Table replaced. -/
def State.setPeers (s : State) (v : PeerTable) : State := { s with peers := v }
/-- The Temperature Unit replaced. -/
def State.setTemps (s : State) (v : Temps) : State := { s with temps := v }
/-- The Probe Unit replaced. -/
def State.setProbes (s : State) (v : Probes) : State := { s with probes := v }
/-- The Correction Unit replaced. -/
def State.setCorr (s : State) (v : Correction) : State := { s with corr := v }
/-- The Point Queue replaced. -/
def State.setPoints (s : State) (v : Points) : State := { s with points := v }
/-- The Host Port replaced. -/
def State.setPort (s : State) (v : Port) : State := { s with port := v }
/-- The Event Unit replaced. -/
def State.setEvents (s : State) (v : Events) : State := { s with events := v }

end Sys2Proof.Machine
end

