-- ==== Sys2Proof/Machine/Profile.lean ====
section
/-! DEFINITION. Integer arithmetic (00_scope.md, 4.2), path length, path profiles (2.4, 2.5), need
sets (3.1) and the three correction stages (8.2). -/

namespace Sys2Proof.Machine

/-! ## Arithmetic -/

/-- Quotient rounded to the nearest integer, halves away from zero (00_scope.md 4.2, R167). -/
def roundDiv (n : Int) (d : Nat) : Int :=
  let q := (2 * n.natAbs + d) / (2 * d)
  if n < 0 then -(q : Int) else q

/-- Quotient rounded up (00_scope.md 4.2). -/
def ceilDiv (n d : Nat) : Nat := (n + d - 1) / d

/-- The integer square root of a number below 4 to the given power. -/
def isqrtBelow : Nat → Nat → Nat
  | 0, _ => 0
  | k + 1, n =>
    let r := 2 * isqrtBelow k (n / 4)
    if (r + 1) * (r + 1) ≤ n then r + 1 else r

/-- The largest integer whose square is at most n. -/
def isqrt (n : Nat) : Nat := isqrtBelow (n.log2 + 1) n

/-- The integer nearest to the square root of n (R31). -/
def nearestSqrt (n : Nat) : Nat :=
  let r := isqrt n
  if n - r * r > r then r + 1 else r

/-- The least signed 32-bit count (R2). -/
def minCount : Int := -2147483648

/-- The greatest signed 32-bit count (R2). -/
def maxCount : Int := 2147483647

/-- The count lies in the signed 32-bit range. -/
def fits32 (x : Int) : Bool := minCount ≤ x && x ≤ maxCount

/-- The count kept at the nearer end of the signed 32-bit range (R167). -/
def clamp32 (x : Int) : Int := if x < minCount then minCount else if x > maxCount then maxCount else x

/-- The count itself where it is a signed 32-bit count; else a free value (log 16). -/
def count32 (x : Int) : Int := if fits32 x then x else (Config.countBeyond x).toInt

/-- The value kept within lo and hi. -/
def clampInt (lo hi x : Int) : Int := if x < lo then lo else if x > hi then hi else x

/-! ## Path length and profile -/

/-- The move from a to b, axis by axis. -/
def delta (a b : V3 Int) : V3 Int := V3.zip (fun p q => q - p) a b

/-- The path length of a move (R31). -/
def pathLength (a b : V3 Int) : Nat :=
  let d := delta a b
  nearestSqrt (d.x.natAbs ^ 2 + d.y.natAbs ^ 2 + d.z.natAbs ^ 2)

/-- The step velocity v_k = min(F, k·A) (R32). -/
def stepVelocity (feed accel k : Nat) : Nat := min feed (k * accel)

/-- The sum of the first n step velocities (R32). -/
def rampSum (feed accel : Nat) : Nat → Nat
  | 0 => 0
  | n + 1 => rampSum feed accel n + stepVelocity feed accel (n + 1)

/-- The number of ramp steps r of a profile (R32, R33). -/
def rampSteps (len feed accel : Nat) : Nat :=
  let n := ceilDiv feed accel
  if 2 * rampSum feed accel n ≤ len then n
  else Nat.findGreatest (fun m => accel * m * (m + 1) ≤ len) n

/-- The cruise speed V (R32, R33). -/
def cruise (len feed accel : Nat) : Nat := min feed ((rampSteps len feed accel + 1) * accel)

/-- The middle distance M (R34). -/
def middle (len feed accel : Nat) : Nat := len - 2 * rampSum feed accel (rampSteps len feed accel)

/-- The number of cruise periods q (R34). -/
def cruisePeriods (len feed accel : Nat) : Nat := middle len feed accel / cruise len feed accel

/-- The remainder period's distance, 0 when there is none (R34). -/
def remainder (len feed accel : Nat) : Nat := middle len feed accel % cruise len feed accel

/-- The number of periods of a profile (R34). -/
def profileLength (len feed accel : Nat) : Nat :=
  2 * rampSteps len feed accel + cruisePeriods len feed accel
    + (if remainder len feed accel = 0 then 0 else 1)

/-- The profile entry of period k, counted from 1 (R34): ramp up, cruise, remainder, ramp down. -/
def profileEntry (len feed accel k : Nat) : Nat :=
  let r := rampSteps len feed accel
  let q := cruisePeriods len feed accel
  if k ≤ r then stepVelocity feed accel k
  else if k ≤ r + q then cruise len feed accel
  else if remainder len feed accel ≠ 0 ∧ k = r + q + 1 then remainder len feed accel
  else stepVelocity feed accel (profileLength len feed accel + 1 - k)

/-- The profile of a segment, period by period (R34). -/
def profile (len feed accel : Nat) : List Nat :=
  (List.range (profileLength len feed accel)).map fun i => profileEntry len feed accel (i + 1)

/-- The point of a path at path distance d (R35, R40); the start point of a path of length 0. -/
def pathPoint (start target : V3 Int) (len d : Nat) : V3 Int :=
  V3.zip (fun p dl => count32 (p + roundDiv (dl * d) len)) start (delta start target)

/-! ## Need and rest sets -/

/-- The cell's X interval does not lie wholly outside the X travel (R51; Table 4-1 of 00_scope.md). -/
def CellMap.inTravel (m : CellMap) : Bool := m.lo ≤ 80000000 && 0 < m.hi

/-- Whether a cell is in the need set of the move from a to b with a guard band (R52); a cell wholly outside
the X travel never is, also where the guard band reaches it (R51; log 36). -/
def needs (m : CellMap) (guard : Int) (a b : V3 Int) : Bool :=
  m.inTravel && m.lo ≤ max a.x b.x + guard && min a.x b.x - guard < m.hi && m.z < max a.z b.z

/-- The need set of the move from a to b (R52). -/
def needSet (cfg : Block) (a b : V3 Int) : CellSet :=
  CellSet.of fun c => needs (cfg.cells.get c) cfg.guardBand a b

/-- The rest set of a point (R53). -/
def restSet (cfg : Block) (p : V3 Int) : CellSet := needSet cfg p p

/-! ## Correction stages -/

/-- The divisor of the scale and part stages (R167). -/
def stageDivisor : Nat := 10000000000

/-- The scale stage (R168). -/
def scaleStage (count : Int) (coeff : Nat) (temp : Int) : Int :=
  clamp32 (count + roundDiv (count * coeff * (temp - 2000)) stageDivisor)

/-- The tip stage (R169). -/
def tipStage (count offset : Int) (radius : Nat) (move : Int) (len : Nat) : Int :=
  clamp32 (count + offset + roundDiv (radius * move) len)

/-- The part stage (R170). -/
def partStage (count datum : Int) (coeff : Nat) (temp : Int) : Int :=
  clamp32 (count - roundDiv ((count - datum) * coeff * (temp - 2000)) stageDivisor)

end Sys2Proof.Machine
end

