-- ==== Sys2Proof/Machine/Ops.lean ====
section
/-! DEFINITION. The shared operations: raising events, the axes, the zone view, the transmit list, the
presence report, the rack view, the bank selector and the fault stop. -/

namespace Sys2Proof.Machine

/-! ## Configuration and clock -/

/-- The block that stands where none has been accepted; no rule reads it before START (R51, R189). -/
def Block.absent : Block where
  cells := Vec.ofFn fun _ => ⟨0, 0, 0⟩
  guardBand := 0
  slots := Vec.ofFn fun _ => ⟨⟨0, 0, 0⟩, ⟨0, 0, 0⟩⟩
  soft := ⟨⟨0, 0⟩, ⟨0, 0⟩, ⟨0, 0⟩⟩
  refFeed := 0
  refValues := ⟨0, 0, 0⟩
  rapidMax := 0
  probingMax := 0
  dockMax := 0
  accel := 0
  followLimit := 0
  band := 0
  backOff := 0
  scaleCoeffs := ⟨0, 0, 0⟩
  channels := Vec.ofFn fun _ => ⟨.unused, false⟩
  sources := Vec.ofFn fun _ => ⟨.own 0, none⟩
  qualBand := 0
  holdLevel := 0
  hysteresis := 0
  waitLimit := 0
  yieldLimit := 0

/-- The configuration block in force (R214). -/
def State.cfg (s : State) : Block := s.station.config.getD .absent

/-- The station's own number (R210). -/
def State.own (s : State) : Station := s.station.number

/-- The clock brought up to a time that has come (log 2). -/
def State.reach (s : State) (t : Nat) : State := s.setClock (max s.clock t)

/-- The replies' buffer takes a reply (R198). -/
def State.answer (s : State) (code : Code) (data : List Byte) : State :=
  s.setPort { s.port with reply := { code := code, data := data } }

/-! ## Events (R205) -/

/-- The event kinds of Table 10-6. -/
inductive EventKind where
  | ready
  | pointReady
  | queueHold
  | overrun
  | segmentDone
  | probeRefused
  | motionFault
  | zoneWait
  | zoneWaitTimeout
  | zoneOverstay
  | zoneConflict
  | changeDone
  | changeFailed
  | rackConflict
  | seatedChange
  | strayTouch
  | sensorFault
  | peerLost
  | linkFault
  | portError
deriving DecidableEq, Repr

/-- The number of a kind (Table 10-6). -/
def EventKind.num : EventKind → Nat
  | .ready => 0
  | .pointReady => 1
  | .queueHold => 2
  | .overrun => 3
  | .segmentDone => 4
  | .probeRefused => 5
  | .motionFault => 6
  | .zoneWait => 7
  | .zoneWaitTimeout => 8
  | .zoneOverstay => 9
  | .zoneConflict => 10
  | .changeDone => 11
  | .changeFailed => 12
  | .rackConflict => 13
  | .seatedChange => 14
  | .strayTouch => 15
  | .sensorFault => 16
  | .peerLost => 17
  | .linkFault => 18
  | .portError => 19

/-- The event set that holds one kind alone (R205). -/
def EventKind.bit (k : EventKind) : EventSet := 1#20 <<< k.num

/-- A raise: the kind's pending mark is set and the kept values are replaced (R205). -/
def State.raise (s : State) (k : EventKind) (kept : Kept) : State :=
  s.setEvents { s.events with pending := s.events.pending ||| k.bit, kept := kept }

/-- READY raised (R216). -/
def raiseReady (s : State) : State := s.raise .ready s.events.kept
/-- POINT READY raised (R183). -/
def raisePointReady (n : BitVec 16) (s : State) : State :=
  s.raise .pointReady { s.events.kept with pointReady := some n }
/-- QUEUE HOLD raised (R188). -/
def raiseQueueHold (s : State) : State := s.raise .queueHold s.events.kept
/-- OVERRUN raised (R184). -/
def raiseOverrun (n : BitVec 16) (s : State) : State :=
  s.raise .overrun { s.events.kept with overrun := some n }
/-- SEGMENT DONE raised (R38). -/
def raiseSegmentDone (t : Tag) (s : State) : State :=
  s.raise .segmentDone { s.events.kept with segmentDone := some t }
/-- PROBE REFUSED raised (R28). -/
def raiseProbeRefused (r : RefuseReason) (t : Tag) (s : State) : State :=
  s.raise .probeRefused { s.events.kept with probeRefused := some (r, t) }
/-- MOTION FAULT raised (R11, R12). -/
def raiseMotionFault (r : FaultReason) (t : Option Tag) (s : State) : State :=
  s.raise .motionFault { s.events.kept with motionFault := some (r, t) }
/-- ZONE WAIT raised (R62). -/
def raiseZoneWait (cs : CellSet) (s : State) : State :=
  s.raise .zoneWait { s.events.kept with zoneWait := some cs }
/-- ZONE WAIT TIMEOUT raised (R67). -/
def raiseZoneWaitTimeout (cs : CellSet) (s : State) : State :=
  s.raise .zoneWaitTimeout { s.events.kept with zoneWaitTimeout := some cs }
/-- ZONE OVERSTAY raised (R67). -/
def raiseZoneOverstay (c : Cell) (w : Station) (s : State) : State :=
  s.raise .zoneOverstay { s.events.kept with zoneOverstay := some (c, w) }
/-- ZONE CONFLICT raised (R58, R61, R72). -/
def raiseZoneConflict (p : Station) (cs : CellSet) (s : State) : State :=
  s.raise .zoneConflict { s.events.kept with zoneConflict := some (p, cs) }
/-- CHANGE DONE raised (R156). -/
def raiseChangeDone (t : Ident) (s : State) : State :=
  s.raise .changeDone { s.events.kept with changeDone := some t }
/-- CHANGE FAILED raised (R156, R158). -/
def raiseChangeFailed (r : FailReason) (t : Ident) (s : State) : State :=
  s.raise .changeFailed { s.events.kept with changeFailed := some (r, t) }
/-- RACK CONFLICT raised (R141, R147). -/
def raiseRackConflict (k : SlotIx) (i : Ident) (s : State) : State :=
  s.raise .rackConflict { s.events.kept with rackConflict := some (k, i) }
/-- SEATED CHANGE raised (R144). -/
def raiseSeatedChange (level : Bool) (s : State) : State :=
  s.raise .seatedChange { s.events.kept with seatedChange := some level }
/-- STRAY TOUCH raised (R145). -/
def raiseStrayTouch (s : State) : State := s.raise .strayTouch s.events.kept
/-- SENSOR FAULT raised (R120). -/
def raiseSensorFault (c : Chan) (s : State) : State :=
  s.raise .sensorFault { s.events.kept with sensorFault := some c }
/-- PEER LOST raised (R103). -/
def raisePeerLost (p : Station) (s : State) : State :=
  s.raise .peerLost { s.events.kept with peerLost := some p }
/-- LINK FAULT raised (R85, R86, R91, R92, R94). -/
def raiseLinkFault (r : LinkReason) (k : Option FrameKind) (s : State) : State :=
  s.raise .linkFault { s.events.kept with linkFault := some (r, k) }
/-- PORT ERROR raised (R197). -/
def raisePortError (r : PortReason) (s : State) : State :=
  s.raise .portError { s.events.kept with portError := some r }

/-! ## Axes and segments -/

/-- The three setpoints. -/
def State.setpoints (s : State) : V3 Int := s.axes.chan.map (·.setpoint)

/-- The three scale counts. -/
def State.scales (s : State) : V3 Int := s.axes.chan.map (·.scale)

/-- The channel of one axis. -/
def State.axis (s : State) (a : Axis) : AxisChan := s.axes.chan.get a

/-- The channel of one axis replaced. -/
def State.setAxis (s : State) (a : Axis) (c : AxisChan) : State :=
  s.setAxes { s.axes with chan := s.axes.chan.set a c }

/-- Every channel takes a mode (R4). -/
def State.setModes (s : State) (m : Mode) : State :=
  s.setAxes { s.axes with chan := s.axes.chan.map fun c => { c with mode := m } }

/-- Every axis is sent its setpoint (R35). -/
def State.sendSetpoints (s : State) (p : V3 Int) : State :=
  s.setAxes { s.axes with chan := V3.zip (fun c x => { c with setpoint := x }) s.axes.chan p }

/-- Every axis is referenced (R23). -/
def State.allReferenced (s : State) : Bool := s.axes.chan.all (·.referenced)

/-- The states in which a segment is in flight (R22). -/
def SegState.flying : SegState → Bool
  | .queued => false
  | .waitingZone => false
  | .running => true
  | .touched => true
  | .retracting => true
  | .settling => true

/-- The current segment: the internal one while CHANGING, else the head (R26). -/
def State.current (s : State) : Option Segment :=
  if s.motion.state = .changing then s.motion.internal else s.motion.queue.head?

/-- The segment in flight (R22). -/
def State.flying (s : State) : Option Segment := s.current.filter (·.state.flying)

/-- The current segment's record replaced. -/
def State.setCurrent (s : State) (g : Segment) : State :=
  if s.motion.state = .changing then s.setMotion { s.motion with internal := some g }
  else match s.motion.queue with
    | [] => s
    | _ :: rest => s.setMotion { s.motion with queue := g :: rest }

/-- The current segment's record removed (R21). -/
def State.dropCurrent (s : State) : State :=
  if s.motion.state = .changing then s.setMotion { s.motion with internal := none }
  else s.setMotion { s.motion with queue := s.motion.queue.tail }

/-- The motion state replaced (R48). -/
def State.setMotionState (s : State) (m : MotionState) : State :=
  s.setMotion { s.motion with state := m }

/-- A PROBE segment is RUNNING, TOUCHED or RETRACTING (R139). -/
def State.probeBusy (s : State) : Bool :=
  match s.flying with
  | some g => g.kind == .probe && g.state != .settling
  | none => false

/-- The pending bank becomes live once no PROBE segment is RUNNING, TOUCHED or RETRACTING (R139). -/
def settleBank (s : State) : State :=
  match s.probes.pendingBank with
  | some bank =>
    if s.probeBusy then s else s.setProbes { s.probes with live := bank, pendingBank := none }
  | none => s

/-! ## The zone view -/

/-- The entry of a cell. -/
def State.cell (s : State) (c : Cell) : CellEntry := s.zone.cells.get c

/-- Every entry of the zone view changed. -/
def State.mapCells (s : State) (f : Cell → CellEntry → CellEntry) : State :=
  s.setZone { s.zone with cells := s.zone.cells.mapIx f }

/-- The cells whose entry meets a condition. -/
def State.cellsWhere (s : State) (p : CellEntry → Bool) : CellSet :=
  CellSet.of fun c => p (s.cell c)

/-- The station's held set (R54). -/
def State.heldSet (s : State) : CellSet := s.cellsWhere fun e => e.state == .held s.own

/-- The FREE cells of the view. -/
def State.freeSet (s : State) : CellSet := s.cellsWhere fun e => e.state == .free

/-- The entry is CLAIMED by the station itself (R54). -/
def CellEntry.claimedBy (e : CellEntry) (p : Station) : Bool :=
  match e.state with
  | .claimed q _ => q == p
  | _ => false

/-- The cells HELD by the station or CLAIMED by it from a claim still in its window (R58, R64). After entry to
DEAF no entry is CLAIMED by it, and only its HELD cells count as held or claimed in R75 (log 40). -/
def State.ownSet (s : State) : CellSet :=
  s.cellsWhere fun e => e.state == .held s.own || e.claimedBy s.own

/-- The cells that carry a deferral mark (R70). -/
def State.deferred (s : State) : CellSet := s.cellsWhere fun e => e.deferral.isSome

/-- Every CLAIMED (p, n) entry becomes FREE and loses its yield-owed mark (R60, R71). -/
def takeBack (p : Station) (n : Byte) (s : State) : State :=
  s.mapCells fun _ e => if e.state = .claimed p n then { e with state := .free, owed := none } else e

/-! ## The transmit list (4.6) -/

/-- The kind of a frame in the list. -/
def TxFrame.kind : TxFrame → FrameKind
  | .object .. => .object
  | .release _ => .release
  | .claim .. => .claim
  | .wait _ => .wait
  | .rackNote .. => .rackNote
  | .sampleCall => .sampleCall
  | .presence => .presence

/-- The list with an entry placed behind every entry of its kind code or a lower one (R94). -/
def insertTx (e : TxEntry) : List TxEntry → List TxEntry
  | [] => [e]
  | x :: rest =>
    if x.frame.kind.code ≤ e.frame.kind.code then x :: insertTx e rest else e :: x :: rest

/-- The entry is pending: in the list and not being sent (R95). -/
def TxEntry.pendingKind (k : FrameKind) (e : TxEntry) : Bool := e.frame.kind == k && !e.sending

/-- The frame with cells added to its cell set, a RELEASE or a WAIT (R95). -/
def TxFrame.addCells (cs : CellSet) : TxFrame → TxFrame
  | .release old => .release (old ||| cs)
  | .wait old => .wait (old ||| cs)
  | f => f

/-- The cell set of a RELEASE or a WAIT. -/
def TxFrame.cells : TxFrame → CellSet
  | .release cs => cs
  | .wait cs => cs
  | _ => 0#20

/-- The list with a frame's cells added to its first pending frame of that kind (R95; log 18). -/
def mergeFirst (f : TxFrame) : List TxEntry → List TxEntry
  | [] => []
  | e :: rest =>
    if e.pendingKind f.kind then { e with frame := e.frame.addCells f.cells } :: rest
    else e :: mergeFirst f rest

/-- What becomes of an offered frame: placed (merged or replacing), refused, or discarded (R94). -/
inductive Offer where
  | placed
  | refused
  | discarded
deriving DecidableEq, Repr

/-- A new frame joins the list, or is refused with LINK FAULT, reason LIST FULL (R94). -/
def placeFrame (f : TxFrame) (s : State) : Offer × State :=
  if s.link.list.length < 8 then
    (.placed, s.setLink { s.link with
      list := insertTx { frame := f, attempts := 0, sending := false } s.link.list })
  else (.refused, raiseLinkFault .listFull (some f.kind) s)

/-- A frame is offered to the transmit list: discarded in SILENT, merged or replacing as R95 gives,
else placed or refused (R94). -/
def offer (f : TxFrame) (s : State) : Offer × State :=
  let pending := s.link.list.any (·.pendingKind f.kind)
  if s.link.state = .silent then (.discarded, s)
  else match f.kind, pending with
    | .release, true | .wait, true =>
      (.placed, s.setLink { s.link with list := mergeFirst f s.link.list })
    | .presence, true =>
      (.placed, s.setLink { s.link with
        list := insertTx { frame := f, attempts := 0, sending := false }
          (s.link.list.filter fun e => !e.pendingKind .presence) })
    | _, _ => placeFrame f s

/-- The frame being sent. -/
def State.sendingEntry (s : State) : Option TxEntry := s.link.list.find? (·.sending)

/-- The frame being sent leaves the list (R89, R91, R85). -/
def removeSending (s : State) : State :=
  s.setLink { s.link with list := s.link.list.filter fun e => !e.sending, lineOut := none }

/-- The cells of the pending frames of a kind. -/
def pendingCells (k : FrameKind) (l : List TxEntry) : CellSet :=
  (l.filter (·.pendingKind k)).foldl (fun cs e => cs ||| e.frame.cells) 0#20

/-- The spoiled frame becomes pending again with this attempt count, and a later entry of its kind is
joined with it (R95): a RELEASE or WAIT takes its cells, a PRESENCE gives way to it. -/
def backToPending (attempts : Nat) (s : State) : State :=
  match s.sendingEntry with
  | none => s
  | some e =>
    let k := e.frame.kind
    let back (f : TxFrame) (l : List TxEntry) : List TxEntry :=
      l.map fun x => if x.sending then { frame := f, attempts := attempts, sending := false } else x
    let list := match k, s.link.list.any (·.pendingKind k) with
      | .release, true | .wait, true =>
        back (e.frame.addCells (pendingCells k s.link.list))
          (s.link.list.filter fun x => !x.pendingKind k)
      | .presence, true => s.link.list.filter fun x => !x.sending
      | _, _ => back e.frame s.link.list
    s.setLink { s.link with list := list, lineOut := none }

/-! ## Presence reports (5.4) -/

/-- A settle window of the station's own claim runs and holds reports back (R109); entry to DEAF ends
the hold. -/
def State.holdsReports (s : State) : Bool :=
  s.link.state != .deaf && s.zone.windows.any (·.station == s.own)

/-- A PRESENCE of this station stands in the transmit list. -/
def State.presenceListed (s : State) : Bool := s.link.list.any (·.frame.kind == .presence)

/-- The period timer starts unless a report stands in the list or is held back (R108). -/
def presenceLeft (s : State) : State :=
  if s.presenceListed || s.peers.heldBack then s
  else s.setPeers { s.peers with presenceDue := some (s.clock + 1000) }

/-- A PRESENCE is offered: held back while the station's own window runs (R109), else offered to the
list; the period timer stops while one stands, and starts when it is refused with none standing (R108,
R110). -/
def offerPresence (s : State) : State :=
  if s.holdsReports then s.setPeers { s.peers with heldBack := true, presenceDue := none }
  else match offer .presence s with
    | (.placed, t) => t.setPeers { t.peers with presenceDue := none }
    | (.refused, t) => presenceLeft (t.setPeers { t.peers with presenceDue := none })
    | (.discarded, t) => t.setPeers { t.peers with presenceDue := none }

/-- The hold of R109 has ended: one PRESENCE is offered if a report was held back. -/
def releaseReport (s : State) : State :=
  if s.peers.heldBack then offerPresence (s.setPeers { s.peers with heldBack := false }) else s

/-! ## The rack view (7.5) -/

/-- A valid ident (00_scope.md 5.5). -/
def validIdent (i : Ident) : Bool := i != 0x0000#16 && i != 0xFFFF#16

/-- The ident of the current probe, KNOWN or UNKNOWN (R140). -/
def CurrentProbe.ident : CurrentProbe → Option Ident
  | .none => Option.none
  | .known i => some i
  | .unknown i => some i

/-- The record of one slot replaced. -/
def State.setSlot (s : State) (k : SlotIx) (v : Slot) : State :=
  s.setProbes { s.probes with slots := s.probes.slots.set k v }

/-- A slot's unsent mark set (R149). -/
def markUnsent (k : SlotIx) (v : Bool) (s : State) : State :=
  s.setSlot k { s.probes.slots.get k with unsent := v }

/-- A RACK NOTE for a slot is offered; a note that is refused or discarded leaves the slot's unsent
mark set (R149). -/
def offerNote (k : SlotIx) (content : Ident) (s : State) : State :=
  match offer (.rackNote k content) s with
  | (.placed, t) => t
  | (.refused, t) => markUnsent k true t
  | (.discarded, t) => markUnsent k true t

/-- A rack note is applied to the view (R147). -/
def applyNote (k : SlotIx) (c : Ident) (src : NotedBy) (s : State) : State :=
  if validIdent c && s.probes.current.ident == some c then
    raiseRackConflict k c
      (s.setSlot k { s.probes.slots.get k with content := 0xFFFF#16, notedBy := src })
  else
    let slots := s.probes.slots.mapIx fun j e =>
      if j = k then { e with content := c, notedBy := src }
      else if validIdent c && e.content == c then { e with content := 0xFFFF#16, notedBy := src }
      else e
    s.setProbes { s.probes with slots := slots }

/-- The current probe has taken an ident: a slot that shows a valid one becomes UNKNOWN, RACK CONFLICT
is raised and a note offered (R141). -/
def expelIdent (i : Ident) (s : State) : State :=
  if validIdent i then
    (List.finRange 24).foldl (fun t k =>
      if (t.probes.slots.get k).content = i then
        offerNote k 0xFFFF#16 (raiseRackConflict k i
          (t.setSlot k { t.probes.slots.get k with
            content := 0xFFFF#16, notedBy := .station t.own }))
      else t) s
  else s

/-- The library entry of an ident (R136). -/
def State.entry (s : State) (i : Ident) : Option LibEntry :=
  s.probes.library.find? (·.ident == i)

/-- The set of one bank. -/
def LibEntry.set (e : LibEntry) : Bank → QualSet
  | .a => e.setA
  | .b => e.setB

/-- The entry with the set of one bank replaced. -/
def LibEntry.withSet (e : LibEntry) (bank : Bank) (q : QualSet) : LibEntry :=
  match bank with
  | .a => { e with setA := q }
  | .b => { e with setB := q }

/-- The current probe replaced. -/
def State.setCurrentProbe (s : State) (p : CurrentProbe) : State :=
  s.setProbes { s.probes with current := p }

/-! ## The fault stop (1.5) -/

/-- The drive enable that R5 gives an axis at a fault stop. -/
def AxisChan.faultEnable (c : AxisChan) : Bool := !(c.lower || c.upper) && c.ready

/-- The channel at a fault stop: frozen at its scale count, mode FAULT (R11). -/
def AxisChan.freeze (c : AxisChan) : AxisChan :=
  { c with setpoint := c.scale, mode := .fault, enable := c.faultEnable }

/-- The latch output after a fault in a phase (Table 7-6): closed in the phases before the drop,
open again in PICKING, else as it stood. -/
def faultLatch (ph : Phase) (latchOpen : Bool) : Bool :=
  match ph with
  | .goingToDrop => false
  | .dropping => false
  | .picking => true
  | _ => latchOpen

/-- A fault stop ends the change sequence with reason FAULT (R158): record, identity read and timer
go, and the held-back request of its segment is dropped (R30). -/
def failChange (s : State) : State :=
  match s.probes.change with
  | none => s
  | some ch =>
    raiseChangeFailed .fault ch.target
      ((s.setProbes { s.probes with
          change := none
          latchOpen := faultLatch ch.phase s.probes.latchOpen
          read := s.probes.read.filter fun r => !r.forChange }).setZone
        { s.zone with heldBack := none })

/-- The host tag that MOTION FAULT carries: that of a host segment in flight (R11, R12). -/
def State.faultTag (s : State) : Option Tag :=
  if s.motion.state = .changing then none else s.flying.bind (·.tag)

/-- A fault stop (R11): nothing when motion is FAULTED already (R13). -/
def faultStop (r : FaultReason) (s : State) : State :=
  if s.motion.state = .faulted then s
  else
    let tag := s.faultTag
    let frozen := s.setAxes { s.axes with chan := s.axes.chan.map AxisChan.freeze }
    let ended := if s.flying.isSome then frozen.dropCurrent else frozen
    let failed := if s.motion.state = .changing then failChange ended else ended
    let still := failed.setMotion { failed.motion with
      state := .faulted, internal := none, stopPending := false, reference := none }
    raiseMotionFault r tag (settleBank still)

/-- ZONE CONFLICT is raised, and the station fault-stops with that reason (R58, R61, R72). -/
def zoneConflict (p : Station) (cs : CellSet) (s : State) : State :=
  faultStop .zoneConflict (raiseZoneConflict p cs s)

end Sys2Proof.Machine
end

