-- ==== Sys2Proof/Machine/Claims.lean ====
section
/-! DEFINITION. The shared operations of the Zone Unit: the claim record's life (3.3, 3.4), release
(3.5) and entry to DEAF (3.8, 4.5). -/

namespace Sys2Proof.Machine

/-- The claim record replaced. -/
def State.setClaim (s : State) (c : Option Claim) : State := s.setZone { s.zone with claim := c }

/-- More than the wait limit has passed since the record was made (R67). -/
def Claim.overdue (c : Claim) (s : State) : Bool :=
  decide (s.clock > c.made + s.cfg.waitLimit * 1000)

/-- ZONE WAIT TIMEOUT is raised and the record's timeout mark set (R67). -/
def markTimeout (c : Claim) (s : State) : State :=
  raiseZoneWaitTimeout c.cells (s.setClaim (some { c with timeout := true }))

/-- A WAIT frame for a waiting set is offered; none for an empty set, and none unless the link is ON
(R62). -/
def offerWait (cs : CellSet) (s : State) : State :=
  if s.link.state = .on ∧ cs ≠ 0#20 then (offer (.wait cs) s).2 else s

/-- The claim's CLAIMED entries taken back (R62). -/
def takeBackClaim (c : Claim) (s : State) : State :=
  match c.number with
  | some n => takeBack s.own n s
  | none => s

/-- The claim goes to WAITING with these blocking cells (R62): its CLAIMED entries become FREE, the
waiting set is the blocking cells, ZONE WAIT is raised, a WAIT is offered, and a wait limit that passed
while it was CLAIMING is raised now (R67), also by an abandoned claim, which is withdrawn in the same moment (log
26). -/
def claimToWaiting (blocking : CellSet) (s : State) : State :=
  match s.zone.claim with
  | none => s
  | some c =>
    let w := { c with waitingState := true, waiting := blocking }
    let t := offerWait blocking (raiseZoneWait blocking ((takeBackClaim c s).setClaim (some w)))
    if !c.timeout && c.overdue t then markTimeout w t else t

/-- The claim's CLAIM frame was not delivered (R62, R66): it waits for its cells that are not FREE,
and the retry check is made once the list has room. -/
def claimUndelivered (s : State) : State :=
  match s.zone.claim with
  | none => s
  | some c =>
    let t := claimToWaiting (c.cells.minus s.freeSet) s
    t.setZone { t.zone with retryAwaited := true }

/-- The claim record sends a CLAIM with the next claim number and becomes CLAIMING (R55, R66). The number
stands in the record also where the list refuses the frame (log 37). -/
def sendClaim (c : Claim) (s : State) : State :=
  let n := s.zone.nextNumber
  let made := s.setZone { s.zone with
    claim := some { c with number := some n, waitingState := false, waiting := 0#20 }
    nextNumber := n + 1 }
  match offer (.claim n c.cells) made with
  | (.placed, t) => t
  | (.refused, t) => claimUndelivered t
  | (.discarded, t) => t

/-- A claim record as it is made (R55). -/
def newClaim (owner : ClaimOwner) (cs : CellSet) (s : State) : Claim :=
  { number := none, cells := cs, waitingState := false, waiting := 0#20, made := s.clock,
    timeout := false, owner := owner, orphan := false }

/-- What a request is made for: the internal segment while CHANGING, else the head (R26). -/
def State.requester (s : State) : ClaimOwner :=
  if s.motion.state = .changing then .internal else .head

/-- The Motion Unit's request for cells it does not hold (R56). -/
def requestCells (cs : CellSet) (s : State) : State :=
  if cs = 0#20 then s
  else if s.zone.claim.isSome then s.setZone { s.zone with kept := some cs }
  else if s.link.state = .on then
    if s.deferred &&& cs ≠ 0#20 then s.setZone { s.zone with heldBack := some cs }
    else sendClaim (newClaim s.requester cs s) s
  else
    raiseZoneWait cs (s.setClaim
      (some { newClaim s.requester cs s with waitingState := true, waiting := cs }))

/-- The retry check (R66): a WAITING claim whose whole cell set is FREE, with no deferral mark on it,
sends a fresh CLAIM; only on link ON. An abandoned claim is withdrawn, not claimed again (R63). -/
def retryCheck (s : State) : State :=
  match s.zone.claim with
  | none => s
  | some c =>
    if c.waitingState && !c.orphan && s.link.state == .on && c.cells.within s.freeSet
        && s.deferred &&& c.cells == 0#20 then sendClaim c s
    else s

/-- The last deferral mark on the cells of a held-back request has ended (R70): it is acted on as if it
had just arrived. before: the marked cells until now. -/
def takeUpHeldBack (before : CellSet) (s : State) : State :=
  match s.zone.heldBack with
  | some cs =>
    if before &&& cs ≠ 0#20 ∧ s.deferred &&& cs = 0#20 then
      requestCells cs (s.setZone { s.zone with heldBack := none })
    else s
  | none => s

/-- Deferral marks have ended (R70): a held-back request is taken up, and the retry check is made for a
claim whose retry such a mark held back. before: the marked cells until now. -/
def deferralsEnded (before : CellSet) (s : State) : State :=
  let t := takeUpHeldBack before s
  match s.zone.claim with
  | some c => if before &&& c.cells ≠ 0#20 ∧ s.deferred &&& c.cells = 0#20 then retryCheck t else t
  | none => t

/-- A WAITING claim is withdrawn (R63): record, waiting set and kept request go, and a PRESENCE is
sent at once. -/
def withdrawClaim (s : State) : State :=
  offerPresence (s.setZone { s.zone with claim := none, kept := none })

/-- The segment that was current no longer is (R30): a held-back request is dropped; a claim that is
not the join claim is withdrawn if WAITING, and marked to run out its window if CLAIMING. -/
def currentChanged (s : State) : State :=
  let t := s.setZone { s.zone with heldBack := none }
  match t.zone.claim with
  | none => t
  | some c =>
    if c.owner = .join then t
    else if c.waitingState then withdrawClaim t
    else t.setClaim (some { c with orphan := true })

/-- The number of a claim of a segment no longer current that is CLAIMING (R30); a claim that is CLAIMING has one
(R55). -/
def State.abandoned (s : State) : Option Byte :=
  match s.zone.claim with
  | some c => if c.orphan && !c.waitingState then c.number else none
  | none => none

/-- The window of a CLAIM, if it still runs. -/
def State.window (s : State) (p : Station) (n : Byte) : Option Window :=
  s.zone.windows.find? fun w => w.station == p && w.number == n

/-- What waits for the end of the window of an abandoned claim of this number is due (R30, R47): the claim is no
longer CLAIMING, and no window of it runs. A claim that is lost before its CLAIM is accepted, or by a CLAIM frame
that is not delivered, has no window: what waits is due at the loss (logs 20 and 26). -/
def State.windowOver (s : State) : Option Byte → Bool
  | some n => s.abandoned != some n && (s.window s.own n).isNone
  | none => false

/-- The held cells that carry a yield-owed mark (R68). -/
def State.owedSet (s : State) : CellSet :=
  s.cellsWhere fun e => e.state == .held s.own && e.owed.isSome

/-- The release set for a keep set (R68). -/
def State.releaseSet (s : State) (keep : CellSet) : CellSet :=
  (s.heldSet.minus keep) ||| s.owedSet

/-- The state a released cell takes: FREE (R68); while LISTENING or DEAF the view shows every cell not
held as HELD-UNKNOWN (R75, R76; log 10). -/
def State.releasedState (s : State) : CellState :=
  match s.link.state with
  | .listening => .heldUnknown
  | .deaf => .heldUnknown
  | .on => .free
  | .silent => .free

/-- A hand-over of a keep set (R68): the release set is freed, owed cells take a deferral mark toward
their waiter (R70), and a RELEASE naming the set is offered. -/
def handOver (keep : CellSet) (s : State) : State :=
  let rel := s.releaseSet keep
  let freed := s.mapCells fun c e =>
    if rel.has c then
      { e with
        state := s.releasedState
        owed := none
        deferral := match e.owed with
          | some o => some { waiter := o.waiter, since := s.clock }
          | none => e.deferral }
    else e
  if rel = 0#20 then s else (offer (.release rel) freed).2

/-- The rest set of the present setpoints (R53). -/
def State.restHere (s : State) : CellSet := restSet s.cfg s.setpoints

/-- Entry to HELD-UNKNOWN of every cell the station does not hold (R75, R76): the lost-holder mark is
removed, the last holder kept, and the mark owed on a claim that is taken back goes (R65). -/
def forgetHolders (s : State) : State :=
  s.mapCells fun _ e =>
    if e.state = .held s.own then e
    else { e with state := .heldUnknown, lost := false, owed := none }

/-- A CLAIMING claim goes to WAITING with its whole cell set (R75, R76). -/
def claimingToWaiting (s : State) : State :=
  match s.zone.claim with
  | some c => if c.waitingState then s else claimToWaiting c.cells s
  | none => s

/-- The OBJECTs in a list, each with its target and cells (R93). -/
def objectsIn (l : List TxEntry) : List (Station × CellSet) :=
  l.filterMap fun e => match e.frame with
    | .object t _ cs => some (t, cs)
    | _ => none

/-- The kinds that entry to DEAF removes from the list (R93). -/
def TxFrame.deafDrops (f : TxFrame) : Bool :=
  match f.kind with
  | .object => true
  | .claim => true
  | .wait => true
  | _ => false

/-- Entry to DEAF (R92, R93, R75): LINK FAULT is raised with the given reason, the list loses its
OBJECT, CLAIM and WAIT frames, each OBJECT makes a zone conflict (R58), in the order of the list, the model's choice
(log 50), cells not held become
HELD-UNKNOWN, a CLAIMING claim waits, and a held-back report is offered (R109): last of all, behind LINK FAULT and
the change of the list, the model's choice (log 48). -/
def enterDeaf (r : LinkReason) (k : Option FrameKind) (s : State) : State :=
  let objects := objectsIn s.link.list
  let deaf := (raiseLinkFault r k s).setLink { s.link with
    state := .deaf, list := s.link.list.filter fun e => !e.frame.deafDrops, listeningDue := none }
  let faulted := objects.foldl (fun t o => zoneConflict o.1 o.2 t) deaf
  releaseReport (claimingToWaiting (forgetHolders faulted))

/-- The owner of a frame that did not reach the link is told (R85, R91): a CLAIM's claim waits, an
OBJECT makes a zone conflict, a RACK NOTE's slot is marked unsent, a PRESENCE restarts the period. -/
def ownerTold (f : TxFrame) (s : State) : State :=
  match f with
  | .claim n _ =>
    match s.zone.claim with
    | some c => if c.number = some n && !c.waitingState then claimUndelivered s else s
    | none => s
  | .object t _ cs => zoneConflict t cs s
  | .rackNote k _ => markUnsent k true s
  | .presence => presenceLeft s
  | .release _ => s
  | .wait _ => s
  | .sampleCall => s

/-- An attempt of the frame being sent was spoiled (R91): it counts, and at the 16th the frame is
dropped with LINK FAULT, reason SPOILED, and its owner told. -/
def attemptSpoiled (s : State) : State :=
  match s.sendingEntry with
  | none => s
  | some e =>
    if e.attempts + 1 ≥ 16 then
      ownerTold e.frame (raiseLinkFault .spoiled (some e.frame.kind) (removeSending s))
    else backToPending (e.attempts + 1) s

/-- A frame of a peer was spoiled by this station (R92): the run rises, and at 8 the link enters DEAF. -/
def countError (s : State) : State :=
  let run := s.link.run + 1
  let t := s.setLink { s.link with run := run }
  if run ≥ 8 then enterDeaf .deaf none t else t

end Sys2Proof.Machine
end

