-- ==== Sys2Proof/Machine/Current.lean ====
section
/-! DEFINITION. The shared operations of the Motion Unit: the current segment and its start (2.3),
settling and back-off (2.6, 2.7), hand-overs, the hold flag (9.5), and the change sequence's steps
(7.7). -/

namespace Sys2Proof.Machine

/-! ## The hold flag -/

/-- 1 for something present. -/
def count1 {α : Type} (o : Option α) : Nat := if o.isSome then 1 else 0

/-- The owed count: computation in flight, full latch, waiting request (R187). -/
def State.owedCount (s : State) : Nat :=
  count1 s.corr.computing + count1 s.probes.latch + count1 s.corr.request

/-- The hold count (R187). -/
def State.holdCount (s : State) : Nat := s.points.records.length + s.owedCount

/-- The hold flag after the hold count changed from a former value (R188). -/
def holdAfter (level hyst before now : Nat) (flag : Bool) : Bool :=
  if level = 0 then flag
  else if !flag && before < now && level ≤ now then true
  else if flag && now < before && now + hyst ≤ level then false
  else flag

/-- The hold flag follows the hold count; QUEUE HOLD is raised where it sets (R188). -/
def updateHold (before : Nat) (s : State) : State :=
  let flag := holdAfter s.cfg.holdLevel s.cfg.hysteresis before s.holdCount s.points.hold
  let t := s.setPoints { s.points with hold := flag }
  if flag && !s.points.hold then raiseQueueHold t else t

/-- The idle Correction Unit takes waiting work, the earlier filled first (R164); the place it takes
from is empty from then on (R161). -/
def takeWork (s : State) : State :=
  if s.corr.computing.isSome then s
  else
    let takeLatch (l : Latch) : State :=
      (s.setProbes { s.probes with latch := none }).setCorr
        { s.corr with computing := some (.touch l), requestFirst := s.corr.request.isSome }
    let takeRequest (r : NoContact) : State :=
      s.setCorr { computing := some (.noContact r), request := none, requestFirst := false }
    match s.probes.latch, s.corr.request with
    | some l, some r => if s.corr.requestFirst then takeRequest r else takeLatch l
    | some l, none => takeLatch l
    | none, some r => takeRequest r
    | none, none => s

/-! ## Starting the current segment -/

/-- The current probe is KNOWN and the set of its live bank is valid (R27). -/
def State.probeUsable (s : State) : Bool :=
  match s.probes.current with
  | .known i => ((s.entry i).map fun e => (e.set s.probes.live).valid).getD false
  | .none => false
  | .unknown _ => false

/-- Every cell of the segment's need set is held; no without a need set (R27). -/
def Segment.cellsHeld (g : Segment) (s : State) : Bool :=
  match g.geom with
  | some geo => geo.need.within s.heldSet
  | none => false

/-- The path length, 0 while absent. -/
def Segment.len (g : Segment) : Nat := (g.geom.map (·.len)).getD 0

/-- The segment's profile has no period (R34). -/
def Segment.profileEmpty (g : Segment) (s : State) : Bool :=
  profileLength g.len g.feed s.cfg.accel == 0

/-- The segment has entered SETTLING in a period, from which its timeout counts (R36, R37), and a pending bank may
become live (R139). -/
def enterSettlingAt (period : Nat) (g : Segment) (s : State) : State :=
  settleBank (s.setCurrent { g with state := .settling, decel := none, settleSince := period })

/-- The segment enters SETTLING in the present period (R36). -/
def enterSettling (g : Segment) (s : State) : State := enterSettlingAt s.clock g s

/-- The segment starts (R27): RUNNING, or SETTLING with an empty profile; a PROBE captures the live
bank; the channels go to MOVING; motion is RUNNING for a host segment. -/
def startSegment (g : Segment) (s : State) : State :=
  let bank := if g.kind = .probe then some s.probes.live else none
  let g' := { g with bank := bank, dist := 0, sent := 0, decel := none, touchedAt := none,
                     resent := false, back := 0, backSent := 0 }
  let moving := s.setModes .moving
  let m := if s.motion.state = .changing then moving else moving.setMotionState .running
  if g.profileEmpty s then enterSettling g' m else m.setCurrent { g' with state := .running }

/-- A PROBE head is refused NO PROBE: it stays QUEUED and motion goes to HELD (R28). -/
def refuseNoProbe (g : Segment) (s : State) : State :=
  (raiseProbeRefused .noProbe (g.tag.getD 0) (s.setCurrent { g with state := .queued })).setMotionState
    .held

/-- The start of the current segment is weighed (R27, R28, R29). A segment whose cells have come to be
held while it cannot start is QUEUED. -/
def weigh (s : State) : State :=
  match s.current with
  | none => s
  | some g =>
    if g.state.flying || !g.cellsHeld s then s
    else if s.motion.state = .changing then startSegment g s
    else if s.motion.state = .idle then
      if g.kind = .probe then
        if !s.probeUsable then refuseNoProbe g s
        else if s.points.hold then s.setCurrent { g with state := .queued }
        else startSegment g s
      else startSegment g s
    else s.setCurrent { g with state := .queued }

/-- The hold count has changed from a former value: the flag follows, and where it clears the current
segment is weighed (R188). -/
def holdChanged (before : Nat) (s : State) : State :=
  let t := updateHold before s
  if s.points.hold && !t.points.hold then weigh t else t

/-- RUNNING-WAIT is shown (R29). -/
def State.runningWait (s : State) : Bool :=
  s.motion.state == .idle && s.points.hold && s.probeUsable &&
    match s.motion.queue.head? with
    | some g => g.kind == .probe && g.state == .queued && g.cellsHeld s
    | none => false

/-! ## Hand-overs on an empty queue, and the segment becoming current -/

/-- The hand-over of R47 is called for: all axes referenced, the queue empty, no segment in flight,
motion IDLE or HELD. -/
def State.emptyHandOverDue (s : State) : Bool :=
  s.allReferenced && s.motion.queue.isEmpty && s.flying.isNone
    && (s.motion.state == .idle || s.motion.state == .held)

/-- The rest set is handed over where R47 calls for it, once a claim left CLAIMING has ended its window: at once
where none is CLAIMING. -/
def handOverIfEmpty (s : State) : State :=
  if s.emptyHandOverDue then
    if s.abandoned.isSome then s.setMotion { s.motion with deferHandOver := s.abandoned }
    else handOver s.restHere s
  else s

/-- A PROBE head of length 0 is refused ZERO LENGTH: removed, motion to HELD (R28), a claim for it dealt
with (R30), and a queue left empty hands over the rest set (R47). -/
def refuseZeroLength (g : Segment) (s : State) : State :=
  let gone := currentChanged (s.dropCurrent.setMotionState .held)
  handOverIfEmpty (raiseProbeRefused .zeroLength (g.tag.getD 0) gone)

/-- What R26 fixes for a segment from the present setpoints. -/
def geometry (g : Segment) (s : State) : Geom :=
  { start := s.setpoints, len := pathLength s.setpoints g.target,
    need := needSet s.cfg s.setpoints g.target }

/-- The segment's geometry is fixed, and the cells not held are asked for (R26). -/
def fixGeometry (g : Segment) (s : State) : State :=
  let geo := geometry g s
  if g.kind = .probe ∧ geo.len = 0 then refuseZeroLength g s
  else
    let missing := geo.need.minus s.heldSet
    if missing = 0#20 then
      weigh (s.setCurrent { g with geom := some geo, state := .queued })
    else
      requestCells missing (s.setCurrent { g with geom := some geo, state := .waitingZone })

/-- The current segment, if there is one, becomes current (R26); it waits for the end of the window of a claim
that R30 left CLAIMING, and follows at once where none is CLAIMING (log 26); nothing while motion is HELD or
FAULTED. -/
def becomeCurrent (s : State) : State :=
  if s.motion.state = .held || s.motion.state = .faulted then s
  else if s.abandoned.isSome then s.setMotion { s.motion with deferCurrent := s.abandoned }
  else match s.current with
    | none => s
    | some g =>
      if g.state.flying then s
      else
        let t := s.setMotion { s.motion with deferCurrent := none }
        fixGeometry g (t.setZone { t.zone with heldBack := none })

/-- An abandoned claim that has gone to WAITING is withdrawn (R63; log 26). -/
def dropOrphan (s : State) : State :=
  match s.zone.claim with
  | some c => if c.orphan && c.waitingState then withdrawClaim s else s
  | none => s

/-- The hand-over that waited for the end of an abandoned claim's window is made (R47; log 20). -/
def followHandOver (s : State) : State :=
  if s.windowOver s.motion.deferHandOver then
    handOverIfEmpty (s.setMotion { s.motion with deferHandOver := none })
  else s

/-- The current segment that waited for the end of an abandoned claim's window follows R26 (R30; log 26). -/
def followCurrent (s : State) : State :=
  if s.windowOver s.motion.deferCurrent then
    becomeCurrent (s.setMotion { s.motion with deferCurrent := none })
  else s

/-- What waited for the end of an abandoned claim's window follows once it is over (R30, R47). -/
def followClaim (s : State) : State := followCurrent (followHandOver s)

/-- A claim or a window may have ended: an abandoned claim that is lost is withdrawn at that moment (R63; log 26),
and what waited for the end of its window follows when that is over, granted or lost (R30, R47). -/
def afterClaim (s : State) : State := followClaim (dropOrphan s)

/-! ## The change sequence's internal segments -/

/-- A segment record before it becomes current (R21). -/
def newSegment (tag : Option Tag) (kind : SegKind) (target : V3 Int) (feed : Nat) : Segment :=
  { tag := tag, kind := kind, target := target, feed := feed, geom := none, state := .queued,
    bank := none, dist := 0, sent := 0, decel := none, touchedAt := none, resent := false,
    back := 0, backSent := 0, settleSince := 0 }

/-- The change sequence hands over an internal segment (R25, R152). -/
def handInternal (kind : SegKind) (target : V3 Int) (s : State) : State :=
  let feed := if kind = .dock then s.cfg.dockMax else s.cfg.rapidMax
  becomeCurrent (s.setMotion { s.motion with
    internal := some (newSegment none kind target feed) })

/-- The points of a chosen slot; a change in a phase of a half has that half's slot (R151). -/
def State.slotPoints (s : State) (k : Option SlotIx) : SlotPoints := s.cfg.slots.get (k.getD 0)

/-- The change record replaced. -/
def State.setChange (s : State) (c : Option Change) : State :=
  s.setProbes { s.probes with change := c }

/-- A travel phase toward a slot begins with a RAPID to its clear point (R152). -/
def beginTravel (ph : Phase) (ch : Change) (s : State) : State :=
  let slot := if ph = .goingToPick then ch.pick else ch.drop
  handInternal .rapid (s.slotPoints slot).clear (s.setChange (some { ch with phase := ph }))

/-- LEAVING DROP or LEAVING PICK begins with a DOCK to the slot's clear point (R152); the seat timer
stops. -/
def beginLeaving (ph : Phase) (ch : Change) (s : State) : State :=
  let slot := if ph = .leavingPick then ch.pick else ch.drop
  handInternal .dock (s.slotPoints slot).clear
    (s.setChange (some { ch with phase := ph, seatDue := none }))

/-- DROPPING begins: latch open, 300 ms timer (R153). -/
def beginDropping (ch : Change) (s : State) : State :=
  s.setProbes { s.probes with
    latchOpen := true
    change := some { ch with phase := .dropping, seatDue := some (s.clock + 300) } }

/-- PICKING begins: latch closed, 300 ms timer (R154). -/
def beginPicking (ch : Change) (s : State) : State :=
  s.setProbes { s.probes with
    latchOpen := false
    change := some { ch with phase := .picking, seatDue := some (s.clock + 300) } }

/-- The reason with which a change that ends now has failed, none for DONE (R156, R157). -/
def Change.outcome (ch : Change) : Option FailReason :=
  match ch.failure with
  | some r => some r
  | none => if ch.abort then some .aborted else none

/-- The change sequence ends without a fault (R156): the record goes, motion and channels are IDLE,
the event is raised, and the head becomes current. -/
def endChange (ch : Change) (s : State) : State :=
  let idle := ((s.setChange none).setModes .idle).setMotion
    { s.motion with state := .idle, internal := none, stopPending := false }
  let raised := match ch.outcome with
    | none => raiseChangeDone ch.target idle
    | some r => raiseChangeFailed r ch.target idle
  becomeCurrent raised

end Sys2Proof.Machine
end

