-- ==== Sys2Proof/Machine/Operands.lean ====
section
/-! DEFINITION. The data of host frames: reading a command's data (Tables 10-5 and 10-8) and laying out
reply data (R204, R202). -/

namespace Sys2Proof.Machine

/-! ## Command data -/

/-- A command whose data length is not the one of Table 10-5 is refused with OUT OF RANGE and changes
nothing else; else the block acts (R201). -/
def withLength (n : Nat) (data : List Byte) (s act : State) : State :=
  if data.length = n then act else s.answer .outOfRange []

/-- The unsigned value of n bytes of the data from a place on. -/
def field (off n : Nat) (data : List Byte) : Nat := beNat (slice off n data)

/-- The signed 16-bit value at a place. -/
def fieldInt16 (off : Nat) (data : List Byte) : Int := beInt16 (slice off 2 data)

/-- The signed 32-bit value at a place. -/
def fieldInt32 (off : Nat) (data : List Byte) : Int := beInt32 (slice off 4 data)

/-- Three signed 32-bit values at a place. -/
def fieldV3 (off : Nat) (data : List Byte) : V3 Int :=
  ⟨fieldInt32 off data, fieldInt32 (off + 4) data, fieldInt32 (off + 8) data⟩

/-- The 16-bit word at a place: a host tag, an ident or a slot content. -/
def fieldWord (off : Nat) (data : List Byte) : BitVec 16 := BitVec.ofNat 16 (field off 2 data)

/-- The axis a byte names (Table 10-8). -/
def axisOf (n : Nat) : Option Axis :=
  match n with
  | 0 => some .x
  | 1 => some .y
  | 2 => some .z
  | _ => none

/-- The bank a byte names (Table 10-8). -/
def bankOf (n : Nat) : Option Bank :=
  match n with
  | 0 => some .a
  | 1 => some .b
  | _ => none

/-- The kind of a host segment that a byte names (Table 10-8). -/
def moveKindOf (n : Nat) : Option SegKind :=
  match n with
  | 0 => some .rapid
  | 1 => some .probe
  | _ => none

/-- The number below a bound that a byte names. -/
def indexOf (bound n : Nat) [NeZero bound] : Option (Fin bound) :=
  if n < bound then some (Fin.ofNat bound n) else none

/-- The event set of three bytes; none with any of bits 23 to 20 set (R206, R207). -/
def eventSetOf (data : List Byte) : Option EventSet :=
  if field 0 3 data < 2 ^ 20 then some (BitVec.ofNat 20 (field 0 3 data)) else none

/-! ## Reply data -/

/-- Yes 01h, no 00h (R204). -/
def yesNo (v : Bool) : List Byte := [if v then 1#8 else 0#8]

/-- One byte. -/
def one (n : Nat) : List Byte := beBytes 1 n

/-- A 16-bit word in two bytes. -/
def word (w : BitVec 16) : List Byte := beBytes 2 w.toNat

/-- A temperature in two bytes. -/
def temp (t : Int) : List Byte := beSigned 2 t

/-- A count in four bytes; outside the signed 32-bit range a free value (log 16). -/
def count (c : Int) : List Byte := beSigned 4 (count32 c)

/-- Three counts. -/
def counts (v : V3 Int) : List Byte := count v.x ++ count v.y ++ count v.z

/-- A time in four bytes; of 2^32 ms or more a free value (log 17). -/
def time (t : Nat) : List Byte :=
  if t < 2 ^ 32 then beBytes 4 t else beBytes 4 (Config.timeBeyond t).toNat

/-- A field of n bytes that may be absent: one byte 01h and the field, or 00h and n bytes 00h (R204). -/
def optional {α : Type} (n : Nat) (lay : α → List Byte) (o : Option α) : List Byte :=
  match o with
  | some v => 1#8 :: lay v
  | none => 0#8 :: List.replicate n 0#8

/-- The number of parts of a reply content (R202). -/
def partCount (content : List Byte) : Nat := (content.length + 57) / 58

/-- A part of a reply read in parts: part number, number of parts, and up to 58 bytes; OUT OF RANGE at or
above the number of parts (R202). -/
def answerPart (part : Nat) (content : List Byte) (s : State) : State :=
  if part < partCount content then
    s.answer .ok (one part ++ one (partCount content) ++ slice (58 * part) 58 content)
  else s.answer .outOfRange []

/-! ## Codes of named values, by place in the owning table (R204) -/

/-- The value of a reply code (Table 10-4). -/
def Code.num : Code → Nat
  | .ok => 0
  | .clamped => 1
  | .frame => 2
  | .wrongState => 3
  | .busy => 4
  | .outOfRange => 5
  | .queueFull => 6
  | .notReferenced => 7
  | .unknownProbe => 8
  | .notInRack => 9
  | .rackFull => 10
  | .libraryFull => 11
  | .already => 12
  | .tooLate => 13
  | .empty => 14
  | .crc => 15

/-- The code of a station state (Table 10-3). -/
def StationState.num : StationState → Nat
  | .config => 0
  | .joining => 1
  | .active => 2

/-- The code of a motion state (Table 10-3). -/
def MotionState.num : MotionState → Nat
  | .idle => 0
  | .referencing => 1
  | .running => 2
  | .held => 3
  | .changing => 4
  | .faulted => 5

/-- The code of a channel mode (R4). -/
def Mode.num : Mode → Nat
  | .off => 0
  | .idle => 1
  | .moving => 2
  | .fault => 3

/-- The code of a segment kind, by its place among the distinct names of Table 2-1, which names RAPID twice
(log 12). -/
def SegKind.num : SegKind → Nat
  | .rapid => 0
  | .probe => 1
  | .dock => 2

/-- The code of a segment state (Table 2-2). -/
def SegState.num : SegState → Nat
  | .queued => 0
  | .waitingZone => 1
  | .running => 2
  | .touched => 3
  | .retracting => 4
  | .settling => 5

/-- The code of a bank. -/
def Bank.num : Bank → Nat
  | .a => 0
  | .b => 1

/-- The code of the pending bank, which is none, A or B (R139). -/
def pendingBankNum : Option Bank → Nat
  | none => 0
  | some .a => 1
  | some .b => 2

/-- The code of a cell state (R54). -/
def CellState.num : CellState → Nat
  | .free => 0
  | .claimed _ _ => 1
  | .held _ => 2
  | .heldUnknown => 3

/-- The station of a cell state (R54). -/
def CellState.station : CellState → Option Station
  | .free => none
  | .claimed p _ => some p
  | .held p => some p
  | .heldUnknown => none

/-- The claim number of a cell state (R54). -/
def CellState.claimNumber : CellState → Option Byte
  | .free => none
  | .claimed _ n => some n
  | .held _ => none
  | .heldUnknown => none

/-- The code of a link state (Table 4-4). -/
def LinkState.num : LinkState → Nat
  | .silent => 0
  | .listening => 1
  | .on => 2
  | .deaf => 3

/-- The code of a channel kind (Table 11-2, field 13). -/
def ChanKind.num : ChanKind → Nat
  | .scaleX => 0
  | .scaleY => 1
  | .scaleZ => 2
  | .arm => 3
  | .air => 4
  | .part => 5
  | .unused => 6

/-- The channel kind a code names (Table 11-2, field 13). -/
def ChanKind.ofNum (n : Nat) : ChanKind :=
  match n with
  | 0 => .scaleX
  | 1 => .scaleY
  | 2 => .scaleZ
  | 3 => .arm
  | 4 => .air
  | 5 => .part
  | _ => .unused

/-- The kind that a reading of this channel carries in a PRESENCE (R83); none for UNUSED. -/
def ChanKind.reading : ChanKind → Option ReadingKind
  | .scaleX => some .scaleX
  | .scaleY => some .scaleY
  | .scaleZ => some .scaleZ
  | .arm => some .arm
  | .air => some .air
  | .part => some .part
  | .unused => none

/-- The code of a channel state (Table 6-2). -/
def ChanState.num : ChanState → Nat
  | .unused => 0
  | .starting => 1
  | .valid => 2
  | .holding => 3
  | .failed => 4

/-- The code of a quantity's tag (R123). -/
def TempTag.num : TempTag → Nat
  | .none => 0
  | .fixed => 1
  | .backup => 2
  | .held => 3

/-- The code of the current probe's state (R140). -/
def CurrentProbe.num : CurrentProbe → Nat
  | .none => 0
  | .known _ => 1
  | .unknown _ => 2

/-- The code of a slot's source: a station number, 8 host, 9 none (Table 7-4; log 12). -/
def NotedBy.num : NotedBy → Nat
  | .station p => p.val
  | .host => 8
  | .none => 9

/-- The code of a change phase (7.6). -/
def Phase.num : Phase → Nat
  | .goingToDrop => 0
  | .dropping => 1
  | .leavingDrop => 2
  | .goingToPick => 3
  | .picking => 4
  | .identifying => 5
  | .leavingPick => 6

/-- The code of a change's failure reason (Table 10-6). -/
def FailReason.num : FailReason → Nat
  | .seatTimeout => 0
  | .wrongProbe => 1
  | .identUnreadable => 2
  | .aborted => 3
  | .fault => 4

/-- The code of a fault reason (Table 1-3). -/
def FaultReason.num : FaultReason → Nat
  | .collision => 0
  | .following => 1
  | .limit => 2
  | .drive => 3
  | .scale => 4
  | .positionTimeout => 5
  | .probeLost => 6
  | .zoneConflict => 7

/-- The code of a refusal reason (Table 10-6). -/
def RefuseReason.num : RefuseReason → Nat
  | .noProbe => 0
  | .zeroLength => 1

/-- The code of a LINK FAULT reason (Table 10-6). -/
def LinkReason.num : LinkReason → Nat
  | .duplicateStation => 0
  | .spoiled => 1
  | .deaf => 2
  | .listFull => 3

/-- The code of a PORT ERROR reason (Table 10-6). -/
def portReasonNum : PortReason → Nat
  | .byteCount => 0
  | .length => 1
  | .check => 2
  | .unknownCode => 3

end Sys2Proof.Machine
end

