-- ==== Sys2Proof/Machine/Flags.lean ====
section
/-! DEFINITION. The flags the host sees: suspect flag (R191), attention condition and line (R208), status
byte (R200) and the reply as it is shifted out (R199). -/

namespace Sys2Proof.Machine

/-- The suspect-tag set is not empty (R191). -/
def Suspect.any (t : Suspect) : Bool := t.fixed || t.backup || t.held || t.due || t.band

/-- The suspect flag of the records in the queue (R191). -/
def suspectOf (rs : List PointRecord) : Bool := rs.any fun r => r.raw.suspect.any

/-- The records of the point queue replaced, the suspect flag recomputed (R191). -/
def Points.withRecords (p : Points) (rs : List PointRecord) : Points :=
  { p with records := rs, suspect := suspectOf rs }

/-- The attention condition: an enabled event is pending (R200). -/
def State.attention (s : State) : Bool := s.events.pending &&& s.events.enable != 0#20

/-- The attention line is asserted (R208). -/
def State.attentionLine (s : State) : Bool := s.attention && !s.events.releaseHold

/-- One bit of the status byte. -/
def bitAt (k : Nat) (v : Bool) : Nat := if v then 2 ^ k else 0

/-- The status byte (Table 10-3). -/
def State.statusByte (s : State) : Byte :=
  BitVec.ofNat 8 (s.station.state.num * 64 + s.motion.state.num * 8 + bitAt 2 s.attention
    + bitAt 1 s.points.suspect + bitAt 0 s.points.hold)

/-- The characters of a reply with a status byte (Table 10-2). -/
def replyBytes (status : Byte) (r : Reply) : List Byte :=
  let body := status :: BitVec.ofNat 8 r.code.num :: BitVec.ofNat 8 r.data.length :: r.data
  body ++ [crc8 body]

end Sys2Proof.Machine
end

