-- ==== Sys2Proof/Machine/Temperature.lean ====
section
/-! DEFINITION. The Temperature Unit (chapter 6): samples, freshness, quantities, snapshots, and the
commands SET FIXED TEMPERATURE, CLEAR FIXED TEMPERATURE, SET PART and SAMPLE TIMER. -/

namespace Sys2Proof.Machine

/-! ## Samples -/

/-- The kind of a channel at power-on is absent; a channel is sampled when it has a kind other than
UNUSED (R117). -/
def Channel.sampled (c : Channel) : Bool :=
  match c.kind with
  | some k => k != .unused
  | none => false

/-- The value of a valid sample; none for an open sensor or a value out of range (R117). -/
def validSample (v : Option Int) : Option Int := v.filter temperatureOk

/-- The sample limited to 50 either side of the reading; as it is without one (R118). -/
def slewClamp (reading : Option Int) (v : Int) : Int :=
  match reading with
  | some r => clampInt (r - 50) (r + 50) v
  | none => v

/-- The rounded mean of a list of values (R118, R128). -/
def mean (l : List Int) : Int := roundDiv l.sum l.length

/-- The window with a sample at its newest end, at most four samples (R118). -/
def pushWindow (w : List Int) (v : Int) : List Int :=
  (if w.length < 4 then w else w.drop (w.length - 3)) ++ [v]

/-- The channel after a valid sample (R118, R119). -/
def Channel.accept (c : Channel) (v : Int) : Channel :=
  let w := pushWindow c.window (slewClamp c.reading v)
  { c with
    state := .valid
    window := w
    reading := some (mean w)
    invalidRun := 0
    last := some (mean w) }

/-- The channel after an invalid sample (R119, R120). -/
def Channel.reject (c : Channel) : Channel :=
  let n := min 10 (c.invalidRun + 1)
  let counted := { c with invalidRun := n }
  match c.state with
  | .unused => c
  | .failed => counted
  | .valid => { counted with state := .holding }
  | .starting => if n = 10 then { counted with state := .failed, window := [], reading := none }
                 else counted
  | .holding => if n = 10 then { counted with state := .failed, window := [], reading := none }
                else counted

/-- The channel after a sample (R117 to R120). -/
def Channel.take (c : Channel) (v : Option Int) : Channel :=
  if c.sampled then
    match validSample v with
    | some t => c.accept t
    | none => c.reject
  else c

/-- A list of places in the given order, and after it every other place in rising order. -/
def fullOrder {n : Nat} (order : List (Fin n)) : List (Fin n) :=
  order ++ (List.finRange n).filter fun i => !order.contains i

/-- Every channel takes its sample (R117). -/
def takeSamples (v : Conversions) (s : State) : State :=
  s.setTemps { s.temps with channels := s.temps.channels.mapIx fun i c => c.take (v.get i) }

/-- SENSOR FAULT is raised for each channel that the sample made FAILED, in the given order (R120). -/
def raiseFailures (before : Vec 8 Channel) (order : List Chan) (s : State) : State :=
  order.foldl (fun t i =>
    if (before.get i).state != .failed && (s.temps.channels.get i).state == .failed then
      raiseSensorFault i t
    else t) s

/-! ## Freshness and quantities -/

/-- The value of a local channel as a source, none when it is not fresh (R121). -/
def localFresh (s : State) (c : Chan) : Option Int :=
  let ch := s.temps.channels.get c
  match ch.kind, ch.state with
  | some _, .valid => ch.reading
  | some _, .holding => ch.reading
  | _, _ => none

/-- The reading of a channel in a peer's report. -/
def peerReading (s : State) (p : Station) (c : Chan) : Option Reading :=
  match s.peers.entries.get p with
  | some e => e.report.bind fun r => r.readings.find? (·.channel == c)
  | none => none

/-- A reading's status lets it be used (R122). -/
def readingUsable (r : Reading) : Bool := r.status == .valid || r.status == .holding

/-- The value of a peer reading as a source, none when it is not fresh (R122). -/
def peerFresh (s : State) (p : Station) (c : Chan) : Option Int :=
  match s.peers.entries.get p with
  | some e => if e.lost then none else ((peerReading s p c).filter readingUsable).map (·.value)
  | none => none

/-- The contributors of PART MEAN: fresh local PART channels and fresh PART readings of peers (R128). -/
def partContributors (s : State) : List Int :=
  (List.finRange 8).filterMap (fun c =>
    if (s.temps.channels.get c).kind = some .part then localFresh s c else none)
  ++ (List.finRange 8).flatMap fun p =>
    match s.peers.entries.get p with
    | some e =>
      if e.lost then []
      else ((e.report.map (·.readings)).getD []).filterMap fun r =>
        if r.kind = .part ∧ readingUsable r then some r.value else none
    | none => []

/-- PART MEAN, none with no contributor (R128). -/
def partMean (s : State) : Option Int :=
  if (partContributors s).isEmpty then none else some (mean (partContributors s))

/-- The value of a primary source, none when it is not fresh (R126). -/
def primaryValue (s : State) : Primary → Option Int
  | .own c => localFresh s c
  | .peer p c => peerFresh s p c
  | .partMean => partMean s

/-- The source table entry of a quantity; absent before the first accepted CONFIGURE (R123). -/
def sourceOf (s : State) (i : Fin 5) : Option Source := s.station.config.map fun b => b.sources.get i

/-- The value of a quantity's primary source (R126). -/
def primaryOf (s : State) (i : Fin 5) : Option Int :=
  (sourceOf s i).bind fun src => primaryValue s src.primary

/-- The value of a quantity's backup source (R126). -/
def backupOf (s : State) (i : Fin 5) : Option Int :=
  (sourceOf s i).bind fun src => src.backup.bind fun c => localFresh s c

/-- The quantity after an evaluation (R126). -/
def evalQuantity (s : State) (i : Fin 5) (q : Quantity) : Quantity :=
  if q.overrideOn then { q with value := q.override, tag := .fixed }
  else match primaryOf s i, backupOf s i with
    | some v, _ => { q with value := v, tag := .none }
    | none, some v => { q with value := v, tag := .backup }
    | none, none => { q with tag := .held }

/-- Every quantity is evaluated (R127). -/
def evaluate (s : State) : State :=
  s.setTemps { s.temps with quantities := s.temps.quantities.mapIx fun i q => evalQuantity s i q }

/-- A sample of the local channels, then the evaluation (R117, R127). -/
def sampleChannels (v : Conversions) (order : List Chan) (s : State) : State :=
  evaluate (raiseFailures s.temps.channels (fullOrder order) (takeSamples v s))

/-- The snapshot of the five quantities and the part setting (R129). -/
def snapshot (s : State) : Snapshot :=
  { temps := s.temps.quantities.mapIx fun _ q => { value := q.value, tag := q.tag }
    datum := s.temps.datum
    partCoeff := s.temps.partCoeff }

/-- A channel under the kind and shared flag of an accepted block (R116). -/
def Channel.configure (c : Channel) (k : ChanConfig) : Channel :=
  if k.kind = .unused then
    { c with kind := some .unused, shared := k.shared, state := .unused, window := [],
             reading := none, invalidRun := 0 }
  else if c.kind = some k.kind then { c with shared := k.shared }
  else { c with kind := some k.kind, shared := k.shared, state := .starting, window := [],
                reading := none, invalidRun := 0 }

/-! ## Commands -/

/-- SET FIXED TEMPERATURE (R124). -/
def setFixedTemperature (data : List Byte) (s : State) : State :=
  withLength 3 data s <|
    match indexOf 5 (field 0 1 data) with
    | none => s.answer .outOfRange []
    | some i =>
      let asked := fieldInt16 1 data
      let v := clampInt (-1000) 6000 asked
      let q := s.temps.quantities.get i
      let set := s.setTemps { s.temps with
        quantities := s.temps.quantities.set i { q with overrideOn := true, override := v } }
      (evaluate set).answer (if v = asked then .ok else .clamped) (temp v)

/-- CLEAR FIXED TEMPERATURE (R125). -/
def clearFixedTemperature (data : List Byte) (s : State) : State :=
  withLength 1 data s <|
    match indexOf 5 (field 0 1 data) with
    | none => s.answer .outOfRange []
    | some i =>
      let q := s.temps.quantities.get i
      let set := s.setTemps { s.temps with
        quantities := s.temps.quantities.set i { q with overrideOn := false } }
      (evaluate set).answer .ok []

/-- The travel range of every axis contains the point (00_scope.md Table 4-1). -/
def inTravel (p : V3 Int) : Bool :=
  0 ≤ p.x && p.x ≤ 80000000 && 0 ≤ p.y && p.y ≤ 40000000 && 0 ≤ p.z && p.z ≤ 40000000

/-- SET PART (R130). -/
def setPart (data : List Byte) (s : State) : State :=
  withLength 14 data s <|
    let datum := fieldV3 0 data
    let coeff := field 12 2 data
    if inTravel datum && coeff ≤ 3000 then
      (s.setTemps { s.temps with datum := datum, partCoeff := coeff }).answer .ok []
    else s.answer .outOfRange []

/-- The meaning of SET FIXED TEMPERATURE (R124). -/
def execSetFixedTemperature (data : List Byte) (s : State) : Result :=
  .next (setFixedTemperature data s)

/-- The meaning of CLEAR FIXED TEMPERATURE (R125). -/
def execClearFixedTemperature (data : List Byte) (s : State) : Result :=
  .next (clearFixedTemperature data s)

/-- The meaning of SET PART (R130). -/
def execSetPart (data : List Byte) (s : State) : Result := .next (setPart data s)

/-- The meaning of SAMPLE TIMER (R117): the timer expires, starts again, and every channel is sampled. -/
def execSampleTimer (v : Conversions) (order : List Chan) (s : State) : Result :=
  let due := s.temps.sampleDue
  let t := s.reach due
  .next (sampleChannels v order (t.setTemps { t.temps with sampleDue := due + 100 }))

end Sys2Proof.Machine
end

