-- ==== Sys2Proof/Machine/StartUp.lean ====
section
/-! DEFINITION. Start-up and configuration (chapter 11): power-on, RESET STATION, CONFIGURE and START. -/

namespace Sys2Proof.Machine

/-! ## The configuration block (Table 11-2) -/

/-- A signed 32-bit value of the block at a byte offset. -/
def blockInt (b : List Byte) (off : Nat) : Int := fieldInt32 off b

/-- Three signed 32-bit values of the block. -/
def blockV3 (b : List Byte) (off : Nat) : V3 Int := fieldV3 off b

/-- An unsigned value of the block. -/
def blockNat (b : List Byte) (off n : Nat) : Nat := field off n b

/-- Field 1: one cell of the cell map. -/
def readCell (b : List Byte) (c : Cell) : CellMap :=
  { lo := blockInt b (12 * c.val), hi := blockInt b (12 * c.val + 4), z := blockInt b (12 * c.val + 8) }

/-- Field 3: the points of one slot. -/
def readSlot (b : List Byte) (k : SlotIx) : SlotPoints :=
  { clear := blockV3 b (244 + 24 * k.val), dock := blockV3 b (244 + 24 * k.val + 12) }

/-- Field 4: the soft limits of one axis. -/
def readSoft (b : List Byte) (i : Nat) : SoftLimits :=
  { lower := blockInt b (820 + 8 * i), upper := blockInt b (820 + 8 * i + 4) }

/-- Field 13: one channel. -/
def readChannel (b : List Byte) (c : Chan) : ChanConfig :=
  { kind := .ofNum (blockNat b (884 + 2 * c.val) 1), shared := blockNat b (884 + 2 * c.val + 1) 1 == 1 }

/-- Field 14: the sources of one quantity. -/
def readSource (b : List Byte) (i : Fin 5) : Source :=
  let off := 900 + 5 * i.val
  let ch := Fin.ofNat 8 (blockNat b (off + 2) 1)
  { primary := match blockNat b off 1 with
      | 0 => .own ch
      | 1 => .peer (Fin.ofNat 8 (blockNat b (off + 1) 1)) ch
      | _ => .partMean
    backup := if blockNat b (off + 3) 1 = 0 then none
              else some (Fin.ofNat 8 (blockNat b (off + 4) 1)) }

/-- The block that 933 bytes spell (Table 11-2). -/
def readBlock (b : List Byte) : Block where
  cells := Vec.ofFn (readCell b)
  guardBand := blockInt b 240
  slots := Vec.ofFn (readSlot b)
  soft := ⟨readSoft b 0, readSoft b 1, readSoft b 2⟩
  refFeed := blockNat b 844 2
  refValues := blockV3 b 846
  rapidMax := blockNat b 858 2
  probingMax := blockNat b 860 2
  dockMax := blockNat b 862 2
  accel := blockNat b 864 2
  followLimit := blockNat b 866 4
  band := blockNat b 870 4
  backOff := blockNat b 874 4
  scaleCoeffs := ⟨blockNat b 878 2, blockNat b 880 2, blockNat b 882 2⟩
  channels := Vec.ofFn (readChannel b)
  sources := Vec.ofFn (readSource b)
  qualBand := blockNat b 925 2
  holdLevel := blockNat b 927 1
  hysteresis := blockNat b 928 1
  waitLimit := blockNat b 929 1
  yieldLimit := blockNat b 930 1

/-- A value lies between two others, both included. -/
def within (lo hi v : Int) : Bool := lo ≤ v && v ≤ hi

/-- Field 14 is in range: the codes and numbers of one quantity's sources (R123). Bytes whose kind code
does not use them are held to the same range (log 33). -/
def sourceInRange (b : List Byte) (i : Fin 5) : Bool :=
  let off := 900 + 5 * i.val
  let byte (k : Nat) : Nat := blockNat b (off + k) 1
  (byte 0 ≤ 1 || (byte 0 == 2 && i.val == 4)) && byte 1 ≤ 7 && byte 2 ≤ 7 && byte 3 ≤ 1 && byte 4 ≤ 7

/-- The soft limits of an axis lie within its travel, lower below upper (Table 11-2, field 4). -/
def softInRange (travel : Int) (l : SoftLimits) : Bool :=
  0 ≤ l.lower && l.upper ≤ travel && l.lower < l.upper

/-- Whether a field of Table 11-2 is in its range. -/
def fieldInRange (b : List Byte) (n : Nat) : Bool :=
  let k := readBlock b
  match n with
  | 1 => (List.finRange 20).all fun c => (k.cells.get c).lo < (k.cells.get c).hi
  | 2 => within 0 2000000 k.guardBand
  | 3 => (List.finRange 24).all fun i => inTravel (k.slots.get i).clear && inTravel (k.slots.get i).dock
  | 4 => softInRange 80000000 k.soft.x && softInRange 40000000 k.soft.y
          && softInRange 40000000 k.soft.z
  | 5 => within 1 20000 k.refFeed
  | 6 => inTravel k.refValues
  | 7 => within 1 20000 k.rapidMax && within 1 20000 k.probingMax && within 1 20000 k.dockMax
  | 8 => within 1 10000 k.accel
  | 9 => within 1 1000000 k.followLimit
  | 10 => k.band ≤ 100000
  | 11 => k.backOff ≤ 1000000
  | 12 => k.scaleCoeffs.all (· ≤ 3000)
  | 13 => (List.finRange 8).all fun c =>
      blockNat b (884 + 2 * c.val) 1 ≤ 6 && blockNat b (884 + 2 * c.val + 1) 1 ≤ 1
  | 14 => (List.finRange 5).all (sourceInRange b)
  | 15 => k.qualBand ≤ 500
  | 16 => if k.holdLevel = 0 then k.hysteresis == 0
          else within 8 64 k.holdLevel && k.hysteresis < k.holdLevel
  | 17 => within 1 60 k.waitLimit && within 1 60 k.yieldLimit
  | _ => true

/-- The number of the first field out of range, in the order of the table (R213). -/
def firstBadField (b : List Byte) : Option Nat :=
  (List.range' 1 17).find? fun n => !fieldInRange b n

/-- The CRC of the block is good (R213). -/
def blockCrcOk (b : List Byte) : Bool := (crc16 (b.take 931)).toNat == field 931 2 b

/-! ## CONFIGURE -/

/-- The assembly discarded: nothing received, part 0 expected (R212). -/
def dropAssembly (s : State) : State :=
  s.setStation { s.station with assembly := { content := [], next := 0 } }

/-- The reply to CONFIGURE and START ends with the station number (R210; log 15). -/
def answerNumbered (code : Code) (data : List Byte) (s : State) : State :=
  s.answer code (data ++ one s.own.val)

/-- A part joins the assembly (R212). -/
def addPart (content : List Byte) (next : Nat) (s : State) : State :=
  answerNumbered .ok (one next)
    (s.setStation { s.station with assembly := { content := content, next := next } })

/-- A complete block is accepted (R214). -/
def acceptBlock (b : List Byte) (s : State) : State :=
  let k := readBlock b
  let t := dropAssembly s
  let placed := t.setStation { t.station with config := some k }
  let sampled := placed.setTemps { placed.temps with
    channels := placed.temps.channels.mapIx fun i c => c.configure (k.channels.get i) }
  answerNumbered .ok [] (evaluate sampled)

/-- A complete block is checked (R213). -/
def checkBlock (b : List Byte) (s : State) : State :=
  if blockCrcOk b then
    match firstBadField b with
    | some n => answerNumbered .outOfRange (one n) (dropAssembly s)
    | none => acceptBlock b s
  else answerNumbered .crc [] (dropAssembly s)

/-- One CONFIGURE part (R212). -/
def takePart (data : List Byte) (s : State) : State :=
  let k := field 0 1 data
  let content := data.drop 2
  let a := s.station.assembly
  let size := if k = 16 then 5 else 58
  if field 1 1 data = 17 ∧ k ≤ 16 ∧ content.length = size ∧ (k = 0 ∨ k = a.next) then
    if k = 0 then addPart content 1 s
    else if k = 16 then checkBlock (a.content ++ content) s
    else addPart (a.content ++ content) (k + 1) s
  else answerNumbered .outOfRange [] (dropAssembly s)

/-- CONFIGURE (R212). -/
def configure (data : List Byte) (s : State) : State :=
  if data.length < 3 ∨ data.length > 60 then answerNumbered .outOfRange [] s
  else if s.station.state ≠ .config then answerNumbered .wrongState [] s
  else takePart data s

/-! ## START -/

/-- The channel at START (R20). -/
def AxisChan.start (c : AxisChan) : AxisChan :=
  { c with mode := .idle, setpoint := c.scale, enable := true }

/-- The Motion Unit with nothing queued or in hand and motion IDLE (R50). -/
def Motion.idle : Motion :=
  { state := .idle, queue := [], internal := none, stopPending := false, reference := none,
    deferCurrent := none, deferHandOver := none }

/-- START is accepted (R215, R20, R48, R50, R78, R99): motion is IDLE with an empty queue, also after a STOP
in CONFIG, and no change record stands (Table 7-9). -/
def startUp (s : State) : State :=
  let joining := (dropAssembly s).setStation { (dropAssembly s).station with state := .joining }
  let still := (joining.setMotion .idle).setProbes { joining.probes with change := none }
  let axes := still.setAxes { still.axes with chan := still.axes.chan.map AxisChan.start }
  let link := axes.setLink
    { state := .listening, list := [], run := 0, waitIdle := true, lineOut := none,
      listeningDue := some (axes.clock + 1200) }
  answerNumbered .ok [] (offerPresence (forgetHolders link))

/-- START (R215). -/
def start (data : List Byte) (s : State) : State :=
  if data.length ≠ 0 then answerNumbered .outOfRange [] s
  else if s.station.state = .config ∧ s.station.config.isSome then startUp s
  else answerNumbered .wrongState [] s

/-! ## Meanings -/

/-- The meaning of POWER ON (R217). -/
def execPowerOn (p : Pins) (s : State) : Result := .next ((State.powerOn p).setPending s.pending)

/-- The meaning of CONFIGURE (R212). -/
def execConfigure (data : List Byte) (s : State) : Result := .next (configure data s)

/-- The meaning of START (R215). -/
def execStart (data : List Byte) (s : State) : Result := .next (start data s)

/-- RESET STATION (R217): as power-on, and its own reply stands in the buffer (R198). -/
def resetStation (data : List Byte) (p : Pins) (s : State) : State :=
  withLength 0 data s (((State.powerOn p).setPending s.pending).answer .ok [])

/-- The meaning of RESET STATION (R217). -/
def execResetStation (data : List Byte) (p : Pins) (s : State) : Result :=
  .next (resetStation data p s)

end Sys2Proof.Machine
end

