-- ==== Sys2Proof/Machine/Axes.lean ====
section
/-! DEFINITION. The axis commands (chapter 1): scale counts and faults, the reference procedure, and
CLEAR FAULT. -/

namespace Sys2Proof.Machine

/-! ## Scales -/

/-- The head of the queue is the current segment and has not started. -/
def State.headWaits (s : State) : Bool :=
  s.motion.state != .changing &&
    match s.motion.queue.head? with
    | some g => !g.state.flying
    | none => false

/-- Every record that has not started is removed, a claim made for a removed head dealt with as for a
change of the current segment (R46, R3), and so is a claim made for a segment that a fault stop ended (log
34). -/
def removeUnstarted (s : State) : State :=
  let t := s.setMotion { s.motion with queue := s.motion.queue.filter (·.state.flying) }
  if s.headWaits then currentChanged t else t

/-- An illegal transition, or one past the end of the count's range (R3). -/
def takeScaleFault (a : Axis) (s : State) : State :=
  let c := s.axis a
  let lost := s.setAxis a { c with referenced := false }
  let flushed := if c.referenced then removeUnstarted lost else lost
  match c.mode with
  | .off => flushed
  | .idle => faultStop .scale flushed
  | .moving => faultStop .scale flushed
  | .fault => flushed

/-- A legal transition (R2); one that would pass the end of the range is a SCALE fault. -/
def takeScaleCount (a : Axis) (forward : Bool) (s : State) : State :=
  let c := s.axis a
  let next := if forward then c.scale + 1 else c.scale - 1
  if fits32 next then s.setAxis a { c with scale := next } else takeScaleFault a s

/-! ## The reference -/

/-- REFERENCE AXIS is allowed (R15). -/
def State.mayReference (s : State) : Bool :=
  s.motion.state == .idle && s.axes.chan.all (·.mode == .idle) && s.motion.queue.isEmpty
    && (s.axes.retracted || s.heldSet == CellSet.all)

/-- The reference of an axis begins (R15). -/
def beginReference (a : Axis) (s : State) : State :=
  let t := s.setAxis a { s.axis a with referenced := false, mode := .moving }
  t.setMotion { t.motion with
    state := .referencing
    reference := some { axis := a, k := 0, vel := 0, marked := false, stopping := false } }

/-- REFERENCE AXIS (R15). -/
def referenceAxis (data : List Byte) (s : State) : State :=
  withLength 1 data s <|
    match axisOf (field 0 1 data) with
    | none => s.answer .outOfRange []
    | some a =>
      if s.mayReference then (beginReference a s).answer .ok [] else s.answer .wrongState []

/-- The reference in progress while motion is REFERENCING. -/
def State.referenceRun (s : State) : Option RefRun :=
  if s.motion.state = .referencing then s.motion.reference else none

/-- The first reference mark edge of a reference in progress (R16), also one in a STOP deceleration (R18). An edge
after the first, in the deceleration of R17 or in that of a STOP, has no effect: the model's reading (log 49). -/
def takeReferenceMark (a : Axis) (s : State) : State :=
  match s.referenceRun with
  | some r =>
    if r.axis = a ∧ !r.marked then
      let c := s.axis a
      let v := s.cfg.refValues.get a
      let shifted := s.setAxis a { c with scale := v, setpoint := count32 (c.setpoint + (v - c.scale)) }
      shifted.setMotion { shifted.motion with reference := some { r with marked := true } }
    else s
  | none => s

/-- The deceleration of a reference has come to its end: the next velocity is zero or below (R17). -/
def RefRun.atRest (r : RefRun) (s : State) : Bool := r.vel ≤ s.cfg.accel

/-- The reference leaves the axis IDLE, referenced or not, with motion in a state (R17, R18). -/
def leaveReference (r : RefRun) (referenced : Bool) (m : MotionState) (s : State) : State :=
  let t := s.setAxis r.axis { s.axis r.axis with referenced := referenced, mode := .idle }
  t.setMotion { t.motion with state := m, reference := none }

/-- The reference ends (R17): the axis is referenced and motion IDLE; with all axes referenced and the
queue empty the rest set is handed over (R47). -/
def endReference (s : State) : State :=
  match s.referenceRun with
  | some r =>
    if r.marked && !r.stopping && r.atRest s then handOverIfEmpty (leaveReference r true .idle s) else s
  | none => s

/-- A STOP deceleration of the reference ends (R18): the axis is unreferenced and motion HELD. -/
def endReferenceStop (s : State) : State :=
  match s.referenceRun with
  | some r => if r.stopping && r.atRest s then leaveReference r false .held s else s
  | none => s

/-! ## CLEAR FAULT -/

/-- A limit switch active or a drive ready lost on some axis (R14). -/
def State.faultCauseStands (s : State) : Bool :=
  !s.axes.chan.all fun c => !c.lower && !c.upper && c.ready

/-- CLEAR FAULT (R14). -/
def clearFault (data : List Byte) (s : State) : State :=
  withLength 0 data s <|
    if s.motion.state ≠ .faulted then s.answer .wrongState []
    else if s.faultCauseStands then s.answer .busy []
    else
      let t := s.setAxes { s.axes with chan := s.axes.chan.map AxisChan.start }
      (t.setMotionState .held).answer .ok []

/-! ## Meanings -/

/-- The meaning of SCALE COUNT (R2). -/
def execScaleCount (a : Axis) (forward : Bool) (s : State) : Result :=
  .next (takeScaleCount a forward s)

/-- The meaning of SCALE FAULT (R3). -/
def execScaleFault (a : Axis) (s : State) : Result := .next (takeScaleFault a s)

/-- The meaning of REFERENCE AXIS (R15). -/
def execReferenceAxis (data : List Byte) (s : State) : Result := .next (referenceAxis data s)

/-- The meaning of REFERENCE MARK (R16). -/
def execReferenceMark (a : Axis) (s : State) : Result := .next (takeReferenceMark a s)

/-- The meaning of REFERENCE END (R17). -/
def execReferenceEnd (s : State) : Result := .next (endReference s)

/-- The meaning of REFERENCE STOP END (R18). -/
def execReferenceStopEnd (s : State) : Result := .next (endReferenceStop s)

/-- The meaning of CLEAR FAULT (R14). -/
def execClearFault (data : List Byte) (s : State) : Result := .next (clearFault data s)

end Sys2Proof.Machine
end

