-- ==== Sys2Proof/Machine/Changes.lean ====
section
/-! DEFINITION. STOP decelerations (2.8), identity reads (7.3) and the change sequence (7.6 to 7.8):
CHANGE PROBE, ABORT CHANGE, IDENTIFY PROBE, the seat timeouts and the identity answers. -/

namespace Sys2Proof.Machine

/-! ## STOP decelerations -/

/-- The end of a STOP deceleration (R44): the record is removed, cells stay held; a host segment leaves
motion HELD and the channels IDLE, an internal one ends the change sequence (R157). -/
def endDeceleration (s : State) : State :=
  if s.motion.state = .changing then
    match s.probes.change with
    | some ch => endChange ch (currentChanged s.dropCurrent)
    | none => s
  else
    let t := (currentChanged (s.dropCurrent.setMotionState .held)).setModes .idle
    settleBank (t.setMotion { t.motion with stopPending := false })

/-- A STOP deceleration of the segment in flight begins from its last profile entry; before the first
period it ends at once (R44). One already under way goes on (R43). -/
def decelerate (g : Segment) (s : State) : State :=
  if g.decel.isSome then s
  else if g.sent = 0 then endDeceleration s
  else s.setCurrent { g with decel := some (profileEntry g.len g.feed s.cfg.accel g.sent) }

/-- A STOP deceleration of the segment has come to its end (R44). -/
def Segment.stopped (g : Segment) (s : State) : Bool :=
  g.state == .running &&
    match g.decel with
    | some v => v ≤ s.cfg.accel || g.dist == g.len
    | none => false

/-! ## Identity reads -/

/-- An identity read begins with its first attempt, whose request is driven now (R143). -/
def beginRead (forChange : Bool) (s : State) : State :=
  s.setProbes { s.probes with
    read := some { attempts := 1, forChange := forChange, since := s.clock } }

/-- The result of a read as the ident that the current probe shows: FFFFh when unreadable. -/
def readIdent (result : Option Ident) : Ident := result.getD 0xFFFF#16

/-- The current probe after a read of IDENTIFY PROBE (Table 7-2). -/
def identified (result : Option Ident) (s : State) : CurrentProbe :=
  match result with
  | some i => if (s.entry i).isSome then .known i else .unknown i
  | none => .unknown 0xFFFF#16

/-- The failure reason that a read of the change sequence leaves (R155). -/
def readFailure (ch : Change) (result : Option Ident) : Option FailReason :=
  match result with
  | some i => if i = ch.target then ch.failure else some .wrongProbe
  | none => some .identUnreadable

/-- The current probe after a read of the change sequence (Table 7-2). -/
def identifiedForChange (ch : Change) (result : Option Ident) : CurrentProbe :=
  if result = some ch.target then .known ch.target else .unknown (readIdent result)

/-- An identity read ends with an ident or unreadable (R142, R155, R141). -/
def endRead (result : Option Ident) (s : State) : State :=
  match s.probes.read with
  | none => s
  | some r =>
    let t := s.setProbes { s.probes with read := none }
    if r.forChange then
      match t.probes.change with
      | some ch =>
        beginLeaving .leavingPick { ch with failure := readFailure ch result }
          (expelIdent (readIdent result) (t.setCurrentProbe (identifiedForChange ch result)))
      | none => t
    else expelIdent (readIdent result) (t.setCurrentProbe (identified result t))

/-- An attempt of the read fails: the next follows at once with its own request, or the read ends
unreadable (R143). -/
def failAttempt (s : State) : State :=
  match s.probes.read with
  | none => s
  | some r =>
    if r.attempts < 3 then
      s.setProbes { s.probes with read := some { r with attempts := r.attempts + 1, since := s.clock } }
    else endRead none s

/-- The ident that two bytes spell, high byte first (R143). -/
def answeredIdent (high low : Byte) : Ident := BitVec.ofNat 16 (beNat [high, low])

/-- A complete identity answer (R143): a good check and a valid ident end the read. -/
def takeAnswer (high low check : Byte) (s : State) : State :=
  let i := answeredIdent high low
  if crc8 [high, low] = check ∧ validIdent i then endRead (some i) s else failAttempt s

/-- IDENT ATTEMPT TIMEOUT (R143): 50 ms after the attempt's request it fails. -/
def attemptTimeout (s : State) : State :=
  match s.probes.read with
  | some r => failAttempt (s.reach (r.since + 50))
  | none => s

/-- IDENTIFY PROBE (R142). -/
def identifyProbe (data : List Byte) (s : State) : State :=
  withLength 0 data s <|
    if s.motion.state ≠ .idle ∨ !s.probes.seated then s.answer .wrongState []
    else if s.probes.read.isSome then s.answer .busy []
    else (beginRead false (s.setCurrentProbe (.unknown 0xFFFF#16))).answer .ok []

/-! ## Choosing the slots -/

/-- The slots of the rack view with a content, in rising order. -/
def State.slotsWith (s : State) (c : Ident) : List SlotIx :=
  (List.finRange 24).filter fun k : SlotIx => (s.probes.slots.get k).content == c

/-- The slot that holds the target; none for the target NONE (R151). -/
def State.pickSlot (s : State) (target : Ident) : Option SlotIx :=
  if target = 0x0000#16 then none else (s.slotsWith target).head?

/-- The lowest EMPTY slot in the rack of the pick slot, else of any rack (R151; rack r holds slots 6r to
6r + 5). -/
def State.dropSlot (s : State) (pick : Option SlotIx) : Option SlotIx :=
  let empty := s.slotsWith 0x0000#16
  let near := match pick with
    | some p => empty.find? fun k : SlotIx => k.val / 6 == p.val / 6
    | none => none
  near.orElse fun _ => empty.head?

/-! ## CHANGE PROBE -/

/-- The current probe's state is NONE. -/
def CurrentProbe.isNone : CurrentProbe → Bool
  | .none => true
  | .known _ => false
  | .unknown _ => false

/-- The target is what the arm carries already (Table 7-5, check 5). -/
def State.carries (s : State) (target : Ident) : Bool :=
  s.probes.current == .known target || (target == 0x0000#16 && s.probes.current.isNone)

/-- The first check of Table 7-5 that fails (R150). -/
def changeRefusal (target : Ident) (s : State) : Option Code :=
  if target = 0xFFFF#16 then some .outOfRange
  else if s.station.state ≠ .active ∨ (s.motion.state ≠ .idle ∧ s.motion.state ≠ .held) then
    some .wrongState
  else if s.probes.read.isSome then some .busy
  else if !s.allReferenced then some .notReferenced
  else if s.carries target then some .already
  else if validIdent target && (s.entry target).isNone then some .unknownProbe
  else if validIdent target && (s.pickSlot target).isNone then some .notInRack
  else if !s.probes.current.isNone && (s.dropSlot none).isNone then some .rackFull
  else none

/-- The head stops being the current segment: QUEUED, without a start point (R30). -/
def Segment.shelve (g : Segment) : Segment := { g with state := .queued, geom := none }

/-- The queue with its head shelved. -/
def shelveHead : List Segment → List Segment
  | [] => []
  | g :: rest => g.shelve :: rest

/-- The change record made at acceptance (R151). -/
def newChange (target : Ident) (s : State) : Change :=
  let pick := s.pickSlot target
  { target := target, pick := pick,
    drop := if s.probes.current.isNone then none else s.dropSlot pick,
    phase := if s.probes.current.isNone then .goingToPick else .goingToDrop,
    abort := false, failure := none, seatDue := none }

/-- The change sequence begins (R151). -/
def beginChange (ch : Change) (s : State) : State :=
  let t := currentChanged s
  beginTravel ch.phase ch
    (t.setMotion { t.motion with
      state := .changing, queue := shelveHead t.motion.queue, internal := none })

/-- CHANGE PROBE (R150). -/
def changeProbe (data : List Byte) (s : State) : State :=
  withLength 2 data s <|
    let target := fieldWord 0 data
    match changeRefusal target s with
    | some c => s.answer c []
    | none =>
      let ch := newChange target s
      let slot (k : Option SlotIx) : List Byte := optional 1 (fun i : SlotIx => one i.val) k
      (beginChange ch s).answer .ok (slot ch.pick ++ slot ch.drop)

/-! ## ABORT CHANGE -/

/-- The internal segment of an aborted travel: RUNNING is decelerated, SETTLING completes first, and
otherwise the sequence ends at once (R157). -/
def abortTravel (ch : Change) (s : State) : State :=
  let marked := { ch with failure := some .aborted }
  let t := s.setChange (some marked)
  match t.flying with
  | some g => if g.state = .running then decelerate g t else t
  | none => endChange marked (currentChanged t.dropCurrent)

/-- ABORT CHANGE by phase, with its reply code (R157). -/
def abortChange (s : State) : State × Code :=
  match s.probes.change with
  | none => (s, .ok)
  | some ch =>
    match ch.phase with
    | .goingToDrop => (abortTravel ch s, .ok)
    | .goingToPick => (abortTravel ch s, .ok)
    | .dropping => (s.setChange (some { ch with abort := true }), .ok)
    | .leavingDrop => (s.setChange (some { ch with abort := true }), .ok)
    | .picking => (s, .tooLate)
    | .identifying => (s, .tooLate)
    | .leavingPick => (s, if ch.failure.isSome then .ok else .tooLate)

/-- The ABORT CHANGE command (R157). -/
def abortCommand (data : List Byte) (s : State) : State :=
  withLength 0 data s <|
    if s.motion.state ≠ .changing then s.answer .wrongState []
    else (abortChange s).1.answer (abortChange s).2 []

/-! ## Drop and pick -/

/-- The drop completes (R153). -/
def completeDrop (ch : Change) (s : State) : State :=
  let content := s.probes.current.ident.getD 0xFFFF#16
  let none' := s.setCurrentProbe .none
  let noted := match ch.drop with
    | some k => offerNote k content (applyNote k content (.station s.own) none')
    | none => none'
  beginLeaving .leavingDrop ch noted

/-- The pick completes (R154), and IDENTIFYING begins (R155). -/
def completePick (ch : Change) (s : State) : State :=
  let noted := match ch.pick with
    | some k => offerNote k 0x0000#16 (applyNote k 0x0000#16 (.station s.own) s)
    | none => s
  let seated := noted.setCurrentProbe (.unknown 0xFFFF#16)
  beginRead true (seated.setChange (some { ch with phase := .identifying, seatDue := none }))

/-- The 300 ms timer of DROPPING or PICKING runs out (R153, R154): the latch goes back, and the change
leaves failed with SEAT TIMEOUT. -/
def seatTimeout (waiting leaving : Phase) (latchOpen : Bool) (s : State) : State :=
  match s.probes.change with
  | some ch =>
    if ch.phase = waiting then
      let late := s.reach (ch.seatDue.getD s.clock)
      beginLeaving leaving { ch with failure := some .seatTimeout }
        (late.setProbes { late.probes with latchOpen := latchOpen })
    else s
  | none => s

/-! ## Meanings -/

/-- The meaning of CHANGE PROBE (R150). -/
def execChangeProbe (data : List Byte) (s : State) : Result := .next (changeProbe data s)

/-- The meaning of ABORT CHANGE (R157). -/
def execAbortChange (data : List Byte) (s : State) : Result := .next (abortCommand data s)

/-- The meaning of IDENTIFY PROBE (R142). -/
def execIdentifyProbe (data : List Byte) (s : State) : Result := .next (identifyProbe data s)

/-- The meaning of DROP TIMEOUT (R153): the latch closes. -/
def execDropTimeout (s : State) : Result := .next (seatTimeout .dropping .leavingDrop false s)

/-- The meaning of PICK TIMEOUT (R154): the latch opens. -/
def execPickTimeout (s : State) : Result := .next (seatTimeout .picking .leavingPick true s)

/-- The meaning of IDENT ANSWER (R143). -/
def execIdentAnswer (high low check : Byte) (s : State) : Result :=
  .next (takeAnswer high low check s)

/-- The meaning of IDENT ATTEMPT TIMEOUT (R143). -/
def execIdentAttemptTimeout (s : State) : Result := .next (attemptTimeout s)

end Sys2Proof.Machine
end

