-- ==== Sys2Proof/Machine/Moves.lean ====
section
/-! DEFINITION. The move commands (chapter 2): QUEUE MOVE, STOP, RESUME, FLUSH MOVES, and the events of a
segment: completion, position timeout, end of a STOP deceleration, touch. -/

namespace Sys2Proof.Machine

/-! ## QUEUE MOVE -/

/-- The expected start point of a queued move: the newest target, else the setpoints (R23). -/
def State.expectedStart (s : State) : V3 Int :=
  match s.motion.queue.getLast? with
  | some g => g.target
  | none => s.setpoints

/-- A coordinate lies within the soft limits of its axis, both included (R23). -/
def inSoft (l : SoftLimits) (x : Int) : Bool := l.lower ≤ x && x ≤ l.upper

/-- A target lies within the soft limits of every axis (R23). -/
def State.inSoftLimits (s : State) (p : V3 Int) : Bool :=
  inSoft s.cfg.soft.x p.x && inSoft s.cfg.soft.y p.y && inSoft s.cfg.soft.z p.z

/-- The first check of Table 2-3 that fails; kind: none for a byte that names no kind (R23). -/
def moveRefusal (kind : Option SegKind) (target : V3 Int) (feed : Nat) (s : State) : Option Code :=
  if kind = none ∨ feed = 0 then some .outOfRange
  else if s.station.state ≠ .active then some .wrongState
  else if !s.allReferenced then some .notReferenced
  else if 16 ≤ s.motion.queue.length then some .queueFull
  else if !s.inSoftLimits target then some .outOfRange
  else if kind = some .probe ∧ target = s.expectedStart then some .outOfRange
  else none

/-- The maximum feed of a kind (R24). -/
def feedMax (cfg : Block) : SegKind → Nat
  | .rapid => cfg.rapidMax
  | .probe => cfg.probingMax
  | .dock => cfg.dockMax

/-- A checked move joins the queue; as the head in motion IDLE it becomes current at once (R23). -/
def appendMove (g : Segment) (s : State) : State :=
  let t := s.setMotion { s.motion with queue := s.motion.queue ++ [g] }
  if s.motion.queue.isEmpty && s.motion.state == .idle then becomeCurrent t else t

/-- QUEUE MOVE (R23, R24). -/
def queueMove (data : List Byte) (s : State) : State :=
  withLength 17 data s <|
    let kind := moveKindOf (field 2 1 data)
    let target := fieldV3 3 data
    let asked := field 15 2 data
    match moveRefusal kind target asked s with
    | some c => s.answer c []
    | none =>
      let k := kind.getD .rapid
      let feed := min asked (feedMax s.cfg k)
      (appendMove (newSegment (some (fieldWord 0 data)) k target feed) s).answer
        (if feed = asked then .ok else .clamped)
        (one (s.motion.queue.length + 1) ++ beBytes 2 feed)

/-! ## STOP, RESUME, FLUSH MOVES -/

/-- The STOP of a segment in flight in motion RUNNING: RUNNING is decelerated, else it pends (R43). -/
def stopSegment (g : Segment) (s : State) : State :=
  if g.state = .running then decelerate g s
  else s.setMotion { s.motion with stopPending := true }

/-- The effect of STOP (R43). -/
def stopEffect (s : State) : State :=
  match s.motion.state with
  | .idle => s.setMotionState .held
  | .running =>
    match s.flying with
    | some g => stopSegment g s
    | none => s
  | .held => s
  | .faulted => s
  | .referencing =>
    s.setMotion { s.motion with
      reference := s.motion.reference.map fun r => { r with stopping := true } }
  | .changing => (abortChange s).1

/-- The tag in STOP's reply: that of the host segment whose deceleration it begins (R43; log 23). -/
def stopTag (s : State) : Option Tag :=
  match s.motion.state, s.flying with
  | .running, some g => if g.state = .running ∧ g.decel = none then g.tag else none
  | _, _ => none

/-- STOP (R43). -/
def stop (data : List Byte) (s : State) : State :=
  withLength 0 data s ((stopEffect s).answer .ok (optional 2 word (stopTag s)))

/-- A claim of a segment that a fault stop ended, an internal one or a head aborted, is dealt with as the
head becomes current (R30, R158; log 34). A head that has not been current has no geometry. -/
def shedAbortedClaim (s : State) : State :=
  match s.zone.claim with
  | some c =>
    let standing := (s.motion.queue.head?.bind (·.geom)).isSome
    if c.owner = .internal ∨ (c.owner = .head ∧ !standing) then currentChanged s else s
  | none => s

/-- RESUME (R45). -/
def resume (data : List Byte) (s : State) : State :=
  withLength 0 data s <|
    if s.motion.state = .held then
      (becomeCurrent (shedAbortedClaim (s.setMotionState .idle))).answer .ok []
    else s.answer .wrongState []

/-- The number of records that have not started (R46). -/
def State.unstarted (s : State) : Nat := (s.motion.queue.filter fun g => !g.state.flying).length

/-- FLUSH MOVES (R46, R47). -/
def flushMoves (data : List Byte) (s : State) : State :=
  withLength 0 data s <|
    let t := removeUnstarted s
    (if s.unstarted = 0 then t else handOverIfEmpty t).answer .ok (one s.unstarted)

/-! ## Completion -/

/-- The settling target of a segment (R36): its target, or the end point of its back-off. -/
def Segment.settleTarget (g : Segment) : V3 Int :=
  match g.geom, g.touchedAt with
  | some geo, some st => pathPoint geo.start g.target geo.len (st - g.back)
  | some _, none => g.target
  | none, _ => g.target

/-- All three scale counts are within the in-position band of the settling target (R36). -/
def Segment.inPosition (g : Segment) (s : State) : Bool :=
  let p := g.settleTarget
  let near (c t : Int) : Bool := (c - t).natAbs ≤ s.cfg.band
  near s.scales.x p.x && near s.scales.y p.y && near s.scales.z p.z

/-- A PROBE segment that has not been touched (R41). -/
def Segment.untouchedProbe (g : Segment) : Bool := g.kind == .probe && g.touchedAt.isNone

/-- The NO CONTACT request of an untouched PROBE segment (R41, R166); none without a library entry, which
no run reaches (log 28). -/
def noContactOf (g : Segment) (s : State) : Option NoContact :=
  match s.probes.current with
  | .known i =>
    (s.entry i).map fun e =>
      let bank := g.bank.getD s.probes.live
      { tag := g.tag.getD 0, ident := i, bank := bank, qualTemp := (e.set bank).qualTemp,
        snap := snapshot s }
  | .none => none
  | .unknown _ => none

/-- The request is handed over, and the idle Correction Unit takes it at once (R164, R187). -/
def requestNoContact (g : Segment) (s : State) : State :=
  match noContactOf g s with
  | some r =>
    let before := s.holdCount
    let t := s.setCorr { s.corr with request := some r, requestFirst := s.probes.latch.isNone }
    takeWork (holdChanged before t)
  | none => s

/-- The keep set at a completion (R38): the need set of the next current segment from the present
setpoints, the rest set where there is none or it would be refused ZERO LENGTH. -/
def keepSet (next : Option Segment) (s : State) : CellSet :=
  match next with
  | some g =>
    if g.kind = .probe ∧ pathLength s.setpoints g.target = 0 then s.restHere
    else needSet s.cfg s.setpoints g.target
  | none => s.restHere

/-- A host segment is in position (R38). -/
def completeHost (g : Segment) (s : State) : State :=
  let done := s.dropCurrent
  let asked := if g.untouchedProbe then requestNoContact g done else done
  let next := currentChanged (raiseSegmentDone (g.tag.getD 0) asked)
  let idle := next.setModes .idle
  if s.motion.stopPending then
    let held := idle.setMotion { idle.motion with state := .held, stopPending := false }
    handOver held.restHere held
  else
    let kept := handOver (keepSet idle.motion.queue.head? idle) idle
    becomeCurrent (kept.setMotionState .idle)

/-- An internal RAPID has ended, and the DOCK to the slot's dock point follows in the phase (R152). -/
def continueTravel (ch : Change) (s : State) : State :=
  let slot := if ch.phase = .goingToPick then ch.pick else ch.drop
  let dock := (s.slotPoints slot).dock
  handInternal .dock dock (handOver (needSet s.cfg s.setpoints dock) s)

/-- A travel phase has ended, and the next phase begins or the sequence ends (R152, R156). -/
def endPhase (ch : Change) (s : State) : State :=
  let kept := handOver s.restHere s
  match ch.phase with
  | .goingToDrop => beginDropping ch kept
  | .goingToPick => beginPicking ch kept
  | .leavingDrop =>
    if ch.failure.isSome || ch.abort || ch.pick.isNone then endChange ch kept
    else beginTravel .goingToPick ch kept
  | .leavingPick => endChange ch kept
  | .dropping => kept
  | .picking => kept
  | .identifying => kept

/-- An internal segment is in position (R38, R152, R157). -/
def completeInternal (g : Segment) (ch : Change) (s : State) : State :=
  let done := (currentChanged s.dropCurrent).setModes .idle
  if ch.failure = some .aborted then endChange ch (handOver done.restHere done)
  else if g.kind = .rapid then continueTravel ch done
  else endPhase ch done

/-- The segment in flight is SETTLING and in position (R36). -/
def Segment.arrived (g : Segment) (s : State) : Bool := g.state == .settling && g.inPosition s

/-- SEGMENT COMPLETE (R38): nothing unless the segment in flight is settling and in position. -/
def completeSegment (s : State) : State :=
  match s.flying with
  | some g =>
    if g.arrived s then
      if s.motion.state = .changing then
        match s.probes.change with
        | some ch => completeInternal g ch s
        | none => s
      else completeHost g s
    else s
  | none => s

/-- POSITION TIMEOUT (R37): the 500th period after SETTLING began ends without the segment in
position. -/
def positionTimeout (s : State) : State :=
  match s.flying with
  | some g =>
    if g.state = .settling ∧ !g.inPosition s then
      faultStop .positionTimeout (s.reach (g.settleSince + 500))
    else s
  | none => s

/-- STOP DECELERATION END (R44). -/
def stopDecelerationEnd (s : State) : State :=
  match s.flying with
  | some g => if g.stopped s then endDeceleration s else s
  | none => s

/-! ## Touch -/

/-- What a touch does (Table 2-4). -/
inductive TouchOutcome where
  | collision
  | latched
  | ignored
  | stray
deriving DecidableEq, Repr

/-- The outcome of a touch during a PROBE segment (Table 2-4). -/
def probeTouch (g : Segment) : TouchOutcome :=
  match g.state with
  | .running => .latched
  | .touched => .ignored
  | .retracting => .collision
  | .settling => if g.touchedAt.isNone then .latched else .ignored
  | .queued => .stray
  | .waitingZone => .stray

/-- The outcome of a touch (Table 2-4, R18). -/
def touchOutcome (s : State) : TouchOutcome :=
  if s.motion.state = .referencing then .collision
  else match s.flying with
    | none => .stray
    | some g => if g.kind = .probe then probeTouch g else .collision

/-- The set with its touch count raised by one, saturating (R136). -/
def QualSet.touch (q : QualSet) : QualSet := { q with count := min 65535 (q.count + 1) }

/-- The library with one entry replaced, by its ident. -/
def replaceEntry (e : LibEntry) (l : List LibEntry) : List LibEntry :=
  l.map fun x => if x.ident = e.ident then e else x

/-- The segment at its touch (R39): s_t is the path distance reached, L when settling. -/
def Segment.touch (g : Segment) : Segment :=
  { g with
    state := .touched
    decel := none
    resent := false
    touchedAt := some (if g.state = .settling then g.len else g.dist) }

/-- The touch latch contents (Table 7-8). -/
def latchOf (g : Segment) (i : Ident) (bank : Bank) (q : QualSet) (c : V3 Int) (s : State) : Latch :=
  { tag := g.tag.getD 0, counts := c, ident := i, bank := bank, set := q,
    delta := match g.geom with
      | some geo => Sys2Proof.Machine.delta geo.start g.target
      | none => ⟨0, 0, 0⟩
    len := g.len, snap := snapshot s }

/-- A touch is latched (R39, R160): the touch count rises, the latch is filled, the segment is TOUCHED; a
STOP under way stays pending. A full latch ignores the touch. -/
def latchTouch (g : Segment) (c : V3 Int) (s : State) : State :=
  match s.probes.current, s.probes.latch with
  | .known i, none =>
    match s.entry i with
    | some e =>
      let bank := g.bank.getD s.probes.live
      let q := (e.set bank).touch
      let filled := s.setProbes { s.probes with
        library := replaceEntry (e.withSet bank q) s.probes.library
        latch := some (latchOf g i bank q c s) }
      let touched := filled.setCurrent g.touch
      let stop := touched.setMotion { touched.motion with
        stopPending := touched.motion.stopPending || g.decel.isSome }
      takeWork (holdChanged s.holdCount stop)
    | none => s
  | _, _ => s

/-- A touch is taken with the counts noted at its edge (R42, R145). -/
def takeTouch (c : V3 Int) (s : State) : State :=
  match touchOutcome s, s.flying with
  | .collision, _ => faultStop .collision s
  | .stray, _ => raiseStrayTouch s
  | .ignored, _ => s
  | .latched, some g => latchTouch g c s
  | .latched, none => s

/-! ## Meanings -/

/-- The meaning of QUEUE MOVE (R23). -/
def execQueueMove (data : List Byte) (s : State) : Result := .next (queueMove data s)

/-- The meaning of STOP (R43). -/
def execStop (data : List Byte) (s : State) : Result := .next (stop data s)

/-- The meaning of RESUME (R45). -/
def execResume (data : List Byte) (s : State) : Result := .next (resume data s)

/-- The meaning of FLUSH MOVES (R46). -/
def execFlushMoves (data : List Byte) (s : State) : Result := .next (flushMoves data s)

/-- The meaning of SEGMENT COMPLETE (R38). -/
def execSegmentComplete (s : State) : Result := .next (completeSegment s)

/-- The meaning of POSITION TIMEOUT (R37). -/
def execPositionTimeout (s : State) : Result := .next (positionTimeout s)

/-- The meaning of STOP DECELERATION END (R44). -/
def execStopDecelerationEnd (s : State) : Result := .next (stopDecelerationEnd s)

/-- The meaning of TOUCH (R145). -/
def execTouch (c : V3 (BitVec 32)) (s : State) : Result := .next (takeTouch (c.map BitVec.toInt) s)

end Sys2Proof.Machine
end

