-- ==== Sys2Proof/Machine/Period.lean ====
section
/-! DEFINITION. MOTION PERIOD: the setpoints of one period (R16, R17, R35, R40, R44) and the watches on the
sampled inputs (R5, R7 to R10, R144). -/

namespace Sys2Proof.Machine

/-! ## Setpoints -/

/-- The reference travel's next velocity (R16, R17, R18). -/
def RefRun.advance (r : RefRun) (feed accel : Nat) : RefRun :=
  if r.marked || r.stopping then { r with vel := r.vel - accel }
  else { r with k := r.k + 1, vel := min feed ((r.k + 1) * accel) }

/-- One period of a reference: the axis moves in the negative direction by the velocity (R16, R17). -/
def advanceReference (s : State) : State :=
  match s.referenceRun with
  | some r =>
    let r' := r.advance s.cfg.refFeed s.cfg.accel
    let c := s.axis r.axis
    let moved := s.setAxis r.axis { c with setpoint := count32 (c.setpoint - (r'.vel : Nat)) }
    moved.setMotion { moved.motion with reference := some r' }
  | none => s

/-- The setpoints at a path distance of the segment (R35, R40). -/
def Segment.pointAt (g : Segment) (d : Nat) : V3 Int :=
  match g.geom with
  | some geo => pathPoint geo.start g.target geo.len d
  | none => g.target

/-- One period along the profile (R35): the entry is added, and after the last one the segment settles. -/
def runPeriod (g : Segment) (s : State) : State :=
  let k := g.sent + 1
  let d := g.dist + profileEntry g.len g.feed s.cfg.accel k
  let g' := { g with sent := k, dist := d }
  let sent := (s.setCurrent g').sendSetpoints (g'.pointAt d)
  if profileLength g.len g.feed s.cfg.accel ≤ k then enterSettling g' sent else sent

/-- One period of a STOP deceleration (R44): the velocity falls by A, and the step is shortened at L. -/
def stopPeriod (g : Segment) (v : Nat) (s : State) : State :=
  let v' := v - s.cfg.accel
  let d := min g.len (g.dist + v')
  let g' := { g with dist := d, decel := some v' }
  if v' = 0 then s.setCurrent g' else (s.setCurrent g').sendSetpoints (g'.pointAt d)

/-- The back-off distance L_r (R40). -/
def Segment.backOffLen (g : Segment) (s : State) : Nat := min s.cfg.backOff (g.touchedAt.getD 0)

/-- One period of the back-off (R40). -/
def backOffPeriod (g : Segment) (s : State) : State :=
  let len := g.backOffLen s
  let k := g.backSent + 1
  let u := g.back + profileEntry len g.feed s.cfg.accel k
  let g' := { g with back := u, backSent := k }
  let sent := (s.setCurrent g').sendSetpoints (g'.pointAt (g.touchedAt.getD 0 - u))
  if profileLength len g.feed s.cfg.accel ≤ k then enterSettling g' sent else sent

/-- A period of a TOUCHED segment (R39, R40): the one after the touch sends the frozen setpoints again and
is still TOUCHED; the one after that begins the back-off. Where the back-off is zero, SETTLING was entered at the
end of the period before, whose 500 periods count from there (R36, R37; log 22). -/
def touchedPeriod (g : Segment) (s : State) : State :=
  if !g.resent then s.setCurrent { g with resent := true }
  else if g.backOffLen s = 0 then enterSettlingAt (s.clock - 1) g s
  else backOffPeriod { g with state := .retracting } s

/-- One period of the segment in flight. -/
def advanceSegment (s : State) : State :=
  match s.flying with
  | none => s
  | some g =>
    match g.state with
    | .running =>
      match g.decel with
      | some v => stopPeriod g v s
      | none => runPeriod g s
    | .touched => touchedPeriod g s
    | .retracting => backOffPeriod g s
    | .settling => s
    | .queued => s
    | .waitingZone => s

/-- The setpoints of one period. -/
def advance (s : State) : State := advanceSegment (advanceReference s)

/-! ## Watches -/

/-- The levels sampled in the period (R10, 01 1.4). -/
def sampleLevels (v : Samples) (s : State) : State :=
  let level (a : Axis) (c : AxisChan) : AxisChan :=
    { c with lower := v.lower.get a, upper := v.upper.get a, ready := v.ready.get a }
  let ch := s.axes.chan
  s.setAxes { chan := ⟨level .x ch.x, level .y ch.y, level .z ch.z⟩, retracted := v.retracted }

/-- The drive enable of an axis goes off (R5). -/
def enableOff (a : Axis) (s : State) : State := s.setAxis a { s.axis a with enable := false }

/-- A condition watched on an axis: a fault stop in IDLE or MOVING; in FAULT the enable goes off where
the condition bars CLEAR FAULT (R7, R8). -/
def watchLevel (r : FaultReason) (a : Axis) (bad : Bool) (s : State) : State :=
  if bad then
    match (s.axis a).mode with
    | .off => s
    | .idle => faultStop r s
    | .moving => faultStop r s
    | .fault => enableOff a s
  else s

/-- The following error is above the limit (R9). -/
def followingBad (a : Axis) (s : State) : Bool :=
  let c := s.axis a
  decide (s.cfg.followLimit < (c.setpoint - c.scale).natAbs)

/-- The following-error watch (R9). -/
def watchFollowing (a : Axis) (s : State) : State :=
  match (s.axis a).mode with
  | .off => s
  | .idle => if followingBad a s then faultStop .following s else s
  | .moving => if followingBad a s then faultStop .following s else s
  | .fault => s

/-- The current probe after a seated change that no phase waits for (Table 7-2). -/
def seatedProbe (level : Bool) : CurrentProbe := if level then .unknown 0xFFFF#16 else .none

/-- The seated level is taken; going off ends a read of IDENTIFY PROBE with no result (R144). -/
def noteSeated (level : Bool) (s : State) : State :=
  s.setProbes { s.probes with
    seated := level
    read := if level then s.probes.read else s.probes.read.filter (·.forChange) }

/-- A seated change outside CHANGING (Table 7-3). -/
def seatedOutside (level : Bool) (s : State) : State :=
  let t := s.setCurrentProbe (seatedProbe level)
  if !level && (s.flying.isSome || s.motion.state == .referencing) then faultStop .probeLost t
  else raiseSeatedChange level t

/-- A seated change while CHANGING (Table 7-3). -/
def seatedInChange (ch : Change) (level : Bool) (s : State) : State :=
  match ch.phase, level with
  | .dropping, false => completeDrop ch s
  | .picking, true => completePick ch s
  | _, _ => faultStop .probeLost (s.setCurrentProbe (seatedProbe level))

/-- The seated line is sampled (R144). -/
def watchSeated (level : Bool) (s : State) : State :=
  if level = s.probes.seated then s
  else
    let t := noteSeated level s
    match t.probes.change with
    | some ch => seatedInChange ch level t
    | none => seatedOutside level t

/-- One watch of the period. -/
def watch (v : Samples) (w : Watch) (s : State) : State :=
  match w with
  | .limit a => watchLevel .limit a (v.lower.get a || v.upper.get a) s
  | .drive a => watchLevel .drive a (!v.ready.get a) s
  | .following a => watchFollowing a s
  | .seated => watchSeated v.seated s

/-- Every watch, in the order of Table 1-3 with the seated line last. -/
def allWatches : List Watch :=
  [.following .x, .following .y, .following .z, .limit .x, .limit .y, .limit .z,
   .drive .x, .drive .y, .drive .z, .seated]

/-- The watches in the given order, and after them every other watch (log 4). -/
def watchOrder (order : List Watch) : List Watch :=
  order ++ allWatches.filter fun w => !order.contains w

/-- The setpoint of an axis in FAULT with its enable off is its scale count (R6). -/
def AxisChan.track (c : AxisChan) : AxisChan :=
  if c.mode = .fault ∧ !c.enable then { c with setpoint := c.scale } else c

/-- MOTION PERIOD (R6): 1 ms passes, the levels are sampled, the setpoints advance, the watches run, and
released axes track their scales. -/
def motionPeriod (v : Samples) (order : List Watch) (s : State) : State :=
  let moved := advance (sampleLevels v (s.setClock (s.clock + 1)))
  let watched := (watchOrder order).foldl (fun t w => watch v w t) moved
  watched.setAxes { watched.axes with chan := watched.axes.chan.map AxisChan.track }

/-- The meaning of MOTION PERIOD (R6). -/
def execMotionPeriod (v : Samples) (order : List Watch) (s : State) : Result :=
  .next (motionPeriod v order s)

end Sys2Proof.Machine
end

