-- ==== Sys2Proof/Machine/PointQueue.lean ====
section
/-! DEFINITION. The correction computation (8.2 to 8.4), arrival in the Point Queue (9.2, 9.3), and READ
POINT, PEEK POINT and FLUSH POINTS (9.4). -/

namespace Sys2Proof.Machine

/-! ## The record -/

/-- The five temperatures of a snapshot. -/
def Snapshot.values (n : Snapshot) : Vec 5 Int := n.temps.mapIx fun _ q => q.value

/-- Some quantity of the snapshot carries a tag (R172). -/
def Snapshot.tagged (n : Snapshot) (t : TempTag) : Bool := n.temps.toList.any (·.tag == t)

/-- T_arm of a snapshot (Table 6-3). -/
def Snapshot.arm (n : Snapshot) : Int := (n.temps.get 3).value

/-- T_part of a snapshot (Table 6-3). -/
def Snapshot.part (n : Snapshot) : Int := (n.temps.get 4).value

/-- The scale temperatures of a snapshot (Table 6-3). -/
def Snapshot.scales (n : Snapshot) : V3 Int :=
  ⟨(n.temps.get 0).value, (n.temps.get 1).value, (n.temps.get 2).value⟩

/-- The tag BAND (R174). -/
def bandTag (cfg : Block) (n : Snapshot) (qualTemp : Int) : Bool :=
  decide (cfg.qualBand < (n.arm - qualTemp).natAbs)

/-- The tag DUE (R173). -/
def dueTag (q : QualSet) : Bool := q.limit != 0 && decide (q.limit < q.count)

/-- The suspect tags of a record (R172 to R174). -/
def suspectTags (cfg : Block) (n : Snapshot) (qualTemp : Int) (due : Bool) : Suspect :=
  { fixed := n.tagged .fixed, backup := n.tagged .backup, held := n.tagged .held, due := due,
    band := bandTag cfg n qualTemp }

/-- The point of a touch on one axis: scale, tip and part stage (R168 to R170). -/
def correctAxis (cfg : Block) (l : Latch) (a : Axis) : Int :=
  let q := scaleStage (l.counts.get a) (cfg.scaleCoeffs.get a) (l.snap.scales.get a)
  let c := tipStage q (l.set.offset.get a) l.set.radius (l.delta.get a) l.len
  partStage c (l.snap.datum.get a) l.snap.partCoeff l.snap.part

/-- The TOUCH record (R175). -/
def touchRecord (cfg : Block) (l : Latch) : RawRecord :=
  { tag := l.tag
    point := some ⟨correctAxis cfg l .x, correctAxis cfg l .y, correctAxis cfg l .z⟩
    ident := l.ident
    bank := l.bank
    temps := l.snap.values
    suspect := suspectTags cfg l.snap l.set.qualTemp (dueTag l.set) }

/-- The NO CONTACT record (R176). -/
def noContactRecord (cfg : Block) (r : NoContact) : RawRecord :=
  { tag := r.tag, point := none, ident := r.ident, bank := r.bank, temps := r.snap.values,
    suspect := suspectTags cfg r.snap r.qualTemp false }

/-- The record of a computation. -/
def recordOf (cfg : Block) : Work → RawRecord
  | .touch l => touchRecord cfg l
  | .noContact r => noContactRecord cfg r

/-! ## Arrival -/

/-- A record arrives (R183): it takes its number, and is appended, or discarded at overrun (R184). -/
def arrive (r : RawRecord) (s : State) : State :=
  let n := s.points.counter
  let p := { s.points with counter := n + 1 }
  if s.points.records.length < 64 then
    let added := p.withRecords (p.records ++ [{ sequence := n, raw := r }])
    raisePointReady n (s.setPoints added)
  else raiseOverrun n (s.setPoints { p with overrun := min 255 (p.overrun + 1) })

/-- CORRECTION END (R164): the record is handed over, waiting work is taken, and the hold count falls where
the record was discarded (R187). -/
def endCorrection (s : State) : State :=
  match s.corr.computing with
  | some w =>
    let idle := s.setCorr { s.corr with computing := none }
    holdChanged s.holdCount (takeWork (arrive (recordOf s.cfg w) idle))
  | none => s

/-! ## Reading -/

/-- The suspect tags as a byte (Table 9-2). -/
def suspectByte (t : Suspect) : Nat :=
  bitAt 0 t.fixed + bitAt 1 t.backup + bitAt 2 t.held + bitAt 3 t.due + bitAt 4 t.band

/-- The bytes of a record from byte 2 on (Table 9-2). -/
def recordBytes (r : PointRecord) : List Byte :=
  word r.sequence ++ word r.raw.tag ++ one (if r.raw.point.isSome then 1 else 2)
    ++ one r.raw.bank.num ++ word r.raw.ident ++ one (suspectByte r.raw.suspect)
    ++ r.raw.temps.toList.flatMap temp
    ++ match r.raw.point with
      | some p => counts p
      | none => []

/-- The reply data of READ POINT and PEEK POINT (Table 9-2). -/
def pointReply (n overrun : Nat) (r : Option PointRecord) : List Byte :=
  one n ++ one overrun ++ match r with
    | some p => recordBytes p
    | none => []

/-- READ POINT (R185). -/
def readPoint (data : List Byte) (s : State) : State :=
  withLength 0 data s <|
    match s.points.records with
    | [] => s.answer .empty (pointReply 0 s.points.overrun none)
    | r :: rest =>
      (holdChanged s.holdCount (s.setPoints (s.points.withRecords rest))).answer .ok
        (pointReply rest.length s.points.overrun (some r))

/-- PEEK POINT (R186). -/
def peekPoint (data : List Byte) (s : State) : State :=
  withLength 0 data s <|
    s.answer (if s.points.records.isEmpty then .empty else .ok)
      (pointReply s.points.records.length s.points.overrun s.points.records.head?)

/-- FLUSH POINTS (R193). -/
def flushPoints (data : List Byte) (s : State) : State :=
  withLength 0 data s <|
    (holdChanged s.holdCount (s.setPoints (s.points.withRecords []))).answer .ok
      (one s.points.records.length)

/-! ## Meanings -/

/-- The meaning of CORRECTION END (R164). -/
def execCorrectionEnd (s : State) : Result := .next (endCorrection s)

/-- The meaning of READ POINT (R185). -/
def execReadPoint (data : List Byte) (s : State) : Result := .next (readPoint data s)

/-- The meaning of PEEK POINT (R186). -/
def execPeekPoint (data : List Byte) (s : State) : Result := .next (peekPoint data s)

/-- The meaning of FLUSH POINTS (R193). -/
def execFlushPoints (data : List Byte) (s : State) : Result := .next (flushPoints data s)

end Sys2Proof.Machine
end

