-- ==== Sys2Proof/Machine/Peers.lean ====
section
/-! DEFINITION. The Peer Table (chapter 5): hearing, losing and forgetting a peer, the zone view's part in
each (R65, R71 to R73), presence reports and room-wide samples. -/

namespace Sys2Proof.Machine

/-! ## Entries -/

/-- The entry of a station. -/
def State.peer (s : State) (p : Station) : Option Peer := s.peers.entries.get p

/-- The entry of a station replaced. -/
def State.setPeer (s : State) (p : Station) (e : Option Peer) : State :=
  s.setPeers { s.peers with entries := s.peers.entries.set p e }

/-- The link frames what is on the line: not SILENT and not waiting for idle (R80; log 9). -/
def State.frames (s : State) : Bool := s.link.state != .silent && !s.link.waitIdle

/-- The run of receive errors is kept in LISTENING and ON (R92). -/
def State.judges (s : State) : Bool := s.link.state == .listening || s.link.state == .on

/-- The lost-holder marks on a peer's cells removed (R73, R104). -/
def clearLostMarks (p : Station) (s : State) : State :=
  s.mapCells fun _ e => if e.state = .held p then { e with lost := false } else e

/-- A frame of a peer has been accepted (R101, R104, R92); the quantities are evaluated where a lost peer is
heard again (R127). -/
def hear (p : Station) (s : State) : State :=
  if p = s.own then s
  else
    let run := if s.judges then s.setLink { s.link with run := 0 } else s
    match run.peer p with
    | none => run.setPeer p (some { lost := false, lastHeard := run.clock, report := none })
    | some e =>
      let heard := run.setPeer p (some { e with lost := false, lastHeard := run.clock })
      if e.lost then evaluate (clearLostMarks p heard) else heard

/-- The owings to a waiter removed (R65). -/
def dropOwed (p : Station) (s : State) : State :=
  s.mapCells fun _ e =>
    if e.owed.map (·.waiter) = some p then { e with owed := none } else e

/-- The deferral marks toward a waiter ended (R70, R73). -/
def dropDeferrals (p : Station) (s : State) : State :=
  s.mapCells fun _ e =>
    if e.deferral.map (·.waiter) = some p then { e with deferral := none } else e

/-- The claims of a peer removed from the view (R73). -/
def dropClaims (p : Station) (s : State) : State :=
  s.mapCells fun _ e => if e.claimedBy p then { e with state := .free, owed := none } else e

/-- A peer's cells take the lost-holder mark (R73). -/
def markLost (p : Station) (s : State) : State :=
  s.mapCells fun _ e => if e.state = .held p then { e with lost := true } else e

/-- A forgotten peer's cells become FREE (R73). -/
def freeCellsOf (p : Station) (s : State) : State :=
  s.mapCells fun _ e => if e.state = .held p then { e with state := .free, lost := false } else e

/-- A peer is gone for the zone: what it is owed and deferred ends (R65, R70), and the retry check follows
for a claim that stands (R66, R73). -/
def peerGone (p : Station) (s : State) : State :=
  let t := takeUpHeldBack s.deferred (dropDeferrals p (dropOwed p s))
  afterClaim (if s.zone.claim.isSome then retryCheck t else t)

/-! ## Losing and forgetting -/

/-- PEER LOST (R103, R73): nothing for an entry absent or lost already, or while SILENT. -/
def losePeer (p : Station) (s : State) : State :=
  match s.peer p with
  | some e =>
    if e.lost || s.link.state == .silent then s
    else
      let late := s.reach (e.lastHeard + 3000)
      let lost := raisePeerLost p (late.setPeer p (some { e with lost := true }))
      evaluate (peerGone p (dropClaims p (markLost p lost)))
  | none => s

/-- The entry of a peer is lost (R105). -/
def State.isLost (s : State) (p : Station) : Bool :=
  match s.peer p with
  | some e => e.lost
  | none => false

/-- FORGET PEER (R105, R73). -/
def forgetPeer (data : List Byte) (s : State) : State :=
  withLength 1 data s <|
    match indexOf 8 (field 0 1 data) with
    | none => s.answer .outOfRange []
    | some p =>
      if s.isLost p then
        (evaluate (peerGone p (freeCellsOf p (s.setPeer p none)))).answer .ok []
      else s.answer .wrongState []

/-! ## A peer's report -/

/-- The cells of a set that the station itself holds. -/
def State.heldAmong (s : State) (cs : CellSet) : CellSet := s.heldSet &&& cs

/-- The claims that a held set takes away: claimant and number of each of its cells shown CLAIMED
(R71). -/
def claimsAmong (cs : CellSet) (s : State) : List (Station × Byte) :=
  (List.finRange 20).filterMap fun c =>
    match (s.cell c).state with
    | .claimed x m => if cs.has c then some (x, m) else none
    | .free => none
    | .held _ => none
    | .heldUnknown => none

/-- Step 2 of R71: each such claim is taken back, the station's own going to WAITING with the cells of the
report among its cell set. -/
def takeClaims (cs : CellSet) (s : State) : State :=
  (claimsAmong cs s).foldl (fun t xm =>
    if xm.1 = t.own then
      match t.zone.claim with
      | some c =>
        if c.number = some xm.2 && !c.waitingState then claimToWaiting (cs &&& c.cells) t
        else takeBack xm.1 xm.2 t
      | none => takeBack xm.1 xm.2 t
    else takeBack xm.1 xm.2 t) s

/-- Steps 3 and 4 of R71: the reported cells become HELD by the peer, and its other cells FREE. -/
def setHolder (p : Station) (cs : CellSet) (s : State) : State :=
  s.mapCells fun c e =>
    if cs.has c then
      if e.state = .held s.own then e else { e with state := .held p, lost := false, last := some p }
    else if e.state = .held p then { e with state := .free, lost := false } else e

/-- The owings that a report's waiting set ends (R65). -/
def endOwings (p : Station) (waiting : CellSet) (s : State) : State :=
  s.mapCells fun c e =>
    if e.owed.map (·.waiter) = some p ∧ !waiting.has c then { e with owed := none } else e

/-- Step 1 of R71: cells the station itself holds make a zone conflict (R72). -/
def meetConflict (p : Station) (cs : CellSet) (s : State) : State :=
  if s.heldAmong cs = 0#20 then s else zoneConflict p (s.heldAmong cs) s

/-- A peer's report is applied to the zone view (R71); steps 3 and 4 with the link ON alone (R75, R76). -/
def applyReport (p : Station) (r : Report) (s : State) : State :=
  let taken := takeClaims r.held (meetConflict p r.held s)
  let placed := if taken.link.state = .on then setHolder p r.held taken else taken
  afterClaim (retryCheck (endOwings p r.waiting placed))

/-- The report stands in the entry (R102). -/
def recordReport (p : Station) (r : Report) (s : State) : State :=
  match s.peer p with
  | some e => s.setPeer p (some { e with report := some r })
  | none => s

/-- PRESENCE ACCEPTED (R102): a report of a peer is recorded, applied and the quantities evaluated; one of
the station's own changes nothing. A report that breaks a condition of Table 4-3 is never accepted
(R87). -/
def takePresence (p : Station) (r : Report) (s : State) : State :=
  if s.frames && p != s.own && channelsDistinct r.readings && decide (r.readings.length ≤ 8)
      && r.readings.all fun x => temperatureOk x.value then
    evaluate (applyReport p r (recordReport p r (hear p s)))
  else s

/-! ## The station's own report -/

/-- The reading of a shared channel in the station's report (R107). -/
def ownReading (c : Chan) (ch : Channel) : Option Reading :=
  let make (st : ReadingStatus) (v : Int) : Option Reading :=
    if ch.shared then
      (ch.kind.bind ChanKind.reading).map fun k => { channel := c, kind := k, status := st, value := v }
    else none
  match ch.state with
  | .valid => ch.reading.bind (make .valid)
  | .holding => ch.reading.bind (make .holding)
  | .failed => make .failed (ch.last.getD 2000)
  | .starting => none
  | .unused => none

/-- The station's waiting set (R107). -/
def State.waitingSet (s : State) : CellSet :=
  match s.zone.claim with
  | some c => if c.waitingState then c.waiting else 0#20
  | none => 0#20

/-- The content of the station's PRESENCE (R107). -/
def ownReport (s : State) : Report :=
  { active := s.station.state == .active
    held := s.heldSet
    waiting := s.waitingSet
    carried := s.probes.current.ident.getD 0x0000#16
    readings := (List.finRange 8).filterMap fun c => ownReading c (s.temps.channels.get c) }

/-- PRESENCE PERIOD (R108): the timer expires, and a report is offered. -/
def endPresencePeriod (s : State) : State :=
  match s.peers.presenceDue with
  | some due =>
    let t := s.reach due
    offerPresence (t.setPeers { t.peers with presenceDue := none })
  | none => s

/-! ## Room-wide samples -/

/-- CALL SAMPLE (R111). -/
def callSample (data : List Byte) (s : State) : State :=
  withLength 0 data s <|
    if s.link.state = .silent then s.answer .wrongState []
    else match offer .sampleCall s with
      | (.placed, t) => t.answer .ok []
      | (.refused, t) => t.answer .busy []
      | (.discarded, t) => t.answer .wrongState []

/-- SAMPLE CALL ACCEPTED (R112): a sample, then a report. -/
def takeSampleCall (p : Station) (v : Conversions) (order : List Chan) (s : State) : State :=
  if s.frames then offerPresence (sampleChannels v order (hear p s)) else s

/-! ## Meanings -/

/-- The meaning of FORGET PEER (R105). -/
def execForgetPeer (data : List Byte) (s : State) : Result := .next (forgetPeer data s)

/-- The meaning of PEER LOST (R103). -/
def execPeerLost (p : Station) (s : State) : Result := .next (losePeer p s)

/-- The meaning of PRESENCE ACCEPTED (R102). -/
def execPresenceAccepted (p : Station) (r : Report) (s : State) : Result := .next (takePresence p r s)

/-- The meaning of PRESENCE PERIOD (R108). -/
def execPresencePeriod (s : State) : Result := .next (endPresencePeriod s)

/-- The meaning of CALL SAMPLE (R111). -/
def execCallSample (data : List Byte) (s : State) : Result := .next (callSample data s)

/-- The meaning of SAMPLE CALL ACCEPTED (R112). -/
def execSampleCallAccepted (p : Station) (v : Conversions) (order : List Chan) (s : State) : Result :=
  .next (takeSampleCall p v order s)

end Sys2Proof.Machine
end

