-- ==== Sys2Proof/Machine/ZoneFrames.lean ====
section
/-! DEFINITION. The zone frames and timers (chapter 3): CLAIM, OBJECT, WAIT and RELEASE accepted, the settle
window, retry, wait limit, yield limit and deferral; and RACK NOTE accepted. -/

namespace Sys2Proof.Machine

/-! ## CLAIM -/

/-- The named cells become CLAIMED where all are FREE (R57). -/
def claimCells (p : Station) (n : Byte) (cs : CellSet) (s : State) : State :=
  if cs.within s.freeSet then
    s.mapCells fun c e => if cs.has c then { e with state := .claimed p n } else e
  else s

/-- A settle window starts (R57). -/
def openWindow (p : Station) (n : Byte) (s : State) : State :=
  s.setZone { s.zone with
    windows := s.zone.windows ++ [{ station := p, number := n, since := s.clock }] }

/-- A pending PRESENCE is taken out of the list and held back while the own window runs (R109). -/
def holdReport (s : State) : State :=
  if s.link.list.any (·.pendingKind .presence) then
    let out := s.setLink { s.link with
      list := s.link.list.filter fun e => !e.pendingKind .presence }
    out.setPeers { out.peers with heldBack := true, presenceDue := none }
  else s

/-- The station judges its own CLAIM (R57): lost where a named cell is not FREE, with those cells among the
claim's own as blocking cells (R55). -/
def judgeOwnClaim (n : Byte) (cs : CellSet) (s : State) : State :=
  let blocking := cs.minus s.freeSet
  let opened := openWindow s.own n (claimCells s.own n cs s)
  let held := holdReport opened
  match held.zone.claim with
  | some c =>
    if c.number = some n ∧ !c.waitingState ∧ blocking ≠ 0#20 then
      claimToWaiting (blocking &&& c.cells) held
    else held
  | none => held

/-- An OBJECT is offered; it cannot be in DEAF, and where it is not placed the station fault-stops
(R58). -/
def sendObject (p : Station) (n : Byte) (overlap : CellSet) (s : State) : State :=
  if s.link.state = .deaf then zoneConflict p overlap s
  else match offer (.object p n overlap) s with
    | (.placed, t) => t
    | (.refused, t) => zoneConflict p overlap t
    | (.discarded, t) => zoneConflict p overlap t

/-- A deferral mark toward a station ends on the cells its CLAIM names (R70). -/
def endDeferrals (p : Station) (cs : CellSet) (s : State) : State :=
  s.mapCells fun c e =>
    if cs.has c ∧ e.deferral.map (·.waiter) = some p then { e with deferral := none } else e

/-- A peer's CLAIM (R57, R58, R70). Where it also ends the last deferral of a held-back request or retry, the
OBJECT is offered before that CLAIM: the model's choice (log 43). -/
def judgePeerClaim (p : Station) (n : Byte) (cs : CellSet) (s : State) : State :=
  let overlap := s.ownSet &&& cs
  let opened := openWindow p n (claimCells p n cs s)
  let objected := if overlap = 0#20 then opened else sendObject p n overlap opened
  deferralsEnded objected.deferred (endDeferrals p cs objected)

/-- CLAIM ACCEPTED (R57). -/
def takeClaim (p : Station) (n : Byte) (cs : CellSet) (s : State) : State :=
  if s.frames then
    afterClaim (if p = s.own then judgeOwnClaim n cs s else judgePeerClaim p n cs (hear p s))
  else s

/-! ## The end of a settle window -/

/-- The window is over. -/
def closeWindow (p : Station) (n : Byte) (s : State) : State :=
  s.setZone { s.zone with
    windows := s.zone.windows.filter fun w => !(w.station == p && w.number == n) }

/-- The cells still CLAIMED by a claim become HELD (R59). -/
def grantCells (p : Station) (n : Byte) (s : State) : State :=
  s.mapCells fun _ e =>
    if e.state = .claimed p n then { e with state := .held p, last := some p } else e

/-- At the grant of the join claim the surplus is released where nothing is left to reference or run
(R74). -/
def joinGranted (s : State) : State :=
  if s.allReferenced && s.motion.queue.isEmpty && s.flying.isNone then handOver s.restHere s else s

/-- A kept request is taken up for its cells still not held (R56, R59). -/
def takeUpKept (s : State) : State :=
  match s.zone.kept with
  | some cs => requestCells (cs.minus s.heldSet) (s.setZone { s.zone with kept := none })
  | none => s

/-- The station's claim is granted (R59): the record ends, the start is weighed, at the join claim's grant the
surplus is released (R74), and a kept request is taken up: in the order of R59's sentences, which state none (log
39). -/
def grantClaim (c : Claim) (s : State) : State :=
  let weighed := weigh (s.setClaim none)
  takeUpKept (if c.owner = .join then joinGranted weighed else weighed)

/-- The window of a claim ends (R59): its cells become HELD, and the station's own claim is granted. -/
def settle (p : Station) (n : Byte) (s : State) : State :=
  let held := closeWindow p n (grantCells p n s)
  if p = s.own then
    match held.zone.claim with
    | some c => if c.number = some n ∧ !c.waitingState then grantClaim c held else held
    | none => held
  else held

/-- SETTLE WINDOW END (R59); what waited for the end of an abandoned claim's window follows, whether the window
granted the claim or it was lost inside (R30, R47); a held-back report is offered at the end of the station's own
window (R109), behind the frames that the grant and what follows offer: the model's choice (log 41). -/
def endWindow (p : Station) (n : Byte) (s : State) : State :=
  match s.window p n with
  | some w =>
    let t := afterClaim (settle p n (s.reach (w.since + 2)))
    if p = s.own then releaseReport t else t
  | none => s

/-! ## OBJECT -/

/-- The objection's cells join the waiting set of the claim it names, which goes to WAITING if it is
CLAIMING (R60). -/
def objectClaim (n : Byte) (cs : CellSet) (s : State) : State :=
  match s.zone.claim with
  | some c =>
    if c.number = some n then
      if c.waitingState then s.setClaim (some { c with waiting := c.waiting ||| (cs &&& c.cells) })
      else claimToWaiting (cs &&& c.cells) s
    else s
  | none => s

/-- An OBJECT inside the window (R60). -/
def objectInTime (target : Station) (n : Byte) (cs : CellSet) (s : State) : State :=
  let told := if target = s.own then objectClaim n cs s else s
  takeBack target n told

/-- An OBJECT after the window (R61): a conflict at the claimant that holds a named cell, and at the
objector. -/
def objectLate (sender target : Station) (cs : CellSet) (s : State) : State :=
  if target = s.own then
    if s.heldAmong cs = 0#20 then s else zoneConflict sender (s.heldAmong cs) s
  else if sender = s.own then zoneConflict target cs s
  else s

/-- OBJECT ACCEPTED (R60, R61, R66). -/
def takeObject (sender target : Station) (n : Byte) (cs : CellSet) (s : State) : State :=
  if s.frames then
    let heard := hear sender s
    let judged := if (heard.window target n).isSome then objectInTime target n cs heard
      else objectLate sender target cs heard
    afterClaim (retryCheck judged)
  else s

/-! ## WAIT and RELEASE -/

/-- WAIT ACCEPTED (R64): the named cells of the station's own take the yield-owed mark. -/
def takeWait (p : Station) (cs : CellSet) (s : State) : State :=
  if s.frames then
    let heard := hear p s
    let mine := heard.ownSet
    if p = s.own then heard
    else heard.mapCells fun c e =>
      if cs.has c && mine.has c && e.owed.isNone then
        { e with owed := some { waiter := p, since := heard.clock, overstayed := false } }
      else e
  else s

/-- The named cells that the sender holds become FREE (R69). -/
def freeReleased (p : Station) (cs : CellSet) (s : State) : State :=
  s.mapCells fun c e =>
    if cs.has c ∧ e.state = .held p then { e with state := .free, lost := false } else e

/-- RELEASE ACCEPTED (R69, R66): the station's own finds its cells FREE or claimed again. -/
def takeRelease (p : Station) (cs : CellSet) (s : State) : State :=
  if s.frames then
    let heard := hear p s
    let freed := if p = s.own then heard else freeReleased p cs heard
    afterClaim (retryCheck freed)
  else s

/-! ## Timers -/

/-- CLAIM RETRY ROOM (R66): after an undelivered CLAIM, with room in the list. -/
def retryRoom (s : State) : State :=
  if s.zone.retryAwaited && s.link.list.length < 8 then
    afterClaim (retryCheck (s.setZone { s.zone with retryAwaited := false }))
  else s

/-- ZONE WAIT TIMEOUT (R67): once for a WAITING claim, when its wait limit has passed. -/
def waitTimeout (s : State) : State :=
  match s.zone.claim with
  | some c =>
    if c.waitingState && !c.timeout then
      markTimeout c (s.reach (c.made + s.cfg.waitLimit * 1000 + 1))
    else s
  | none => s

/-- ZONE OVERSTAY (R67): once for each owing, when its yield limit has passed. -/
def overstay (c : Cell) (s : State) : State :=
  match (s.cell c).owed with
  | some o =>
    if o.overstayed then s
    else
      let late := s.reach (o.since + s.cfg.yieldLimit * 1000 + 1)
      raiseZoneOverstay c o.waiter (late.mapCells fun d e =>
        if d = c then { e with owed := some { o with overstayed := true } } else e)
  | none => s

/-- DEFERRAL EXPIRY (R70): 10 ms after the release the mark ends. -/
def deferralExpiry (c : Cell) (s : State) : State :=
  match (s.cell c).deferral with
  | some d =>
    let late := s.reach (d.since + 10)
    afterClaim (deferralsEnded s.deferred (late.mapCells fun k e =>
      if k = c then { e with deferral := none } else e))
  | none => s

/-! ## RACK NOTE -/

/-- RACK NOTE ACCEPTED (R147, R149): a peer's note is applied, and the slot's unsent mark goes; the
station's own was applied when it was made. -/
def takeRackNote (p : Station) (k : SlotIx) (c : Ident) (s : State) : State :=
  if s.frames && p != s.own then markUnsent k false (applyNote k c (.station p) (hear p s)) else s

/-! ## Meanings -/

/-- The meaning of CLAIM ACCEPTED (R57). -/
def execClaimAccepted (p : Station) (n : Byte) (cs : CellSet) (s : State) : Result :=
  .next (takeClaim p n cs s)

/-- The meaning of SETTLE WINDOW END (R59). -/
def execSettleWindowEnd (p : Station) (n : Byte) (s : State) : Result := .next (endWindow p n s)

/-- The meaning of OBJECT ACCEPTED (R60). -/
def execObjectAccepted (sender target : Station) (n : Byte) (cs : CellSet) (s : State) : Result :=
  .next (takeObject sender target n cs s)

/-- The meaning of WAIT ACCEPTED (R64). -/
def execWaitAccepted (p : Station) (cs : CellSet) (s : State) : Result := .next (takeWait p cs s)

/-- The meaning of CLAIM RETRY ROOM (R66). -/
def execClaimRetryRoom (s : State) : Result := .next (retryRoom s)

/-- The meaning of ZONE WAIT TIMEOUT (R67). -/
def execZoneWaitTimeout (s : State) : Result := .next (waitTimeout s)

/-- The meaning of ZONE OVERSTAY (R67). -/
def execZoneOverstay (c : Cell) (s : State) : Result := .next (overstay c s)

/-- The meaning of RELEASE ACCEPTED (R69). -/
def execReleaseAccepted (p : Station) (cs : CellSet) (s : State) : Result := .next (takeRelease p cs s)

/-- The meaning of DEFERRAL EXPIRY (R70). -/
def execDeferralExpiry (c : Cell) (s : State) : Result := .next (deferralExpiry c s)

/-- The meaning of RACK NOTE ACCEPTED (R147). -/
def execRackNoteAccepted (p : Station) (k : SlotIx) (c : Ident) (s : State) : Result :=
  .next (takeRackNote p k c s)

end Sys2Proof.Machine
end

