-- ==== Sys2Proof/Machine/LinkLine.lean ====
section
/-! DEFINITION. The Link Controller's events (chapter 4): sending, arbitration, spoils, delivery, idle,
RESET LINK, and the end of the listening (R77, R216). -/

namespace Sys2Proof.Machine

/-! ## Sending -/

/-- The content of a frame as an attempt begins (R107). -/
def TxFrame.content (f : TxFrame) (s : State) : Msg :=
  match f with
  | .object t n cs => .object t n cs
  | .release cs => .release cs
  | .claim n cs => .claim n cs
  | .wait cs => .wait cs
  | .rackNote k c => .rackNote k c
  | .sampleCall => .sampleCall
  | .presence => .presence (ownReport s)

/-- The link state lets the frame be sent (R96). -/
def sendable (l : LinkState) (f : TxFrame) : Bool :=
  match l with
  | .silent => false
  | .listening => true
  | .on => true
  | .deaf => f.kind == .presence

/-- The list with its first sendable frame being sent (R96). -/
def markFirst (l : LinkState) : List TxEntry → List TxEntry
  | [] => []
  | e :: rest => if sendable l e.frame then { e with sending := true } :: rest
                 else e :: markFirst l rest

/-- FRAME SEND START (R80, R96): the line is idle, so the wait for idle is over, and the first sendable
frame begins, if none is being sent. -/
def startSending (s : State) : State :=
  if s.link.state = .silent ∨ s.sendingEntry.isSome then s
  else
    let idle := s.setLink { s.link with waitIdle := false }
    match s.link.list.find? fun e => sendable s.link.state e.frame with
    | some e =>
      idle.setLink { idle.link with
        list := markFirst s.link.state s.link.list
        lineOut := some (encodeFrame s.own (e.frame.content s)) }
    | none => idle

/-- ARBITRATION LOST (R84): the frame stays in its place with its count unchanged, joined with no other
(R95 joins a spoiled frame alone; log 18), and the station receives (log 9). -/
def loseArbitration (s : State) : State :=
  if s.sendingEntry.isSome then
    s.setLink { s.link with
      list := s.link.list.map fun e => { e with sending := false }, lineOut := none }
  else s

/-- The station waits for idle (R80). -/
def awaitIdle (s : State) : State := s.setLink { s.link with waitIdle := true }

/-- DUPLICATE STATION MISMATCH (R85): the frame is removed and its owner told as of a dropped one, LINK
FAULT is raised, and the link enters DEAF. -/
def duplicateMismatch (s : State) : State :=
  match s.sendingEntry with
  | some e =>
    let told := ownerTold e.frame (awaitIdle (removeSending s))
    afterClaim (enterDeaf .duplicateStation (some e.frame.kind) told)
  | none => s

/-- EARLY SPOIL (R85, R88): a sender counts the attempt; a receiver that found the error counts it (log
29), also where character 0 carries its own number (log 30); each waits for idle. -/
def earlySpoil (own : Bool) (s : State) : State :=
  if s.sendingEntry.isSome then afterClaim (awaitIdle (attemptSpoiled s))
  else if s.frames then
    afterClaim (awaitIdle (if own && s.judges then countError s else s))
  else s

/-- A receiver's checks of R87 find an error. -/
def receptionBad (rx : Reception) : Bool := rx.framing || (decodeFrame rx.chars).isNone

/-- The station number that character 0 carries (R81). -/
def receptionSender (rx : Reception) : Option Station :=
  rx.chars.head?.map fun c => Fin.ofNat 8 (c.toNat / 4)

/-- The kind that character 0 carries (R81). -/
def receptionKind (rx : Reception) : FrameKind :=
  match rx.chars with
  | c :: _ => FrameKind.ofCode (c.toNat / 32)
  | [] => .none

/-- A second station with this station's number has been found by its frame (R86). -/
def duplicateFound (k : FrameKind) (s : State) : State :=
  afterClaim (enterDeaf .duplicateStation (some k) s)

/-- FRAME SPOILED (R87, R89, R92): a sender counts the attempt; a receiver that found an error of its own
has spoiled the frame and counts it. -/
def frameSpoiled (rx : Reception) (s : State) : State :=
  if s.sendingEntry.isSome then afterClaim (attemptSpoiled s)
  else if s.frames && s.judges then
    if receptionSender rx = some s.own then duplicateFound (receptionKind rx) s
    else if receptionBad rx then afterClaim (countError s)
    else s
  else s

/-- DUPLICATE STATION FRAME (R86); a DEAF station discards the frame. -/
def duplicateFrame (k : FrameKind) (s : State) : State :=
  if s.frames && s.judges && s.sendingEntry.isNone then duplicateFound k s else s

/-- The owner of a delivered frame is told (R89, R108, R149). -/
def toldDelivered (f : TxFrame) (s : State) : State :=
  match f with
  | .presence => presenceLeft s
  | .rackNote k _ => markUnsent k false s
  | .object .. => s
  | .release _ => s
  | .claim .. => s
  | .wait _ => s
  | .sampleCall => s

/-- FRAME DELIVERED (R89): the frame leaves the list and its owner is told; the row of its kind, with the
station's own number, follows (log 8). -/
def deliver (s : State) : State :=
  match s.sendingEntry with
  | some e => toldDelivered e.frame (removeSending s)
  | none => s

/-- LINE IDLE (R80). -/
def lineIdle (s : State) : State := s.setLink { s.link with waitIdle := false }

/-- LINE DRIVER FAULT (R84): the attempt counts as spoiled, and the station waits for idle. -/
def driverFault (s : State) : State :=
  if s.sendingEntry.isSome then afterClaim (awaitIdle (attemptSpoiled s)) else s

/-! ## RESET LINK -/

/-- The slots of the rack notes in a list (R149). -/
def notesIn (l : List TxEntry) : List SlotIx :=
  l.filterMap fun e => match e.frame with
    | .rackNote k _ => some k
    | _ => none

/-- An OBJECT stands in the list (R98). -/
def State.objectListed (s : State) : Bool := s.link.list.any (·.frame.kind == .object)

/-- A CLAIMING claim waits for its whole cell set, with no frame and no event (R76, R98). -/
def claimAfterReset (s : State) : State :=
  match s.zone.claim with
  | some c =>
    if c.waitingState then s
    else s.setClaim (some { c with waitingState := true, waiting := c.cells })
  | none => s

/-- Windows and deferral marks end (R76). -/
def dropWindows (s : State) : State :=
  let t := s.mapCells fun _ e => { e with deferral := none }
  t.setZone { t.zone with windows := [] }

/-- The link's part of RESET LINK (R98, R99): the list cleared, notes marked unsent, LISTENING. -/
def restartLink (s : State) : State :=
  let t := (notesIn s.link.list).foldl (fun u k => markUnsent k true u) s
  let u := t.setLink
    { state := .listening, list := [], run := 0, waitIdle := true, lineOut := none,
      listeningDue := some (t.clock + 1200) }
  u.setPeers { entries := Vec.ofFn fun _ => none, presenceDue := none, heldBack := false }

/-- RESET LINK is accepted (R98, R76, R132). No event is raised; an abandoned claim that goes to WAITING is
withdrawn at once, but what waits for its end (R30, R47) waits on, so that queue, records, axes and motion
state stay as they are (R50, R20; log 11). A held-back request whose last mark ends is acted on with the link
LISTENING already: the model's choice (log 45). -/
def resetLinkEffect (s : State) : State :=
  let zone := claimAfterReset (forgetHolders (dropWindows (restartLink s)))
  let done := dropOrphan (takeUpHeldBack s.deferred (evaluate (offerPresence zone)))
  done.setEvents s.events

/-- RESET LINK (R98). The link state is checked before the OBJECT in the list, so that LISTENING with an OBJECT is
WRONG STATE: the model's reading (log 44). -/
def resetLink (data : List Byte) (s : State) : State :=
  withLength 0 data s <|
    match s.link.state with
    | .silent => s.answer .wrongState []
    | .listening => s.answer .wrongState []
    | .on => if s.objectListed then s.answer .busy [] else (resetLinkEffect s).answer .ok []
    | .deaf => if s.objectListed then s.answer .busy [] else (resetLinkEffect s).answer .ok []

/-! ## The end of the listening -/

/-- The lowest-numbered peer whose recorded held set lists a cell (R77). -/
def State.reportedHolder (s : State) (c : Cell) : Option Station :=
  (List.finRange 8).find? fun p =>
    match s.peer p with
    | some e => ((e.report.map fun r => r.held.has c)).getD false
    | none => false

/-- Each HELD-UNKNOWN cell takes its state from the recorded held sets (R77). -/
def settleView (s : State) : State :=
  s.mapCells fun c e =>
    if e.state = .heldUnknown then
      match s.reportedHolder c with
      | some p => { e with state := .held p, last := some p, lost := s.isLost p }
      | none => { e with state := .free }
    else e

/-- A recorded report that lists a cell the station holds makes a zone conflict (R77, R72): of several such reports
that of the lowest station first, so that the kept value is the highest station's: the model's choice (log 47). -/
def settleConflicts (s : State) : State :=
  (List.finRange 8).foldl (fun t p =>
    match t.peer p with
    | some e =>
      match e.report with
      | some r => meetConflict p r.held t
      | none => t
    | none => t) s

/-- The join claim (R74): at the end of the start-up's listening with the arm out, for all cells not
held. -/
def joinClaim (s : State) : State :=
  let cs := CellSet.all.minus s.heldSet
  if s.station.state = .joining ∧ !s.axes.retracted ∧ s.zone.claim = none ∧ cs ≠ 0#20 then
    sendClaim (newClaim .join cs s) s
  else s

/-- A WAITING claim is weighed at ON (R77): a fresh CLAIM where its cells are FREE, else its waiting set is
the cells not FREE and a WAIT names them. -/
def weighClaim (s : State) : State :=
  match s.zone.claim with
  | some c =>
    if c.waitingState then
      if c.cells.within s.freeSet then retryCheck s
      else
        let blocking := c.cells.minus s.freeSet
        offerWait blocking (s.setClaim (some { c with waiting := blocking }))
    else s
  | none => s

/-- The station becomes ACTIVE with READY, where the listening was its start-up's (R216). -/
def becomeActive (s : State) : State :=
  if s.station.state = .joining then
    raiseReady (s.setStation { s.station with state := .active })
  else s

/-- LISTENING END (R97, R77, R74, R216). A claim that stood before is weighed, and no join claim that a full list
has just refused: the model's choice (log 46). -/
def endListening (s : State) : State :=
  match s.link.state, s.link.listeningDue with
  | .listening, some due =>
    let late := s.reach due
    let on := late.setLink { late.link with state := .on, listeningDue := none }
    let settled := settleConflicts (settleView on)
    let claimed := if settled.zone.claim.isSome then weighClaim settled else joinClaim settled
    becomeActive (afterClaim claimed)
  | _, _ => s

/-! ## Meanings -/

/-- The meaning of FRAME SEND START (R96). -/
def execFrameSendStart (s : State) : Result := .next (startSending s)

/-- The meaning of ARBITRATION LOST (R84). -/
def execArbitrationLost (s : State) : Result := .next (loseArbitration s)

/-- The meaning of DUPLICATE STATION MISMATCH (R85). -/
def execDuplicateStationMismatch (s : State) : Result := .next (duplicateMismatch s)

/-- The meaning of EARLY SPOIL (R88). -/
def execEarlySpoil (own : Bool) (s : State) : Result := .next (earlySpoil own s)

/-- The meaning of FRAME SPOILED (R89). A spoil by another station alone leaves a receiver as it is. -/
def execFrameSpoiled (rx : Reception) (_byOther : Bool) (s : State) : Result :=
  .next (frameSpoiled rx s)

/-- The meaning of DUPLICATE STATION FRAME (R86). -/
def execDuplicateStationFrame (k : FrameKind) (s : State) : Result := .next (duplicateFrame k s)

/-- The meaning of FRAME DELIVERED (R89). -/
def execFrameDelivered (s : State) : Result := .next (deliver s)

/-- The meaning of LINE IDLE (R80). -/
def execLineIdle (s : State) : Result := .next (lineIdle s)

/-- The meaning of LINE DRIVER FAULT (R84). -/
def execLineDriverFault (s : State) : Result := .next (driverFault s)

/-- The meaning of RESET LINK (R98). -/
def execResetLink (data : List Byte) (s : State) : Result := .next (resetLink data s)

/-- The meaning of LISTENING END (R216). -/
def execListeningEnd (s : State) : Result := .next (endListening s)

end Sys2Proof.Machine
end

