-- ==== Sys2Proof/Machine/ProbeCommands.lean ====
section
/-! DEFINITION. The library, bank and rack commands (7.1, 7.2, 7.5): WRITE PROBE SET, DELETE PROBE, SELECT
BANK and SET RACK SLOT. -/

namespace Sys2Proof.Machine

/-! ## WRITE PROBE SET -/

/-- The set that the data give, its touch count 0 (Table 10-8, R137). -/
def givenSet (data : List Byte) : QualSet :=
  { valid := field 3 1 data == 1, offset := fieldV3 4 data, radius := field 16 2 data,
    qualTemp := fieldInt16 18 data, limit := field 20 2 data, count := 0 }

/-- The fields lie in their ranges (Table 7-1, check 1 of R137). -/
def setInRange (data : List Byte) : Bool :=
  let q := givenSet data
  let near (x : Int) : Bool := within (-5000000) 5000000 x
  field 3 1 data ≤ 1 && near q.offset.x && near q.offset.y && near q.offset.z && q.radius ≤ 50000
    && temperatureOk q.qualTemp

/-- A PROBE segment in flight uses a bank of the current probe: the live bank, or the bank it captured
(check 2 of R137). -/
def bankInUse (i : Ident) (bank : Bank) (s : State) : Bool :=
  s.probes.current.ident == some i &&
    match s.flying with
    | some g => g.kind == .probe && (bank == s.probes.live || g.bank == some bank)
    | none => false

/-- A set that is not valid, with every field 0 (R137). -/
def emptySet : QualSet :=
  { valid := false, offset := ⟨0, 0, 0⟩, radius := 0, qualTemp := 0, limit := 0, count := 0 }

/-- An accepted write makes an entry, and the UNKNOWN current probe of that ident KNOWN (R137, R141). -/
def createEntry (i : Ident) (bank : Bank) (q : QualSet) (s : State) : State :=
  let e := LibEntry.withSet { ident := i, setA := emptySet, setB := emptySet } bank q
  let t := s.setProbes { s.probes with library := s.probes.library ++ [e] }
  if t.probes.current = .unknown i then expelIdent i (t.setCurrentProbe (.known i)) else t

/-- An accepted write to an entry that stands (R137). -/
def rewriteEntry (e : LibEntry) (bank : Bank) (q : QualSet) (s : State) : State :=
  s.setProbes { s.probes with library := replaceEntry (e.withSet bank q) s.probes.library }

/-- WRITE PROBE SET (R137). -/
def writeProbeSet (data : List Byte) (s : State) : State :=
  withLength 22 data s <|
    let i := fieldWord 0 data
    match bankOf (field 2 1 data) with
    | none => s.answer .outOfRange []
    | some bank =>
      if !validIdent i || !setInRange data then s.answer .outOfRange []
      else if bankInUse i bank s then s.answer .busy []
      else match s.entry i with
        | some e => (rewriteEntry e bank (givenSet data) s).answer .ok []
        | none =>
          if 16 ≤ s.probes.library.length then s.answer .libraryFull []
          else (createEntry i bank (givenSet data) s).answer .ok []

/-! ## DELETE PROBE -/

/-- The ident is the current probe's, or the target of a change in progress (R138). -/
def identInUse (i : Ident) (s : State) : Bool :=
  s.probes.current.ident == some i || (s.probes.change.map (·.target)) == some i

/-- DELETE PROBE (R138). -/
def deleteProbe (data : List Byte) (s : State) : State :=
  withLength 2 data s <|
    let i := fieldWord 0 data
    if !validIdent i then s.answer .outOfRange []
    else if (s.entry i).isNone then s.answer .unknownProbe []
    else if identInUse i s then s.answer .busy []
    else
      (s.setProbes { s.probes with
        library := s.probes.library.filter (·.ident != i) }).answer .ok []

/-! ## SELECT BANK and SET RACK SLOT -/

/-- The live and pending banks as reply data (R139). -/
def bankReply (p : Probes) : List Byte := one p.live.num ++ one (pendingBankNum p.pendingBank)

/-- SELECT BANK (R139). -/
def selectBank (data : List Byte) (s : State) : State :=
  withLength 1 data s <|
    match bankOf (field 0 1 data) with
    | none => s.answer .outOfRange []
    | some bank =>
      let t := settleBank (s.setProbes { s.probes with pendingBank := some bank })
      t.answer .ok (bankReply t.probes)

/-- SET RACK SLOT (R148). -/
def setRackSlot (data : List Byte) (s : State) : State :=
  withLength 3 data s <|
    match indexOf 24 (field 0 1 data) with
    | none => s.answer .outOfRange []
    | some k =>
      let t := applyNote k (fieldWord 1 data) .host s
      let now := (t.probes.slots.get k).content
      (offerNote k now t).answer .ok (word now)

/-! ## Meanings -/

/-- The meaning of WRITE PROBE SET (R137). -/
def execWriteProbeSet (data : List Byte) (s : State) : Result := .next (writeProbeSet data s)

/-- The meaning of DELETE PROBE (R138). -/
def execDeleteProbe (data : List Byte) (s : State) : Result := .next (deleteProbe data s)

/-- The meaning of SELECT BANK (R139). -/
def execSelectBank (data : List Byte) (s : State) : Result := .next (selectBank data s)

/-- The meaning of SET RACK SLOT (R148). -/
def execSetRackSlot (data : List Byte) (s : State) : Result := .next (setRackSlot data s)

end Sys2Proof.Machine
end

