-- ==== Sys2Proof/Machine/HostPort.lean ====
section
/-! DEFINITION. The Host Port and the Event Unit (chapter 10): failed frames, the reply shifted out, READ,
ENABLE and ACKNOWLEDGE EVENTS, and the release hold. -/

namespace Sys2Proof.Machine

/-! ## The port -/

/-- A failed frame: the buffer takes FRAME and PORT ERROR is raised (R197). -/
def failFrame (r : PortReason) (s : State) : State := raisePortError r (s.answer .frame [])

/-- HOST FRAME CHECK FAILED (R197): a period in which no clock edge came is ignored (R195), and a frame
that passes every check is no failed frame (log 3). -/
def checkFailed (bytes : List Byte) (midByte : Bool) (s : State) : State :=
  if bytes.isEmpty && !midByte then s
  else match checkHostFrame bytes midByte with
    | some r => failFrame r s
    | none => s

/-- REPLY SHIFT OUT (R199): the status byte is taken and the reply goes out. -/
def shiftOut (s : State) : State :=
  s.setPort { s.port with shiftOut := replyBytes s.statusByte s.port.reply }

/-! ## Events -/

/-- An event set in three bytes (R205). -/
def eventBytes (e : EventSet) : List Byte := beBytes 3 e.toNat

/-- The kept values in the order of Table 10-6 (R206). -/
def keptBytes (k : Kept) : List Byte :=
  optional 2 word k.pointReady
  ++ optional 2 word k.overrun
  ++ optional 2 word k.segmentDone
  ++ optional 3 (fun v : RefuseReason × Tag => one v.1.num ++ word v.2) k.probeRefused
  ++ optional 4 (fun v : FaultReason × Option Tag => one v.1.num ++ optional 2 word v.2) k.motionFault
  ++ optional 3 cellSetBytes k.zoneWait
  ++ optional 3 cellSetBytes k.zoneWaitTimeout
  ++ optional 2 (fun v : Cell × Station => one v.1.val ++ one v.2.val) k.zoneOverstay
  ++ optional 4 (fun v : Station × CellSet => one v.1.val ++ cellSetBytes v.2) k.zoneConflict
  ++ optional 2 word k.changeDone
  ++ optional 3 (fun v : FailReason × Ident => one v.1.num ++ word v.2) k.changeFailed
  ++ optional 3 (fun v : SlotIx × Ident => one v.1.val ++ word v.2) k.rackConflict
  ++ optional 1 yesNo k.seatedChange
  ++ optional 1 (fun c : Chan => one c.val) k.sensorFault
  ++ optional 1 (fun p : Station => one p.val) k.peerLost
  ++ optional 3 (fun v : LinkReason × Option FrameKind =>
      one v.1.num ++ optional 1 (fun f : FrameKind => one f.code) v.2) k.linkFault
  ++ optional 1 (fun r => one (portReasonNum r)) k.portError

/-- The reply data of READ EVENTS (R206). -/
def eventReply (s : State) : List Byte :=
  eventBytes s.events.pending ++ eventBytes s.events.enable ++ yesNo s.attentionLine
    ++ yesNo s.events.releaseHold ++ keptBytes s.events.kept

/-- READ EVENTS (R206). -/
def readEvents (data : List Byte) (s : State) : State :=
  withLength 0 data s (s.answer .ok (eventReply s))

/-- ENABLE EVENTS (R206). -/
def enableEvents (data : List Byte) (s : State) : State :=
  withLength 3 data s <|
    match eventSetOf data with
    | none => s.answer .outOfRange []
    | some e => (s.setEvents { s.events with enable := e }).answer .ok (eventBytes e)

/-- ACKNOWLEDGE EVENTS (R207): the pending marks of the set go, and a release hold starts where one
did. -/
def acknowledgeEvents (data : List Byte) (s : State) : State :=
  withLength 3 data s <|
    match eventSetOf data with
    | none => s.answer .outOfRange []
    | some e =>
      let left := s.events.pending &&& ~~~e
      let hold := s.events.releaseHold || left != s.events.pending
      (s.setEvents { s.events with pending := left, releaseHold := hold }).answer .ok (eventBytes left)

/-- RELEASE HOLD END (R208). -/
def endReleaseHold (s : State) : State := s.setEvents { s.events with releaseHold := false }

/-! ## Meanings -/

/-- The meaning of HOST FRAME CHECK FAILED (R197). -/
def execHostFrameCheckFailed (bytes : List Byte) (midByte : Bool) (s : State) : Result :=
  .next (checkFailed bytes midByte s)

/-- The meaning of REPLY SHIFT OUT (R199). -/
def execReplyShiftOut (s : State) : Result := .next (shiftOut s)

/-- The meaning of READ EVENTS (R206). -/
def execReadEvents (data : List Byte) (s : State) : Result := .next (readEvents data s)

/-- The meaning of ENABLE EVENTS (R206). -/
def execEnableEvents (data : List Byte) (s : State) : Result := .next (enableEvents data s)

/-- The meaning of ACKNOWLEDGE EVENTS (R207). -/
def execAcknowledgeEvents (data : List Byte) (s : State) : Result := .next (acknowledgeEvents data s)

/-- The meaning of RELEASE HOLD END (R208). -/
def execReleaseHoldEnd (s : State) : Result := .next (endReleaseHold s)

end Sys2Proof.Machine
end

