-- ==== Sys2Proof/Machine/Reads.lean ====
section
/-! DEFINITION. The read commands and the layouts of their replies (R202, R204; log 12): READ STATUS, READ
TEMPERATURES, READ ZONE VIEW, READ RACK VIEW, READ PROBE and READ PEER. -/

namespace Sys2Proof.Machine

/-! ## READ STATUS -/

/-- The fields of one axis channel (R1). -/
def axisBytes (c : AxisChan) : List Byte :=
  count c.scale ++ yesNo c.referenced ++ one c.mode.num ++ count c.setpoint ++ yesNo c.lower
    ++ yesNo c.upper ++ yesNo c.ready ++ yesNo c.enable

/-- The following error (R9): zero in FAULT with the enable off. -/
def AxisChan.followingError (c : AxisChan) : Int :=
  if c.mode = .fault ∧ !c.enable then 0 else c.setpoint - c.scale

/-- The axis fields and the arm-retracted level (R1), and the following errors (R9). -/
def axesReply (x : Axes) : List Byte :=
  axisBytes x.chan.x ++ axisBytes x.chan.y ++ axisBytes x.chan.z ++ yesNo x.retracted
    ++ counts (x.chan.map AxisChan.followingError)

/-- A STOP is pending or decelerating (R49). -/
def State.stopShown (s : State) : Bool :=
  s.motion.stopPending
    || ((s.flying.map fun g => g.decel.isSome).getD false)
    || ((s.referenceRun.map (·.stopping)).getD false)

/-- The motion fields (R49): s of a segment in flight, or s_t and the back-off distance once touched. The state
of the segment in flight stands between its kind and L at all times, not in CHANGING alone (log 12). -/
def motionReply (s : State) : List Byte :=
  let head := s.motion.queue.head?
  let g := s.flying
  let untouched := g.filter fun x => x.touchedAt.isNone
  let touched := g.filter fun x => x.touchedAt.isSome
  one s.motion.state.num ++ yesNo s.runningWait ++ yesNo s.stopShown ++ one s.motion.queue.length
    ++ optional 2 word (head.bind (·.tag))
    ++ optional 1 (fun x : Segment => one x.kind.num) head
    ++ optional 1 (fun x : Segment => one x.state.num) head
    ++ optional 1 (fun x : Segment => one x.kind.num) g
    ++ optional 1 (fun x : Segment => one x.state.num) g
    ++ optional 4 (fun x : Segment => count x.len) g
    ++ optional 4 (fun x : Segment => count x.dist) untouched
    ++ optional 4 (fun x : Segment => count (x.touchedAt.getD 0)) touched
    ++ optional 4 (fun x : Segment => count x.back) touched

/-- The link fields (R97). -/
def linkReply (l : Link) : List Byte :=
  let first := (l.list.find? (·.sending)).orElse fun _ => l.list.head?
  one l.state.num ++ one l.run ++ one l.list.length
    ++ optional 1 (fun e : TxEntry => one e.frame.kind.code) first
    ++ optional 1 (fun e : TxEntry => one e.attempts) first

/-- The Point Queue fields (R194). -/
def pointsReply (s : State) : List Byte :=
  let p := s.points
  one p.records.length ++ one s.owedCount ++ one s.holdCount ++ yesNo p.hold ++ yesNo p.suspect
    ++ one p.overrun ++ word p.counter
    ++ optional 1 (fun b : Block => one b.holdLevel) s.station.config
    ++ optional 1 (fun b : Block => one b.hysteresis) s.station.config
    ++ optional 2 (fun r : PointRecord => word r.sequence) p.records.head?
    ++ optional 2 (fun r : PointRecord => word r.raw.tag) p.records.head?

/-- The kind of a computation: TOUCH 0, NO CONTACT 1 (R164). -/
def Work.num : Work → Nat
  | .touch _ => 0
  | .noContact _ => 1

/-- The host tag of a computation (R164). -/
def Work.tag : Work → Tag
  | .touch l => l.tag
  | .noContact r => r.tag

/-- The Correction Unit fields (R164); latch and request each hold work waiting, yes or no, at all times
(log 12). -/
def corrReply (s : State) : List Byte :=
  let w := s.corr.computing
  yesNo w.isSome ++ optional 1 (fun x : Work => one x.num) w
    ++ optional 2 (fun x : Work => word x.tag) w
    ++ yesNo s.probes.latch.isSome ++ yesNo s.corr.request.isSome

/-- The content of READ STATUS (R1, R9, R49, R97, R194, R164). -/
def statusReply (s : State) : List Byte :=
  axesReply s.axes ++ motionReply s ++ linkReply s.link ++ pointsReply s ++ corrReply s

/-- READ STATUS (R1, R49, R97, R194). -/
def readStatus (data : List Byte) (s : State) : State :=
  withLength 1 data s (answerPart (field 0 1 data) (statusReply s) s)

/-! ## READ TEMPERATURES -/

/-- The fields of one local channel (R131). -/
def channelBytes (c : Channel) : List Byte :=
  optional 1 (fun k : ChanKind => one k.num) c.kind ++ yesNo c.shared ++ one c.state.num
    ++ optional 2 temp c.reading ++ one c.window.length ++ one c.invalidRun ++ optional 2 temp c.last

/-- The peer that a quantity's primary names (R131). -/
def namedPeer (s : State) (i : Fin 5) : Option (Station × Chan) :=
  (sourceOf s i).bind fun src =>
    match src.primary with
    | .peer p c => some (p, c)
    | .own _ => none
    | .partMean => none

/-- The fields of one quantity (R131). The value that a source not fresh would give is marked absent, and so are the
fields of a PEER primary without one: the model's reading (log 12). -/
def quantityBytes (s : State) (i : Fin 5) : List Byte :=
  let q := s.temps.quantities.get i
  let np := namedPeer s i
  let e : Option Peer := np.bind fun v => s.peer v.1
  temp q.value ++ one q.tag.num ++ yesNo q.overrideOn ++ temp q.override
    ++ yesNo (primaryOf s i).isSome ++ yesNo (backupOf s i).isSome
    ++ optional 2 temp (primaryOf s i) ++ optional 2 temp (backupOf s i)
    ++ optional 1 (fun v : Station × Chan => yesNo (s.peer v.1).isSome) np
    ++ optional 1 (fun p : Peer => yesNo p.lost) e
    ++ optional 1 (fun r : Reading => one r.kind.code) (np.bind fun v => peerReading s v.1 v.2)

/-- The content of READ TEMPERATURES (R131). PART MEAN's mean is marked absent while it is not fresh: the model's
reading (log 12). -/
def temperaturesReply (s : State) : List Byte :=
  s.temps.channels.toList.flatMap channelBytes
    ++ one (partContributors s).length ++ optional 2 temp (partMean s) ++ yesNo (partMean s).isSome
    ++ (List.finRange 5).flatMap (quantityBytes s)
    ++ counts s.temps.datum ++ beBytes 2 s.temps.partCoeff

/-- READ TEMPERATURES (R131). -/
def readTemperatures (data : List Byte) (s : State) : State :=
  withLength 1 data s (answerPart (field 0 1 data) (temperaturesReply s) s)

/-! ## READ ZONE VIEW -/

/-- The fields of one cell (R54). -/
def cellBytes (s : State) (c : Cell) : List Byte :=
  let e := s.cell c
  let stationByte (p : Station) : List Byte := one p.val
  one e.state.num ++ optional 1 stationByte e.state.station
    ++ optional 1 (fun n : Byte => [n]) e.state.claimNumber
    ++ yesNo e.lost ++ optional 1 stationByte e.last
    ++ optional 1 (fun o : Owed => stationByte o.waiter) e.owed
    ++ optional 4 (fun o : Owed => time (s.clock - o.since)) e.owed
    ++ yesNo (s.waitingSet.has c)
    ++ optional 1 (fun d : Deferral => stationByte d.waiter) e.deferral

/-- The claim record (R55): CLAIMING 0, WAITING 1; without one each field is marked absent by itself, as
are the two of a yield-owed mark (log 12). -/
def claimBytes (o : Option Claim) : List Byte :=
  optional 1 (fun n : Byte => [n]) (o.bind (·.number))
    ++ optional 3 (fun c : Claim => cellSetBytes c.cells) o
    ++ optional 1 (fun c : Claim => yesNo c.waitingState) o
    ++ optional 3 (fun c : Claim => cellSetBytes c.waiting) o
    ++ optional 4 (fun c : Claim => time c.made) o
    ++ optional 1 (fun c : Claim => yesNo c.timeout) o
    ++ optional 1 (fun c : Claim => yesNo (c.owner == .join)) o

/-- The content of READ ZONE VIEW (R54). -/
def zoneReply (s : State) : List Byte :=
  (List.finRange 20).flatMap (cellBytes s) ++ cellSetBytes s.heldSet ++ cellSetBytes s.waitingSet
    ++ claimBytes s.zone.claim

/-- READ ZONE VIEW (R54). -/
def readZoneView (data : List Byte) (s : State) : State :=
  withLength 1 data s (answerPart (field 0 1 data) (zoneReply s) s)

/-! ## READ RACK VIEW -/

/-- The fields of one slot (R162). -/
def slotBytes (k : Slot) : List Byte := word k.content ++ one k.notedBy.num ++ yesNo k.unsent

/-- The content of READ RACK VIEW (R162). -/
def rackReply (s : State) : List Byte := s.probes.slots.toList.flatMap slotBytes

/-- READ RACK VIEW (R162). -/
def readRackView (data : List Byte) (s : State) : State :=
  withLength 1 data s (answerPart (field 0 1 data) (rackReply s) s)

/-! ## READ PROBE -/

/-- The fields of a qualification set (R162, Table 7-1), each absent without a set. -/
def setBytes (o : Option QualSet) : List Byte :=
  optional 1 (fun q : QualSet => yesNo q.valid) o
    ++ optional 4 (fun q : QualSet => count q.offset.x) o
    ++ optional 4 (fun q : QualSet => count q.offset.y) o
    ++ optional 4 (fun q : QualSet => count q.offset.z) o
    ++ optional 2 (fun q : QualSet => beBytes 2 q.radius) o
    ++ optional 2 (fun q : QualSet => temp q.qualTemp) o
    ++ optional 2 (fun q : QualSet => beBytes 2 q.limit) o
    ++ optional 2 (fun q : QualSet => beBytes 2 q.count) o

/-- The change record (R162); a failure reason none is marked absent, and without a record each field is
marked absent by itself (log 12). -/
def changeBytes (o : Option Change) : List Byte :=
  optional 1 (fun c : Change => one c.phase.num) o
    ++ optional 2 (fun c : Change => word c.target) o
    ++ optional 1 (fun k : SlotIx => one k.val) (o.bind (·.pick))
    ++ optional 1 (fun k : SlotIx => one k.val) (o.bind (·.drop))
    ++ optional 1 (fun c : Change => yesNo c.abort) o
    ++ optional 1 (fun r : FailReason => one r.num) (o.bind (·.failure))

/-- The content of READ PROBE (R162); the ident of the current probe NONE is marked absent, and so are the attempts
while no identity read is in progress (log 12). -/
def probeReply (e : Option LibEntry) (s : State) : List Byte :=
  let p := s.probes
  setBytes (e.map (·.setA)) ++ setBytes (e.map (·.setB))
    ++ one p.current.num ++ optional 2 word p.current.ident ++ bankReply p
    ++ yesNo p.seated ++ yesNo p.latchOpen
    ++ yesNo p.read.isSome ++ optional 1 (fun r : IdentRead => one r.attempts) p.read
    ++ changeBytes p.change
    ++ yesNo p.latch.isSome ++ optional 2 (fun l : Latch => word l.tag) p.latch

/-- The entry of the current probe when KNOWN (R162). -/
def State.currentEntry (s : State) : Option LibEntry :=
  match s.probes.current with
  | .known i => s.entry i
  | .none => none
  | .unknown _ => none

/-- READ PROBE (R162): 0000h names the current probe; the ident is checked before the part number (log
38). -/
def readProbe (data : List Byte) (s : State) : State :=
  withLength 3 data s <|
    let i := fieldWord 0 data
    let part := field 2 1 data
    if i = 0x0000#16 then answerPart part (probeReply s.currentEntry s) s
    else if !validIdent i then s.answer .outOfRange []
    else if (s.entry i).isNone then s.answer .unknownProbe []
    else answerPart part (probeReply (s.entry i) s) s

/-! ## READ PEER -/

/-- One reading of a report. -/
def peerReadingBytes (r : Reading) : List Byte :=
  one r.channel.val ++ one r.kind.code ++ one r.status.code ++ temp r.value

/-- The fields of a Peer Table entry (R106; log 14): JOINING 0, ACTIVE 1. Lost and time are absent for an
entry not present (R100), the rest until the first PRESENCE (Table 5-1). -/
def peerReply (o : Option Peer) (s : State) : List Byte :=
  let rep : Option Report := o.bind (·.report)
  yesNo o.isSome ++ optional 1 (fun e : Peer => yesNo e.lost) o
    ++ optional 4 (fun e : Peer => beBytes 4 (min 65535 (s.clock - e.lastHeard))) o
    ++ optional 1 (fun r : Report => yesNo r.active) rep
    ++ optional 3 (fun r : Report => cellSetBytes r.held) rep
    ++ optional 3 (fun r : Report => cellSetBytes r.waiting) rep
    ++ optional 2 (fun r : Report => word r.carried) rep
    ++ optional 1 (fun r : Report => one r.readings.length) rep
    ++ ((rep.map (·.readings)).getD []).flatMap peerReadingBytes

/-- READ PEER (R106). -/
def readPeer (data : List Byte) (s : State) : State :=
  withLength 1 data s <|
    match indexOf 8 (field 0 1 data) with
    | none => s.answer .outOfRange []
    | some p => s.answer .ok (peerReply (s.peer p) s)

/-! ## Meanings -/

/-- The meaning of READ STATUS. -/
def execReadStatus (data : List Byte) (s : State) : Result := .next (readStatus data s)

/-- The meaning of READ TEMPERATURES (R131). -/
def execReadTemperatures (data : List Byte) (s : State) : Result := .next (readTemperatures data s)

/-- The meaning of READ ZONE VIEW (R54). -/
def execReadZoneView (data : List Byte) (s : State) : Result := .next (readZoneView data s)

/-- The meaning of READ RACK VIEW (R162). -/
def execReadRackView (data : List Byte) (s : State) : Result := .next (readRackView data s)

/-- The meaning of READ PROBE (R162). -/
def execReadProbe (data : List Byte) (s : State) : Result := .next (readProbe data s)

/-- The meaning of READ PEER (R106). -/
def execReadPeer (data : List Byte) (s : State) : Result := .next (readPeer data s)

end Sys2Proof.Machine
end

