-- ==== Sys2Proof/Machine/Dispatch.lean ====
section
/-! DEFINITION. The effect of every command on everything but the queue. -/

namespace Sys2Proof.Machine

def exec (i : Instr) (s : State) : Host.Outcome State Fault Refusal :=
  match i with
  | .powerOn pins => Sys2Proof.Machine.execPowerOn pins s
  | .hostFrameCheckFailed bytes midByte => Sys2Proof.Machine.execHostFrameCheckFailed bytes midByte s
  | .replyShiftOut => Sys2Proof.Machine.execReplyShiftOut s
  | .configure data => Sys2Proof.Machine.execConfigure data s
  | .start data => Sys2Proof.Machine.execStart data s
  | .resetStation data pins => Sys2Proof.Machine.execResetStation data pins s
  | .resetLink data => Sys2Proof.Machine.execResetLink data s
  | .queueMove data => Sys2Proof.Machine.execQueueMove data s
  | .stop data => Sys2Proof.Machine.execStop data s
  | .resume data => Sys2Proof.Machine.execResume data s
  | .flushMoves data => Sys2Proof.Machine.execFlushMoves data s
  | .referenceAxis data => Sys2Proof.Machine.execReferenceAxis data s
  | .clearFault data => Sys2Proof.Machine.execClearFault data s
  | .changeProbe data => Sys2Proof.Machine.execChangeProbe data s
  | .abortChange data => Sys2Proof.Machine.execAbortChange data s
  | .identifyProbe data => Sys2Proof.Machine.execIdentifyProbe data s
  | .writeProbeSet data => Sys2Proof.Machine.execWriteProbeSet data s
  | .deleteProbe data => Sys2Proof.Machine.execDeleteProbe data s
  | .selectBank data => Sys2Proof.Machine.execSelectBank data s
  | .setRackSlot data => Sys2Proof.Machine.execSetRackSlot data s
  | .setFixedTemperature data => Sys2Proof.Machine.execSetFixedTemperature data s
  | .clearFixedTemperature data => Sys2Proof.Machine.execClearFixedTemperature data s
  | .setPart data => Sys2Proof.Machine.execSetPart data s
  | .callSample data => Sys2Proof.Machine.execCallSample data s
  | .forgetPeer data => Sys2Proof.Machine.execForgetPeer data s
  | .readPoint data => Sys2Proof.Machine.execReadPoint data s
  | .peekPoint data => Sys2Proof.Machine.execPeekPoint data s
  | .flushPoints data => Sys2Proof.Machine.execFlushPoints data s
  | .readStatus data => Sys2Proof.Machine.execReadStatus data s
  | .readTemperatures data => Sys2Proof.Machine.execReadTemperatures data s
  | .readZoneView data => Sys2Proof.Machine.execReadZoneView data s
  | .readRackView data => Sys2Proof.Machine.execReadRackView data s
  | .readProbe data => Sys2Proof.Machine.execReadProbe data s
  | .readPeer data => Sys2Proof.Machine.execReadPeer data s
  | .readEvents data => Sys2Proof.Machine.execReadEvents data s
  | .enableEvents data => Sys2Proof.Machine.execEnableEvents data s
  | .acknowledgeEvents data => Sys2Proof.Machine.execAcknowledgeEvents data s
  | .releaseHoldEnd => Sys2Proof.Machine.execReleaseHoldEnd s
  | .motionPeriod samples order => Sys2Proof.Machine.execMotionPeriod samples order s
  | .segmentComplete => Sys2Proof.Machine.execSegmentComplete s
  | .positionTimeout => Sys2Proof.Machine.execPositionTimeout s
  | .stopDecelerationEnd => Sys2Proof.Machine.execStopDecelerationEnd s
  | .scaleCount axis forward => Sys2Proof.Machine.execScaleCount axis forward s
  | .scaleFault axis => Sys2Proof.Machine.execScaleFault axis s
  | .referenceMark axis => Sys2Proof.Machine.execReferenceMark axis s
  | .referenceEnd => Sys2Proof.Machine.execReferenceEnd s
  | .referenceStopEnd => Sys2Proof.Machine.execReferenceStopEnd s
  | .touch counts => Sys2Proof.Machine.execTouch counts s
  | .correctionEnd => Sys2Proof.Machine.execCorrectionEnd s
  | .frameSendStart => Sys2Proof.Machine.execFrameSendStart s
  | .arbitrationLost => Sys2Proof.Machine.execArbitrationLost s
  | .duplicateStationMismatch => Sys2Proof.Machine.execDuplicateStationMismatch s
  | .earlySpoil own => Sys2Proof.Machine.execEarlySpoil own s
  | .frameSpoiled rx byOther => Sys2Proof.Machine.execFrameSpoiled rx byOther s
  | .duplicateStationFrame kind => Sys2Proof.Machine.execDuplicateStationFrame kind s
  | .frameDelivered => Sys2Proof.Machine.execFrameDelivered s
  | .claimAccepted sender number cells => Sys2Proof.Machine.execClaimAccepted sender number cells s
  | .settleWindowEnd station number => Sys2Proof.Machine.execSettleWindowEnd station number s
  | .objectAccepted sender target number cells => Sys2Proof.Machine.execObjectAccepted sender target number cells s
  | .waitAccepted sender cells => Sys2Proof.Machine.execWaitAccepted sender cells s
  | .claimRetryRoom => Sys2Proof.Machine.execClaimRetryRoom s
  | .zoneWaitTimeout => Sys2Proof.Machine.execZoneWaitTimeout s
  | .zoneOverstay cell => Sys2Proof.Machine.execZoneOverstay cell s
  | .releaseAccepted sender cells => Sys2Proof.Machine.execReleaseAccepted sender cells s
  | .deferralExpiry cell => Sys2Proof.Machine.execDeferralExpiry cell s
  | .presenceAccepted sender report => Sys2Proof.Machine.execPresenceAccepted sender report s
  | .peerLost peer => Sys2Proof.Machine.execPeerLost peer s
  | .rackNoteAccepted sender slot content => Sys2Proof.Machine.execRackNoteAccepted sender slot content s
  | .sampleCallAccepted sender conversions order => Sys2Proof.Machine.execSampleCallAccepted sender conversions order s
  | .presencePeriod => Sys2Proof.Machine.execPresencePeriod s
  | .listeningEnd => Sys2Proof.Machine.execListeningEnd s
  | .sampleTimer conversions order => Sys2Proof.Machine.execSampleTimer conversions order s
  | .dropTimeout => Sys2Proof.Machine.execDropTimeout s
  | .pickTimeout => Sys2Proof.Machine.execPickTimeout s
  | .identAnswer high low check => Sys2Proof.Machine.execIdentAnswer high low check s
  | .identAttemptTimeout => Sys2Proof.Machine.execIdentAttemptTimeout s
  | .lineIdle => Sys2Proof.Machine.execLineIdle s
  | .lineDriverFault => Sys2Proof.Machine.execLineDriverFault s

end Sys2Proof.Machine
end

