-- ==== Sys2Proof/Machine/Lines.lean ====
section
/-! DEFINITION. The lines of the part: what their bits spell as commands (R2, R79, R84 to R89, R143, R195,
R210), and what the station drives on them (R5, R6, R79, R144, R208). A bit or level is true for 1: high on a
pin, recessive on the room link. -/

namespace Sys2Proof.Machine

/-! ## Bits -/

/-- The low n bits of a number, most significant first. -/
def msbBits : Nat → Nat → List Bool
  | 0, _ => []
  | n + 1, x => x.testBit n :: msbBits n x

/-- The number that bits spell, most significant first. -/
def bitsNat (l : List Bool) : Nat := l.foldl (fun a b => 2 * a + if b then 1 else 0) 0

/-- The eight bits of a byte in the order sent. -/
def byteBits (b : Byte) : List Bool := msbBits 8 b.toNat

/-! ## Straps and scales -/

/-- The station number that the straps spell, STRAP 2 first (R210). -/
def strapNumber (s2 s1 s0 : Bool) : Station := Fin.ofNat 8 (bitsNat [s2, s1, s0])

/-- The place of a phase pair (A, B) in the forward sequence, in which A leads B (R2). -/
def phaseIndex : Bool × Bool → Nat
  | (false, false) => 0
  | (true, false) => 1
  | (true, true) => 2
  | (false, true) => 3

/-- What two consecutive samples of an axis's phase lines spell: nothing, a count forward or backward (R2),
or an illegal transition (R3). -/
def scaleInstr (a : Axis) (old new : Bool × Bool) : Option Instr :=
  match (phaseIndex new + 4 - phaseIndex old) % 4 with
  | 0 => none
  | 1 => some (.scaleCount a true)
  | 2 => some (.scaleFault a)
  | _ => some (.scaleCount a false)

/-! ## Characters (R79) -/

/-- A character: dominant start bit, eight data bits, recessive stop bit. -/
def characterBits (b : Byte) : List Bool := false :: byteBits b ++ [true]

/-- Characters one after another, without a gap. -/
def lineBits (chars : List Byte) : List Bool := chars.flatMap characterBits

/-- The first n groups of k bits. -/
def groups (k : Nat) : Nat → List Bool → List (List Bool)
  | 0, _ => []
  | n + 1, l => l.take k :: groups k n (l.drop k)

/-- The byte of a character's ten bits, and whether it has a framing error: a recessive start bit or a
dominant stop bit. -/
def readCharacter (c : List Bool) : Byte × Bool :=
  (BitVec.ofNat 8 (bitsNat ((c.drop 1).take 8)), c.headD true || !c.getLastD false)

/-- The characters in a run of bits, each with its framing error; what is left over is no character. -/
def readCharacters (bits : List Bool) : List (Byte × Bool) :=
  (groups 10 (bits.length / 10) bits).map readCharacter

/-- A whole frame as a receiver reads it: its characters, and whether one of them has a framing error. -/
def receptionOf (bits : List Bool) : Reception :=
  let l := readCharacters bits
  { chars := l.map (·.1), framing := l.any (·.2) }

/-- The character whose error calls for an early spoil: a framing error in character 0 or 1, or a payload
length above 34 in character 1 (R88). -/
def earlySpoilAt (bits : List Bool) : Option Nat :=
  match readCharacters bits with
  | (_, true) :: _ => some 0
  | _ :: (p, e) :: _ => if e ∨ 34 < p.toNat then some 1 else none
  | _ => none

/-- A receiver that found no error in characters 0 and 1 sees another station's early spoil in character 2: all
its ten bits are dominant, so that it meets a framing error at the stop bit (R88; log 29). -/
def spoiledByOther (bits : List Bool) : Bool :=
  (earlySpoilAt bits).isNone && (bits.drop 20).take 10 == List.replicate 10 false

/-- An identity answer of three characters, the ident high byte first and the check byte; a framing error in
any of them leaves the answer incomplete (R143). -/
def identInstr (bits : List Bool) : Option Instr :=
  match readCharacters bits with
  | [(h, false), (l, false), (c, false)] => some (.identAnswer h l c)
  | _ => none

/-! ## Arbitration (R84) -/

/-- The level of the wired-AND line while stations drive these levels: recessive only when none drives it. -/
def lineLevel (driven : List Bool) : Bool := driven.all id

/-- A station that drives these bits loses arbitration to one that drives those: at the first difference it
drives recessive. -/
def losesTo : List Bool → List Bool → Bool
  | m :: mine, o :: other => if m = o then losesTo mine other else m
  | _, _ => false

/-- What a sender's mismatch after character 0 spells, by the run of dominant bit times that includes it
(R85). -/
def mismatchInstr (run : Nat) : Instr :=
  if 10 ≤ run then .earlySpoil false else .duplicateStationMismatch

/-! ## The end of a frame at a receiver (R86, R87, R89) -/

/-- What a frame framed to its end spells at a receiver: a second station of its number, a spoiled frame where
it found an error or the slot is dominant, else the accepted frame. -/
def frameEndInstr (own : Station) (conv : Conversions) (order : List Chan) (bits : List Bool)
    (slotDominant : Bool) : Instr :=
  let rx := receptionOf bits
  if receptionSender rx = some own then .duplicateStationFrame (receptionKind rx)
  else if receptionBad rx || slotDominant then .frameSpoiled rx slotDominant
  else match decodeFrame rx.chars with
    | some (p, m) => acceptedInstr conv order p m
    | none => .frameSpoiled rx slotDominant

/-- What a frame that begins on an idle line spells at a receiver: an early spoil where the error calls for
one, or where another station spoils it early, which the receiver only discards (R88), both whatever character 0
carries (log 30), else what its end spells. -/
def receptionInstr (own : Station) (conv : Conversions) (order : List Chan) (bits : List Bool)
    (slotDominant : Bool) : Instr :=
  if (earlySpoilAt bits).isSome then .earlySpoil true
  else if spoiledByOther bits then .earlySpoil false
  else frameEndInstr own conv order bits slotDominant

/-- The station spoils frames that it receives: its link is LISTENING or ON, and it frames the line (R86,
R87, R88, R93). -/
def State.spoils (s : State) : Bool := s.frames && s.judges && s.sendingEntry.isNone

/-- The station drives the spoil slot of a frame it receives (R86, R87, R93). -/
def State.drivesSlot (s : State) (rx : Reception) : Bool :=
  s.spoils && (receptionBad rx || receptionSender rx == some s.own)

/-- The bit times of a frame with payload length p, without its spoil slot (R81). -/
def frameBitTimes (p : Nat) : Nat := 10 * (4 + p)

/-- The level that a receiver drives at a bit time, counted from the frame's start bit, having framed these
bits: dominant through the 10 bit times after the character that calls for an early spoil (R88), or through
the spoil slot behind the frame's last bit (R87); recessive at any other, and in a frame that another station
spoiled early, which it has discarded (R88). -/
def State.receiverLevel (s : State) (bits : List Bool) (time : Nat) : Bool :=
  let run (start : Nat) : Bool := start ≤ time && time < start + 10
  match earlySpoilAt bits with
  | some k => !(s.spoils && run (10 * (k + 1)))
  | none => !(!spoiledByOther bits && s.drivesSlot (receptionOf bits) && run bits.length)

/-! ## Select periods (R195) -/

/-- The whole bytes of a select period's bits, and whether it ends in the middle of a byte. -/
def readSelect (bits : List Bool) : List Byte × Bool :=
  ((groups 8 (bits.length / 8) bits).map fun b => BitVec.ofNat 8 (bitsNat b), bits.length % 8 != 0)

/-- The command that a select period spells; none without a clock edge (R195). -/
def selectInstr (pins : Pins) (bits : List Bool) : Option Instr :=
  if bits.isEmpty then none
  else decodeHostFrame pins (readSelect bits).1 (readSelect bits).2

/-- The command of a select period that power-on did not find in progress; one in progress at power-on is no
frame (R209). -/
def selectPeriodInstr (pins : Pins) (atPowerOn : Bool) (bits : List Bool) : Option Instr :=
  if atPowerOn then none else selectInstr pins bits

/-! ## What the station drives -/

/-- The setpoint word that an axis sends in a motion period: 32 bits, none in mode OFF (R6). -/
def AxisChan.setpointWord (c : AxisChan) : Option (List Bool) :=
  if c.mode = .off then none else some (msbBits 32 (c.setpoint % 2 ^ 32).toNat)

/-- The levels and words that the station puts out. -/
structure Outputs where
  attention : Bool
  latchOpen : Bool
  enable : V3 Bool
  setpointWord : V3 (Option (List Bool))
  linkTx : List Bool
  hostOut : List Bool
  identLow : Bool
deriving DecidableEq, Repr

/-- The request of an identity attempt holds the identity line low for 1 ms (R143). -/
def State.requestsIdent (s : State) : Bool :=
  match s.probes.read with
  | some r => decide (s.clock < r.since + 1)
  | none => false

/-- The outputs of a state (R5, R6, R79, R143, R144, R199, R208): the room link carries the frame being sent,
the host port the reply being shifted out. -/
def State.outputs (s : State) : Outputs where
  attention := s.attentionLine
  latchOpen := s.probes.latchOpen
  enable := s.axes.chan.map (·.enable)
  setpointWord := s.axes.chan.map AxisChan.setpointWord
  linkTx := lineBits (s.link.lineOut.getD [])
  hostOut := s.port.shiftOut.flatMap byteBits
  identLow := s.requestsIdent

/-- The bits on the host port's data output over n clocks of a select period (R199): the reply, and behind its
last byte 00h for as long as the host clocks. -/
def Outputs.hostClocked (o : Outputs) (n : Nat) : List Bool :=
  o.hostOut.take n ++ List.replicate (n - o.hostOut.length) false

end Sys2Proof.Machine
end

