-- ==== Sys2Proof/Safety.lean ====
section
/-! DEFINITION. What a sound state of the station is: the invariants that claims are stated with. -/

namespace Sys2Proof.Machine

/-! ## Frames -/

/-- The parts of the state. -/
inductive Part where
  | pending
  | clock
  | station
  | axes
  | motion
  | zone
  | link
  | peers
  | temps
  | probes
  | corr
  | points
  | port
  | events
deriving DecidableEq, Repr

/-- Two states agree in a part. -/
def State.sameIn (s t : State) (p : Part) : Prop :=
  match p with
  | .pending => t.pending = s.pending
  | .clock => t.clock = s.clock
  | .station => t.station = s.station
  | .axes => t.axes = s.axes
  | .motion => t.motion = s.motion
  | .zone => t.zone = s.zone
  | .link => t.link = s.link
  | .peers => t.peers = s.peers
  | .temps => t.temps = s.temps
  | .probes => t.probes = s.probes
  | .corr => t.corr = s.corr
  | .points => t.points = s.points
  | .port => t.port = s.port
  | .events => t.events = s.events

/-- The second state differs from the first at most in the parts of a list. -/
def State.sameBut (s t : State) (ps : List Part) : Prop := ∀ p, p ∉ ps → s.sameIn t p

/-- The parts that a command may change; a command changes no others. -/
def touchedBy : Instr → List Part
  | .powerOn _ => [.clock, .station, .axes, .motion, .zone, .link, .peers, .temps, .probes, .corr,
      .points, .port, .events]
  | .hostFrameCheckFailed _ _ => [.port, .events]
  | .replyShiftOut => [.port]
  | .configure _ => [.station, .temps, .port]
  | .start _ => [.station, .axes, .motion, .zone, .link, .peers, .probes, .port, .events]
  | .resetStation _ _ => [.clock, .station, .axes, .motion, .zone, .link, .peers, .temps, .probes,
      .corr, .points, .port, .events]
  | .resetLink _ => [.zone, .link, .peers, .temps, .probes, .port]
  | .queueMove _ => [.axes, .motion, .zone, .link, .peers, .probes, .port, .events]
  | .stop _ => [.axes, .motion, .zone, .link, .peers, .probes, .port, .events]
  | .resume _ => [.axes, .motion, .zone, .link, .peers, .probes, .port, .events]
  | .flushMoves _ => [.motion, .zone, .link, .peers, .port, .events]
  | .referenceAxis _ => [.axes, .motion, .port]
  | .clearFault _ => [.axes, .motion, .port]
  | .changeProbe _ => [.axes, .motion, .zone, .link, .peers, .probes, .port, .events]
  | .abortChange _ => [.axes, .motion, .zone, .link, .peers, .probes, .port, .events]
  | .identifyProbe _ => [.probes, .port]
  | .writeProbeSet _ => [.link, .probes, .port, .events]
  | .deleteProbe _ => [.probes, .port]
  | .selectBank _ => [.probes, .port]
  | .setRackSlot _ => [.link, .probes, .port, .events]
  | .setFixedTemperature _ => [.temps, .port]
  | .clearFixedTemperature _ => [.temps, .port]
  | .setPart _ => [.temps, .port]
  | .callSample _ => [.link, .port, .events]
  | .forgetPeer _ => [.axes, .motion, .zone, .link, .peers, .temps, .probes, .port, .events]
  | .readPoint _ => [.axes, .motion, .probes, .points, .port, .events]
  | .peekPoint _ => [.port]
  | .flushPoints _ => [.axes, .motion, .probes, .points, .port, .events]
  | .readStatus _ => [.port]
  | .readTemperatures _ => [.port]
  | .readZoneView _ => [.port]
  | .readRackView _ => [.port]
  | .readProbe _ => [.port]
  | .readPeer _ => [.port]
  | .readEvents _ => [.port]
  | .enableEvents _ => [.port, .events]
  | .acknowledgeEvents _ => [.port, .events]
  | .releaseHoldEnd => [.events]
  | .motionPeriod _ _ => [.clock, .axes, .motion, .zone, .link, .peers, .probes, .events]
  | .segmentComplete => [.axes, .motion, .zone, .link, .peers, .probes, .corr, .points, .events]
  | .positionTimeout => [.clock, .axes, .motion, .zone, .probes, .events]
  | .stopDecelerationEnd => [.axes, .motion, .zone, .link, .peers, .probes, .events]
  | .scaleCount _ _ => [.axes, .motion, .zone, .link, .peers, .probes, .events]
  | .scaleFault _ => [.axes, .motion, .zone, .link, .peers, .probes, .events]
  | .referenceMark _ => [.axes, .motion]
  | .referenceEnd => [.axes, .motion, .zone, .link, .events]
  | .referenceStopEnd => [.axes, .motion]
  | .touch _ => [.axes, .motion, .zone, .probes, .corr, .points, .events]
  | .correctionEnd => [.axes, .motion, .probes, .corr, .points, .events]
  | .frameSendStart => [.link]
  | .arbitrationLost => [.link]
  | .duplicateStationMismatch => [.axes, .motion, .zone, .link, .peers, .probes, .events]
  | .earlySpoil _ => [.axes, .motion, .zone, .link, .peers, .probes, .events]
  | .frameSpoiled _ _ => [.axes, .motion, .zone, .link, .peers, .probes, .events]
  | .duplicateStationFrame _ => [.axes, .motion, .zone, .link, .peers, .probes, .events]
  | .frameDelivered => [.link, .peers, .probes]
  | .claimAccepted _ _ _ => [.axes, .motion, .zone, .link, .peers, .temps, .probes, .events]
  | .settleWindowEnd _ _ => [.clock, .axes, .motion, .zone, .link, .peers, .probes, .events]
  | .objectAccepted _ _ _ _ => [.axes, .motion, .zone, .link, .peers, .temps, .probes, .events]
  | .waitAccepted _ _ => [.zone, .link, .peers, .temps]
  | .claimRetryRoom => [.axes, .motion, .zone, .link, .peers, .probes, .events]
  | .zoneWaitTimeout => [.clock, .zone, .events]
  | .zoneOverstay _ => [.clock, .zone, .events]
  | .releaseAccepted _ _ => [.axes, .motion, .zone, .link, .peers, .temps, .probes, .events]
  | .deferralExpiry _ => [.clock, .axes, .motion, .zone, .link, .peers, .probes, .events]
  | .presenceAccepted _ _ => [.axes, .motion, .zone, .link, .peers, .temps, .probes, .events]
  | .peerLost _ => [.clock, .axes, .motion, .zone, .link, .peers, .temps, .probes, .events]
  | .rackNoteAccepted _ _ _ => [.zone, .link, .peers, .temps, .probes, .events]
  | .sampleCallAccepted _ _ _ => [.zone, .link, .peers, .temps, .events]
  | .presencePeriod => [.clock, .link, .peers, .events]
  | .listeningEnd => [.clock, .station, .axes, .motion, .zone, .link, .peers, .probes, .events]
  | .sampleTimer _ _ => [.clock, .temps, .events]
  | .dropTimeout => [.clock, .axes, .motion, .zone, .link, .peers, .probes, .events]
  | .pickTimeout => [.clock, .axes, .motion, .zone, .link, .peers, .probes, .events]
  | .identAnswer _ _ _ => [.axes, .motion, .zone, .link, .peers, .probes, .events]
  | .identAttemptTimeout => [.clock, .axes, .motion, .zone, .link, .peers, .probes, .events]
  | .lineIdle => [.link]
  | .lineDriverFault => [.axes, .motion, .zone, .link, .peers, .probes, .events]

/-! ## Words that the statements share -/

/-- The data lengths of a command code, least and greatest (Table 10-5). -/
def commandLength (code : Nat) : Option (Nat × Nat) :=
  if code = 0 then none
  else [(3, 60), (0, 0), (0, 0), (0, 0), (17, 17), (0, 0), (0, 0), (0, 0), (1, 1), (0, 0), (2, 2),
    (0, 0), (0, 0), (22, 22), (2, 2), (1, 1), (3, 3), (3, 3), (1, 1), (14, 14), (0, 0), (1, 1),
    (0, 0), (0, 0), (0, 0), (1, 1), (1, 1), (1, 1), (1, 1), (3, 3), (1, 1), (0, 0), (3, 3),
    (3, 3)][code - 1]?

/-- The coordinates in three signed 32-bit values of a block from a byte on lie within the travel (Table
4-1 of 00_scope.md). -/
def travelAt (off : Nat) (b : List Byte) : Prop :=
  (0 ≤ fieldInt32 off b ∧ fieldInt32 off b ≤ 80000000)
    ∧ (0 ≤ fieldInt32 (off + 4) b ∧ fieldInt32 (off + 4) b ≤ 40000000)
    ∧ (0 ≤ fieldInt32 (off + 8) b ∧ fieldInt32 (off + 8) b ≤ 40000000)

/-- The soft limits at a byte lie within a travel, the lower below the upper. -/
def softAt (off : Nat) (travel : Int) (b : List Byte) : Prop :=
  0 ≤ fieldInt32 off b ∧ fieldInt32 off b < fieldInt32 (off + 4) b
    ∧ fieldInt32 (off + 4) b ≤ travel

/-- An unsigned value of a block at a byte, of a number of bytes, lies between two others. -/
def fieldBetween (off n lo hi : Nat) (b : List Byte) : Prop :=
  lo ≤ field off n b ∧ field off n b ≤ hi

/-- A field of a configuration block lies in the range of Table 11-2, read from the bytes where the table
puts it; of field 14 also the bytes that its kind does not use (log 33). -/
def inTableRange (b : List Byte) : Nat → Prop
  | 1 => ∀ c : Cell, fieldInt32 (12 * c.val) b < fieldInt32 (12 * c.val + 4) b
  | 2 => 0 ≤ fieldInt32 240 b ∧ fieldInt32 240 b ≤ 2000000
  | 3 => ∀ k : SlotIx, travelAt (244 + 24 * k.val) b ∧ travelAt (256 + 24 * k.val) b
  | 4 => softAt 820 80000000 b ∧ softAt 828 40000000 b ∧ softAt 836 40000000 b
  | 5 => fieldBetween 844 2 1 20000 b
  | 6 => travelAt 846 b
  | 7 => fieldBetween 858 2 1 20000 b ∧ fieldBetween 860 2 1 20000 b ∧ fieldBetween 862 2 1 20000 b
  | 8 => fieldBetween 864 2 1 10000 b
  | 9 => fieldBetween 866 4 1 1000000 b
  | 10 => fieldBetween 870 4 0 100000 b
  | 11 => fieldBetween 874 4 0 1000000 b
  | 12 => fieldBetween 878 2 0 3000 b ∧ fieldBetween 880 2 0 3000 b ∧ fieldBetween 882 2 0 3000 b
  | 13 => ∀ c : Chan, fieldBetween (884 + 2 * c.val) 1 0 6 b ∧ fieldBetween (885 + 2 * c.val) 1 0 1 b
  | 14 => ∀ i : Fin 5, fieldBetween (900 + 5 * i.val) 1 0 (if i = 4 then 2 else 1) b
      ∧ fieldBetween (901 + 5 * i.val) 1 0 7 b ∧ fieldBetween (902 + 5 * i.val) 1 0 7 b
      ∧ fieldBetween (903 + 5 * i.val) 1 0 1 b ∧ fieldBetween (904 + 5 * i.val) 1 0 7 b
  | 15 => fieldBetween 925 2 0 500 b
  | 16 => (field 927 1 b = 0 ∧ field 928 1 b = 0)
      ∨ (fieldBetween 927 1 8 64 b ∧ field 928 1 b < field 927 1 b)
  | 17 => fieldBetween 929 1 1 60 b ∧ fieldBetween 930 1 1 60 b
  | _ => True

/-- The code of an axis in command data (Table 10-8). -/
def axisNum : Axis → Nat
  | .x => 0
  | .y => 1
  | .z => 2

/-- The data bytes of QUEUE MOVE (Table 10-8); kind: the byte that names it. -/
def moveData (tag : Tag) (kind : Nat) (target : V3 Int) (feed : Nat) : List Byte :=
  word tag ++ one kind ++ beSigned 4 target.x ++ beSigned 4 target.y ++ beSigned 4 target.z
    ++ beBytes 2 feed

/-- The data bytes of WRITE PROBE SET (Table 10-8). -/
def setData (i : Ident) (bank : Bank) (q : QualSet) : List Byte :=
  word i ++ one bank.num ++ yesNo q.valid ++ beSigned 4 q.offset.x ++ beSigned 4 q.offset.y
    ++ beSigned 4 q.offset.z ++ beBytes 2 q.radius ++ beSigned 2 q.qualTemp ++ beBytes 2 q.limit

/-- The samples of a period show no limit switch active, every drive ready, and the seated line as it was (R7,
R8, R144). -/
def State.quiet (s : State) (v : Samples) : Prop :=
  (∀ a, v.lower.get a = false ∧ v.upper.get a = false ∧ v.ready.get a = true)
    ∧ v.seated = s.probes.seated

/-- A point lies within the following limit of the scale counts (R9). -/
def State.follows (s : State) (p : V3 Int) : Prop :=
  ∀ a, (p.get a - (s.axis a).scale).natAbs ≤ s.cfg.followLimit

/-- No claim stands, no request is held back, and nothing waits for the end of a claim's window (R30,
R47, R56). -/
def State.calm (s : State) : Prop :=
  s.zone.claim = none ∧ s.zone.heldBack = none ∧ s.motion.deferCurrent = none
    ∧ s.motion.deferHandOver = none

/-- The peer is not marked lost, so that a frame of it ends no loss (R104). -/
def State.notLost (s : State) (p : Station) : Prop := s.isLost p = false

/-- An event of a kind is pending (R205). -/
def State.isPending (s : State) (k : EventKind) : Prop := s.events.pending &&& k.bit ≠ 0#20

/-- A frame stands in the transmit list, newly placed (R94). -/
def State.listed (s : State) (f : TxFrame) : Prop :=
  ({ frame := f, attempts := 0, sending := false } : TxEntry) ∈ s.link.list

/-- The second state follows the first by a hand-over of a keep set (R68, R70): the cells outside it that the
station holds, and the held cells owed to another, are released and named by a RELEASE; with the link ON they are
FREE, and those owed carry a deferral mark toward their waiter; the others stay. -/
def State.handsOver (s : State) (keep : CellSet) (t : State) : Prop :=
  let rel := CellSet.minus s.heldSet keep ||| s.owedSet
  t.heldSet = CellSet.minus s.heldSet rel
    ∧ (∀ c, rel.has c = false → t.cell c = s.cell c)
    ∧ (s.link.state = .on → ∀ c, rel.has c = true → t.cell c = { s.cell c with
        state := .free, owed := none
        deferral := match (s.cell c).owed with
          | some o => some { waiter := o.waiter, since := s.clock }
          | none => (s.cell c).deferral })
    ∧ (rel ≠ 0#20 → s.link.state ≠ .silent → s.link.list.length < 8 →
        (∀ e ∈ s.link.list, e.frame.kind ≠ .release) → t.listed (.release rel))
    ∧ (rel = 0#20 → t.zone = s.zone ∧ t.link = s.link)

/-- What a sample makes of a channel (R117 to R120): nothing without a kind or UNUSED; a value in range
is limited to 50 either side of the reading and joins the newest three samples, and the rounded mean is
the reading; any other sample counts as invalid, VALID becomes HOLDING, and the tenth in a run of a
channel STARTING or HOLDING makes it FAILED. -/
def Channel.followsSample (c : Channel) (v : Option Int) (d : Channel) : Prop :=
  (c.kind = none ∨ c.kind = some .unused → d = c)
    ∧ ∀ k, c.kind = some k → k ≠ .unused →
      (∀ x, v = some x → -1000 ≤ x → x ≤ 6000 →
        d.state = .valid ∧ d.invalidRun = 0 ∧ d.reading = some (mean d.window)
          ∧ d.last = d.reading
          ∧ d.window = c.window.drop (c.window.length - 3) ++ [match c.reading with
              | some r => max (r - 50) (min (r + 50) x)
              | none => x])
        ∧ ((∀ x, v = some x → x < -1000 ∨ 6000 < x) →
          (c.state = .valid → d = { c with state := .holding, invalidRun := min 10 (c.invalidRun + 1) })
            ∧ (c.state = .starting ∨ c.state = .holding →
              (c.invalidRun < 9 → d = { c with invalidRun := c.invalidRun + 1 })
                ∧ (9 ≤ c.invalidRun → d = { c with state := .failed, window := [], reading := none,
                                                   invalidRun := 10 })))

/-! ## Soundness of the blocks -/

/-- The Point Queue is sound: at most 64 records (R181), an overrun count of at most 255 (R184), and the
suspect flag exactly when a record carries a tag (R191). -/
def Points.Sound (p : Points) : Prop :=
  p.records.length ≤ 64 ∧ p.overrun ≤ 255 ∧ p.suspect = suspectOf p.records

/-- The list stands in the order of the kind codes (R94). -/
def listSorted (l : List TxEntry) : Prop :=
  l.Pairwise fun e f => e.frame.kind.code ≤ f.frame.kind.code

/-- The Link Controller is sound: at most 8 frames in kind order (R94), each with fewer than 16 spoiled
attempts (R91), at most one being sent; none while SILENT (R94), no OBJECT, CLAIM or WAIT while DEAF
(R93); a run of at most 8, reached in DEAF alone (R92). -/
def Link.Sound (l : Link) : Prop :=
  l.list.length ≤ 8 ∧ listSorted l.list ∧ (∀ e ∈ l.list, e.attempts < 16)
    ∧ l.list.countP (·.sending) ≤ 1
    ∧ (l.state = .silent → l.list = [])
    ∧ (l.state = .deaf → ∀ e ∈ l.list, e.frame.deafDrops = false)
    ∧ l.run ≤ 8 ∧ (l.state ≠ .deaf → l.run < 8)

/-- The Motion Unit is sound: at most 16 records (R21); CHANGING exactly while a change record stands
(R151, R156), REFERENCING exactly while a reference is in progress (R15), with the queue empty and the
axis unreferenced (R15, R23); an internal segment stands in CHANGING alone and is no PROBE (R25). -/
def State.MotionSound (s : State) : Prop :=
  s.motion.queue.length ≤ 16
    ∧ (s.motion.state = .changing ↔ s.probes.change.isSome)
    ∧ (s.motion.state = .referencing ↔ s.motion.reference.isSome)
    ∧ (∀ r, s.motion.reference = some r →
        s.motion.queue = [] ∧ (s.axis r.axis).referenced = false)
    ∧ (∀ g, s.motion.internal = some g → s.motion.state = .changing ∧ g.kind ≠ .probe)

/-- The hold flag after the hold count went from a former value to one now, with hold level and hysteresis
(R188): it sets on a rise to the level, clears on a fall to the level less the hysteresis, and else stays. -/
def holdFollows (level hyst before now : Nat) (flag flag' : Bool) : Prop :=
  let sets := level ≠ 0 ∧ flag = false ∧ before < now ∧ level ≤ now
  let clears := level ≠ 0 ∧ flag = true ∧ now < before ∧ now + hyst ≤ level
  (sets → flag' = true) ∧ (clears → flag' = false) ∧ (¬ sets → ¬ clears → flag' = flag)

/-- A PROBE in flight that has not been touched, whose record is still to come (R190). -/
def State.recordToCome (s : State) : Prop :=
  ∃ g ∈ s.motion.queue, g.kind = .probe ∧ g.state.flying = true ∧ g.touchedAt = none

/-- The hold is sound (R22, R27, R187, R188, R190): only the head is in flight, in motion RUNNING alone, and
only untouched while RUNNING; in CONFIG there is no record, no work, no hold, no queue and no change; without
a hold level the flag is off; with one, the hold count never exceeds it and stays below it while the flag is
off or an untouched PROBE is in flight, and a set flag has a count above the level less the hysteresis. -/
def State.HoldSound (s : State) : Prop :=
  (∀ g ∈ s.motion.queue.tail, g.state.flying = false)
    ∧ (∀ g ∈ s.motion.queue, g.state.flying = true →
        s.motion.state = .running ∧ (g.state = .running → g.touchedAt = none))
    ∧ (s.station.state = .config → s.holdCount = 0 ∧ s.points.hold = false ∧ s.motion.queue = []
        ∧ s.probes.change = none)
    ∧ (s.cfg.holdLevel = 0 → s.points.hold = false)
    ∧ (s.cfg.holdLevel ≠ 0 →
        s.holdCount ≤ s.cfg.holdLevel
          ∧ (s.points.hold = false ∨ s.recordToCome → s.holdCount < s.cfg.holdLevel)
          ∧ (s.points.hold = true → s.cfg.holdLevel ≤ s.holdCount + (s.cfg.hysteresis - 1)))

/-- A waiting request with an empty touch latch was filled before whatever the latch takes next (R164). -/
def State.WorkOrdered (s : State) : Prop :=
  s.probes.latch = none → s.corr.request.isSome = true → s.corr.requestFirst = true

/-- The Zone Unit's claim is sound (R55, R57, R100): its waiting set lies in its cells, and is empty while
CLAIMING, when it has a number; while the window of that number runs every cell of it is CLAIMED by the
station under that number; the station's own Peer Table entry is not present; in CONFIG the link is SILENT
and no window runs. -/
def State.ZoneSound (s : State) : Prop :=
  (∀ c, s.zone.claim = some c →
      CellSet.minus c.waiting c.cells = 0#20
        ∧ (c.waitingState = false → c.waiting = 0#20 ∧ c.number.isSome
            ∧ ∀ n, c.number = some n → (s.window s.own n).isSome →
                ∀ k, c.cells.has k = true → (s.cell k).state = .claimed s.own n))
    ∧ s.peer s.own = none
    ∧ (s.station.state = .config → s.link.state = .silent ∧ s.zone.windows = [])

/-- The frames of the station's own that reach it are those it sent (R55, R57, R66): its CLAIM carries a number
given already, and the standing claim's cells where it carries its number; and no window of its own runs under
its next claim number, which comes again after 256 claims. -/
def State.ownFramesTrue (s : State) : Prop :=
  (∀ n cs rest, s.pending = .claimAccepted s.own n cs :: rest → n ≠ s.zone.nextNumber
      ∧ ∀ c, s.zone.claim = some c → c.waitingState = false → c.number = some n → cs = c.cells)
    ∧ s.window s.own s.zone.nextNumber = none

/-- The scale counts are signed 32-bit counts (R2). -/
def Axes.Sound (x : Axes) : Prop := ∀ a, fits32 (x.chan.get a).scale = true

/-- The reference values of the block in force are signed 32-bit counts (R16). -/
def State.ScalesSound (s : State) : Prop :=
  s.axes.Sound ∧ ∀ a, fits32 (s.cfg.refValues.get a) = true

/-- A channel's samples lie in the range of a temperature (R115, R118). -/
def Channel.Sound (c : Channel) : Prop :=
  (∀ v ∈ c.window, temperatureOk v = true) ∧ (∀ v, c.reading = some v → temperatureOk v = true)
    ∧ (∀ v, c.last = some v → temperatureOk v = true) ∧ c.invalidRun ≤ 10

/-- Every temperature of the station lies within -1,000 to 6,000 (R115, R123): channels, quantities,
overrides, and the peers' recorded readings. -/
def State.TempsSound (s : State) : Prop :=
  (∀ c, (s.temps.channels.get c).Sound)
    ∧ (∀ i, temperatureOk (s.temps.quantities.get i).value = true
        ∧ temperatureOk (s.temps.quantities.get i).override = true)
    ∧ (∀ p e r x, s.peer p = some e → e.report = some r → x ∈ r.readings →
        temperatureOk x.value = true)

/-- The library is sound (R136): at most 16 entries, valid idents without repeats, counts of at most
65,535. -/
def librarySound (l : List LibEntry) : Prop :=
  l.length ≤ 16 ∧ (l.map (·.ident)).Nodup
    ∧ ∀ e ∈ l, validIdent e.ident = true ∧ e.setA.count ≤ 65535 ∧ e.setB.count ≤ 65535

/-- The rack view is sound (R146): each valid ident stands in at most one slot, and never both in a slot and
as the current probe. -/
def rackSound (p : Probes) : Prop :=
  (∀ j k, validIdent (p.slots.get j).content = true →
      (p.slots.get j).content = (p.slots.get k).content → j = k)
    ∧ ∀ k, validIdent (p.slots.get k).content = true →
        p.current.ident ≠ some (p.slots.get k).content

/-- The bank selector is sound: a bank is pending only while a PROBE segment is RUNNING, TOUCHED or RETRACTING
(R139). -/
def State.BankSound (s : State) : Prop := s.probes.pendingBank.isSome = true → s.probeBusy = true

/-- A KNOWN current probe has its entry (R140), and so has the target of a change in progress (R138). -/
def State.entriesStand (s : State) : Prop :=
  (∀ i, s.probes.current = .known i → (s.entry i).isSome)
    ∧ ∀ ch, s.probes.change = some ch → validIdent ch.target = true → (s.entry ch.target).isSome

end Sys2Proof.Machine
end

