-- ==== Sys2Proof/WellFormed.lean ====
section
/-! DEFINITION. Which terms are commands that the outside can send. -/

namespace Sys2Proof

/-- A report that a PRESENCE can carry (Table 4-3). -/
def Report.wellFormed (r : Report) : Bool :=
  r.readings.length ≤ 8 && channelsDistinct r.readings
    && r.readings.all fun x => temperatureOk x.value

/-- A host frame carries at most 60 data bytes (Table 10-1). -/
def dataFits (data : List Byte) : Bool := data.length ≤ 60

/-- The command is one that can arrive: data that a frame can carry, a failed frame that does fail,
orders without repeats, a report that a PRESENCE can carry, characters that a frame can have. -/
def Instr.wellFormed : Instr → Bool
  | .powerOn _ => true
  | .hostFrameCheckFailed b m => !(b.isEmpty && !m) && (checkHostFrame b m).isSome
  | .replyShiftOut => true
  | .configure d => dataFits d
  | .start d => dataFits d
  | .resetStation d _ => dataFits d
  | .resetLink d => dataFits d
  | .queueMove d => dataFits d
  | .stop d => dataFits d
  | .resume d => dataFits d
  | .flushMoves d => dataFits d
  | .referenceAxis d => dataFits d
  | .clearFault d => dataFits d
  | .changeProbe d => dataFits d
  | .abortChange d => dataFits d
  | .identifyProbe d => dataFits d
  | .writeProbeSet d => dataFits d
  | .deleteProbe d => dataFits d
  | .selectBank d => dataFits d
  | .setRackSlot d => dataFits d
  | .setFixedTemperature d => dataFits d
  | .clearFixedTemperature d => dataFits d
  | .setPart d => dataFits d
  | .callSample d => dataFits d
  | .forgetPeer d => dataFits d
  | .readPoint d => dataFits d
  | .peekPoint d => dataFits d
  | .flushPoints d => dataFits d
  | .readStatus d => dataFits d
  | .readTemperatures d => dataFits d
  | .readZoneView d => dataFits d
  | .readRackView d => dataFits d
  | .readProbe d => dataFits d
  | .readPeer d => dataFits d
  | .readEvents d => dataFits d
  | .enableEvents d => dataFits d
  | .acknowledgeEvents d => dataFits d
  | .releaseHoldEnd => true
  | .motionPeriod _ o => decide o.Nodup
  | .segmentComplete => true
  | .positionTimeout => true
  | .stopDecelerationEnd => true
  | .scaleCount _ _ => true
  | .scaleFault _ => true
  | .referenceMark _ => true
  | .referenceEnd => true
  | .referenceStopEnd => true
  | .touch _ => true
  | .correctionEnd => true
  | .frameSendStart => true
  | .arbitrationLost => true
  | .duplicateStationMismatch => true
  | .earlySpoil _ => true
  | .frameSpoiled rx _ => rx.chars.length ≤ 38
  | .duplicateStationFrame _ => true
  | .frameDelivered => true
  | .claimAccepted _ _ _ => true
  | .settleWindowEnd _ _ => true
  | .objectAccepted _ _ _ _ => true
  | .waitAccepted _ _ => true
  | .claimRetryRoom => true
  | .zoneWaitTimeout => true
  | .zoneOverstay _ => true
  | .releaseAccepted _ _ => true
  | .deferralExpiry _ => true
  | .presenceAccepted _ r => r.wellFormed
  | .peerLost _ => true
  | .rackNoteAccepted _ _ _ => true
  | .sampleCallAccepted _ _ o => decide o.Nodup
  | .presencePeriod => true
  | .listeningEnd => true
  | .sampleTimer _ o => decide o.Nodup
  | .dropTimeout => true
  | .pickTimeout => true
  | .identAnswer _ _ _ => true
  | .identAttemptTimeout => true
  | .lineIdle => true
  | .lineDriverFault => true

end Sys2Proof
end

