-- ==== Sys2Proof/Certificates/Slice0/Obligations.lean ====
section
/-! DEFINITION. The statements for the provers: what the rules of spec/ say that each command does, what it
leaves, and what every step keeps. -/

section Statements

open Sys2Proof Sys2Proof.Machine

/-! ## The machine -/

/-- A step executes the command at the front of the queue on the queue's rest. On an empty queue the
station idles: the model's choice (log 1). -/
def Obligations.StepRunsTheFrontCommand : Prop :=
  (∀ (c : Instr) (rest : List Instr) (s : State), s.pending = c :: rest →
      step s = exec c (s.setPending rest))
    ∧ ∀ s : State, s.pending = [] → step s = .next s

/-- Every command completes in every state, leaves the queue of waiting commands, and changes no part of the
state but those listed for it. That a command whose event the state does not allow still completes, and
changes nothing, is the model's choice (log 3). -/
def Obligations.EveryCommandCompletesInItsParts : Prop :=
  ∀ (c : Instr) (s : State), ∃ t, exec c s = .next t ∧ s.sameBut t (touchedBy c)

/-! ## Start-up and configuration -/

/-- POWER ON, and RESET STATION with its own reply, give every block its reset values: Tables 1-4, 3-1, 4-5,
5-2, 6-4, 7-9 and 10-7, R50, R179, R182, R184, R188, R191, R210 and R217, row by row. The due time of the sample
timer counts on the model's clock (log 2). -/
def Obligations.PowerOnGivesTheResetValues : Prop :=
  ∀ (p : Pins) (s : State), ∃ t, exec (.powerOn p) s = .next t ∧ t.pending = s.pending
    ∧ t.station = { number := p.straps, state := .config, config := none,
                    assembly := { content := [], next := 0 } }
    ∧ (∀ a, t.axis a = { scale := 0, referenced := false, mode := .off, setpoint := 0,
                         lower := p.lower.get a, upper := p.upper.get a, ready := p.ready.get a,
                         enable := false })
    ∧ t.axes.retracted = p.retracted
    ∧ t.motion.state = .idle ∧ t.motion.queue = [] ∧ t.motion.internal = none
    ∧ t.motion.stopPending = false ∧ t.motion.reference = none ∧ t.runningWait = false
    ∧ (∀ c, t.cell c = { state := .free, lost := false, last := none, owed := none,
                         deferral := none })
    ∧ t.zone.claim = none ∧ t.zone.kept = none ∧ t.zone.heldBack = none
    ∧ t.zone.retryAwaited = false ∧ t.zone.nextNumber = 0#8 ∧ t.zone.windows = []
    ∧ t.link = { state := .silent, list := [], run := 0, waitIdle := false, lineOut := none,
                 listeningDue := none }
    ∧ (∀ q, t.peer q = none) ∧ t.peers.presenceDue = none ∧ t.peers.heldBack = false
    ∧ (∀ c, t.temps.channels.get c = { kind := none, shared := false, state := .starting, window := [],
                                       reading := none, invalidRun := 0, last := none })
    ∧ (∀ i, t.temps.quantities.get i = { value := 2000, tag := .held, overrideOn := false,
                                         override := 2000 })
    ∧ partMean t = none ∧ t.temps.datum = ⟨0, 0, 0⟩ ∧ t.temps.partCoeff = 0
    ∧ t.temps.sampleDue = t.clock + 100
    ∧ t.probes.library = [] ∧ t.probes.live = .a ∧ t.probes.pendingBank = none
    ∧ t.probes.seated = p.seated
    ∧ t.probes.current = (if p.seated then .unknown 0xFFFF#16 else .none)
    ∧ (∀ k, t.probes.slots.get k = { content := 0xFFFF#16, notedBy := .none, unsent := false })
    ∧ t.probes.latchOpen = false ∧ t.probes.read = none ∧ t.probes.change = none
    ∧ t.probes.latch = none ∧ t.corr.computing = none ∧ t.corr.request = none
    ∧ t.points.records = [] ∧ t.points.counter = 0#16 ∧ t.points.hold = false
    ∧ t.points.suspect = false ∧ t.points.overrun = 0
    ∧ t.port.reply = { code := .ok, data := [] } ∧ t.events.pending = 0#20
    ∧ t.events.enable = EventKind.bit .ready ||| EventKind.bit .portError
    ∧ t.events.kept = Kept.reset ∧ t.events.releaseHold = false ∧ t.attentionLine = false
    ∧ exec (.resetStation [] p) s
        = .next (t.setPort { t.port with reply := { code := .ok, data := [] } })

/-- CONFIGURE (R212): in CONFIG part 0, or the part expected next, joins the assembly, and the reply carries
the next part's number; a wrong number of parts, a part above 16, a wrong length, or a part neither 0 nor the
next, discards the assembly with OUT OF RANGE; outside CONFIG it changes nothing. That a reply handed to the
owner ends with the station number, also where it is a refusal, is the model's reading (log 15). -/
def Obligations.ConfigurePartsJoinOrAreRefused : Prop :=
  (∀ (k : Nat) (content : List Byte) (s : State),
    s.station.state = .config → k < 16 → (k = 0 ∨ k = s.station.assembly.next) →
    content.length = 58 →
    exec (.configure (one k ++ one 17 ++ content)) s
      = .next ((s.setStation { s.station with
          assembly := { content := if k = 0 then content else s.station.assembly.content ++ content
                        next := k + 1 } }).answer .ok (one (k + 1) ++ one s.own.val)))
  ∧ (∀ (data : List Byte) (s : State), 3 ≤ data.length → data.length ≤ 60 →
    (s.station.state ≠ .config →
      exec (.configure data) s = .next (s.answer .wrongState (one s.own.val)))
    ∧ (s.station.state = .config →
      (field 1 1 data ≠ 17 ∨ 16 < field 0 1 data
        ∨ data.length ≠ (if field 0 1 data = 16 then 7 else 60)
        ∨ (field 0 1 data ≠ 0 ∧ field 0 1 data ≠ s.station.assembly.next)) →
      exec (.configure data) s
        = .next ((s.setStation { s.station with assembly := { content := [], next := 0 } }).answer
            .outOfRange (one s.own.val))))

/-- The last CONFIGURE part (R213, R214, R116): a block with a bad CRC is discarded with CRC, one with a field
out of range with OUT OF RANGE and the first such field's number; a good block is in force, its channels have
their kinds, and a channel whose kind is new is STARTING. The ranges are those of Table 11-2, field by field.
That field 14 is held to them in its unused bytes too is the model's reading (log 33), and so is the station
number at the end of each reply (log 15). -/
def Obligations.LastPartIsCheckedAndAccepted : Prop :=
  (∀ (b : List Byte) (n : Nat), firstBadField b = some n ↔
    1 ≤ n ∧ n ≤ 17 ∧ ¬ inTableRange b n ∧ ∀ m, 1 ≤ m → m < n → inTableRange b m)
  ∧ (∀ b : List Byte, firstBadField b = none ↔ ∀ n, 1 ≤ n → n ≤ 17 → inTableRange b n)
  ∧ ∀ (last : List Byte) (s : State), s.station.state = .config → s.station.assembly.next = 16 →
    last.length = 5 →
    let b := s.station.assembly.content ++ last
    let command := Instr.configure (one 16 ++ one 17 ++ last)
    let dropped := s.setStation { s.station with assembly := { content := [], next := 0 } }
    ((crc16 (b.take 931)).toNat ≠ field 931 2 b →
      exec command s = .next (dropped.answer .crc (one s.own.val)))
    ∧ ((crc16 (b.take 931)).toNat = field 931 2 b → ∀ n, firstBadField b = some n →
      exec command s = .next (dropped.answer .outOfRange (one n ++ one s.own.val)))
    ∧ ((crc16 (b.take 931)).toNat = field 931 2 b → firstBadField b = none →
      ∃ t, exec command s = .next t ∧ s.sameBut t [.station, .temps, .port]
        ∧ t.station = { dropped.station with config := some (readBlock b) }
        ∧ t.port.reply = { code := .ok, data := one s.own.val }
        ∧ ∀ c, let old := s.temps.channels.get c
               let new := t.temps.channels.get c
               let k := (readBlock b).channels.get c
               new.kind = some k.kind ∧ new.shared = k.shared
                 ∧ (k.kind = .unused → new.state = .unused)
                 ∧ (k.kind ≠ .unused → old.kind ≠ some k.kind →
                     new.state = .starting ∧ new.window = [] ∧ new.reading = none
                       ∧ new.invalidRun = 0)
                 ∧ (k.kind ≠ .unused → old.kind = some k.kind →
                     new = { old with shared := k.shared }))

/-- START (R215, R20, R48, R50, R78, R99): with a block accepted in CONFIG the station is JOINING, every axis
is IDLE with its setpoint at its scale count, motion is IDLE with an empty queue also after a STOP, the link is
LISTENING for 1,200 ms with one PRESENCE in its list, and every cell not held is HELD-UNKNOWN; else it is
refused with WRONG STATE. The station number at the end of
each reply is the model's reading (log 15), the clock the model's (log 2). -/
def Obligations.StartJoinsTheRoom : Prop :=
  ∀ s : State,
    (s.station.state = .config → s.station.config.isSome → s.zone.windows = [] →
      ∃ t, exec (.start []) s = .next t
        ∧ s.sameBut t [.station, .axes, .motion, .zone, .link, .peers, .probes, .port]
        ∧ t.motion.state = .idle ∧ t.motion.queue = [] ∧ t.motion.internal = none
        ∧ t.motion.stopPending = false ∧ t.probes = { s.probes with change := none }
        ∧ t.station = { s.station with state := .joining, assembly := { content := [], next := 0 } }
        ∧ (∀ a, t.axis a = { s.axis a with mode := .idle, setpoint := (s.axis a).scale,
                                           enable := true })
        ∧ t.axes.retracted = s.axes.retracted
        ∧ t.link = { state := .listening
                     list := [{ frame := .presence, attempts := 0, sending := false }]
                     run := 0, waitIdle := true, lineOut := none
                     listeningDue := some (s.clock + 1200) }
        ∧ (∀ c, t.cell c = if (s.cell c).state = .held s.own then s.cell c
            else { s.cell c with state := .heldUnknown, lost := false, owed := none })
        ∧ t.port.reply = { code := .ok, data := one s.own.val })
    ∧ ((s.station.state ≠ .config ∨ s.station.config = none) →
      exec (.start []) s = .next (s.answer .wrongState (one s.own.val)))

/-! ## Host port and events -/

/-- A command whose data length is not the one of Table 10-5 is refused with OUT OF RANGE and changes
nothing else (R201). That the reply of CONFIGURE and START carries the station number here too is the model's
reading of R210 (log 15). -/
def Obligations.WrongDataLengthIsRefused : Prop :=
  ∀ (pins : Pins) (code : Byte) (data : List Byte) (c : Instr) (lo hi : Nat) (s : State),
    hostInstr pins code data = some c → commandLength code.toNat = some (lo, hi) →
    (data.length < lo ∨ hi < data.length) →
    exec c s = .next (s.answer .outOfRange
      (if code.toNat = 1 ∨ code.toNat = 2 then one s.own.val else []))

/-- A host frame laid out as Table 10-1 gives, with any number of draw bytes behind it, passes the checks of
R197 and is the command of its code with its data; and so are its bits in a select period, eight to a byte,
most significant bit first (R195). A select period in progress at power-on is no frame (R209). -/
def Obligations.HostFrameIsReadBack : Prop :=
  ∀ (pins : Pins) (code : Byte) (data : List Byte) (draws : Nat),
    data.length ≤ 60 → 1 ≤ code.toNat → code.toNat ≤ 0x22 →
    checkHostFrame (encodeHostFrame code data ++ List.replicate draws 0#8) false = none
      ∧ decodeHostFrame pins (encodeHostFrame code data ++ List.replicate draws 0#8) false
          = hostInstr pins code data
      ∧ selectInstr pins ((encodeHostFrame code data ++ List.replicate draws 0#8).flatMap byteBits)
          = hostInstr pins code data
      ∧ (∀ atPowerOn, selectPeriodInstr pins atPowerOn
          ((encodeHostFrame code data ++ List.replicate draws 0#8).flatMap byteBits)
          = if atPowerOn then none else hostInstr pins code data)
      ∧ (hostInstr pins code data).isSome

/-- The checks of a host frame, in their order (R197): at the first that fails the frame is no command of
Table 10-5, the reply buffer takes FRAME with no data, PORT ERROR is raised with the reason of that check,
and nothing else changes; a frame that passes them all is the command of its code with its data. -/
def Obligations.FailedFrameIsNotExecuted : Prop :=
  ∀ (pins : Pins) (bytes : List Byte) (midByte : Bool) (s : State), (bytes ≠ [] ∨ midByte = true) →
    let code := (bytes.getD 0 0).toNat
    let len := (bytes.getD 1 0).toNat
    let checks : List (Bool × PortReason) :=
      [(decide (bytes.length < 3), .byteCount),
       (decide (60 < len), .length),
       (decide (bytes.length < len + 3 ∨ (∃ b ∈ bytes.drop (len + 3), b ≠ 0#8) ∨ midByte = true),
         .byteCount),
       (decide (crc8 (bytes.take (len + 2)) ≠ bytes.getD (len + 2) 0), .check),
       (decide (¬ (1 ≤ code ∧ code ≤ 0x22)), .unknownCode)]
    (∀ b r, checks.find? (·.1) = some (b, r) →
      decodeHostFrame pins bytes midByte = some (.hostFrameCheckFailed bytes midByte)
        ∧ ∃ t, exec (.hostFrameCheckFailed bytes midByte) s = .next t
          ∧ s.sameBut t [.port, .events]
          ∧ t.port = { s.port with reply := { code := .frame, data := [] } }
          ∧ t.events = { s.events with pending := s.events.pending ||| EventKind.bit .portError
                                       kept := { s.events.kept with portError := some r } })
    ∧ (checks.find? (·.1) = none →
      decodeHostFrame pins bytes midByte
        = hostInstr pins (bytes.getD 0 0) ((bytes.drop 2).take len))

/-- The reply as it is shifted out (R199, R200, Tables 10-2 and 10-3): the status byte as the station
stands now, the reply code, the data length, the data and the CRC-8 of what stands before; on the data output
the bits of the reply, most significant first, are followed by 00h for as long as the host clocks. -/
def Obligations.ReplyIsShiftedOut : Prop :=
  ∀ s : State, ∃ t status, exec .replyShiftOut s = .next t ∧ s.sameBut t [.port]
    ∧ t.port.reply = s.port.reply
    ∧ t.port.shiftOut = status :: BitVec.ofNat 8 s.port.reply.code.num
        :: BitVec.ofNat 8 s.port.reply.data.length :: s.port.reply.data
        ++ [crc8 t.port.shiftOut.dropLast]
    ∧ crc8 t.port.shiftOut = 0#8
    ∧ (∀ n, t.outputs.hostClocked n
        = (t.port.shiftOut.flatMap (fun c => msbBits 8 c.toNat) ++ List.replicate n false).take n)
    ∧ status.toNat = 64 * s.station.state.num + 8 * s.motion.state.num
        + (if s.events.pending &&& s.events.enable = 0#20 then 0 else 4)
        + (if s.points.suspect then 2 else 0) + (if s.points.hold then 1 else 0)

/-- The five replies read in parts (R202): the number of parts never changes with the state, a part below it
is answered with its number, the number of parts and its 58 bytes, any other part is refused, and nothing but
the reply buffer changes. The layout of the replies of which the parts are cut is the model's reading (log
12). -/
def Obligations.RepliesInPartsHaveFixedSizes : Prop :=
  ∀ (part : Nat) (s : State), part < 256 →
    let answered (n : Nat) (content : List Byte) : Result :=
      if part < n then
        .next (s.answer .ok (one part ++ one n ++ (content.drop (58 * part)).take 58))
      else .next (s.answer .outOfRange [])
    exec (.readStatus (one part)) s = answered 3 (statusReply s)
      ∧ exec (.readTemperatures (one part)) s = answered 4 (temperaturesReply s)
      ∧ exec (.readZoneView (one part)) s = answered 7 (zoneReply s)
      ∧ exec (.readRackView (one part)) s = answered 2 (rackReply s)
      ∧ exec (.readProbe (word 0x0000#16 ++ one part)) s = answered 2 (probeReply s.currentEntry s)
      ∧ ∀ (i : Ident) (e : LibEntry), validIdent i = true → s.entry i = some e →
          exec (.readProbe (word i ++ one part)) s = answered 2 (probeReply (some e) s)

/-- READ PEER, READ EVENTS and PEEK POINT change nothing but the reply buffer (R106, R206, R186); READ PEER
gives every field of an entry not present as absent, and of a peer without a report all but present, lost and
time, and takes 23 bytes and 5 for each reading; READ EVENTS starts with the pending set, the enable set, the
line and the hold, and a TOUCH record takes 33 bytes, a NO CONTACT record 21, and an empty queue 2 (R192). The
layouts of READ PEER, up to 63 bytes long (log 14), and READ EVENTS, 65 bytes long (log 13), are the model's
reading. -/
def Obligations.ReadsChangeOnlyTheReply : Prop :=
  ∀ s : State,
    (∀ p : Station, ∃ t, exec (.readPeer (one p.val)) s = .next t ∧ s.sameBut t [.port]
      ∧ t.port.shiftOut = s.port.shiftOut ∧ t.port.reply.code = .ok
      ∧ (s.peer p = none → t.port.reply.data = List.replicate 23 0#8)
      ∧ ∀ e, s.peer p = some e →
        t.port.reply.data.take 8 = 1#8 :: (1#8 :: yesNo e.lost)
            ++ (1#8 :: beBytes 4 (min 65535 (s.clock - e.lastHeard)))
          ∧ (e.report = none → t.port.reply.data.drop 8 = List.replicate 15 0#8)
          ∧ ∀ r, e.report = some r → t.port.reply.data.length = 23 + 5 * r.readings.length
              ∧ (t.port.reply.data.drop 21).take 2 = 1#8 :: one r.readings.length)
    ∧ (∃ t, exec (.readEvents []) s = .next t ∧ s.sameBut t [.port]
      ∧ t.port.shiftOut = s.port.shiftOut ∧ t.port.reply.code = .ok
      ∧ t.port.reply.data.length = 65
      ∧ t.port.reply.data.take 8 = eventBytes s.events.pending ++ eventBytes s.events.enable
          ++ yesNo s.attentionLine ++ yesNo s.events.releaseHold)
    ∧ ∃ t, exec (.peekPoint []) s = .next t ∧ s.sameBut t [.port]
      ∧ t.port.shiftOut = s.port.shiftOut
      ∧ (s.points.records = [] → t.port.reply
          = { code := .empty, data := one 0 ++ one s.points.overrun })
      ∧ ∀ r rest, s.points.records = r :: rest → t.port.reply.code = .ok
          ∧ t.port.reply.data = one (rest.length + 1) ++ one s.points.overrun ++ recordBytes r
          ∧ t.port.reply.data.length = if r.raw.point.isSome then 33 else 21

/-- ENABLE EVENTS, ACKNOWLEDGE EVENTS and the end of the release hold (R206, R207, R208): the enable set
is replaced, the pending marks of the set go, kept values stay, an acknowledge that clears a mark starts
the hold that keeps the line released, and at its end the line follows the attention condition; a set
with any of bits 23 to 20 is refused. -/
def Obligations.EventCommandsAndTheAttentionLine : Prop :=
  ∀ s : State,
    (∀ e : EventSet,
      exec (.enableEvents (beBytes 3 e.toNat)) s
          = .next ((s.setEvents { s.events with enable := e }).answer .ok (beBytes 3 e.toNat))
        ∧ ∃ t, exec (.acknowledgeEvents (beBytes 3 e.toNat)) s = .next t
          ∧ s.sameBut t [.port, .events]
          ∧ t.port.reply = { code := .ok, data := beBytes 3 (s.events.pending &&& ~~~e).toNat }
          ∧ t.port.shiftOut = s.port.shiftOut
          ∧ t.events.pending = s.events.pending &&& ~~~e ∧ t.events.enable = s.events.enable
          ∧ t.events.kept = s.events.kept
          ∧ (s.events.pending &&& e ≠ 0#20 →
              t.events.releaseHold = true ∧ t.attentionLine = false)
          ∧ (s.events.pending &&& e = 0#20 → t.events = s.events))
    ∧ (∃ t, exec .releaseHoldEnd s = .next t ∧ s.sameBut t [.events]
        ∧ t.events = { s.events with releaseHold := false } ∧ t.attentionLine = s.attention)
    ∧ ∀ a b c : Byte, 16 ≤ a.toNat →
        exec (.enableEvents [a, b, c]) s = .next (s.answer .outOfRange [])
          ∧ exec (.acknowledgeEvents [a, b, c]) s = .next (s.answer .outOfRange [])

/-! ## Axes -/

/-- A change of one phase line is a legal transition, forward where A leads B and backward the other way, and a
change of both an illegal one (R2, R3). A legal transition moves the scale count of its axis by one in every
mode and changes nothing else, and one past the end of the range is taken as an illegal one (R2). An illegal transition (R3): the axis is
unreferenced, every count keeps its value, no record that has not started remains where the axis was
referenced, and in IDLE or MOVING there is a fault stop with reason SCALE, in OFF and FAULT none. -/
def Obligations.ScaleTransitionsCountOrFault : Prop :=
  (∀ (a : Axis) (x y : Bool),
    scaleInstr a (x, y) (!x, y) = some (.scaleCount a (x == y))
      ∧ scaleInstr a (x, y) (x, !y) = some (.scaleCount a (x != y))
      ∧ scaleInstr a (x, y) (!x, !y) = some (.scaleFault a) ∧ scaleInstr a (x, y) (x, y) = none)
  ∧ (∀ (a : Axis) (forward : Bool) (s : State),
    let next := (s.axis a).scale + (if forward then 1 else -1)
    (-2147483648 ≤ next → next ≤ 2147483647 →
      exec (.scaleCount a forward) s = .next (s.setAxis a { s.axis a with scale := next }))
    ∧ ((next < -2147483648 ∨ 2147483647 < next) →
      exec (.scaleCount a forward) s = exec (.scaleFault a) s))
  ∧ (∀ (a : Axis) (s : State), ∃ t, exec (.scaleFault a) s = .next t
    ∧ s.sameBut t [.axes, .motion, .zone, .link, .peers, .probes, .events]
    ∧ (t.axis a).referenced = false ∧ (∀ b, (t.axis b).scale = (s.axis b).scale)
    ∧ (∀ b, b ≠ a → (t.axis b).referenced = (s.axis b).referenced)
    ∧ ((s.axis a).referenced = true → ∀ g ∈ t.motion.queue, g.state.flying = true)
    ∧ ((s.axis a).mode = .idle ∨ (s.axis a).mode = .moving → s.motion.state ≠ .faulted →
        t.motion.state = .faulted ∧ t.isPending .motionFault
          ∧ ∃ tag, t.events.kept.motionFault = some (.scale, tag))
    ∧ ((s.axis a).mode = .off ∨ (s.axis a).mode = .fault → t.motion.state = s.motion.state))

/-- A fault stop (R11, R13): every setpoint is frozen at its scale count, every axis is in FAULT with its
enable off where a limit switch is active or the drive ready is lost, the segment in flight leaves the
queue and the others stay, motion is FAULTED, and MOTION FAULT carries the reason and the tag of a host
segment aborted; cells, claim and transmit list stay. Once FAULTED there is no second fault stop. -/
def Obligations.FaultStopFreezesEveryAxis : Prop :=
  ∀ (r : FaultReason) (s : State),
    (s.motion.state = .faulted → faultStop r s = s)
    ∧ (s.motion.state ≠ .faulted →
      let t := faultStop r s
      s.sameBut t [.axes, .motion, .zone, .probes, .events]
        ∧ (∀ a, t.axis a = { s.axis a with
              setpoint := (s.axis a).scale, mode := .fault
              enable := !(s.axis a).lower && !(s.axis a).upper && (s.axis a).ready })
        ∧ t.motion.state = .faulted ∧ t.motion.internal = none ∧ t.motion.reference = none
        ∧ t.motion.stopPending = false
        ∧ t.motion.queue = (if s.motion.state ≠ .changing ∧ s.flying.isSome then s.motion.queue.tail
            else s.motion.queue)
        ∧ t.zone.cells = s.zone.cells ∧ t.zone.claim = s.zone.claim
        ∧ (s.motion.state ≠ .changing → t.zone = s.zone)
        ∧ t.probes.latch = s.probes.latch
        ∧ t.isPending .motionFault
        ∧ t.events.kept.motionFault
            = some (r, if s.motion.state = .changing then none else s.flying.bind (·.tag)))

/-- REFERENCE AXIS (R15): accepted only in motion IDLE with every channel IDLE, the queue empty, and the
arm-retracted line on or all 20 cells held; the axis is then unreferenced and MOVING and motion is
REFERENCING; a byte that names no axis is refused with OUT OF RANGE, anything else with WRONG STATE. Then
(R16, R17, R18) the first mark edge of the travelling axis sets its scale count to the reference value and
shifts the setpoint by the same amount, any other edge does nothing; a marked travel come to rest leaves the
axis referenced and motion IDLE, and where all axes are then referenced and the queue is empty the held cells
outside the rest set, and those owed, are released (R17, R47, R68); a stopped one leaves it unreferenced and
motion HELD. In each motion period
with no watch tripped the setpoint of the axis falls by the velocity: in period k before the mark by
min(F_ref, k·A), after the mark or a STOP by the velocity before less A. That a second mark edge of the travelling
axis does nothing is the model's reading (log 49). The conditions on the velocity at the two ends are the model's
(log 21), and so is the clock (log 2). -/
def Obligations.ReferenceFromStartToEnd : Prop :=
  (∀ s : State,
    (∀ a : Axis,
      let allowed := s.motion.state = .idle ∧ (∀ b, (s.axis b).mode = .idle) ∧ s.motion.queue = []
        ∧ (s.axes.retracted = true ∨ ∀ c, (s.cell c).state = .held s.own)
      (allowed → ∃ t, exec (.referenceAxis (one (axisNum a))) s = .next t
        ∧ s.sameBut t [.axes, .motion, .port]
        ∧ t.axis a = { s.axis a with referenced := false, mode := .moving }
        ∧ (∀ b, b ≠ a → t.axis b = s.axis b) ∧ t.axes.retracted = s.axes.retracted
        ∧ t.motion = { s.motion with
            state := .referencing
            reference := some { axis := a, k := 0, vel := 0, marked := false, stopping := false } }
        ∧ t.port.reply = { code := .ok, data := [] })
      ∧ (¬ allowed →
        exec (.referenceAxis (one (axisNum a))) s = .next (s.answer .wrongState [])))
    ∧ ∀ n, 3 ≤ n → n < 256 →
      exec (.referenceAxis (one n)) s = .next (s.answer .outOfRange []))
  ∧ (∀ (r : RefRun) (s : State), s.motion.state = .referencing → s.motion.reference = some r →
    (r.marked = false → fits32 ((s.axis r.axis).setpoint + (s.cfg.refValues.get r.axis
          - (s.axis r.axis).scale)) = true →
      ∃ t, exec (.referenceMark r.axis) s = .next t ∧ s.sameBut t [.axes, .motion]
        ∧ (t.axis r.axis).scale = s.cfg.refValues.get r.axis
        ∧ (t.axis r.axis).setpoint - (t.axis r.axis).scale
            = (s.axis r.axis).setpoint - (s.axis r.axis).scale
        ∧ (∀ b, b ≠ r.axis → t.axis b = s.axis b)
        ∧ t.motion = { s.motion with reference := some { r with marked := true } })
    ∧ (∀ a, a ≠ r.axis ∨ r.marked = true → exec (.referenceMark a) s = .next s)
    ∧ (r.marked = true → r.stopping = false → r.vel ≤ s.cfg.accel →
      ∃ t, exec .referenceEnd s = .next t ∧ s.sameBut t [.axes, .motion, .zone, .link, .events]
        ∧ t.axis r.axis = { s.axis r.axis with referenced := true, mode := .idle }
        ∧ (∀ b, b ≠ r.axis → t.axis b = s.axis b) ∧ t.motion.state = .idle
        ∧ t.motion.reference = none ∧ t.motion.queue = s.motion.queue
        ∧ ((∃ b, b ≠ r.axis ∧ (s.axis b).referenced = false) →
            s.sameBut t [.axes, .motion])
        ∧ ((∀ b, b ≠ r.axis → (s.axis b).referenced = true) → s.motion.queue = [] → s.calm →
            s.handsOver (restSet s.cfg s.setpoints) t))
    ∧ (r.stopping = true → r.vel ≤ s.cfg.accel →
      ∃ t, exec .referenceStopEnd s = .next t ∧ s.sameBut t [.axes, .motion]
        ∧ t.axis r.axis = { s.axis r.axis with referenced := false, mode := .idle }
        ∧ (∀ b, b ≠ r.axis → t.axis b = s.axis b)
        ∧ t.motion = { s.motion with state := .held, reference := none })
    ∧ ∀ v order, s.motion.queue = [] → (∀ a, (s.axis a).mode = .idle ∨ (s.axis a).mode = .moving) →
      s.quiet v →
      let vel := if r.marked ∨ r.stopping then r.vel - s.cfg.accel
        else min s.cfg.refFeed ((r.k + 1) * s.cfg.accel)
      let p : V3 Int := s.setpoints.set r.axis ((s.axis r.axis).setpoint - (vel : Nat))
      fits32 (p.get r.axis) = true → s.follows p →
      ∃ t, exec (.motionPeriod v order) s = .next t ∧ s.sameBut t [.clock, .axes, .motion]
        ∧ t.clock = s.clock + 1
        ∧ (∀ a, t.axis a = { s.axis a with setpoint := p.get a, lower := false, upper := false,
                                           ready := true })
        ∧ t.axes.retracted = v.retracted
        ∧ t.motion = { s.motion with reference := some { r with
            vel := vel, k := if r.marked ∨ r.stopping then r.k else r.k + 1 } })

/-- CLEAR FAULT (R14): refused with WRONG STATE outside FAULTED, with BUSY while a limit switch is active
or a drive ready lost; else every axis is IDLE with its setpoint at its scale count and its drive enabled,
and motion is HELD. -/
def Obligations.ClearFaultLeavesFaulted : Prop :=
  ∀ s : State,
    (s.motion.state ≠ .faulted → exec (.clearFault []) s = .next (s.answer .wrongState []))
    ∧ (s.motion.state = .faulted →
      (∃ a, (s.axis a).lower = true ∨ (s.axis a).upper = true ∨ (s.axis a).ready = false) →
      exec (.clearFault []) s = .next (s.answer .busy []))
    ∧ (s.motion.state = .faulted →
      (∀ a, (s.axis a).lower = false ∧ (s.axis a).upper = false ∧ (s.axis a).ready = true) →
      ∃ t, exec (.clearFault []) s = .next t ∧ s.sameBut t [.axes, .motion, .port]
        ∧ (∀ a, t.axis a = { s.axis a with mode := .idle, setpoint := (s.axis a).scale,
                                           enable := true })
        ∧ t.axes.retracted = s.axes.retracted ∧ t.motion = { s.motion with state := .held }
        ∧ t.port.reply = { code := .ok, data := [] })

/-! ## Paths and profiles -/

/-- The path length is the integer nearest to the square root of the sum of the squared moves, 0 exactly
when start and target coincide, and at most 97,979,590 within the travel (R31). -/
def Obligations.PathLengthIsTheNearestInteger : Prop :=
  ∀ p q : V3 Int,
    let sum := (q.x - p.x) ^ 2 + (q.y - p.y) ^ 2 + (q.z - p.z) ^ 2
    let len : Int := pathLength p q
    4 * sum < (2 * len + 1) ^ 2 ∧ (len ≠ 0 → (2 * len - 1) ^ 2 < 4 * sum)
      ∧ (len = 0 ↔ p = q)
      ∧ ((q.x - p.x).natAbs ≤ 80000000 → (q.y - p.y).natAbs ≤ 40000000 →
          (q.z - p.z).natAbs ≤ 40000000 → len ≤ 97979590)

/-- The ramp of a segment with feed F and acceleration A (R32, R33): n = ceil(F / A) steps of
min(F, k·A) and cruise speed F where twice their sum is at most L; else the largest r with
A·r·(r + 1) at most L, below n, with steps k·A below F and the ramp distance A·r·(r + 1) / 2. -/
def Obligations.RampFollowsFeedAndAcceleration : Prop :=
  ∀ len feed accel : Nat, 0 < feed → 0 < accel →
    let n := (feed + accel - 1) / accel
    let d := ((List.range n).map fun i => min feed ((i + 1) * accel)).sum
    let r := rampSteps len feed accel
    cruise len feed accel = min feed ((r + 1) * accel)
      ∧ (2 * d ≤ len → r = n ∧ rampSum feed accel r = d ∧ cruise len feed accel = feed)
      ∧ (len < 2 * d →
          accel * r * (r + 1) ≤ len ∧ (∀ m, accel * m * (m + 1) ≤ len → m ≤ r) ∧ r < n
            ∧ (∀ k, 1 ≤ k → k ≤ r → profileEntry len feed accel k = k * accel ∧ k * accel < feed)
            ∧ 2 * rampSum feed accel r = accel * r * (r + 1))
      ∧ (len = 0 → r = 0 ∧ rampSum feed accel r = 0)

/-- The profile of a segment (R34) is the ramp up, q = floor(M / V) periods at V, the remainder period if
it is not zero, and the ramp down, M being L less twice the ramp distance: its entries, each from 1 to the
feed, sum to L exactly, and it is empty for a path of length 0. -/
def Obligations.ProfileSumsToThePathLength : Prop :=
  ∀ len feed accel : Nat, 0 < feed → 0 < accel →
    let r := rampSteps len feed accel
    let up := (List.range r).map fun i => min feed ((i + 1) * accel)
    let v := cruise len feed accel
    let m := len - 2 * up.sum
    2 * up.sum ≤ len
      ∧ profile len feed accel = up ++ List.replicate (m / v) v
          ++ (if m % v = 0 then [] else [m % v]) ++ up.reverse
      ∧ (profile len feed accel).sum = len ∧ (∀ e ∈ profile len feed accel, 1 ≤ e ∧ e ≤ feed)
      ∧ (profile len feed accel).length = profileLength len feed accel
      ∧ (len = 0 → profile len feed accel = [])

/-- The interpolated setpoints begin at the start point, end at the target exactly, and stay between the
two on every axis (R35). -/
def Obligations.PathRunsFromStartToTarget : Prop :=
  ∀ (start target : V3 Int) (len d : Nat), 0 < len → d ≤ len →
    (∀ a, fits32 (start.get a) = true ∧ fits32 (target.get a) = true) →
    pathPoint start target len 0 = start ∧ pathPoint start target len len = target
      ∧ ∀ a, min (start.get a) (target.get a) ≤ (pathPoint start target len d).get a
          ∧ (pathPoint start target len d).get a ≤ max (start.get a) (target.get a)

/-- One motion period of a segment in flight with no watch tripped (R6, R35, R36, R39, R40, R44). Each axis sends its
setpoint as a word of 32 bits, most significant first. RUNNING along its
profile: the next profile entry is added to the path distance, every axis is sent the point at that distance,
and after the last entry the segment is SETTLING; in a STOP deceleration the path distance grows by the
velocity before less A, at most to L. TOUCHED: the frozen setpoints stand and are sent again; in the period after
that the segment is RETRACTING with the first entry of the back-off's profile, or where the back-off is 0 SETTLING
since the end of the period before (R36, R37). RETRACTING: the next entry of the back-off's profile is added to the back-off distance u, every axis is sent
the point at s_t - u, and after the last entry the segment is SETTLING. SETTLING: the setpoints stay. That the period after the touch ends
with the next period's command (log 22), and the clock (log 2), are the model's. -/
def Obligations.MotionPeriodAdvancesTheSegment : Prop :=
  ∀ (g : Segment) (rest : List Segment) (v : Samples) (order : List Watch) (s : State),
    s.motion.state = .running → s.motion.queue = g :: rest → (∀ a, (s.axis a).mode = .moving) →
    s.quiet v →
    let moved (t : State) (p : V3 Int) : Prop :=
      exec (.motionPeriod v order) s = .next t
        ∧ s.sameBut t [.clock, .axes, .motion, .probes] ∧ t.clock = s.clock + 1
        ∧ (∀ a, t.axis a = { s.axis a with setpoint := p.get a, lower := false, upper := false,
                                           ready := true })
        ∧ t.axes.retracted = v.retracted
        ∧ ∀ a, t.outputs.setpointWord.get a = some (msbBits 32 (p.get a % 2 ^ 32).toNat)
    (∀ geo, g.state = .running → g.decel = none → g.geom = some geo →
      let k := g.sent + 1
      let d := g.dist + profileEntry geo.len g.feed s.cfg.accel k
      let p := pathPoint geo.start g.target geo.len d
      s.follows p → ∃ t, moved t p
        ∧ (k < profileLength geo.len g.feed s.cfg.accel →
            t.motion = { s.motion with queue := { g with sent := k, dist := d } :: rest }
              ∧ t.probes = s.probes)
        ∧ (profileLength geo.len g.feed s.cfg.accel ≤ k →
            t.motion = { s.motion with queue := { g with
              sent := k, dist := d, state := .settling, settleSince := s.clock + 1 } :: rest }))
    ∧ (∀ geo vel, g.state = .running → g.decel = some vel → g.geom = some geo →
      s.cfg.accel < vel →
      let d := min geo.len (g.dist + (vel - s.cfg.accel))
      let p := pathPoint geo.start g.target geo.len d
      s.follows p → ∃ t, moved t p ∧ t.probes = s.probes
        ∧ t.motion = { s.motion with
            queue := { g with dist := d, decel := some (vel - s.cfg.accel) } :: rest })
    ∧ (g.state = .touched → g.resent = false → s.follows s.setpoints → ∃ t, moved t s.setpoints
        ∧ t.motion = { s.motion with queue := { g with resent := true } :: rest }
        ∧ t.probes = s.probes)
    ∧ (∀ geo st, g.state = .touched → g.resent = true → g.decel = none → g.geom = some geo →
      g.touchedAt = some st → g.back = 0 → g.backSent = 0 →
      let back := min s.cfg.backOff st
      let u := profileEntry back g.feed s.cfg.accel 1
      let p := pathPoint geo.start g.target geo.len (st - u)
      (back = 0 → s.follows s.setpoints → ∃ t, moved t s.setpoints
        ∧ t.motion = { s.motion with queue := { g with
            state := .settling, settleSince := s.clock } :: rest })
      ∧ (back ≠ 0 → s.follows p → ∃ t, moved t p
        ∧ (1 < profileLength back g.feed s.cfg.accel →
            t.motion = { s.motion with queue := { g with
              state := .retracting, backSent := 1, back := u } :: rest } ∧ t.probes = s.probes)
        ∧ (profileLength back g.feed s.cfg.accel ≤ 1 →
            t.motion = { s.motion with queue := { g with
              backSent := 1, back := u, state := .settling, settleSince := s.clock + 1 } :: rest })))
    ∧ (g.state = .settling → s.follows s.setpoints → ∃ t, moved t s.setpoints
        ∧ t.motion = s.motion ∧ t.probes = s.probes)
    ∧ (∀ geo st, g.state = .retracting → g.decel = none → g.geom = some geo →
      g.touchedAt = some st →
      let back := min s.cfg.backOff st
      let k := g.backSent + 1
      let u := g.back + profileEntry back g.feed s.cfg.accel k
      let p := pathPoint geo.start g.target geo.len (st - u)
      s.follows p → ∃ t, moved t p
        ∧ (k < profileLength back g.feed s.cfg.accel →
            t.motion = { s.motion with queue := { g with backSent := k, back := u } :: rest }
              ∧ t.probes = s.probes)
        ∧ (profileLength back g.feed s.cfg.accel ≤ k →
            t.motion = { s.motion with queue := { g with
              backSent := k, back := u, state := .settling, settleSince := s.clock + 1 } :: rest }))

/-- The watches of a motion period, whatever else is sampled (R5, R7, R8, R9, R11, R144, Table 7-3). A limit
switch sampled active, or a drive ready sampled lost, on an axis in IDLE or MOVING: motion is FAULTED, every
axis is in FAULT with its setpoint at its scale count, and the drive enable of that axis is off; a setpoint of
the period further than the following limit from the scale count, of an axis at rest or of a RUNNING segment:
the same fault stop; the reason is that of the watch taken first. The seated line changed: while CHANGING in a
phase that waits for no such change, or going off with a segment in flight or a reference: a fault stop with
reason PROBE LOST; else SEATED CHANGE with the new level; the current probe becomes NONE or UNKNOWN (FFFFh),
and going off ends a read of IDENTIFY PROBE. That the sender gives the order of the watches is the model's
choice (log 4). -/
def Obligations.LimitSwitchMakesAFaultStop : Prop :=
  let frozen (s t : State) : Prop := t.motion.state = .faulted ∧ t.isPending .motionFault
    ∧ ∀ b, (t.axis b).mode = .fault ∧ (t.axis b).setpoint = (s.axis b).scale
        ∧ (t.axis b).scale = (s.axis b).scale
  let reason (t : State) (r : FaultReason) : Prop :=
    ∃ tag, t.events.kept.motionFault = some (r, tag)
  (∀ (a : Axis) (v : Samples) (order : List Watch) (s : State),
    (s.axis a).mode = .idle ∨ (s.axis a).mode = .moving → s.motion.state ≠ .faulted →
    (v.lower.get a = true ∨ v.upper.get a = true ∨ v.ready.get a = false →
      ∃ t, exec (.motionPeriod v order) s = .next t ∧ frozen s t ∧ (t.axis a).enable = false
        ∧ (v.lower.get a = true ∨ v.upper.get a = true → order.head? = some (.limit a) →
            reason t .limit)
        ∧ (v.ready.get a = false → order.head? = some (.drive a) → reason t .drive))
    ∧ (∀ p : V3 Int,
      (s.flying = none ∧ s.motion.state ≠ .referencing ∧ p = s.setpoints
        ∨ s.motion.state = .running ∧ ∃ g rest geo, s.motion.queue = g :: rest
            ∧ g.state = .running ∧ g.decel = none ∧ g.geom = some geo
            ∧ p = pathPoint geo.start g.target geo.len
                (g.dist + profileEntry geo.len g.feed s.cfg.accel (g.sent + 1))) →
      s.cfg.followLimit < (p.get a - (s.axis a).scale).natAbs →
      order.head? = some (.following a) →
      ∃ t, exec (.motionPeriod v order) s = .next t ∧ frozen s t ∧ reason t .following))
  ∧ ∀ (v : Samples) (rest : List Watch) (s : State), v.seated ≠ s.probes.seated →
    let seen (t : State) : Prop := exec (.motionPeriod v (.seated :: rest)) s = .next t
      ∧ t.probes.seated = v.seated
      ∧ t.probes.current = (if v.seated then .unknown 0xFFFF#16 else .none)
      ∧ (v.seated = false → ∀ r, t.probes.read = some r → r.forChange = true)
    (∀ ch, s.motion.state = .changing → s.probes.change = some ch →
      ¬ (ch.phase = .dropping ∧ v.seated = false) → ¬ (ch.phase = .picking ∧ v.seated = true) →
      ∃ t, seen t ∧ frozen s t ∧ reason t .probeLost ∧ t.probes.change = none
        ∧ t.events.kept.changeFailed = some (.fault, ch.target))
    ∧ (s.probes.change = none → s.motion.state ≠ .faulted → v.seated = false →
      s.flying.isSome = true ∨ s.motion.state = .referencing →
      ∃ t, seen t ∧ frozen s t ∧ reason t .probeLost)
    ∧ (s.probes.change = none →
      v.seated = true ∨ (s.flying = none ∧ s.motion.state ≠ .referencing) →
      ∃ t, seen t ∧ t.isPending .seatedChange ∧ t.events.kept.seatedChange = some v.seated)

/-! ## The move queue -/

/-- QUEUE MOVE (R23, R24): the first check of Table 2-3 that fails gives the reply and changes nothing
else; a move that passes joins the tail as a QUEUED record with its feed clamped, and the reply carries the
number of records and the feed; nothing starts where it is not the head in motion IDLE. -/
def Obligations.QueueMoveChecksAndAppends : Prop :=
  ∀ (tag : Tag) (kind : Nat) (target : V3 Int) (asked : Nat) (s : State),
    kind < 256 → asked < 65536 → (∀ a, fits32 (target.get a) = true) →
    let expected := match s.motion.queue.getLast? with
      | some g => g.target
      | none => s.setpoints
    let outside := decide (¬ (s.cfg.soft.x.lower ≤ target.x ∧ target.x ≤ s.cfg.soft.x.upper
      ∧ s.cfg.soft.y.lower ≤ target.y ∧ target.y ≤ s.cfg.soft.y.upper
      ∧ s.cfg.soft.z.lower ≤ target.z ∧ target.z ≤ s.cfg.soft.z.upper))
    let checks : List (Bool × Code) :=
      [(decide (1 < kind ∨ asked = 0), .outOfRange),
       (decide (s.station.state ≠ .active), .wrongState),
       (!((s.axis .x).referenced && (s.axis .y).referenced && (s.axis .z).referenced),
         .notReferenced),
       (decide (16 ≤ s.motion.queue.length), .queueFull), (outside, .outOfRange),
       (decide (kind = 1 ∧ target = expected), .outOfRange)]
    let most := if kind = 0 then s.cfg.rapidMax else s.cfg.probingMax
    let feed := min asked most
    (∀ b c, checks.find? (·.1) = some (b, c) →
      exec (.queueMove (moveData tag kind target asked)) s = .next (s.answer c []))
    ∧ (checks.find? (·.1) = none → (s.motion.queue ≠ [] ∨ s.motion.state ≠ .idle) →
      exec (.queueMove (moveData tag kind target asked)) s
        = .next ((s.setMotion { s.motion with
            queue := s.motion.queue ++
              [newSegment (some tag) (if kind = 0 then .rapid else .probe) target feed] }).answer
            (if asked ≤ most then .ok else .clamped)
            (one (s.motion.queue.length + 1) ++ beBytes 2 feed)))

/-- A RAPID queued on an empty queue in motion IDLE becomes current at once (R23, R26, R27, R55, R56): with
every cell of its need set held it is RUNNING and every axis MOVING; with cells missing, the link ON and no
deferral, it is WAITING ZONE and the missing cells are claimed under the next claim number. A PROBE with its
cells held (R27, R28, R29): with its probe KNOWN and the live set valid it starts, capturing the live bank;
with the hold flag on it stays QUEUED in RUNNING-WAIT; without such a probe it stays QUEUED, refused NO PROBE,
and motion is HELD. At RESUME a PROBE of length 0 is removed, refused ZERO LENGTH, and motion is HELD. A READ
POINT that clears the hold flag (R188) starts the waiting PROBE. The need set is that of R52, and no cell whose
interval lies wholly outside the X travel is in it (R51; that the two hold together is the model's reading, log
36); the rest set of a point is the need set from the point to itself (R53). -/
def Obligations.QueuedRapidStartsOrClaims : Prop :=
  (∀ (cfg : Block) (p q : V3 Int) (c : Cell), let m := cfg.cells.get c
    ((needSet cfg p q).has c = true ↔ m.lo ≤ 80000000 ∧ 0 < m.hi
        ∧ m.lo ≤ max p.x q.x + cfg.guardBand ∧ min p.x q.x - cfg.guardBand < m.hi
        ∧ m.z < max p.z q.z)
      ∧ restSet cfg p = needSet cfg p p)
  ∧ (∀ (tag : Tag) (target : V3 Int) (asked : Nat) (s : State),
    0 < asked → asked ≤ s.cfg.rapidMax → asked < 65536 → (∀ a, fits32 (target.get a) = true) →
    s.station.state = .active → (∀ a, (s.axis a).referenced = true) → s.motion.queue = [] →
    s.motion.state = .idle → s.calm → s.inSoftLimits target = true →
    let len := pathLength s.setpoints target
    let need := needSet s.cfg s.setpoints target
    let missing := CellSet.minus need s.heldSet
    let geo : Geom := { start := s.setpoints, len := len, need := need }
    let command := Instr.queueMove (moveData tag 0 target asked)
    (missing = 0#20 → profileLength len asked s.cfg.accel ≠ 0 →
      ∃ t, exec command s = .next t ∧ s.sameBut t [.axes, .motion, .port]
        ∧ (∀ a, t.axis a = { s.axis a with mode := .moving })
        ∧ t.axes.retracted = s.axes.retracted
        ∧ t.motion = { s.motion with
            state := .running
            queue := [{ newSegment (some tag) .rapid target asked with
              geom := some geo, state := .running }] }
        ∧ t.port.reply = { code := .ok, data := one 1 ++ beBytes 2 asked })
    ∧ (missing ≠ 0#20 → s.link.state = .on → s.deferred = 0#20 → s.link.list.length < 8 →
      ∃ t, exec command s = .next t ∧ s.sameBut t [.motion, .zone, .link, .port]
        ∧ t.motion = { s.motion with
            queue := [{ newSegment (some tag) .rapid target asked with
              geom := some geo, state := .waitingZone }] }
        ∧ t.zone = { s.zone with
            claim := some { number := some s.zone.nextNumber, cells := missing,
                            waitingState := false, waiting := 0#20, made := s.clock,
                            timeout := false, owner := .head, orphan := false }
            nextNumber := s.zone.nextNumber + 1 }
        ∧ t.listed (.claim s.zone.nextNumber missing)
        ∧ t.link.list.length = s.link.list.length + 1))
  ∧ (∀ (tag : Tag) (target : V3 Int) (asked : Nat) (s : State),
    0 < asked → asked ≤ s.cfg.probingMax → asked < 65536 → (∀ a, fits32 (target.get a) = true) →
    s.station.state = .active → (∀ a, (s.axis a).referenced = true) → s.motion.queue = [] →
    s.motion.state = .idle → s.calm → s.inSoftLimits target = true → target ≠ s.setpoints →
    let len := pathLength s.setpoints target
    let need := needSet s.cfg s.setpoints target
    let g : Segment := { newSegment (some tag) .probe target asked with
      geom := some { start := s.setpoints, len := len, need := need } }
    let command := Instr.queueMove (moveData tag 1 target asked)
    let reply : Reply := { code := .ok, data := one 1 ++ beBytes 2 asked }
    CellSet.minus need s.heldSet = 0#20 →
    (s.probeUsable = true → s.points.hold = false → profileLength len asked s.cfg.accel ≠ 0 →
      ∃ t, exec command s = .next t ∧ s.sameBut t [.axes, .motion, .port]
        ∧ (∀ a, t.axis a = { s.axis a with mode := .moving })
        ∧ t.motion = { s.motion with
            state := .running, queue := [{ g with state := .running, bank := some s.probes.live }] }
        ∧ t.port.reply = reply)
    ∧ (s.probeUsable = true → s.points.hold = true →
      ∃ t, exec command s = .next t ∧ s.sameBut t [.motion, .port]
        ∧ t.motion = { s.motion with queue := [g] } ∧ t.runningWait = true ∧ t.port.reply = reply)
    ∧ (s.probeUsable = false →
      ∃ t, exec command s = .next t ∧ s.sameBut t [.motion, .port, .events]
        ∧ t.motion = { s.motion with state := .held, queue := [g] }
        ∧ t.isPending .probeRefused ∧ t.events.kept.probeRefused = some (.noProbe, tag)
        ∧ t.port.reply = reply))
  ∧ (∀ (g : Segment) (tag : Tag) (rest : List Segment) (s : State), s.motion.state = .held →
    s.motion.queue = g :: rest → g.state.flying = false → g.kind = .probe → g.tag = some tag →
    g.target = s.setpoints → rest ≠ [] → s.calm →
    ∃ t, exec (.resume []) s = .next t ∧ s.sameBut t [.motion, .port, .events]
      ∧ t.motion = { s.motion with queue := rest }
      ∧ t.isPending .probeRefused ∧ t.events.kept.probeRefused = some (.zeroLength, tag)
      ∧ t.port.reply = { code := .ok, data := [] })
  ∧ ∀ (g : Segment) (geo : Geom) (rest : List Segment) (r : PointRecord) (left : List PointRecord)
      (s : State), s.motion.state = .idle → s.motion.queue = g :: rest → g.kind = .probe →
    g.state = .queued → g.geom = some geo → CellSet.minus geo.need s.heldSet = 0#20 →
    s.probeUsable = true → s.points.hold = true → s.points.records = r :: left →
    s.cfg.holdLevel ≠ 0 → s.holdCount + s.cfg.hysteresis ≤ s.cfg.holdLevel + 1 →
    profileLength geo.len g.feed s.cfg.accel ≠ 0 →
    ∃ t h, exec (.readPoint []) s = .next t ∧ s.sameBut t [.axes, .motion, .points, .port]
      ∧ t.points.hold = false ∧ t.points.records = left
      ∧ t.motion = { s.motion with state := .running, queue := h :: rest }
      ∧ h.state = .running ∧ h.bank = some s.probes.live ∧ h.dist = 0 ∧ h.sent = 0
      ∧ h.geom = g.geom ∧ h.target = g.target ∧ h.feed = g.feed ∧ h.tag = g.tag
      ∧ ∀ a, (t.axis a).mode = .moving

/-- STOP by motion state (R43, R18): IDLE goes to HELD; a RUNNING segment begins its deceleration from its
last profile entry and the reply carries its tag; a TOUCHED, RETRACTING or SETTLING one leaves the STOP
pending; in HELD and FAULTED nothing changes; a reference begins its STOP deceleration. RESUME (R45) is
refused outside HELD, and with an empty queue brings motion to IDLE. FLUSH MOVES (R46) leaves the records in
flight, replies with the number removed, and leaves the motion state. -/
def Obligations.StopResumeAndFlushMoves : Prop :=
  (∀ s : State,
    (s.motion.state = .idle → exec (.stop []) s
      = .next ((s.setMotion { s.motion with state := .held }).answer .ok [0#8, 0#8, 0#8]))
    ∧ (s.motion.state = .held ∨ s.motion.state = .faulted →
      exec (.stop []) s = .next (s.answer .ok [0#8, 0#8, 0#8]))
    ∧ (∀ g rest tag geo, s.motion.state = .running → s.motion.queue = g :: rest →
      g.geom = some geo → g.tag = some tag →
      (g.state = .running → g.decel = none → 0 < g.sent →
        exec (.stop []) s = .next ((s.setMotion { s.motion with
          queue := { g with decel := some (profileEntry geo.len g.feed s.cfg.accel g.sent) }
            :: rest }).answer .ok (1#8 :: word tag)))
      ∧ (g.state = .touched ∨ g.state = .retracting ∨ g.state = .settling →
        exec (.stop []) s = .next ((s.setMotion { s.motion with stopPending := true }).answer .ok
          [0#8, 0#8, 0#8])))
    ∧ (∀ r, s.motion.state = .referencing → s.motion.reference = some r →
      exec (.stop []) s = .next ((s.setMotion { s.motion with
        reference := some { r with stopping := true } }).answer .ok [0#8, 0#8, 0#8])))
  ∧ (∀ s : State,
    (s.motion.state ≠ .held → exec (.resume []) s = .next (s.answer .wrongState []))
    ∧ (s.motion.state = .held → s.motion.queue = [] → s.calm →
      exec (.resume []) s
        = .next ((s.setMotion { s.motion with state := .idle }).answer .ok []))
    ∧ ∃ t, exec (.flushMoves []) s = .next t
      ∧ s.sameBut t [.motion, .zone, .link, .peers, .port, .events]
      ∧ t.motion.queue = s.motion.queue.filter (·.state.flying)
      ∧ t.motion.state = s.motion.state ∧ t.motion.internal = s.motion.internal
      ∧ t.port.reply = { code := .ok
                         data := one (s.motion.queue.countP fun g => !g.state.flying) })

/-- SEGMENT COMPLETE of the last host segment, a RAPID or an untouched PROBE SETTLING in position (R38, R41,
R68): its record goes, SEGMENT DONE carries its tag, motion and every axis are IDLE, the cells outside the
rest set and the owed cells are released, and the PROBE hands over a NO CONTACT request. SEGMENT COMPLETE of an
internal segment of a change (R152, R153, R154, R156, R157): behind a RAPID comes the DOCK to the slot's dock
point; behind that DOCK the latch opens and DROPPING begins, or it closes and PICKING begins, with 300 ms on the
timer; behind LEAVING DROP comes the RAPID to the pick slot's clear point where the change goes on; else the
change ends with CHANGE DONE or with CHANGE FAILED and its reason. POSITION TIMEOUT
(R37): a segment SETTLING out of position makes a fault stop. STOP DECELERATION END (R44): the record goes,
nothing is raised, every cell is kept, motion is HELD and every axis IDLE. Where the next segment of a change may settle
at once, the bank selector is sound (R139). The velocity condition of the last is the model's (log 21), and so is
the clock (log 2). -/
def Obligations.SegmentEndsByCompletionTimeoutOrStop : Prop :=
  (∀ (g : Segment) (tag : Tag) (s : State), s.motion.state = .running → s.motion.queue = [g] →
    g.state = .settling → g.touchedAt = none → g.tag = some tag → s.calm →
    s.motion.stopPending = false →
    (∀ a, ((s.axis a).scale - g.target.get a).natAbs ≤ s.cfg.band) →
    (g.kind = .rapid → ∃ t, exec .segmentComplete s = .next t
      ∧ s.sameBut t [.axes, .motion, .zone, .link, .events]
      ∧ t.motion = { s.motion with state := .idle, queue := [] }
      ∧ (∀ a, t.axis a = { s.axis a with mode := .idle })
      ∧ t.isPending .segmentDone ∧ t.events.kept.segmentDone = some tag
      ∧ t.heldSet = CellSet.minus (s.heldSet &&& restSet s.cfg s.setpoints) s.owedSet)
    ∧ (∀ i e, g.kind = .probe → s.probes.current = .known i → s.entry i = some e →
      s.corr.computing = none → s.corr.request = none → s.probes.latch = none →
      ∃ t r, exec .segmentComplete s = .next t ∧ t.corr.computing = some (.noContact r)
        ∧ t.corr.request = none ∧ r.tag = tag ∧ r.ident = i ∧ r.snap = snapshot s
        ∧ t.motion.queue = [] ∧ t.events.kept.segmentDone = some tag
        ∧ t.points.records = s.points.records))
  ∧ (∀ (g : Segment) (ch : Change) (s : State), s.motion.state = .changing →
    s.motion.internal = some g → s.probes.change = some ch → g.state = .settling →
    g.touchedAt = none → s.calm →
    (∀ a, ((s.axis a).scale - g.target.get a).natAbs ≤ s.cfg.band) →
    let keeps (t : State) (cs : CellSet) : Prop :=
      t.heldSet = CellSet.minus (s.heldSet &&& cs) s.owedSet ∧ t.motion.queue = s.motion.queue
    let next (t : State) (kind : SegKind) (target : V3 Int) (feed : Nat) : Prop :=
      t.motion.state = .changing ∧ ∃ h, t.motion.internal = some h ∧ h.kind = kind
        ∧ h.target = target ∧ h.feed = feed ∧ h.tag = none
    let atSeat (t : State) (ph : Phase) (latchOpen : Bool) : Prop :=
      exec .segmentComplete s = .next t
        ∧ s.sameBut t [.axes, .motion, .zone, .link, .probes, .events]
        ∧ t.probes = { s.probes with
            latchOpen := latchOpen
            change := some { ch with phase := ph, seatDue := some (s.clock + 300) } }
        ∧ t.motion = { s.motion with internal := none } ∧ (∀ a, (t.axis a).mode = .idle)
        ∧ keeps t (restSet s.cfg s.setpoints)
    let goesOn : Prop := ch.failure = none ∧ ch.abort = false ∧ ch.pick.isSome
    (∀ k, ch.failure ≠ some .aborted → g.kind = .rapid → s.BankSound →
      ch.phase = .goingToDrop ∧ ch.drop = some k ∨ ch.phase = .goingToPick ∧ ch.pick = some k →
      ∃ t, exec .segmentComplete s = .next t ∧ t.probes = s.probes
        ∧ next t .dock (s.cfg.slots.get k).dock s.cfg.dockMax
        ∧ keeps t (needSet s.cfg s.setpoints (s.cfg.slots.get k).dock))
    ∧ (ch.failure ≠ some .aborted → g.kind = .dock →
      (ch.phase = .goingToDrop → ∃ t, atSeat t .dropping true)
      ∧ (ch.phase = .goingToPick → ∃ t, atSeat t .picking false)
      ∧ ∀ k, ch.phase = .leavingDrop → goesOn → ch.pick = some k → s.BankSound →
        ∃ t, exec .segmentComplete s = .next t
          ∧ t.probes = { s.probes with change := some { ch with phase := .goingToPick } }
          ∧ next t .rapid (s.cfg.slots.get k).clear s.cfg.rapidMax
          ∧ keeps t (restSet s.cfg s.setpoints))
    ∧ (ch.failure = some .aborted
        ∨ g.kind = .dock ∧ (ch.phase = .leavingPick ∨ ch.phase = .leavingDrop ∧ ¬ goesOn) →
      s.motion.queue = [] → ∃ t, exec .segmentComplete s = .next t
        ∧ s.sameBut t [.axes, .motion, .zone, .link, .probes, .events]
        ∧ t.motion = { s.motion with state := .idle, internal := none, stopPending := false }
        ∧ (∀ a, t.axis a = { s.axis a with mode := .idle })
        ∧ t.probes = { s.probes with change := none } ∧ keeps t (restSet s.cfg s.setpoints)
        ∧ (ch.failure = none → ch.abort = false →
            t.isPending .changeDone ∧ t.events.kept.changeDone = some ch.target)
        ∧ ∀ r, ch.failure = some r ∨ ch.failure = none ∧ ch.abort = true ∧ r = .aborted →
            t.isPending .changeFailed ∧ t.events.kept.changeFailed = some (r, ch.target)))
  ∧ (∀ (g : Segment) (rest : List Segment) (s : State), s.motion.state = .running →
    s.motion.queue = g :: rest →
    (∀ a : Axis, g.state = .settling → g.touchedAt = none →
      s.cfg.band < ((s.axis a).scale - g.target.get a).natAbs →
      ∃ t, exec .positionTimeout s = .next t ∧ s.sameBut t [.clock, .axes, .motion, .probes, .events]
        ∧ t.motion.state = .faulted ∧ t.motion.queue = rest
        ∧ t.events.kept.motionFault = some (.positionTimeout, g.tag)
        ∧ t.clock = max s.clock (g.settleSince + 500))
    ∧ (∀ v, g.state = .running → g.decel = some v → v ≤ s.cfg.accel → s.calm →
      ∃ t, exec .stopDecelerationEnd s = .next t ∧ s.sameBut t [.axes, .motion, .probes]
        ∧ t.motion = { s.motion with state := .held, queue := rest, stopPending := false }
        ∧ (∀ a, t.axis a = { s.axis a with mode := .idle })))

/-! ## Touches, corrections and points -/

/-- A touch (Table 2-4, R39, R145, R160): in a PROBE that is RUNNING, or SETTLING untouched, with an empty
latch it raises the touch count, fills the latch or goes to the idle Correction Unit, and the segment is
TOUCHED at its path distance; in a RAPID or DOCK, a reference or a PROBE that is RETRACTING it is a COLLISION and
is not latched; with nothing in flight it is a STRAY TOUCH; in a PROBE TOUCHED already, or SETTLING after a touch,
it has no effect. -/
def Obligations.TouchByWhatIsInFlight : Prop :=
  ∀ (c : V3 (BitVec 32)) (s : State),
    (∀ g rest geo i e, s.motion.state = .running → s.motion.queue = g :: rest →
      g.geom = some geo → g.kind = .probe →
      (g.state = .running ∨ g.state = .settling ∧ g.touchedAt = none) →
      s.probes.current = .known i → s.entry i = some e → s.probes.latch = none →
      s.corr.request = none →
      let bank := g.bank.getD s.probes.live
      let used := { e.set bank with count := min 65535 ((e.set bank).count + 1) }
      let latch : Latch :=
        { tag := g.tag.getD 0, counts := c.map BitVec.toInt, ident := i, bank := bank, set := used,
          delta := V3.zip (fun p q => q - p) geo.start g.target, len := geo.len, snap := snapshot s }
      ∃ t, exec (.touch c) s = .next t ∧ s.sameBut t [.motion, .probes, .corr, .points, .events]
        ∧ t.probes.library = s.probes.library.map
            (fun x => if x.ident = i then e.withSet bank used else x)
        ∧ (s.corr.computing = none →
            t.corr.computing = some (.touch latch) ∧ t.probes.latch = none)
        ∧ (s.corr.computing.isSome →
            t.corr.computing = s.corr.computing ∧ t.probes.latch = some latch)
        ∧ t.motion = { s.motion with
            stopPending := s.motion.stopPending || g.decel.isSome
            queue := { g with state := .touched, decel := none, resent := false
                              touchedAt := some (if g.state = .settling then geo.len else g.dist) }
              :: rest }
        ∧ t.points.records = s.points.records)
    ∧ (s.motion.state ≠ .referencing → s.flying = none →
      exec (.touch c) s = .next (raiseStrayTouch s))
    ∧ (∀ g, s.motion.state ≠ .referencing → s.flying = some g → g.kind = .probe →
      g.state = .touched ∨ g.state = .settling ∧ g.touchedAt.isSome → exec (.touch c) s = .next s)
    ∧ ((s.motion.state = .referencing
          ∨ s.motion.state ≠ .faulted ∧ ∃ g, s.flying = some g
              ∧ (g.kind ≠ .probe ∨ g.state = .retracting)) →
      ∃ t tag, exec (.touch c) s = .next t ∧ t.motion.state = .faulted
        ∧ t.events.kept.motionFault = some (.collision, tag)
        ∧ t.probes.latch = s.probes.latch ∧ t.probes.library = s.probes.library ∧ t.corr = s.corr
        ∧ t.points = s.points)

/-- CORRECTION END (R164, R182, R183, R184): the record takes the next sequence number, and is appended
with POINT READY, or at 64 records discarded with OVERRUN and the overrun count raised; with nothing
waiting the Correction Unit is idle. Work waiting is taken at once (R164): the latch, or the request where it
alone waits or was filled before the latch; and where the latch is taken before a waiting request, the request
comes before whatever the latch takes next. -/
def Obligations.CorrectionEndDeliversTheRecord : Prop :=
  (∀ (w : Work) (s : State), s.corr.computing = some w →
    (∀ l, s.probes.latch = some l → s.corr.request = none ∨ s.corr.requestFirst = false →
      ∃ t, exec .correctionEnd s = .next t
        ∧ s.sameBut t [.axes, .motion, .probes, .corr, .points, .events]
        ∧ t.corr.computing = some (.touch l) ∧ t.probes.latch = none
        ∧ t.corr.request = s.corr.request
        ∧ (t.corr.request.isSome = true → t.corr.requestFirst = true)
        ∧ t.points.counter = s.points.counter + 1
        ∧ (s.points.records.length < 64 → t.points.records = s.points.records
            ++ [{ sequence := s.points.counter, raw := recordOf s.cfg w }]))
    ∧ (∀ r, s.corr.request = some r → s.probes.latch = none ∨ s.corr.requestFirst = true →
      ∃ t, exec .correctionEnd s = .next t
        ∧ s.sameBut t [.axes, .motion, .probes, .corr, .points, .events]
        ∧ t.corr.computing = some (.noContact r) ∧ t.corr.request = none
        ∧ t.probes.latch = s.probes.latch ∧ t.points.counter = s.points.counter + 1
        ∧ (s.points.records.length < 64 → t.points.records = s.points.records
            ++ [{ sequence := s.points.counter, raw := recordOf s.cfg w }])))
  ∧ ∀ (w : Work) (s : State), s.corr.computing = some w → s.probes.latch = none →
    s.corr.request = none →
    (s.points.records.length < 64 → ∃ t, exec .correctionEnd s = .next t
      ∧ s.sameBut t [.corr, .points, .events] ∧ t.corr = { s.corr with computing := none }
      ∧ t.points = { s.points with
          records := s.points.records
            ++ [{ sequence := s.points.counter, raw := recordOf s.cfg w }]
          counter := s.points.counter + 1
          suspect := suspectOf (s.points.records
            ++ [{ sequence := s.points.counter, raw := recordOf s.cfg w }]) }
      ∧ t.events = { s.events with
          pending := s.events.pending ||| EventKind.bit .pointReady
          kept := { s.events.kept with pointReady := some s.points.counter } })
    ∧ (64 ≤ s.points.records.length → ∃ t, exec .correctionEnd s = .next t
      ∧ s.sameBut t [.axes, .motion, .probes, .corr, .points, .events]
      ∧ t.corr.computing = none ∧ t.points.records = s.points.records
      ∧ t.points.counter = s.points.counter + 1 ∧ t.points.suspect = s.points.suspect
      ∧ t.points.overrun = min 255 (s.points.overrun + 1)
      ∧ t.isPending .overrun ∧ t.events.kept.overrun = some s.points.counter)

/-- The suspect tags of a record: FIXED, BACKUP and HELD where any of the five quantities of its snapshot
carries that tag, of a TOUCH and of a NO CONTACT record (R172); DUE and BAND (R173, R174). -/
def Obligations.DueAndBandTags : Prop :=
  ∀ (cfg : Block) (l : Latch) (r : NoContact),
    ((touchRecord cfg l).suspect.due = true ↔ l.set.limit ≠ 0 ∧ l.set.limit < l.set.count)
    ∧ (l.set.limit = 65535 → l.set.count ≤ 65535 → (touchRecord cfg l).suspect.due = false)
    ∧ (noContactRecord cfg r).suspect.due = false
    ∧ ((touchRecord cfg l).suspect.band = true ↔
        (cfg.qualBand : Int) < |(l.snap.temps.get 3).value - l.set.qualTemp|)
    ∧ ((noContactRecord cfg r).suspect.band = true ↔
        (cfg.qualBand : Int) < |(r.snap.temps.get 3).value - r.qualTemp|)
    ∧ (∀ tag, l.snap.tagged tag = true ↔ ∃ i, (l.snap.temps.get i).tag = tag)
    ∧ ∀ p n, p = touchRecord cfg l ∧ n = l.snap ∨ p = noContactRecord cfg r ∧ n = r.snap →
        (p.suspect.fixed = true ↔ ∃ i, (n.temps.get i).tag = .fixed)
          ∧ (p.suspect.backup = true ↔ ∃ i, (n.temps.get i).tag = .backup)
          ∧ (p.suspect.held = true ↔ ∃ i, (n.temps.get i).tag = .held)

/-- The correction stages (R167, R168, R170): the quotient n / d is rounded to the nearest integer, halves
away from zero, a negative product as the mirror of the positive one; the scale stage adds
round(P·α·(T - 2,000) / 10^10) and the part stage takes round((C - D)·α·(T - 2,000) / 10^10) away, each
result kept at the nearer end of the signed 32-bit range; a point is the part stage of the tip stage of the
scale stage, axis by axis, and one radius along the move is never more than a radius on any axis. -/
def Obligations.StagesRoundToNearest : Prop :=
  (∀ (n : Int) (d : Nat), 0 < d →
    2 * |n - roundDiv n d * d| ≤ d
      ∧ (2 * |n - roundDiv n d * d| = d → |n| < |roundDiv n d * d|)
      ∧ roundDiv (-n) d = - roundDiv n d)
  ∧ (∀ (count move datum temp : Int) (coeff radius len : Nat),
    let kept (x : Int) := max (-2147483648) (min 2147483647 x)
    scaleStage count coeff temp
        = kept (count + roundDiv (count * coeff * (temp - 2000)) 10000000000)
      ∧ tipStage count datum radius move len = kept (count + datum + roundDiv (radius * move) len)
      ∧ partStage count datum coeff temp
          = kept (count - roundDiv ((count - datum) * coeff * (temp - 2000)) 10000000000))
  ∧ (∀ (cfg : Block) (l : Latch) (a : Axis), ∃ p, (touchRecord cfg l).point = some p
    ∧ p.get a = partStage
        (tipStage (scaleStage (l.counts.get a) (cfg.scaleCoeffs.get a)
            (l.snap.temps.get (match a with | .x => 0 | .y => 1 | .z => 2)).value)
          (l.set.offset.get a) l.set.radius (l.delta.get a) l.len)
        (l.snap.datum.get a) l.snap.partCoeff (l.snap.temps.get 4).value)
  ∧ ∀ (p q : V3 Int) (a : Axis) (radius : Nat),
    |roundDiv (radius * (q.get a - p.get a)) (pathLength p q)| ≤ radius

/-- READ POINT and FLUSH POINTS (R181, R185, R191, R192, R193): the head is removed and returned with the
records left and the overrun count, or all records are removed and their number returned; the counter and
the overrun count stay, and the suspect flag is that of the records left; an empty queue gives EMPTY. -/
def Obligations.PointsLeaveTheQueue : Prop :=
  ∀ s : State,
    (s.points.records = [] → exec (.readPoint []) s
      = .next (s.answer .empty (one 0 ++ one s.points.overrun)))
    ∧ (∀ r rest, s.points.records = r :: rest → ∃ t, exec (.readPoint []) s = .next t
      ∧ s.sameBut t [.axes, .motion, .probes, .points, .port, .events]
      ∧ t.points.records = rest ∧ t.points.counter = s.points.counter
      ∧ t.points.overrun = s.points.overrun ∧ t.points.suspect = rest.any (·.raw.suspect.any)
      ∧ t.port.reply = { code := .ok
                         data := one rest.length ++ one s.points.overrun ++ recordBytes r }
      ∧ (s.points.hold = false → s.sameBut t [.points, .port]))
    ∧ ∃ t, exec (.flushPoints []) s = .next t
      ∧ s.sameBut t [.axes, .motion, .probes, .points, .port, .events]
      ∧ t.points.records = [] ∧ t.points.counter = s.points.counter
      ∧ t.points.overrun = s.points.overrun ∧ t.points.suspect = false
      ∧ t.port.reply = { code := .ok, data := one s.points.records.length }
      ∧ (s.points.hold = false → s.sameBut t [.points, .port])

/-! ## Zone cells and claims -/

/-- A peer's CLAIM (R57, R58), with no claim of the station standing: a settle window opens whatever it is
judged; with every named cell FREE they become CLAIMED by it, with some not FREE no entry changes, and
where the station holds or claims named cells it places an OBJECT naming exactly those. Where that OBJECT cannot
be placed, the list full or the link DEAF (R75), the station raises ZONE CONFLICT with the claimant and those
cells and is FAULTED with that reason. That in DEAF only the cells still shown HELD or CLAIMED by the station
count is the model's reading (log 40). -/
def Obligations.PeerClaimIsJudged : Prop :=
  ∀ (p : Station) (n : Byte) (cs : CellSet) (s : State), p ≠ s.own → s.frames = true → s.calm →
    s.deferred = 0#20 → s.notLost p →
    let opened (t : State) : Prop :=
      t.zone.windows = s.zone.windows ++ [{ station := p, number := n, since := s.clock }]
        ∧ t.zone.claim = none ∧ (∃ e, t.peer p = some e ∧ e.lost = false ∧ e.lastHeard = s.clock)
        ∧ ∀ q, q ≠ p → t.peer q = s.peer q
    (CellSet.minus cs s.freeSet = 0#20 → ∃ t, exec (.claimAccepted p n cs) s = .next t
      ∧ s.sameBut t [.zone, .link, .peers] ∧ opened t ∧ t.link.list = s.link.list
      ∧ ∀ c, t.cell c = if cs.has c then { s.cell c with state := .claimed p n } else s.cell c)
    ∧ (CellSet.minus cs s.freeSet ≠ 0#20 → s.ownSet &&& cs = 0#20 →
      ∃ t, exec (.claimAccepted p n cs) s = .next t ∧ s.sameBut t [.zone, .link, .peers]
        ∧ opened t ∧ t.link.list = s.link.list ∧ t.zone.cells = s.zone.cells)
    ∧ (s.ownSet &&& cs ≠ 0#20 → s.link.state ≠ .deaf → s.link.list.length < 8 →
      ∃ t, exec (.claimAccepted p n cs) s = .next t ∧ s.sameBut t [.zone, .link, .peers]
        ∧ opened t ∧ t.zone.cells = s.zone.cells ∧ t.listed (.object p n (s.ownSet &&& cs))
        ∧ t.link.list.length = s.link.list.length + 1)
    ∧ (s.ownSet &&& cs ≠ 0#20 → s.link.state = .deaf ∨ 8 ≤ s.link.list.length →
      ∃ t, exec (.claimAccepted p n cs) s = .next t ∧ opened t ∧ t.zone.cells = s.zone.cells
        ∧ t.link.list = s.link.list ∧ t.motion.state = .faulted ∧ t.isPending .zoneConflict
        ∧ t.events.kept.zoneConflict = some (p, s.ownSet &&& cs)
        ∧ (s.motion.state ≠ .faulted →
            ∃ tag, t.events.kept.motionFault = some (.zoneConflict, tag))
        ∧ (s.link.state ≠ .deaf → t.events.kept.linkFault = some (.listFull, some .object)))

/-- The station's own CLAIM, and the ends of the settle windows (R57, R59): an own claim that finds every cell
FREE shows them CLAIMED; one that finds a cell no longer FREE is lost: no entry changes, the claim is WAITING for
the cells not FREE with ZONE WAIT, and a WAIT names them (R62); at the end of a window the cells still CLAIMED by
it are HELD by its sender, and the station's own claim ends as granted. At the grant of the join claim (R74) the
station holds every cell, and with all axes referenced, the queue empty and no segment in flight it keeps of them
the rest set of its setpoints, but for the cells owed, and a RELEASE names the others; an internal segment that was
WAITING ZONE is weighed first and starts, and no surplus goes: that order is the model's reading (log 39). An
abandoned claim that an OBJECT takes back inside its window is withdrawn, and nothing follows yet; at the end of
that window, granted or lost, the new current segment gets its geometry and starts or asks for its cells (R30), or
the rest set is handed over on the empty queue (R47). Where a clause gives a clock value, the clock is the model's
(log 2). -/
def Obligations.SettledClaimIsGranted : Prop :=
  (∀ (n : Byte) (s : State), s.motion.deferCurrent = none → s.motion.deferHandOver = none →
    (∀ c, s.zone.claim = some c → c.number = some n → c.waitingState = false → c.orphan = false →
      s.frames = true → CellSet.minus c.cells s.freeSet = 0#20 →
      ∃ t, exec (.claimAccepted s.own n c.cells) s = .next t
        ∧ s.sameBut t [.zone, .link, .peers] ∧ t.zone.claim = some c
        ∧ t.zone.windows = s.zone.windows
            ++ [{ station := s.own, number := n, since := s.clock }]
        ∧ (∀ k, t.cell k = if c.cells.has k then { s.cell k with state := .claimed s.own n }
            else s.cell k)
        ∧ ∀ e ∈ t.link.list, e.frame = .presence → e.sending = true)
    ∧ (∀ c, s.zone.claim = some c → c.number = some n → c.waitingState = false → c.orphan = false →
      s.frames = true → (∀ k, (s.cell k).state ≠ .claimed s.own n) →
      let blocking := CellSet.minus c.cells s.freeSet
      blocking ≠ 0#20 →
      ∃ t w, exec (.claimAccepted s.own n c.cells) s = .next t
        ∧ s.sameBut t [.zone, .link, .peers, .events] ∧ t.zone.claim = some w
        ∧ w = { c with waitingState := true, waiting := blocking, timeout := w.timeout }
        ∧ t.zone.windows = s.zone.windows
            ++ [{ station := s.own, number := n, since := s.clock }]
        ∧ (∀ k, t.cell k = s.cell k) ∧ t.zone.nextNumber = s.zone.nextNumber
        ∧ t.isPending .zoneWait ∧ t.events.kept.zoneWait = some blocking
        ∧ (s.link.state = .on → s.link.list.length < 8 →
            (∀ e ∈ s.link.list, e.frame.kind ≠ .wait) → t.listed (.wait blocking)))
    ∧ (∀ c w, s.zone.claim = some c → c.number = some n → c.waitingState = false →
      c.owner = .join → s.zone.kept = none → s.window s.own n = some w →
      (∀ k, (s.cell k).state = .held s.own ∨ (s.cell k).state = .claimed s.own n) →
      let granted (k : Cell) : CellEntry := if (s.cell k).state = .claimed s.own n
        then { s.cell k with state := .held s.own, last := some s.own } else s.cell k
      let surplus : Prop := (∀ a, (s.axis a).referenced = true) ∧ s.motion.queue = []
        ∧ s.current = none
      let rel : CellSet := CellSet.of fun k =>
        !(restSet s.cfg s.setpoints).has k || (s.cell k).owed.isSome
      ∃ t, exec (.settleWindowEnd s.own n) s = .next t ∧ t.zone.claim = none
        ∧ t.clock = max s.clock (w.since + 2)
        ∧ ((∃ a, (s.axis a).referenced = false) ∨ s.motion.queue ≠ [] ∨ s.flying.isSome →
            ∀ k, t.cell k = granted k)
        ∧ (∀ g geo, s.motion.state = .changing → s.motion.internal = some g →
            g.state = .waitingZone → g.geom = some geo →
            (∀ k, t.cell k = granted k)
              ∧ ∃ h, t.motion.internal = some h ∧ h.state.flying = true ∧ h.geom = some geo)
        ∧ (surplus → s.link.state = .on →
            (∀ k, t.cell k = if rel.has k then
                { granted k with
                  state := .free, owed := none
                  deferral := match (s.cell k).owed with
                    | some o => some { waiter := o.waiter, since := t.clock }
                    | none => (s.cell k).deferral }
              else granted k)
            ∧ (rel ≠ 0#20 → s.link.list.length < 8 →
                (∀ e ∈ s.link.list, e.frame.kind ≠ .release) → t.listed (.release rel))))
    ∧ (∀ c w, s.zone.claim = some c → c.number = some n → c.waitingState = false →
      c.owner ≠ .join → s.zone.kept = none → s.window s.own n = some w →
      ∃ t, exec (.settleWindowEnd s.own n) s = .next t ∧ t.zone.claim = none
        ∧ s.window s.own n ≠ t.window s.own n ∧ t.clock = max s.clock (w.since + 2)
        ∧ (∀ k, t.cell k = if (s.cell k).state = .claimed s.own n
            then { s.cell k with state := .held s.own, last := some s.own } else s.cell k))
    ∧ ∀ p w, p ≠ s.own → s.zone.claim = none → s.window p n = some w →
      ∃ t, exec (.settleWindowEnd p n) s = .next t ∧ s.sameBut t [.clock, .zone]
        ∧ t.clock = max s.clock (w.since + 2) ∧ t.window p n = none ∧ t.zone.claim = none
        ∧ (∀ k, t.cell k = if (s.cell k).state = .claimed p n
            then { s.cell k with state := .held p, last := some p } else s.cell k))
  ∧ ∀ (n : Byte) (s : State), (s.window s.own n).isSome → s.zone.kept = none →
    let abandons (c : Claim) : Prop :=
      c.number = some n ∧ c.waitingState = false ∧ c.orphan = true ∧ c.owner ≠ .join
    let mine : CellSet := CellSet.of fun k =>
      (s.cell k).state == .held s.own || (s.cell k).state == .claimed s.own n
    (∀ sender cs c, s.frames = true → s.notLost sender → s.zone.claim = some c → abandons c →
      (s.motion.deferCurrent = none ∨ s.motion.deferCurrent = some n) →
      (s.motion.deferHandOver = none ∨ s.motion.deferHandOver = some n) →
      ∃ t, exec (.objectAccepted sender s.own n cs) s = .next t ∧ t.zone.claim = none
        ∧ t.motion = s.motion)
    ∧ ((∀ c, s.zone.claim = some c → abandons c) →
      (∀ g rest, s.motion.deferCurrent = some n → s.motion.deferHandOver = none →
        s.motion.state = .idle → s.motion.queue = g :: rest → g.state = .queued →
        g.geom = none → g.kind = .rapid →
        let need := needSet s.cfg s.setpoints g.target
        ∃ t h, exec (.settleWindowEnd s.own n) s = .next t ∧ t.motion.queue = h :: rest
          ∧ t.motion.deferCurrent = none ∧ h.target = g.target
          ∧ h.geom = some { start := s.setpoints, len := pathLength s.setpoints g.target, need := need }
          ∧ (CellSet.minus need mine = 0#20 → h.state.flying = true ∧ t.motion.state = .running)
          ∧ (CellSet.minus need mine ≠ 0#20 → h.state = .waitingZone ∧ t.motion.state = .idle
              ∧ (t.zone.claim.isSome ∨ t.zone.heldBack.isSome)))
      ∧ (s.motion.deferCurrent = none → s.motion.deferHandOver = some n →
        s.motion.state = .idle ∨ s.motion.state = .held → (∀ a, (s.axis a).referenced = true) →
        s.motion.queue = [] →
        ∃ t, exec (.settleWindowEnd s.own n) s = .next t
          ∧ t.motion = { s.motion with deferHandOver := none }
          ∧ ∀ k, t.heldSet.has k = (mine.has k && (restSet s.cfg s.setpoints).has k
              && (s.cell k).owed.isNone)))

/-- OBJECT (R60, R61, R62, R63, R66). Inside the window the claim's CLAIMED cells become FREE at every station.
The claimant's claim, CLAIMING with its cells CLAIMED by it, raises ZONE WAIT and places a WAIT with the named
cells among its own, and since its cells are FREE it is claimed again under the next claim number; one already
WAITING adds them to its waiting set and, with a cell of it not FREE, waits on, without an event or a WAIT; an
abandoned one is withdrawn. After the window no entry changes: a claimant that holds a named cell, and the
objector itself, raise ZONE CONFLICT and are FAULTED, and any other station records nothing. That the blocking
cells are the named cells among the claim's own, and what a second OBJECT does, is the model's reading (log
19), and so is that an abandoned claim is withdrawn at once (log 26). -/
def Obligations.ObjectionTakesAClaimBack : Prop :=
  ∀ (sender target : Station) (n : Byte) (cs : CellSet) (s : State), s.frames = true →
    s.notLost sender → s.motion.deferCurrent = none → s.motion.deferHandOver = none →
    let freed (t : State) : Prop :=
      ∀ k, t.cell k = if (s.cell k).state = .claimed target n
        then { s.cell k with state := .free, owed := none } else s.cell k
    (target ≠ s.own → s.zone.claim = none → (s.window target n).isSome →
      ∃ t, exec (.objectAccepted sender target n cs) s = .next t
        ∧ s.sameBut t [.zone, .link, .peers] ∧ t.zone.windows = s.zone.windows ∧ freed t)
    ∧ (∀ c, target = s.own → s.zone.claim = some c → c.number = some n →
      (s.window target n).isSome → c.orphan = false →
      (c.waitingState = false → (∀ k, c.cells.has k = true → (s.cell k).state = .claimed s.own n) →
        s.link.state = .on → s.link.list.length < 7 → s.deferred = 0#20 →
        cs &&& c.cells ≠ 0#20 → (∀ e ∈ s.link.list, e.frame.kind ≠ .wait) →
        ∃ t w, exec (.objectAccepted sender target n cs) s = .next t
          ∧ s.sameBut t [.zone, .link, .peers, .events] ∧ freed t
          ∧ t.zone.claim = some w ∧ w.number = some s.zone.nextNumber ∧ w.cells = c.cells
          ∧ w.waitingState = false ∧ w.waiting = 0#20 ∧ w.made = c.made ∧ w.owner = c.owner
          ∧ t.zone.nextNumber = s.zone.nextNumber + 1
          ∧ t.isPending .zoneWait ∧ t.events.kept.zoneWait = some (cs &&& c.cells)
          ∧ t.listed (.wait (cs &&& c.cells)) ∧ t.listed (.claim s.zone.nextNumber c.cells))
      ∧ (c.waitingState = true →
        (∃ k, c.cells.has k = true ∧ (s.cell k).state ≠ .free ∧ (s.cell k).state ≠ .claimed s.own n) →
        ∃ t, exec (.objectAccepted sender target n cs) s = .next t
          ∧ s.sameBut t [.zone, .link, .peers] ∧ freed t ∧ t.link.list = s.link.list
          ∧ t.zone.claim = some { c with waiting := c.waiting ||| (cs &&& c.cells) }))
    ∧ (∀ c, target = s.own → s.zone.claim = some c → c.number = some n →
      (s.window target n).isSome → c.orphan = true →
      ∃ t, exec (.objectAccepted sender target n cs) s = .next t
        ∧ s.sameBut t [.zone, .link, .peers, .events] ∧ freed t
        ∧ t.zone.claim = none ∧ t.zone.kept = none
        ∧ (s.link.state ≠ .deaf → t.peers.heldBack = true))
    ∧ (target = s.own → s.zone.claim = none → s.window target n = none →
      s.heldSet &&& cs ≠ 0#20 →
      ∃ t, exec (.objectAccepted sender target n cs) s = .next t ∧ t.motion.state = .faulted
        ∧ t.zone.cells = s.zone.cells ∧ t.isPending .zoneConflict
        ∧ t.events.kept.zoneConflict = some (sender, s.heldSet &&& cs))
    ∧ (target ≠ s.own → s.zone.claim = none → s.window target n = none →
      (sender = s.own → ∃ t, exec (.objectAccepted sender target n cs) s = .next t
        ∧ t.motion.state = .faulted ∧ t.zone.cells = s.zone.cells ∧ t.isPending .zoneConflict
        ∧ t.events.kept.zoneConflict = some (target, cs))
      ∧ (sender ≠ s.own → ∃ t, exec (.objectAccepted sender target n cs) s = .next t
        ∧ s.sameBut t [.link, .peers]))

/-- WAIT, RELEASE and the end of a deferral (R64, R69, R70), with no claim standing: a peer's WAIT marks yield
owed on the named cells that the station holds or is claiming and that carry no mark; a peer's RELEASE frees
the named cells it holds and no others; the station's own WAIT changes nothing; a deferral mark ends 10 ms
after the release that set it. That the station's own WAIT and RELEASE, accepted, change no zone entry is the
model's reading (log 8); the clock is the model's (log 2). -/
def Obligations.WaitReleaseAndDeferral : Prop :=
  ∀ (p : Station) (cs : CellSet) (s : State), s.frames = true → s.notLost p → s.calm →
    (p ≠ s.own → ∃ t, exec (.waitAccepted p cs) s = .next t ∧ s.sameBut t [.zone, .link, .peers]
      ∧ ∀ k, t.cell k = if cs.has k = true ∧ s.ownSet.has k = true ∧ (s.cell k).owed = none
          then { s.cell k with owed := some { waiter := p, since := s.clock, overstayed := false } }
          else s.cell k)
    ∧ (p = s.own → exec (.waitAccepted p cs) s = .next s)
    ∧ (p ≠ s.own → ∃ t, exec (.releaseAccepted p cs) s = .next t
      ∧ s.sameBut t [.zone, .link, .peers]
      ∧ ∀ k, t.cell k = if cs.has k = true ∧ (s.cell k).state = .held p
          then { s.cell k with state := .free, lost := false } else s.cell k)
    ∧ (p = s.own → ∃ t, exec (.releaseAccepted p cs) s = .next t ∧ t.zone = s.zone)
    ∧ ∀ k d, (s.cell k).deferral = some d → ∃ t, exec (.deferralExpiry k) s = .next t
      ∧ s.sameBut t [.clock, .zone] ∧ t.clock = max s.clock (d.since + 10)
      ∧ ∀ j, t.cell j = if j = k then { s.cell j with deferral := none } else s.cell j

/-- The wait limit, the yield limit and the retry (R66, R67): ZONE WAIT TIMEOUT once for a WAITING claim with
its cell set; ZONE OVERSTAY once for an owing with the cell and its waiter; a WAITING claim whose cells are
all FREE is claimed again under the next claim number. Where a clause gives a clock value, the clock is the
model's (log 2). -/
def Obligations.WaitLimitsAndRetry : Prop :=
  ∀ s : State,
    (∀ c, s.zone.claim = some c → c.waitingState = true →
      (c.timeout = false → exec .zoneWaitTimeout s
        = .next (raiseZoneWaitTimeout c.cells
            (((s.setClock (max s.clock (c.made + s.cfg.waitLimit * 1000 + 1))).setZone
              { s.zone with claim := some { c with timeout := true } }))))
      ∧ (c.timeout = true → exec .zoneWaitTimeout s = .next s)
      ∧ (c.orphan = false → s.zone.retryAwaited = true → s.link.state = .on →
        s.link.list.length < 8 → CellSet.minus c.cells s.freeSet = 0#20 → s.deferred = 0#20 →
        s.motion.deferCurrent = none → s.motion.deferHandOver = none →
        ∃ t, exec .claimRetryRoom s = .next t ∧ s.sameBut t [.zone, .link]
          ∧ t.zone = { s.zone with
              claim := some { c with number := some s.zone.nextNumber, waitingState := false,
                                     waiting := 0#20 }
              nextNumber := s.zone.nextNumber + 1, retryAwaited := false }
          ∧ t.listed (.claim s.zone.nextNumber c.cells)))
    ∧ ∀ k o, (s.cell k).owed = some o →
      (o.overstayed = false → ∃ t, exec (.zoneOverstay k) s = .next t
        ∧ s.sameBut t [.clock, .zone, .events]
        ∧ t.clock = max s.clock (o.since + s.cfg.yieldLimit * 1000 + 1)
        ∧ (∀ j, t.cell j = if j = k then { s.cell j with owed := some { o with overstayed := true } }
            else s.cell j)
        ∧ t.isPending .zoneOverstay ∧ t.events.kept.zoneOverstay = some (k, o.waiter))
      ∧ (o.overstayed = true → exec (.zoneOverstay k) s = .next s)

/-! ## The room link -/

/-- Sending (R80, R89, R96, R108, R149): at idle the first frame of the list is sent; a delivered frame leaves
the list, a PRESENCE restarts the report period, and a RACK NOTE's slot is no longer unsent; an idle line ends
the wait for idle. That delivery and the effect of the own frame are two commands is the model's choice (log
8); the clock is the model's (log 2). -/
def Obligations.FramesAreSentAndDelivered : Prop :=
  ∀ s : State,
    (∀ e rest, s.link.state = .listening ∨ s.link.state = .on → s.sendingEntry = none →
      s.link.list = e :: rest → ∃ t, exec .frameSendStart s = .next t ∧ s.sameBut t [.link]
        ∧ t.link = { s.link with
            list := { e with sending := true } :: rest, waitIdle := false
            lineOut := some (encodeFrame s.own (e.frame.content s)) })
    ∧ (∀ e pre post, s.link.list = pre ++ e :: post → e.sending = true →
      (∀ x ∈ pre ++ post, x.sending = false) → ∃ t, exec .frameDelivered s = .next t
        ∧ s.sameBut t [.link, .peers, .probes]
        ∧ t.link = { s.link with list := pre ++ post, lineOut := none }
        ∧ (e.frame = .presence → (∀ x ∈ pre ++ post, x.frame ≠ .presence) →
            s.peers.heldBack = false →
            t.peers = { s.peers with presenceDue := some (s.clock + 1000) })
        ∧ (∀ k c, e.frame = .rackNote k c → t.peers = s.peers
            ∧ t.probes.slots.get k = { s.probes.slots.get k with unsent := false }
            ∧ ∀ j, j ≠ k → t.probes.slots.get j = s.probes.slots.get j)
        ∧ (e.frame.kind ≠ .presence → e.frame.kind ≠ .rackNote → s.sameBut t [.link]))
    ∧ exec .lineIdle s = .next (s.setLink { s.link with waitIdle := false })

/-- A frame that keeps its place (R84, R91, R95): a lost arbitration leaves a frame of any kind in its place
with its spoiled-attempt count, a spoiled attempt adds one, and at the sixteenth a frame of any kind is dropped
with LINK FAULT, reason SPOILED, and its owner told: nothing follows for a RELEASE, a WAIT and a SAMPLE CALL, a
RACK NOTE's slot is marked unsent, a PRESENCE starts the report period, an OBJECT makes a fault stop with ZONE
CONFLICT, and a CLAIM's claim goes to WAITING for its cells that are not FREE, with ZONE WAIT and a WAIT (R58,
R62, R66, R108, R149). The earlier spoils are stated for the kinds that R95 never merges, and a spoiled RELEASE or
WAIT takes the cells of the later one. The clock is the model's (log 2). That the loser of an arbitration does not
wait for idle is the model's reading (log 9), that it joins no frames too (log 18), and that the three ways in
which an attempt is spoiled act alike (log 29). -/
def Obligations.AttemptsAreCountedToSixteen : Prop :=
  ∀ (e : TxEntry) (pre post : List TxEntry) (s : State), s.link.list = pre ++ e :: post →
    e.sending = true → (∀ x ∈ pre ++ post, x.sending = false) →
    (∃ t, exec .arbitrationLost s = .next t ∧ s.sameBut t [.link]
      ∧ t.link = { s.link with list := pre ++ { e with sending := false } :: post
                               lineOut := none })
    ∧ (∀ c, (c = .lineDriverFault ∨ (∃ own, c = .earlySpoil own)
        ∨ ∃ rx byOther, c = .frameSpoiled rx byOther) → s.calm →
      (e.attempts < 15 →
        e.frame.kind = .object ∨ e.frame.kind = .claim ∨ e.frame.kind = .rackNote
          ∨ e.frame.kind = .sampleCall →
        ∃ t, exec c s = .next t ∧ s.sameBut t [.link]
          ∧ t.link.list
              = pre ++ { e with sending := false, attempts := e.attempts + 1 } :: post
          ∧ t.link.lineOut = none)
      ∧ (∀ cs ds later, e.attempts < 15 → post = later :: post.tail →
        (e.frame = .release cs ∧ later.frame = .release ds)
          ∨ (e.frame = .wait cs ∧ later.frame = .wait ds) →
        (∀ x ∈ pre ++ post.tail, x.frame.kind ≠ e.frame.kind) →
        ∃ t, exec c s = .next t ∧ s.sameBut t [.link]
          ∧ t.link.list = pre ++ { frame := e.frame.addCells ds, attempts := e.attempts + 1,
                                   sending := false } :: post.tail)
      ∧ (15 ≤ e.attempts →
        let dropped (t : State) : Prop := exec c s = .next t ∧ t.link.list = pre ++ post
          ∧ t.link.lineOut = none ∧ t.isPending .linkFault
          ∧ t.events.kept.linkFault = some (.spoiled, some e.frame.kind)
        (e.frame.kind = .release ∨ e.frame.kind = .wait ∨ e.frame.kind = .sampleCall →
          ∃ t, dropped t ∧ s.sameBut t [.link, .events])
        ∧ (∀ k content, e.frame = .rackNote k content → ∃ t, dropped t
          ∧ s.sameBut t [.link, .probes, .events]
          ∧ t.probes = { s.probes with
              slots := s.probes.slots.set k { s.probes.slots.get k with unsent := true } })
        ∧ (e.frame = .presence → (∀ x ∈ pre ++ post, x.frame ≠ .presence) →
          s.peers.heldBack = false → ∃ t, dropped t ∧ s.sameBut t [.link, .peers, .events]
            ∧ t.peers = { s.peers with presenceDue := some (s.clock + 1000) })
        ∧ ∀ p n cs, e.frame = .object p n cs → s.motion.state ≠ .faulted → ∃ t, dropped t
          ∧ t.motion.state = .faulted ∧ t.isPending .zoneConflict
          ∧ t.events.kept.zoneConflict = some (p, cs)
          ∧ (∃ tag, t.events.kept.motionFault = some (.zoneConflict, tag))
          ∧ t.zone.cells = s.zone.cells))
    ∧ ∀ c n cs claim, c = .lineDriverFault ∨ (∃ own, c = .earlySpoil own)
        ∨ (∃ rx byOther, c = .frameSpoiled rx byOther) → 15 ≤ e.attempts → e.frame = .claim n cs →
      s.zone.claim = some claim → claim.number = some n → claim.waitingState = false →
      claim.orphan = false → s.motion.deferCurrent = none → s.motion.deferHandOver = none →
      s.link.list.length ≤ 8 →
      let blocking := CellSet.minus claim.cells s.freeSet
      ∃ t w, exec c s = .next t ∧ s.sameBut t [.zone, .link, .events] ∧ t.zone.claim = some w
        ∧ w = { claim with waitingState := true, waiting := blocking, timeout := w.timeout }
        ∧ t.zone.retryAwaited = true
        ∧ t.isPending .zoneWait ∧ t.events.kept.zoneWait = some blocking
        ∧ t.isPending .linkFault ∧ t.events.kept.linkFault = some (.spoiled, some .claim)
        ∧ (∀ k, t.cell k = if (s.cell k).state = .claimed s.own n
            then { s.cell k with state := .free, owed := none } else s.cell k)
        ∧ (s.link.state = .on → blocking ≠ 0#20 → (∀ x ∈ pre ++ post, x.frame.kind ≠ .wait) →
            t.listed (.wait blocking))

/-- Errors and duplicate stations on reception (R85, R86, R88, R92, R93, R75): an error of its own adds one to
the run; the eighth, a frame with the station's own number, or a mismatch of a frame it sends, takes the link
to DEAF with LINK FAULT, drops its OBJECT, CLAIM and WAIT frames, and shows every cell it does not hold
HELD-UNKNOWN; an OBJECT dropped makes a fault stop with ZONE CONFLICT, and a CLAIMING claim goes to WAITING with
its whole cell set and ZONE WAIT (R58, R75, R93). The owner of the frame that meets a mismatch is told as of a
dropped one (R85): a RACK NOTE's slot is unsent, a PRESENCE starts the report period, a CLAIM's claim waits for
its cells that are not FREE. The clock is the model's (log 2). What an early spoil and a frame with the own number
count is the model's reading (logs 29 and 30); that of several OBJECTs the last listed is the one kept is log 50's;
that released cells become HELD-UNKNOWN is log 10's. -/
def Obligations.ReceptionErrorsLeadToDeaf : Prop :=
  (∀ s : State, s.calm → s.peers.heldBack = false →
    (∀ e ∈ s.link.list, e.frame.kind ≠ .object) →
    let wentDeaf (t : State) (r : LinkReason) (k : Option FrameKind) (list : List TxEntry) : Prop :=
      s.sameBut t [.zone, .link, .events] ∧ t.link.state = .deaf
        ∧ t.link.list = list.filter (fun e => e.frame.kind != .claim && e.frame.kind != .wait)
        ∧ (∀ c, t.cell c = if (s.cell c).state = .held s.own then s.cell c
            else { s.cell c with state := .heldUnknown, lost := false, owed := none })
        ∧ t.events = { s.events with pending := s.events.pending ||| EventKind.bit .linkFault
                                     kept := { s.events.kept with linkFault := some (r, k) } }
    (s.frames = true → s.judges = true → s.sendingEntry = none →
      (s.link.run < 7 →
        exec (.earlySpoil true) s
            = .next (s.setLink { s.link with run := s.link.run + 1, waitIdle := true })
          ∧ ∀ rx byOther, receptionBad rx = true → receptionSender rx ≠ some s.own →
            exec (.frameSpoiled rx byOther) s
              = .next (s.setLink { s.link with run := s.link.run + 1 }))
      ∧ (s.link.run = 7 → ∃ t, exec (.earlySpoil true) s = .next t
          ∧ wentDeaf t .deaf none s.link.list ∧ t.link.run = 8)
      ∧ exec (.earlySpoil false) s = .next (s.setLink { s.link with waitIdle := true })
      ∧ ∀ k, ∃ t, exec (.duplicateStationFrame k) s = .next t
          ∧ wentDeaf t .duplicateStation (some k) s.link.list)
    ∧ ∀ e pre post, s.link.list = pre ++ e :: post → e.sending = true →
      (∀ x ∈ pre ++ post, x.sending = false) →
      (e.frame.kind = .release ∨ e.frame.kind = .wait ∨ e.frame.kind = .sampleCall →
        ∃ t, exec .duplicateStationMismatch s = .next t
          ∧ wentDeaf t .duplicateStation (some e.frame.kind) (pre ++ post))
      ∧ (∀ k content, e.frame = .rackNote k content →
        ∃ t u, exec .duplicateStationMismatch s = .next u ∧ u = t.setProbes { s.probes with
            slots := s.probes.slots.set k { s.probes.slots.get k with unsent := true } }
          ∧ wentDeaf t .duplicateStation (some .rackNote) (pre ++ post))
      ∧ (e.frame = .presence → (∀ x ∈ pre ++ post, x.frame ≠ .presence) →
        ∃ t u, exec .duplicateStationMismatch s = .next u
          ∧ u = t.setPeers { s.peers with presenceDue := some (s.clock + 1000) }
          ∧ wentDeaf t .duplicateStation (some .presence) (pre ++ post)))
  ∧ ∀ s : State, s.motion.deferCurrent = none → s.motion.deferHandOver = none →
    let deafView (t : State) : Prop := t.link.state = .deaf ∧ t.heldSet = s.heldSet
      ∧ (∀ e ∈ t.link.list, e.frame.kind ≠ .object ∧ e.frame.kind ≠ .claim ∧ e.frame.kind ≠ .wait)
      ∧ ∀ c, t.cell c = if (s.cell c).state = .held s.own then s.cell c
          else { s.cell c with state := .heldUnknown, lost := false, owed := none }
    let conflict (t : State) (p : Station) (cs : CellSet) : Prop := t.motion.state = .faulted
      ∧ t.isPending .zoneConflict ∧ t.events.kept.zoneConflict = some (p, cs)
      ∧ ∃ tag, t.events.kept.motionFault = some (.zoneConflict, tag)
    let waits (t : State) (claim : Claim) (cs : CellSet) : Prop :=
      (∃ w, t.zone.claim = some w
        ∧ w = { claim with waitingState := true, waiting := cs, timeout := w.timeout })
        ∧ t.isPending .zoneWait ∧ t.events.kept.zoneWait = some cs
    (∀ c, (∃ k, c = .duplicateStationFrame k) ∨ c = .earlySpoil true ∧ s.link.run = 7 →
      s.frames = true → s.judges = true → s.sendingEntry = none →
      (∀ claim, s.zone.claim = some claim → claim.orphan = false →
        ∃ t, exec c s = .next t ∧ deafView t
          ∧ (claim.waitingState = false → waits t claim claim.cells)
          ∧ (claim.waitingState = true → t.zone.claim = some claim))
      ∧ (∀ e pre post p n cs, s.link.list = pre ++ e :: post → e.frame = .object p n cs →
        (∀ x ∈ post, x.frame.kind ≠ .object) → s.motion.state ≠ .faulted → s.calm →
        ∃ t, exec c s = .next t ∧ deafView t ∧ conflict t p cs))
    ∧ ∀ e pre post, s.link.list = pre ++ e :: post → e.sending = true →
      (∀ x ∈ pre ++ post, x.sending = false ∧ x.frame.kind ≠ .object) → s.link.list.length ≤ 8 →
      (∀ p n cs, e.frame = .object p n cs → s.motion.state ≠ .faulted → s.calm →
        ∃ t, exec .duplicateStationMismatch s = .next t ∧ deafView t ∧ conflict t p cs
          ∧ t.events.kept.linkFault = some (.duplicateStation, some .object))
      ∧ ∀ n cs claim, e.frame = .claim n cs → s.zone.claim = some claim → claim.number = some n →
        claim.waitingState = false → claim.orphan = false → s.peers.heldBack = false →
        ∃ t, exec .duplicateStationMismatch s = .next t ∧ deafView t
          ∧ waits t claim (CellSet.minus claim.cells s.freeSet)
          ∧ t.events.kept.linkFault = some (.duplicateStation, some .claim)

/-- RESET LINK (R98, R76, R99): refused in SILENT and LISTENING with WRONG STATE and with an OBJECT listed
with BUSY; else the link is LISTENING with one PRESENCE in its list, no peer is present, windows and deferrals
end, cells not held are HELD-UNKNOWN, held cells stay, and no event is raised; axes, queue, records and motion
state stay whatever claim stands (R20, R50). That LISTENING with an OBJECT listed is WRONG STATE is the model's
reading (log 44). That no event is raised, and that an abandoned claim's end is
followed later, is the model's reading of R98 (log 11); the clock is the model's (log 2). -/
def Obligations.ResetLinkStartsListening : Prop :=
  ∀ s : State,
    (s.link.state = .silent ∨ s.link.state = .listening →
      exec (.resetLink []) s = .next (s.answer .wrongState []))
    ∧ (s.link.state = .on ∨ s.link.state = .deaf →
      ((∃ e ∈ s.link.list, e.frame.kind = .object) →
        exec (.resetLink []) s = .next (s.answer .busy []))
      ∧ ((∀ e ∈ s.link.list, e.frame.kind ≠ .object) →
        ∃ t, exec (.resetLink []) s = .next t
          ∧ s.sameBut t [.zone, .link, .peers, .temps, .probes, .port]
          ∧ t.link.state = .listening ∧ t.zone.windows = [] ∧ t.heldSet = s.heldSet
          ∧ (∀ c, t.zone.claim = some c → c.waitingState = true)
          ∧ t.port.reply = { code := .ok, data := [] })
      ∧ ((∀ e ∈ s.link.list, e.frame.kind ≠ .object) → s.calm →
        ∃ t, exec (.resetLink []) s = .next t
          ∧ s.sameBut t [.zone, .link, .peers, .temps, .probes, .port]
          ∧ t.link = { state := .listening
                       list := [{ frame := .presence, attempts := 0, sending := false }]
                       run := 0, waitIdle := true, lineOut := none
                       listeningDue := some (s.clock + 1200) }
          ∧ (∀ p, t.peer p = none) ∧ t.peers.presenceDue = none ∧ t.peers.heldBack = false
          ∧ t.zone.windows = [] ∧ t.zone.claim = none
          ∧ (∀ c, t.cell c = if (s.cell c).state = .held s.own
              then { s.cell c with deferral := none }
              else { s.cell c with state := .heldUnknown, lost := false, owed := none,
                                   deferral := none })
          ∧ (∀ k, (t.probes.slots.get k).content = (s.probes.slots.get k).content)
          ∧ (∀ k c, (∃ e ∈ s.link.list, e.frame = .rackNote k c) →
              (t.probes.slots.get k).unsent = true)
          ∧ t.port.reply = { code := .ok, data := [] }))

/-- LISTENING END (R77, R74, R216): the link is ON, every HELD-UNKNOWN cell takes its holder from the
lowest-numbered peer whose report lists it and is else FREE, and a JOINING station is ACTIVE with READY; in
the start-up with the arm out, the join claim asks for every cell not held. Where a clause gives a clock
value, the clock is the model's (log 2). -/
def Obligations.ListeningEndsInOn : Prop :=
  ∀ (due : Nat) (s : State), s.link.state = .listening → s.link.listeningDue = some due → s.calm →
    s.peer s.own = none →
    (∀ p e r, s.peer p = some e → e.report = some r → s.heldSet &&& r.held = 0#20) →
    let lists (p : Station) (c : Cell) : Prop :=
      ∃ e r, s.peer p = some e ∧ e.report = some r ∧ r.held.has c = true
    let settled (t : State) : Prop :=
      ∀ c, ((s.cell c).state ≠ .heldUnknown → t.cell c = s.cell c)
        ∧ ((s.cell c).state = .heldUnknown → (∀ p, ¬ lists p c) →
            t.cell c = { s.cell c with state := .free })
        ∧ ∀ p, (s.cell c).state = .heldUnknown → lists p c → (∀ q, q < p → ¬ lists q c) →
            t.cell c = { s.cell c with state := .held p, last := some p, lost := s.isLost p }
    (s.axes.retracted = true ∨ s.station.state ≠ .joining →
      ∃ t, exec .listeningEnd s = .next t ∧ s.sameBut t [.clock, .station, .zone, .link, .events]
        ∧ t.clock = max s.clock due ∧ settled t
        ∧ t.link = { s.link with state := .on, listeningDue := none }
        ∧ (s.station.state = .joining →
            t.station = { s.station with state := .active }
              ∧ t.events = { s.events with
                  pending := s.events.pending ||| EventKind.bit .ready })
        ∧ (s.station.state ≠ .joining → t.station = s.station ∧ t.events = s.events))
    ∧ (s.axes.retracted = false → s.station.state = .joining → s.heldSet = 0#20 →
      s.link.list.length < 8 →
      ∃ t c, exec .listeningEnd s = .next t ∧ t.station.state = .active ∧ settled t
        ∧ t.link.state = .on ∧ t.zone.claim = some c ∧ c.owner = .join
        ∧ c.cells = CellSet.all ∧ c.waitingState = false
        ∧ t.listed (.claim s.zone.nextNumber CellSet.all))

/-! ## Peers -/

/-- A peer lost or forgotten (R103, R105, R73, R65, R70), with no claim standing: lost, its cells stay HELD
with the lost-holder mark and its claims are FREE; forgotten, its entry goes and its cells are FREE; in both
what it was owed and deferred ends. FORGET PEER of an entry absent or not lost is refused. Where a clause
gives a clock value, the clock is the model's (log 2). -/
def Obligations.PeerIsLostOrForgotten : Prop :=
  ∀ (p : Station) (s : State), s.calm →
    (∀ e, s.peer p = some e → e.lost = false → s.link.state ≠ .silent →
      ∃ t, exec (.peerLost p) s = .next t ∧ s.sameBut t [.clock, .zone, .peers, .temps, .events]
        ∧ t.clock = max s.clock (e.lastHeard + 3000)
        ∧ t.peer p = some { e with lost := true } ∧ (∀ q, q ≠ p → t.peer q = s.peer q)
        ∧ t.events = { s.events with pending := s.events.pending ||| EventKind.bit .peerLost
                                     kept := { s.events.kept with peerLost := some p } }
        ∧ ∀ c, let old := s.cell c
               let new := t.cell c
               new.state = (if old.claimedBy p then .free else old.state)
                 ∧ new.lost = (if old.state = .held p then true else old.lost)
                 ∧ new.last = old.last
                 ∧ new.owed = (if old.owed.map (·.waiter) = some p ∨ old.claimedBy p then none
                     else old.owed)
                 ∧ new.deferral = (if old.deferral.map (·.waiter) = some p then none
                     else old.deferral))
    ∧ (s.isLost p = true →
      ∃ t, exec (.forgetPeer (one p.val)) s = .next t ∧ s.sameBut t [.zone, .peers, .temps, .port]
        ∧ t.peer p = none ∧ (∀ q, q ≠ p → t.peer q = s.peer q)
        ∧ t.port.reply = { code := .ok, data := [] }
        ∧ ∀ c, let old := s.cell c
               let new := t.cell c
               new.state = (if old.state = .held p then .free else old.state)
                 ∧ new.last = old.last
                 ∧ new.owed = (if old.owed.map (·.waiter) = some p then none else old.owed)
                 ∧ new.deferral = (if old.deferral.map (·.waiter) = some p then none
                     else old.deferral))
    ∧ (s.isLost p = false → exec (.forgetPeer (one p.val)) s = .next (s.answer .wrongState []))
    ∧ ∀ n, 8 ≤ n → n < 256 → exec (.forgetPeer (one n)) s = .next (s.answer .outOfRange [])

/-- A peer's PRESENCE with the link ON (R102, R71, R72): its entry takes the report; with no cell of the
station in it, the listed cells are HELD by it and its other cells FREE; with one, the station keeps its
cells, raises ZONE CONFLICT and is FAULTED. Where a clause gives a clock value, the clock is the model's (log
2). -/
def Obligations.PresenceSetsTheView : Prop :=
  ∀ (p : Station) (r : Report) (s : State), p ≠ s.own → s.frames = true → s.link.state = .on →
    s.calm → s.notLost p → r.wellFormed = true →
    ((∀ c, r.held.has c = true → (s.cell c).state ≠ .held s.own
        ∧ ∀ q m, (s.cell c).state ≠ .claimed q m) →
      ∃ t, exec (.presenceAccepted p r) s = .next t ∧ s.sameBut t [.zone, .link, .peers, .temps]
        ∧ t.peer p = some { lost := false, lastHeard := s.clock, report := some r }
        ∧ (∀ q, q ≠ p → t.peer q = s.peer q)
        ∧ ∀ c, let old := s.cell c
               let new := t.cell c
               new.state = (if r.held.has c then .held p
                   else if old.state = .held p then .free else old.state)
                 ∧ new.last = (if r.held.has c then some p else old.last)
                 ∧ new.deferral = old.deferral
                 ∧ new.owed = (if old.owed.map (·.waiter) = some p ∧ r.waiting.has c = false
                     then none else old.owed))
    ∧ (s.heldSet &&& r.held ≠ 0#20 →
      ∃ t, exec (.presenceAccepted p r) s = .next t ∧ t.motion.state = .faulted
        ∧ t.isPending .zoneConflict
        ∧ t.events.kept.zoneConflict = some (p, s.heldSet &&& r.held)
        ∧ ∀ c, (s.cell c).state = .held s.own → (t.cell c).state = .held s.own)

/-- PRESENCE PERIOD and CALL SAMPLE (R108, R109, R111): at the end of the period a PRESENCE joins the list, or
is held back while the window of the station's own claim runs; CALL SAMPLE places a SAMPLE CALL, is BUSY with
LINK FAULT at a full list, and is refused in SILENT. Where a clause gives a clock value, the clock is the
model's (log 2). -/
def Obligations.ReportsAndSampleCallsAreOffered : Prop :=
  ∀ s : State,
    (∀ due, s.peers.presenceDue = some due →
      (s.holdsReports = true → ∃ t, exec .presencePeriod s = .next t
        ∧ s.sameBut t [.clock, .peers] ∧ t.clock = max s.clock due
        ∧ t.peers = { s.peers with heldBack := true, presenceDue := none })
      ∧ (s.holdsReports = false → s.link.state ≠ .silent → s.link.list.length < 8 →
        (∀ e ∈ s.link.list, e.frame ≠ .presence) → ∃ t, exec .presencePeriod s = .next t
        ∧ s.sameBut t [.clock, .link, .peers] ∧ t.clock = max s.clock due
        ∧ t.peers = { s.peers with presenceDue := none } ∧ t.listed .presence
        ∧ t.link.list.length = s.link.list.length + 1))
    ∧ (s.link.state = .silent → exec (.callSample []) s = .next (s.answer .wrongState []))
    ∧ (s.link.state ≠ .silent → s.link.list.length < 8 →
      ∃ t, exec (.callSample []) s = .next t ∧ s.sameBut t [.link, .port] ∧ t.listed .sampleCall
        ∧ t.link.list.length = s.link.list.length + 1
        ∧ t.port.reply = { code := .ok, data := [] })
    ∧ (s.link.state ≠ .silent → 8 ≤ s.link.list.length →
      exec (.callSample []) s
        = .next ((raiseLinkFault .listFull (some .sampleCall) s).answer .busy []))

/-! ## Temperatures -/

/-- SET FIXED TEMPERATURE (R124): the override of the quantity is on with the value limited to -1,000 to
6,000, the quantity has that value with tag FIXED at once, the reply carries the value stored and is
CLAMPED where it was limited; a quantity outside 0 to 4 is refused and changes nothing. -/
def Obligations.FixedTemperatureIsSet : Prop :=
  ∀ (v : Int) (s : State), -32768 ≤ v → v ≤ 32767 →
    let kept := max (-1000) (min 6000 v)
    (∀ q : Fin 5, ∃ t, exec (.setFixedTemperature (one q.val ++ beSigned 2 v)) s = .next t
      ∧ s.sameBut t [.temps, .port]
      ∧ t.temps.quantities.get q
          = { value := kept, tag := .fixed, overrideOn := true, override := kept }
      ∧ (∀ p, p ≠ q → (t.temps.quantities.get p).overrideOn = (s.temps.quantities.get p).overrideOn
          ∧ (t.temps.quantities.get p).override = (s.temps.quantities.get p).override)
      ∧ t.temps.channels = s.temps.channels
      ∧ t.port.reply = { code := if kept = v then .ok else .clamped, data := beSigned 2 kept })
    ∧ ∀ n, 5 ≤ n → n < 256 →
      exec (.setFixedTemperature (one n ++ beSigned 2 v)) s = .next (s.answer .outOfRange [])

/-- CLEAR FIXED TEMPERATURE and SET PART (R125, R126, R130): with the override off the quantity takes its
fresh primary, else its fresh backup with tag BACKUP, else keeps its value with tag HELD, and the override
value is kept; a part setting in range replaces the old one, one out of range is refused. -/
def Obligations.FixedTemperatureIsClearedAndPartIsSet : Prop :=
  ∀ s : State,
    (∀ q : Fin 5, ∃ t, exec (.clearFixedTemperature (one q.val)) s = .next t
      ∧ s.sameBut t [.temps, .port] ∧ t.port.reply = { code := .ok, data := [] }
      ∧ (t.temps.quantities.get q).overrideOn = false
      ∧ (t.temps.quantities.get q).override = (s.temps.quantities.get q).override
      ∧ (∀ x, primaryOf s q = some x → (t.temps.quantities.get q).value = x
          ∧ (t.temps.quantities.get q).tag = .none)
      ∧ (∀ x, primaryOf s q = none → backupOf s q = some x →
          (t.temps.quantities.get q).value = x ∧ (t.temps.quantities.get q).tag = .backup)
      ∧ (primaryOf s q = none → backupOf s q = none →
          (t.temps.quantities.get q).value = (s.temps.quantities.get q).value
            ∧ (t.temps.quantities.get q).tag = .held))
    ∧ ∀ (p : V3 Int) (coeff : Nat), (∀ a, fits32 (p.get a) = true) → coeff < 65536 →
      let data := beSigned 4 p.x ++ beSigned 4 p.y ++ beSigned 4 p.z ++ beBytes 2 coeff
      let inRange := 0 ≤ p.x ∧ p.x ≤ 80000000 ∧ 0 ≤ p.y ∧ p.y ≤ 40000000 ∧ 0 ≤ p.z
        ∧ p.z ≤ 40000000 ∧ coeff ≤ 3000
      (inRange → exec (.setPart data) s
        = .next ((s.setTemps { s.temps with datum := p, partCoeff := coeff }).answer .ok []))
      ∧ (¬ inRange → exec (.setPart data) s = .next (s.answer .outOfRange []))

/-- A sample, of the timer or of a SAMPLE CALL (R112, R117 to R120, R126, R127): every channel follows its sample, a
channel that becomes FAILED raises SENSOR FAULT, and the timer starts again from its expiry. Once all channels have
taken the sample each of the five quantities is evaluated: its override with tag FIXED, else its fresh primary with
no tag, else its fresh backup with BACKUP, else the value it had with HELD; a changed tag raises no event. Where a
clause gives a clock value, the clock is the model's (log 2). -/
def Obligations.SamplesDriveTheChannels : Prop :=
  ∀ (v : Conversions) (order : List Chan) (s : State),
    let sampled (t : State) : Prop :=
      (∀ c, (s.temps.channels.get c).followsSample (v.get c) (t.temps.channels.get c))
        ∧ ((∃ c, (s.temps.channels.get c).state ≠ .failed
              ∧ (t.temps.channels.get c).state = .failed) →
            t.isPending .sensorFault ∧ ∃ c, t.events.kept.sensorFault = some c
              ∧ (t.temps.channels.get c).state = .failed)
        ∧ (∀ i, let q := s.temps.quantities.get i
            t.temps.quantities.get i =
              if q.overrideOn then { q with value := q.override, tag := .fixed }
              else match primaryOf t i, backupOf t i with
                | some x, _ => { q with value := x, tag := .none }
                | none, some x => { q with value := x, tag := .backup }
                | none, none => { q with tag := .held })
        ∧ t.temps.datum = s.temps.datum ∧ t.temps.partCoeff = s.temps.partCoeff
    (∃ t, exec (.sampleTimer v order) s = .next t ∧ s.sameBut t [.clock, .temps, .events]
      ∧ ((∀ c, (s.temps.channels.get c).state = .failed ∨ (t.temps.channels.get c).state ≠ .failed) →
          t.events = s.events)
      ∧ sampled t ∧ t.clock = max s.clock s.temps.sampleDue
      ∧ t.temps.sampleDue = s.temps.sampleDue + 100)
    ∧ ∀ p, s.frames = true → s.notLost p →
      ∃ t, exec (.sampleCallAccepted p v order) s = .next t
        ∧ s.sameBut t [.link, .peers, .temps, .events] ∧ sampled t
        ∧ t.temps.sampleDue = s.temps.sampleDue
        ∧ (s.holdsReports = false → s.link.list.length < 8 → ∃ e ∈ t.link.list, e.frame = .presence)

/-! ## Probes, racks and the change sequence -/

/-- CHANGE PROBE, and ABORT CHANGE by phase (R150, R151, R152, R157): the first check of Table 7-5 that fails gives
the reply and changes nothing else; a change that passes them all picks from the slot that shows the target, and
with a probe on the seat drops into the lowest EMPTY slot of the pick slot's rack, or of any rack where that one has
none or the target is NONE; motion is CHANGING with the record and a RAPID to the first slot's clear point in hand,
and the reply carries the two slots; an abort outside CHANGING is refused, in DROPPING and LEAVING DROP it sets the mark, in PICKING and IDENTIFYING it is
TOO LATE, and in a RUNNING travel it begins a STOP deceleration. -/
def Obligations.ChangeBeginsAndAborts : Prop :=
  ∀ s : State,
    (∀ target : Ident,
      let shows (k : SlotIx) (i : Ident) : Prop := (s.probes.slots.get k).content = i
      let onSeat : Prop := s.probes.current ≠ .none
      let checks : List (Bool × Code) :=
        [(decide (target = 0xFFFF#16), .outOfRange),
         (decide (s.station.state ≠ .active ∨ s.motion.state ≠ .idle ∧ s.motion.state ≠ .held),
           .wrongState),
         (s.probes.read.isSome, .busy),
         (!((s.axis .x).referenced && (s.axis .y).referenced && (s.axis .z).referenced),
           .notReferenced),
         (decide (s.probes.current = .known target ∨ target = 0x0000#16 ∧ s.probes.current = .none),
           .already),
         (decide (target ≠ 0x0000#16 ∧ s.entry target = none), .unknownProbe),
         (decide (target ≠ 0x0000#16 ∧ ∀ k : SlotIx, (s.probes.slots.get k).content ≠ target),
           .notInRack),
         (decide (s.probes.current ≠ .none
             ∧ ∀ k : SlotIx, (s.probes.slots.get k).content ≠ 0x0000#16), .rackFull)]
      (∀ b c, checks.find? (·.1) = some (b, c) →
        exec (.changeProbe (word target)) s = .next (s.answer c []))
      ∧ ∀ pick drop : Option SlotIx, checks.find? (·.1) = none → s.calm →
        (target = 0x0000#16 → pick = none) →
        (target ≠ 0x0000#16 → ∃ k, pick = some k ∧ ∀ j, shows j target ↔ j = k) →
        let near (j : SlotIx) : Prop := ∃ k, pick = some k ∧ j.val / 6 = k.val / 6
        (¬ onSeat → drop = none) →
        (onSeat → ∃ k, drop = some k ∧ shows k 0x0000#16
          ∧ (near k ∧ (∀ j, j < k → shows j 0x0000#16 → ¬ near j)
            ∨ (∀ j, shows j 0x0000#16 → ¬ near j) ∧ ∀ j, j < k → ¬ shows j 0x0000#16)) →
        let number (k : Option SlotIx) : List Byte := match k with
          | some k => 1#8 :: one k.val
          | none => [0#8, 0#8]
        ∃ t g, exec (.changeProbe (word target)) s = .next t ∧ t.motion.state = .changing
          ∧ t.probes.change = some { target := target, pick := pick, drop := drop,
                                     phase := if drop.isSome then .goingToDrop else .goingToPick,
                                     abort := false, failure := none, seatDue := none }
          ∧ t.motion.internal = some g ∧ g.kind = .rapid ∧ g.feed = s.cfg.rapidMax ∧ g.tag = none
          ∧ (∀ k, drop.or pick = some k → g.target = (s.cfg.slots.get k).clear)
          ∧ t.probes.current = s.probes.current ∧ t.probes.slots = s.probes.slots
          ∧ t.motion.queue.length = s.motion.queue.length ∧ t.heldSet = s.heldSet
          ∧ t.port.reply = { code := .ok, data := number pick ++ number drop })
    ∧ (s.motion.state ≠ .changing →
      exec (.abortChange []) s = .next (s.answer .wrongState []))
    ∧ ∀ ch, s.motion.state = .changing → s.probes.change = some ch →
      (ch.phase = .dropping ∨ ch.phase = .leavingDrop → exec (.abortChange []) s
        = .next ((s.setProbes { s.probes with change := some { ch with abort := true } }).answer
            .ok []))
      ∧ (ch.phase = .picking ∨ ch.phase = .identifying →
        exec (.abortChange []) s = .next (s.answer .tooLate []))
      ∧ ∀ g geo, ch.phase = .goingToDrop ∨ ch.phase = .goingToPick →
        s.motion.internal = some g → g.state = .running → g.decel = none → 0 < g.sent →
        g.geom = some geo →
        exec (.abortChange []) s
          = .next (((s.setProbes { s.probes with change := some { ch with
                failure := some .aborted } }).setMotion { s.motion with
              internal := some { g with
                decel := some (profileEntry geo.len g.feed s.cfg.accel g.sent) } }).answer .ok [])

/-- An identity read of the host (R142, R143, R140): it begins in motion IDLE with a probe seated, the current
probe UNKNOWN; an answer with a good check and a valid ident that no slot shows makes it KNOWN where the
library has it, else UNKNOWN; a bad answer counts as a failed attempt, and after the third the ident is FFFFh.
Each attempt drives the identity line low for 1 ms and fails 50 ms after its request. The read of a change
(R155): the target's ident makes the current probe KNOWN; another ident makes it UNKNOWN with that ident and the
change's failure WRONG PROBE; unreadable after the third attempt it is UNKNOWN (FFFFh) with IDENT UNREADABLE; in
each case the arm leaves by a DOCK to the pick slot's clear point; there the Motion Unit and the bank selector are
sound, as every step keeps them (R25, R139). Attempts are counted from
1 at the begin (log 32); the clock is the model's (log 2). -/
def Obligations.ProbeIsIdentified : Prop :=
  (∀ s : State,
    (s.motion.state ≠ .idle ∨ s.probes.seated = false →
      exec (.identifyProbe []) s = .next (s.answer .wrongState []))
    ∧ (s.motion.state = .idle → s.probes.seated = true → s.probes.read = none →
      exec (.identifyProbe []) s = .next ((s.setProbes { s.probes with
        current := .unknown 0xFFFF#16
        read := some { attempts := 1, forChange := false, since := s.clock } }).answer .ok []))
    ∧ ∀ r, s.probes.read = some r → r.forChange = false →
      (s.outputs.identLow = true ↔ s.clock < r.since + 1) ∧
      (∀ high low : Byte,
        let i : Ident := high ++ low
        i ≠ 0x0000#16 → i ≠ 0xFFFF#16 → (∀ k, (s.probes.slots.get k).content ≠ i) →
        exec (.identAnswer high low (crc8 [high, low])) s
          = .next (s.setProbes { s.probes with
              read := none
              current := if (s.entry i).isSome then .known i else .unknown i }))
      ∧ (∀ high low check : Byte,
        check ≠ crc8 [high, low] ∨ high ++ low = 0x0000#16 ∨ high ++ low = 0xFFFF#16 →
        (r.attempts < 3 → exec (.identAnswer high low check) s = .next (s.setProbes { s.probes with
            read := some { attempts := r.attempts + 1, forChange := false, since := s.clock } }))
          ∧ (3 ≤ r.attempts → exec (.identAnswer high low check) s = .next (s.setProbes
            { s.probes with read := none, current := .unknown 0xFFFF#16 })))
      ∧ (r.attempts < 3 → exec .identAttemptTimeout s
          = .next ((s.setClock (max s.clock (r.since + 50))).setProbes { s.probes with
              read := some { attempts := r.attempts + 1, forChange := false,
                             since := max s.clock (r.since + 50) } }))
      ∧ (3 ≤ r.attempts → exec .identAttemptTimeout s
          = .next ((s.setClock (max s.clock (r.since + 50))).setProbes { s.probes with
              read := none, current := .unknown 0xFFFF#16 })))
  ∧ ∀ (r : IdentRead) (ch : Change) (k : SlotIx) (s : State), s.motion.state = .changing →
    s.probes.change = some ch → ch.phase = .identifying → ch.pick = some k →
    s.probes.read = some r → r.forChange = true → s.calm → s.MotionSound → s.BankSound →
    let leaves (c : Instr) (current : CurrentProbe) (failure : Option FailReason) : Prop :=
      ∃ t h, exec c s = .next t
        ∧ t.probes = { s.probes with
            read := none, current := current,
            change := some { ch with phase := .leavingPick, failure := failure, seatDue := none } }
        ∧ t.motion.state = .changing ∧ t.motion.internal = some h ∧ h.kind = .dock
        ∧ h.target = (s.cfg.slots.get k).clear ∧ h.feed = s.cfg.dockMax
        ∧ t.heldSet = s.heldSet ∧ t.motion.queue = s.motion.queue
    (∀ high low : Byte,
      let i : Ident := high ++ low
      let answer := Instr.identAnswer high low (crc8 [high, low])
      i ≠ 0x0000#16 → i ≠ 0xFFFF#16 → (∀ j, (s.probes.slots.get j).content ≠ i) →
      (i = ch.target → leaves answer (.known i) ch.failure)
      ∧ (i ≠ ch.target → leaves answer (.unknown i) (some .wrongProbe)))
    ∧ ∀ c, c = .identAttemptTimeout ∨ (∃ high low check : Byte, c = .identAnswer high low check
        ∧ (check ≠ crc8 [high, low] ∨ high ++ low = 0x0000#16 ∨ high ++ low = 0xFFFF#16)) →
      (r.attempts < 3 → ∃ t, exec c s = .next t ∧ s.sameBut t [.clock, .probes]
        ∧ t.probes = { s.probes with
            read := some { attempts := r.attempts + 1, forChange := true, since := t.clock } })
      ∧ (3 ≤ r.attempts → leaves c (.unknown 0xFFFF#16) (some .identUnreadable))

/-- Drop and pick (R153, R154, R155, R144): a drop whose 300 ms pass closes the latch and leaves with SEAT
TIMEOUT, a pick whose 300 ms pass opens it; the arm goes by a DOCK to the slot's clear point. The seated line
found off in DROPPING completes the drop: the current probe is NONE, its ident is noted in the slot by the
station with a RACK NOTE, and the arm leaves; found on in PICKING it completes the pick: the slot is EMPTY with
a RACK NOTE, the current probe is UNKNOWN (FFFFh), and IDENTIFYING begins its read. Where a clause gives a clock
value, the clock is the model's (log 2). -/
def Obligations.SeatTimersFailTheChange : Prop :=
  (∀ (ch : Change) (k : SlotIx) (v : Samples) (rest : List Watch) (s : State),
    s.motion.state = .changing → s.probes.change = some ch → s.motion.internal = none → s.calm →
    (∀ a, v.lower.get a = false ∧ v.upper.get a = false ∧ v.ready.get a = true) →
    s.follows s.setpoints → (∀ a, (s.axis a).mode = .idle) →
    s.link.state ≠ .silent → s.link.list.length < 8 →
    (∀ i, ch.phase = .dropping → ch.drop = some k → s.probes.seated = true → v.seated = false →
      s.probes.current.ident = some i →
      ∃ t g, exec (.motionPeriod v (.seated :: rest)) s = .next t ∧ t.clock = s.clock + 1
        ∧ t.probes.seated = false ∧ t.probes.current = .none
        ∧ (t.probes.slots.get k).content = i
        ∧ (t.probes.slots.get k).notedBy = .station s.own ∧ t.listed (.rackNote k i)
        ∧ t.probes.change = some { ch with phase := .leavingDrop, seatDue := none }
        ∧ t.probes.latchOpen = s.probes.latchOpen ∧ t.motion.state = .changing
        ∧ t.motion.internal = some g ∧ g.kind = .dock ∧ g.target = (s.cfg.slots.get k).clear
        ∧ t.heldSet = s.heldSet)
    ∧ (ch.phase = .picking → ch.pick = some k → s.probes.seated = false → v.seated = true →
      ∃ t, exec (.motionPeriod v (.seated :: rest)) s = .next t ∧ t.clock = s.clock + 1
        ∧ s.sameBut t [.clock, .axes, .link, .probes]
        ∧ t.probes.seated = true ∧ t.probes.current = .unknown 0xFFFF#16
        ∧ t.probes.slots = s.probes.slots.set k { s.probes.slots.get k with
            content := 0x0000#16, notedBy := .station s.own }
        ∧ t.listed (.rackNote k 0x0000#16)
        ∧ t.probes.change = some { ch with phase := .identifying, seatDue := none }
        ∧ t.probes.latchOpen = s.probes.latchOpen
        ∧ t.probes.read = some { attempts := 1, forChange := true, since := s.clock + 1 }))
  ∧ ∀ (ch : Change) (s : State), s.motion.state = .changing → s.probes.change = some ch → s.calm →
    (ch.phase = .dropping → ∀ k, ch.drop = some k →
      ∃ t g, exec .dropTimeout s = .next t ∧ t.probes.latchOpen = false
        ∧ t.probes.change = some { ch with phase := .leavingDrop, seatDue := none,
                                           failure := some .seatTimeout }
        ∧ t.motion.state = .changing ∧ t.motion.internal = some g ∧ g.kind = .dock
        ∧ g.target = (s.cfg.slots.get k).clear ∧ t.probes.current = s.probes.current
        ∧ t.clock = max s.clock (ch.seatDue.getD s.clock) ∧ t.heldSet = s.heldSet)
    ∧ (ch.phase = .picking → ∀ k, ch.pick = some k →
      ∃ t g, exec .pickTimeout s = .next t ∧ t.probes.latchOpen = true
        ∧ t.probes.change = some { ch with phase := .leavingPick, seatDue := none,
                                           failure := some .seatTimeout }
        ∧ t.motion.state = .changing ∧ t.motion.internal = some g ∧ g.kind = .dock
        ∧ g.target = (s.cfg.slots.get k).clear ∧ t.probes.current = s.probes.current
        ∧ t.clock = max s.clock (ch.seatDue.getD s.clock) ∧ t.heldSet = s.heldSet)

/-- The library and the bank selector (R137, R138, R139): a field out of range is OUT OF RANGE; a set of the current
probe in the live bank, or in the bank that the PROBE captured, is BUSY while a PROBE is in flight; any other set in
range is written with touch count 0, into a new entry whose other set is not valid or into the entry that stands,
and a new entry of an UNKNOWN current probe's ident makes that probe KNOWN; DELETE PROBE frees an entry
that is neither on the arm nor the target of a change; SELECT BANK takes effect at once unless a PROBE is
RUNNING, TOUCHED or RETRACTING, and the pending bank becomes live as the PROBE leaves those states, by entering
SETTLING, by the end of a STOP deceleration or by a fault stop, and not before. That its reply codes the pending bank in one byte, 0 for none, 1 for A and 2 for
B, is the model's reading (log 12). -/
def Obligations.LibraryAndBankCommands : Prop :=
  ∀ s : State,
    (∀ (i : Ident) (bank : Bank) (q : QualSet),
      (∀ a, fits32 (q.offset.get a) = true) → q.radius < 65536 →
      -32768 ≤ q.qualTemp → q.qualTemp ≤ 32767 → q.limit < 65536 →
      let command := Instr.writeProbeSet (setData i bank q)
      let inRange : Prop := i ≠ 0x0000#16 ∧ i ≠ 0xFFFF#16
        ∧ (∀ a, -5000000 ≤ q.offset.get a ∧ q.offset.get a ≤ 5000000) ∧ q.radius ≤ 50000
        ∧ -1000 ≤ q.qualTemp ∧ q.qualTemp ≤ 6000
      let busy : Prop := s.probes.current.ident = some i ∧ ∃ g, s.flying = some g
        ∧ g.kind = .probe ∧ (bank = s.probes.live ∨ g.bank = some bank)
      let made := s.probes.library ++ [LibEntry.withSet
        { ident := i, setA := emptySet, setB := emptySet } bank { q with count := 0 }]
      (¬ inRange → exec command s = .next (s.answer .outOfRange []))
      ∧ (inRange → busy → exec command s = .next (s.answer .busy []))
      ∧ (inRange → ¬ busy →
        (s.entry i = none → 16 ≤ s.probes.library.length →
          exec command s = .next (s.answer .libraryFull []))
        ∧ (s.entry i = none → s.probes.library.length < 16 →
          (s.probes.current ≠ .unknown i →
            exec command s
              = .next ((s.setProbes { s.probes with library := made }).answer .ok []))
          ∧ (s.probes.current = .unknown i → (∀ k, (s.probes.slots.get k).content ≠ i) →
            exec command s = .next ((s.setProbes { s.probes with
              library := made, current := .known i }).answer .ok [])))
        ∧ (∀ e, s.entry i = some e →
          exec command s = .next ((s.setProbes { s.probes with
            library := s.probes.library.map fun x =>
              if x.ident = i then e.withSet bank { q with count := 0 } else x }).answer .ok []))))
    ∧ (∀ i : Ident,
      (i = 0x0000#16 ∨ i = 0xFFFF#16 →
        exec (.deleteProbe (word i)) s = .next (s.answer .outOfRange []))
      ∧ (i ≠ 0x0000#16 → i ≠ 0xFFFF#16 →
        (s.entry i = none → exec (.deleteProbe (word i)) s = .next (s.answer .unknownProbe []))
        ∧ ((s.entry i).isSome →
          (s.probes.current.ident = some i ∨ s.probes.change.map (·.target) = some i →
            exec (.deleteProbe (word i)) s = .next (s.answer .busy []))
          ∧ (s.probes.current.ident ≠ some i → s.probes.change.map (·.target) ≠ some i →
            exec (.deleteProbe (word i)) s = .next ((s.setProbes { s.probes with
              library := s.probes.library.filter (·.ident != i) }).answer .ok [])))))
    ∧ (∀ bank : Bank,
      (s.probeBusy = false → exec (.selectBank (one bank.num)) s
        = .next ((s.setProbes { s.probes with live := bank, pendingBank := none }).answer .ok
            (one bank.num ++ one 0)))
      ∧ (s.probeBusy = true → exec (.selectBank (one bank.num)) s
        = .next ((s.setProbes { s.probes with pendingBank := some bank }).answer .ok
            (one s.probes.live.num ++ one (bank.num + 1)))))
    ∧ (∀ n, 2 ≤ n → n < 256 → exec (.selectBank (one n)) s = .next (s.answer .outOfRange []))
    ∧ ∀ (g : Segment) (rest : List Segment) (bank : Bank), s.motion.state = .running →
      s.motion.queue = g :: rest → g.kind = .probe →
      g.state = .running ∨ g.state = .touched ∨ g.state = .retracting →
      (∀ x ∈ rest, x.state.flying = false) → s.probes.pendingBank = some bank →
      let live (t : State) : Prop := t.probes.live = bank ∧ t.probes.pendingBank = none
      (∀ v order, ∃ t, exec (.motionPeriod v order) s = .next t
        ∧ (t.probeBusy = false → live t)
        ∧ (t.probeBusy = true → t.probes.live = s.probes.live ∧ t.probes.pendingBank = some bank))
      ∧ (∀ vel, g.state = .running → g.decel = some vel → vel ≤ s.cfg.accel → s.calm →
        ∃ t, exec .stopDecelerationEnd s = .next t ∧ live t)
      ∧ ∀ r, live (faultStop r s)

/-- Rack notes of a peer and of the host (R147, R148, R149): the named slot takes the content and every
other slot with the same valid ident becomes UNKNOWN, each noted by the source; a note that names the
current probe leaves the slot UNKNOWN with RACK CONFLICT; the host's note is offered to the link. -/
def Obligations.RackNotesSetTheView : Prop :=
  ∀ (k : SlotIx) (c : Ident) (s : State),
    let free := c = 0x0000#16 ∨ c = 0xFFFF#16 ∨ s.probes.current.ident ≠ some c
    let applied (t : State) (src : NotedBy) : Prop :=
      ∀ j, (t.probes.slots.get j).content = (if j = k then c
            else if c ≠ 0x0000#16 ∧ c ≠ 0xFFFF#16 ∧ (s.probes.slots.get j).content = c then 0xFFFF#16
            else (s.probes.slots.get j).content)
        ∧ (t.probes.slots.get j).notedBy = (if j = k ∨ (c ≠ 0x0000#16 ∧ c ≠ 0xFFFF#16
              ∧ (s.probes.slots.get j).content = c) then src
            else (s.probes.slots.get j).notedBy)
    (∀ p, s.frames = true → p ≠ s.own → s.notLost p →
      (free → ∃ t, exec (.rackNoteAccepted p k c) s = .next t ∧ s.sameBut t [.link, .peers, .probes]
        ∧ applied t (.station p) ∧ (t.probes.slots.get k).unsent = false
        ∧ ∀ j, j ≠ k → (t.probes.slots.get j).unsent = (s.probes.slots.get j).unsent)
      ∧ (¬ free → ∃ t, exec (.rackNoteAccepted p k c) s = .next t
        ∧ s.sameBut t [.link, .peers, .probes, .events]
        ∧ (t.probes.slots.get k).content = 0xFFFF#16
        ∧ (∀ j, j ≠ k → t.probes.slots.get j = s.probes.slots.get j)
        ∧ t.isPending .rackConflict ∧ t.events.kept.rackConflict = some (k, c)))
    ∧ (free → s.link.state ≠ .silent → s.link.list.length < 8 →
      ∃ t, exec (.setRackSlot (one k.val ++ word c)) s = .next t
        ∧ s.sameBut t [.link, .probes, .port] ∧ applied t .host ∧ t.listed (.rackNote k c)
        ∧ t.port.reply = { code := .ok, data := word c })
    ∧ ∀ n, 24 ≤ n → n < 256 →
      exec (.setRackSlot (one n ++ word c)) s = .next (s.answer .outOfRange [])

/-! ## Encodings and invariants -/

/-- The characters of every frame a station can send are read back from their bits on the line without a framing
error, and as that sender and that content: no bit of a link frame is dropped (R79, R81, R82, R83). In
arbitration the frame of the lower kind code, and of two of one kind that of the lower station number, goes on
(R84). A payload length above 34, or a framing error in character 0, calls for an early spoil, and a receiver
LISTENING or ON then drives the line dominant for the 10 bit times after that character; one that is DEAF drives
nothing (R88). That it does so whatever station number the frame carries is the model's reading (log 30). A whole
frame with its slot recessive is accepted as its kind's command, or, with the station's own number, shows a second
station (R86, R89). A receiver that sees another station's dominant run in character 2, which it tells by ten
dominant bits (log 29), discards the frame and drives nothing (R88). -/
def Obligations.LinkFrameIsReadBack : Prop :=
  (∀ (own : Station) (m : Msg), (∀ r, m = .presence r → r.wellFormed = true) →
    decodeFrame (encodeFrame own m) = some (own, m)
      ∧ receptionOf (lineBits (encodeFrame own m)) = { chars := encodeFrame own m, framing := false }
      ∧ (lineBits (encodeFrame own m)).length = frameBitTimes m.payload.length)
  ∧ (∀ (a b : Byte) (more : List Bool),
    earlySpoilAt (lineBits [a, b] ++ more) = (if 34 < b.toNat then some 1 else none)
      ∧ earlySpoilAt (false :: byteBits a ++ false :: more) = some 0)
  ∧ (∀ (s : State) (own : Station) (conv : Conversions) (order : List Chan) (bits : List Bool)
      (slotDominant : Bool) (k : Nat), earlySpoilAt bits = some k →
    receptionInstr own conv order bits slotDominant = .earlySpoil true
      ∧ (s.frames = true → s.judges = true → s.sendingEntry = none → ∀ time,
          s.receiverLevel bits time = false ↔ 10 * (k + 1) ≤ time ∧ time < 10 * (k + 1) + 10)
      ∧ (s.link.state = .deaf → ∀ time, s.receiverLevel bits time = true))
  ∧ (∀ (own p : Station) (conv : Conversions) (order : List Chan) (m : Msg),
    (∀ r, m = .presence r → r.wellFormed = true) →
    receptionInstr own conv order (lineBits (encodeFrame p m)) false
      = if p = own then .duplicateStationFrame m.kind else acceptedInstr conv order p m)
  ∧ (∀ (s : State) (own : Station) (conv : Conversions) (order : List Chan) (a b : Byte)
      (more : List Bool) (slotDominant : Bool), b.toNat ≤ 34 →
    let bits := lineBits [a, b] ++ List.replicate 10 false ++ more
    receptionInstr own conv order bits slotDominant = .earlySpoil false
      ∧ ∀ time, s.receiverLevel bits time = true)
  ∧ ∀ (p q : Station) (j k : FrameKind),
    losesTo (characterBits (headByte p j)) (characterBits (headByte q k)) = true
      ↔ k.code < j.code ∨ k.code = j.code ∧ q < p

/-- The state after reset is sound in every block. -/
def Obligations.ResetIsSound : Prop :=
  State.reset.points.Sound ∧ State.reset.link.Sound ∧ State.reset.MotionSound
    ∧ State.reset.ScalesSound ∧ State.reset.TempsSound
    ∧ librarySound State.reset.probes.library ∧ rackSound State.reset.probes
    ∧ State.reset.entriesStand ∧ State.reset.HoldSound ∧ State.reset.ZoneSound
    ∧ State.reset.ownFramesTrue ∧ State.reset.WorkOrdered ∧ State.reset.BankSound

/-- Every step keeps the Point Queue sound (R181, R184, R191), and with a sound Motion Unit the hold: with a
hold level the hold count never exceeds it (R190); and the waiting work in order (R164). The hold flag sets on a
rise of the hold count to the level, with QUEUE HOLD, clears on a fall to the level less the hysteresis, and else
stays, in every command but POWER ON and RESET STATION (R187, R188). -/
def Obligations.StepKeepsPointQueueSound : Prop :=
  (∀ s t : State, s.points.Sound → step s = .next t → t.points.Sound)
  ∧ (∀ s t : State, s.MotionSound → s.HoldSound → step s = .next t → t.HoldSound)
  ∧ (∀ s t : State, s.WorkOrdered → step s = .next t → t.WorkOrdered)
  ∧ ∀ (c : Instr) (s t : State), (∀ p, c ≠ .powerOn p) → (∀ data p, c ≠ .resetStation data p) →
    exec c s = .next t →
    holdFollows s.cfg.holdLevel s.cfg.hysteresis s.holdCount t.holdCount s.points.hold t.points.hold
      ∧ (s.points.hold = false → t.points.hold = true → t.isPending .queueHold)

/-- Every step keeps the transmit list, the attempts and the receive-error run sound (R91, R92, R93, R94), and
the Zone Unit's claim: its waiting set lies in its cells and is empty while CLAIMING (R55), and a CLAIMING claim
whose window runs has every cell CLAIMED by the station under its number (R57, R60). -/
def Obligations.StepKeepsLinkSound : Prop :=
  (∀ s t : State, s.link.Sound → step s = .next t → t.link.Sound)
  ∧ ∀ s t : State, s.link.Sound → s.ZoneSound → s.ownFramesTrue → step s = .next t → t.ZoneSound

/-- Every step keeps the Motion Unit sound (R15, R21, R25, R48, R151). -/
def Obligations.StepKeepsMotionSound : Prop :=
  ∀ s t : State, s.MotionSound → step s = .next t → t.MotionSound

/-- Every step keeps every scale count within 32 bits and every temperature within -1,000 to 6,000 (R2,
R115, R118, R123). -/
def Obligations.StepKeepsCountsAndTemperaturesInRange : Prop :=
  ∀ s t : State, step s = .next t →
    (s.ScalesSound → t.ScalesSound) ∧ (s.TempsSound → t.TempsSound)

/-- Every step keeps the library and the rack view sound, and the entries of the current probe and of a
change's target standing (R136, R138, R140, R146), and with a sound Motion Unit and hold it keeps the bank selector
sound: a bank is pending only while a PROBE is RUNNING, TOUCHED or RETRACTING (R139). -/
def Obligations.StepKeepsProbesSound : Prop :=
  (∀ s t : State, librarySound s.probes.library → rackSound s.probes → s.entriesStand →
    step s = .next t →
    librarySound t.probes.library ∧ rackSound t.probes ∧ t.entriesStand)
  ∧ ∀ s t : State, s.MotionSound → s.HoldSound → s.BankSound → step s = .next t → t.BankSound

end Statements
end

