-- ==== Sys2Proof/Laws/State.lean ====
section
/-! SUPPORT. One lemma for each field under each update of the state: what `set…` writes and what it
leaves. -/

namespace Sys2Proof.Machine

/-! ## setPending -/

@[simp] theorem State.setPending_pending (s : State) (v : List Instr) : (s.setPending v).pending = v := rfl
@[simp] theorem State.setPending_clock (s : State) (v : List Instr) : (s.setPending v).clock = s.clock := rfl
@[simp] theorem State.setPending_station (s : State) (v : List Instr) : (s.setPending v).station = s.station := rfl
@[simp] theorem State.setPending_axes (s : State) (v : List Instr) : (s.setPending v).axes = s.axes := rfl
@[simp] theorem State.setPending_motion (s : State) (v : List Instr) : (s.setPending v).motion = s.motion := rfl
@[simp] theorem State.setPending_zone (s : State) (v : List Instr) : (s.setPending v).zone = s.zone := rfl
@[simp] theorem State.setPending_link (s : State) (v : List Instr) : (s.setPending v).link = s.link := rfl
@[simp] theorem State.setPending_peers (s : State) (v : List Instr) : (s.setPending v).peers = s.peers := rfl
@[simp] theorem State.setPending_temps (s : State) (v : List Instr) : (s.setPending v).temps = s.temps := rfl
@[simp] theorem State.setPending_probes (s : State) (v : List Instr) : (s.setPending v).probes = s.probes := rfl
@[simp] theorem State.setPending_corr (s : State) (v : List Instr) : (s.setPending v).corr = s.corr := rfl
@[simp] theorem State.setPending_points (s : State) (v : List Instr) : (s.setPending v).points = s.points := rfl
@[simp] theorem State.setPending_port (s : State) (v : List Instr) : (s.setPending v).port = s.port := rfl
@[simp] theorem State.setPending_events (s : State) (v : List Instr) : (s.setPending v).events = s.events := rfl

/-! ## setClock -/

@[simp] theorem State.setClock_pending (s : State) (v : Nat) : (s.setClock v).pending = s.pending := rfl
@[simp] theorem State.setClock_clock (s : State) (v : Nat) : (s.setClock v).clock = v := rfl
@[simp] theorem State.setClock_station (s : State) (v : Nat) : (s.setClock v).station = s.station := rfl
@[simp] theorem State.setClock_axes (s : State) (v : Nat) : (s.setClock v).axes = s.axes := rfl
@[simp] theorem State.setClock_motion (s : State) (v : Nat) : (s.setClock v).motion = s.motion := rfl
@[simp] theorem State.setClock_zone (s : State) (v : Nat) : (s.setClock v).zone = s.zone := rfl
@[simp] theorem State.setClock_link (s : State) (v : Nat) : (s.setClock v).link = s.link := rfl
@[simp] theorem State.setClock_peers (s : State) (v : Nat) : (s.setClock v).peers = s.peers := rfl
@[simp] theorem State.setClock_temps (s : State) (v : Nat) : (s.setClock v).temps = s.temps := rfl
@[simp] theorem State.setClock_probes (s : State) (v : Nat) : (s.setClock v).probes = s.probes := rfl
@[simp] theorem State.setClock_corr (s : State) (v : Nat) : (s.setClock v).corr = s.corr := rfl
@[simp] theorem State.setClock_points (s : State) (v : Nat) : (s.setClock v).points = s.points := rfl
@[simp] theorem State.setClock_port (s : State) (v : Nat) : (s.setClock v).port = s.port := rfl
@[simp] theorem State.setClock_events (s : State) (v : Nat) : (s.setClock v).events = s.events := rfl

/-! ## setStation -/

@[simp] theorem State.setStation_pending (s : State) (v : StationBlock) : (s.setStation v).pending = s.pending := rfl
@[simp] theorem State.setStation_clock (s : State) (v : StationBlock) : (s.setStation v).clock = s.clock := rfl
@[simp] theorem State.setStation_station (s : State) (v : StationBlock) : (s.setStation v).station = v := rfl
@[simp] theorem State.setStation_axes (s : State) (v : StationBlock) : (s.setStation v).axes = s.axes := rfl
@[simp] theorem State.setStation_motion (s : State) (v : StationBlock) : (s.setStation v).motion = s.motion := rfl
@[simp] theorem State.setStation_zone (s : State) (v : StationBlock) : (s.setStation v).zone = s.zone := rfl
@[simp] theorem State.setStation_link (s : State) (v : StationBlock) : (s.setStation v).link = s.link := rfl
@[simp] theorem State.setStation_peers (s : State) (v : StationBlock) : (s.setStation v).peers = s.peers := rfl
@[simp] theorem State.setStation_temps (s : State) (v : StationBlock) : (s.setStation v).temps = s.temps := rfl
@[simp] theorem State.setStation_probes (s : State) (v : StationBlock) : (s.setStation v).probes = s.probes := rfl
@[simp] theorem State.setStation_corr (s : State) (v : StationBlock) : (s.setStation v).corr = s.corr := rfl
@[simp] theorem State.setStation_points (s : State) (v : StationBlock) : (s.setStation v).points = s.points := rfl
@[simp] theorem State.setStation_port (s : State) (v : StationBlock) : (s.setStation v).port = s.port := rfl
@[simp] theorem State.setStation_events (s : State) (v : StationBlock) : (s.setStation v).events = s.events := rfl

/-! ## setAxes -/

@[simp] theorem State.setAxes_pending (s : State) (v : Axes) : (s.setAxes v).pending = s.pending := rfl
@[simp] theorem State.setAxes_clock (s : State) (v : Axes) : (s.setAxes v).clock = s.clock := rfl
@[simp] theorem State.setAxes_station (s : State) (v : Axes) : (s.setAxes v).station = s.station := rfl
@[simp] theorem State.setAxes_axes (s : State) (v : Axes) : (s.setAxes v).axes = v := rfl
@[simp] theorem State.setAxes_motion (s : State) (v : Axes) : (s.setAxes v).motion = s.motion := rfl
@[simp] theorem State.setAxes_zone (s : State) (v : Axes) : (s.setAxes v).zone = s.zone := rfl
@[simp] theorem State.setAxes_link (s : State) (v : Axes) : (s.setAxes v).link = s.link := rfl
@[simp] theorem State.setAxes_peers (s : State) (v : Axes) : (s.setAxes v).peers = s.peers := rfl
@[simp] theorem State.setAxes_temps (s : State) (v : Axes) : (s.setAxes v).temps = s.temps := rfl
@[simp] theorem State.setAxes_probes (s : State) (v : Axes) : (s.setAxes v).probes = s.probes := rfl
@[simp] theorem State.setAxes_corr (s : State) (v : Axes) : (s.setAxes v).corr = s.corr := rfl
@[simp] theorem State.setAxes_points (s : State) (v : Axes) : (s.setAxes v).points = s.points := rfl
@[simp] theorem State.setAxes_port (s : State) (v : Axes) : (s.setAxes v).port = s.port := rfl
@[simp] theorem State.setAxes_events (s : State) (v : Axes) : (s.setAxes v).events = s.events := rfl

/-! ## setMotion -/

@[simp] theorem State.setMotion_pending (s : State) (v : Motion) : (s.setMotion v).pending = s.pending := rfl
@[simp] theorem State.setMotion_clock (s : State) (v : Motion) : (s.setMotion v).clock = s.clock := rfl
@[simp] theorem State.setMotion_station (s : State) (v : Motion) : (s.setMotion v).station = s.station := rfl
@[simp] theorem State.setMotion_axes (s : State) (v : Motion) : (s.setMotion v).axes = s.axes := rfl
@[simp] theorem State.setMotion_motion (s : State) (v : Motion) : (s.setMotion v).motion = v := rfl
@[simp] theorem State.setMotion_zone (s : State) (v : Motion) : (s.setMotion v).zone = s.zone := rfl
@[simp] theorem State.setMotion_link (s : State) (v : Motion) : (s.setMotion v).link = s.link := rfl
@[simp] theorem State.setMotion_peers (s : State) (v : Motion) : (s.setMotion v).peers = s.peers := rfl
@[simp] theorem State.setMotion_temps (s : State) (v : Motion) : (s.setMotion v).temps = s.temps := rfl
@[simp] theorem State.setMotion_probes (s : State) (v : Motion) : (s.setMotion v).probes = s.probes := rfl
@[simp] theorem State.setMotion_corr (s : State) (v : Motion) : (s.setMotion v).corr = s.corr := rfl
@[simp] theorem State.setMotion_points (s : State) (v : Motion) : (s.setMotion v).points = s.points := rfl
@[simp] theorem State.setMotion_port (s : State) (v : Motion) : (s.setMotion v).port = s.port := rfl
@[simp] theorem State.setMotion_events (s : State) (v : Motion) : (s.setMotion v).events = s.events := rfl

/-! ## setZone -/

@[simp] theorem State.setZone_pending (s : State) (v : Zone) : (s.setZone v).pending = s.pending := rfl
@[simp] theorem State.setZone_clock (s : State) (v : Zone) : (s.setZone v).clock = s.clock := rfl
@[simp] theorem State.setZone_station (s : State) (v : Zone) : (s.setZone v).station = s.station := rfl
@[simp] theorem State.setZone_axes (s : State) (v : Zone) : (s.setZone v).axes = s.axes := rfl
@[simp] theorem State.setZone_motion (s : State) (v : Zone) : (s.setZone v).motion = s.motion := rfl
@[simp] theorem State.setZone_zone (s : State) (v : Zone) : (s.setZone v).zone = v := rfl
@[simp] theorem State.setZone_link (s : State) (v : Zone) : (s.setZone v).link = s.link := rfl
@[simp] theorem State.setZone_peers (s : State) (v : Zone) : (s.setZone v).peers = s.peers := rfl
@[simp] theorem State.setZone_temps (s : State) (v : Zone) : (s.setZone v).temps = s.temps := rfl
@[simp] theorem State.setZone_probes (s : State) (v : Zone) : (s.setZone v).probes = s.probes := rfl
@[simp] theorem State.setZone_corr (s : State) (v : Zone) : (s.setZone v).corr = s.corr := rfl
@[simp] theorem State.setZone_points (s : State) (v : Zone) : (s.setZone v).points = s.points := rfl
@[simp] theorem State.setZone_port (s : State) (v : Zone) : (s.setZone v).port = s.port := rfl
@[simp] theorem State.setZone_events (s : State) (v : Zone) : (s.setZone v).events = s.events := rfl

/-! ## setLink -/

@[simp] theorem State.setLink_pending (s : State) (v : Link) : (s.setLink v).pending = s.pending := rfl
@[simp] theorem State.setLink_clock (s : State) (v : Link) : (s.setLink v).clock = s.clock := rfl
@[simp] theorem State.setLink_station (s : State) (v : Link) : (s.setLink v).station = s.station := rfl
@[simp] theorem State.setLink_axes (s : State) (v : Link) : (s.setLink v).axes = s.axes := rfl
@[simp] theorem State.setLink_motion (s : State) (v : Link) : (s.setLink v).motion = s.motion := rfl
@[simp] theorem State.setLink_zone (s : State) (v : Link) : (s.setLink v).zone = s.zone := rfl
@[simp] theorem State.setLink_link (s : State) (v : Link) : (s.setLink v).link = v := rfl
@[simp] theorem State.setLink_peers (s : State) (v : Link) : (s.setLink v).peers = s.peers := rfl
@[simp] theorem State.setLink_temps (s : State) (v : Link) : (s.setLink v).temps = s.temps := rfl
@[simp] theorem State.setLink_probes (s : State) (v : Link) : (s.setLink v).probes = s.probes := rfl
@[simp] theorem State.setLink_corr (s : State) (v : Link) : (s.setLink v).corr = s.corr := rfl
@[simp] theorem State.setLink_points (s : State) (v : Link) : (s.setLink v).points = s.points := rfl
@[simp] theorem State.setLink_port (s : State) (v : Link) : (s.setLink v).port = s.port := rfl
@[simp] theorem State.setLink_events (s : State) (v : Link) : (s.setLink v).events = s.events := rfl

/-! ## setPeers -/

@[simp] theorem State.setPeers_pending (s : State) (v : PeerTable) : (s.setPeers v).pending = s.pending := rfl
@[simp] theorem State.setPeers_clock (s : State) (v : PeerTable) : (s.setPeers v).clock = s.clock := rfl
@[simp] theorem State.setPeers_station (s : State) (v : PeerTable) : (s.setPeers v).station = s.station := rfl
@[simp] theorem State.setPeers_axes (s : State) (v : PeerTable) : (s.setPeers v).axes = s.axes := rfl
@[simp] theorem State.setPeers_motion (s : State) (v : PeerTable) : (s.setPeers v).motion = s.motion := rfl
@[simp] theorem State.setPeers_zone (s : State) (v : PeerTable) : (s.setPeers v).zone = s.zone := rfl
@[simp] theorem State.setPeers_link (s : State) (v : PeerTable) : (s.setPeers v).link = s.link := rfl
@[simp] theorem State.setPeers_peers (s : State) (v : PeerTable) : (s.setPeers v).peers = v := rfl
@[simp] theorem State.setPeers_temps (s : State) (v : PeerTable) : (s.setPeers v).temps = s.temps := rfl
@[simp] theorem State.setPeers_probes (s : State) (v : PeerTable) : (s.setPeers v).probes = s.probes := rfl
@[simp] theorem State.setPeers_corr (s : State) (v : PeerTable) : (s.setPeers v).corr = s.corr := rfl
@[simp] theorem State.setPeers_points (s : State) (v : PeerTable) : (s.setPeers v).points = s.points := rfl
@[simp] theorem State.setPeers_port (s : State) (v : PeerTable) : (s.setPeers v).port = s.port := rfl
@[simp] theorem State.setPeers_events (s : State) (v : PeerTable) : (s.setPeers v).events = s.events := rfl

/-! ## setTemps -/

@[simp] theorem State.setTemps_pending (s : State) (v : Temps) : (s.setTemps v).pending = s.pending := rfl
@[simp] theorem State.setTemps_clock (s : State) (v : Temps) : (s.setTemps v).clock = s.clock := rfl
@[simp] theorem State.setTemps_station (s : State) (v : Temps) : (s.setTemps v).station = s.station := rfl
@[simp] theorem State.setTemps_axes (s : State) (v : Temps) : (s.setTemps v).axes = s.axes := rfl
@[simp] theorem State.setTemps_motion (s : State) (v : Temps) : (s.setTemps v).motion = s.motion := rfl
@[simp] theorem State.setTemps_zone (s : State) (v : Temps) : (s.setTemps v).zone = s.zone := rfl
@[simp] theorem State.setTemps_link (s : State) (v : Temps) : (s.setTemps v).link = s.link := rfl
@[simp] theorem State.setTemps_peers (s : State) (v : Temps) : (s.setTemps v).peers = s.peers := rfl
@[simp] theorem State.setTemps_temps (s : State) (v : Temps) : (s.setTemps v).temps = v := rfl
@[simp] theorem State.setTemps_probes (s : State) (v : Temps) : (s.setTemps v).probes = s.probes := rfl
@[simp] theorem State.setTemps_corr (s : State) (v : Temps) : (s.setTemps v).corr = s.corr := rfl
@[simp] theorem State.setTemps_points (s : State) (v : Temps) : (s.setTemps v).points = s.points := rfl
@[simp] theorem State.setTemps_port (s : State) (v : Temps) : (s.setTemps v).port = s.port := rfl
@[simp] theorem State.setTemps_events (s : State) (v : Temps) : (s.setTemps v).events = s.events := rfl

/-! ## setProbes -/

@[simp] theorem State.setProbes_pending (s : State) (v : Probes) : (s.setProbes v).pending = s.pending := rfl
@[simp] theorem State.setProbes_clock (s : State) (v : Probes) : (s.setProbes v).clock = s.clock := rfl
@[simp] theorem State.setProbes_station (s : State) (v : Probes) : (s.setProbes v).station = s.station := rfl
@[simp] theorem State.setProbes_axes (s : State) (v : Probes) : (s.setProbes v).axes = s.axes := rfl
@[simp] theorem State.setProbes_motion (s : State) (v : Probes) : (s.setProbes v).motion = s.motion := rfl
@[simp] theorem State.setProbes_zone (s : State) (v : Probes) : (s.setProbes v).zone = s.zone := rfl
@[simp] theorem State.setProbes_link (s : State) (v : Probes) : (s.setProbes v).link = s.link := rfl
@[simp] theorem State.setProbes_peers (s : State) (v : Probes) : (s.setProbes v).peers = s.peers := rfl
@[simp] theorem State.setProbes_temps (s : State) (v : Probes) : (s.setProbes v).temps = s.temps := rfl
@[simp] theorem State.setProbes_probes (s : State) (v : Probes) : (s.setProbes v).probes = v := rfl
@[simp] theorem State.setProbes_corr (s : State) (v : Probes) : (s.setProbes v).corr = s.corr := rfl
@[simp] theorem State.setProbes_points (s : State) (v : Probes) : (s.setProbes v).points = s.points := rfl
@[simp] theorem State.setProbes_port (s : State) (v : Probes) : (s.setProbes v).port = s.port := rfl
@[simp] theorem State.setProbes_events (s : State) (v : Probes) : (s.setProbes v).events = s.events := rfl

/-! ## setCorr -/

@[simp] theorem State.setCorr_pending (s : State) (v : Correction) : (s.setCorr v).pending = s.pending := rfl
@[simp] theorem State.setCorr_clock (s : State) (v : Correction) : (s.setCorr v).clock = s.clock := rfl
@[simp] theorem State.setCorr_station (s : State) (v : Correction) : (s.setCorr v).station = s.station := rfl
@[simp] theorem State.setCorr_axes (s : State) (v : Correction) : (s.setCorr v).axes = s.axes := rfl
@[simp] theorem State.setCorr_motion (s : State) (v : Correction) : (s.setCorr v).motion = s.motion := rfl
@[simp] theorem State.setCorr_zone (s : State) (v : Correction) : (s.setCorr v).zone = s.zone := rfl
@[simp] theorem State.setCorr_link (s : State) (v : Correction) : (s.setCorr v).link = s.link := rfl
@[simp] theorem State.setCorr_peers (s : State) (v : Correction) : (s.setCorr v).peers = s.peers := rfl
@[simp] theorem State.setCorr_temps (s : State) (v : Correction) : (s.setCorr v).temps = s.temps := rfl
@[simp] theorem State.setCorr_probes (s : State) (v : Correction) : (s.setCorr v).probes = s.probes := rfl
@[simp] theorem State.setCorr_corr (s : State) (v : Correction) : (s.setCorr v).corr = v := rfl
@[simp] theorem State.setCorr_points (s : State) (v : Correction) : (s.setCorr v).points = s.points := rfl
@[simp] theorem State.setCorr_port (s : State) (v : Correction) : (s.setCorr v).port = s.port := rfl
@[simp] theorem State.setCorr_events (s : State) (v : Correction) : (s.setCorr v).events = s.events := rfl

/-! ## setPoints -/

@[simp] theorem State.setPoints_pending (s : State) (v : Points) : (s.setPoints v).pending = s.pending := rfl
@[simp] theorem State.setPoints_clock (s : State) (v : Points) : (s.setPoints v).clock = s.clock := rfl
@[simp] theorem State.setPoints_station (s : State) (v : Points) : (s.setPoints v).station = s.station := rfl
@[simp] theorem State.setPoints_axes (s : State) (v : Points) : (s.setPoints v).axes = s.axes := rfl
@[simp] theorem State.setPoints_motion (s : State) (v : Points) : (s.setPoints v).motion = s.motion := rfl
@[simp] theorem State.setPoints_zone (s : State) (v : Points) : (s.setPoints v).zone = s.zone := rfl
@[simp] theorem State.setPoints_link (s : State) (v : Points) : (s.setPoints v).link = s.link := rfl
@[simp] theorem State.setPoints_peers (s : State) (v : Points) : (s.setPoints v).peers = s.peers := rfl
@[simp] theorem State.setPoints_temps (s : State) (v : Points) : (s.setPoints v).temps = s.temps := rfl
@[simp] theorem State.setPoints_probes (s : State) (v : Points) : (s.setPoints v).probes = s.probes := rfl
@[simp] theorem State.setPoints_corr (s : State) (v : Points) : (s.setPoints v).corr = s.corr := rfl
@[simp] theorem State.setPoints_points (s : State) (v : Points) : (s.setPoints v).points = v := rfl
@[simp] theorem State.setPoints_port (s : State) (v : Points) : (s.setPoints v).port = s.port := rfl
@[simp] theorem State.setPoints_events (s : State) (v : Points) : (s.setPoints v).events = s.events := rfl

/-! ## setPort -/

@[simp] theorem State.setPort_pending (s : State) (v : Port) : (s.setPort v).pending = s.pending := rfl
@[simp] theorem State.setPort_clock (s : State) (v : Port) : (s.setPort v).clock = s.clock := rfl
@[simp] theorem State.setPort_station (s : State) (v : Port) : (s.setPort v).station = s.station := rfl
@[simp] theorem State.setPort_axes (s : State) (v : Port) : (s.setPort v).axes = s.axes := rfl
@[simp] theorem State.setPort_motion (s : State) (v : Port) : (s.setPort v).motion = s.motion := rfl
@[simp] theorem State.setPort_zone (s : State) (v : Port) : (s.setPort v).zone = s.zone := rfl
@[simp] theorem State.setPort_link (s : State) (v : Port) : (s.setPort v).link = s.link := rfl
@[simp] theorem State.setPort_peers (s : State) (v : Port) : (s.setPort v).peers = s.peers := rfl
@[simp] theorem State.setPort_temps (s : State) (v : Port) : (s.setPort v).temps = s.temps := rfl
@[simp] theorem State.setPort_probes (s : State) (v : Port) : (s.setPort v).probes = s.probes := rfl
@[simp] theorem State.setPort_corr (s : State) (v : Port) : (s.setPort v).corr = s.corr := rfl
@[simp] theorem State.setPort_points (s : State) (v : Port) : (s.setPort v).points = s.points := rfl
@[simp] theorem State.setPort_port (s : State) (v : Port) : (s.setPort v).port = v := rfl
@[simp] theorem State.setPort_events (s : State) (v : Port) : (s.setPort v).events = s.events := rfl

/-! ## setEvents -/

@[simp] theorem State.setEvents_pending (s : State) (v : Events) : (s.setEvents v).pending = s.pending := rfl
@[simp] theorem State.setEvents_clock (s : State) (v : Events) : (s.setEvents v).clock = s.clock := rfl
@[simp] theorem State.setEvents_station (s : State) (v : Events) : (s.setEvents v).station = s.station := rfl
@[simp] theorem State.setEvents_axes (s : State) (v : Events) : (s.setEvents v).axes = s.axes := rfl
@[simp] theorem State.setEvents_motion (s : State) (v : Events) : (s.setEvents v).motion = s.motion := rfl
@[simp] theorem State.setEvents_zone (s : State) (v : Events) : (s.setEvents v).zone = s.zone := rfl
@[simp] theorem State.setEvents_link (s : State) (v : Events) : (s.setEvents v).link = s.link := rfl
@[simp] theorem State.setEvents_peers (s : State) (v : Events) : (s.setEvents v).peers = s.peers := rfl
@[simp] theorem State.setEvents_temps (s : State) (v : Events) : (s.setEvents v).temps = s.temps := rfl
@[simp] theorem State.setEvents_probes (s : State) (v : Events) : (s.setEvents v).probes = s.probes := rfl
@[simp] theorem State.setEvents_corr (s : State) (v : Events) : (s.setEvents v).corr = s.corr := rfl
@[simp] theorem State.setEvents_points (s : State) (v : Events) : (s.setEvents v).points = s.points := rfl
@[simp] theorem State.setEvents_port (s : State) (v : Events) : (s.setEvents v).port = s.port := rfl
@[simp] theorem State.setEvents_events (s : State) (v : Events) : (s.setEvents v).events = v := rfl

end Sys2Proof.Machine
end

