-- ==== Sys2Proof/Laws/Frames.lean ====
section
/-! SUPPORT. The frame of every shared operation: the parts of the state that it leaves as they are,
whatever it does. Each lemma is a simp lemma, so that no proof unfolds an operation to see past it. -/

namespace Sys2Proof.Machine

/-- What no step of a fold changes, the fold leaves unchanged. -/
theorem foldl_keeps {α β γ : Type} (p : α → γ) (f : α → β → α) (h : ∀ t x, p (f t x) = p t) :
    ∀ (l : List β) (s : α), p (l.foldl f s) = p s
  | [], _ => rfl
  | x :: l, s => by rw [List.foldl_cons, foldl_keeps p f h l, h]

/-! ## Machine/Ops.lean -/

@[simp] theorem State.reach_keeps (s : State) (t : Nat) :
    (State.reach s t).pending = s.pending ∧ (State.reach s t).station = s.station
      ∧ (State.reach s t).axes = s.axes ∧ (State.reach s t).motion = s.motion
      ∧ (State.reach s t).zone = s.zone ∧ (State.reach s t).link = s.link
      ∧ (State.reach s t).peers = s.peers ∧ (State.reach s t).temps = s.temps
      ∧ (State.reach s t).probes = s.probes ∧ (State.reach s t).corr = s.corr
      ∧ (State.reach s t).points = s.points ∧ (State.reach s t).port = s.port
      ∧ (State.reach s t).events = s.events := by
  simp [State.reach]

@[simp] theorem State.answer_keeps (s : State) (code : Code) (data : List Byte) :
    (State.answer s code data).pending = s.pending ∧ (State.answer s code data).clock = s.clock
      ∧ (State.answer s code data).station = s.station ∧ (State.answer s code data).axes = s.axes
      ∧ (State.answer s code data).motion = s.motion ∧ (State.answer s code data).zone = s.zone
      ∧ (State.answer s code data).link = s.link ∧ (State.answer s code data).peers = s.peers
      ∧ (State.answer s code data).temps = s.temps ∧ (State.answer s code data).probes = s.probes
      ∧ (State.answer s code data).corr = s.corr ∧ (State.answer s code data).points = s.points
      ∧ (State.answer s code data).events = s.events := by
  simp [State.answer]

@[simp] theorem State.raise_keeps (s : State) (k : EventKind) (kept : Kept) :
    (State.raise s k kept).pending = s.pending ∧ (State.raise s k kept).clock = s.clock
      ∧ (State.raise s k kept).station = s.station ∧ (State.raise s k kept).axes = s.axes
      ∧ (State.raise s k kept).motion = s.motion ∧ (State.raise s k kept).zone = s.zone
      ∧ (State.raise s k kept).link = s.link ∧ (State.raise s k kept).peers = s.peers
      ∧ (State.raise s k kept).temps = s.temps ∧ (State.raise s k kept).probes = s.probes
      ∧ (State.raise s k kept).corr = s.corr ∧ (State.raise s k kept).points = s.points
      ∧ (State.raise s k kept).port = s.port := by
  simp [State.raise]

@[simp] theorem raiseReady_keeps (s : State) :
    (raiseReady s).pending = s.pending ∧ (raiseReady s).clock = s.clock
      ∧ (raiseReady s).station = s.station ∧ (raiseReady s).axes = s.axes
      ∧ (raiseReady s).motion = s.motion ∧ (raiseReady s).zone = s.zone
      ∧ (raiseReady s).link = s.link ∧ (raiseReady s).peers = s.peers
      ∧ (raiseReady s).temps = s.temps ∧ (raiseReady s).probes = s.probes
      ∧ (raiseReady s).corr = s.corr ∧ (raiseReady s).points = s.points
      ∧ (raiseReady s).port = s.port := by
  simp [raiseReady]

@[simp] theorem raisePointReady_keeps (n : BitVec 16) (s : State) :
    (raisePointReady n s).pending = s.pending ∧ (raisePointReady n s).clock = s.clock
      ∧ (raisePointReady n s).station = s.station ∧ (raisePointReady n s).axes = s.axes
      ∧ (raisePointReady n s).motion = s.motion ∧ (raisePointReady n s).zone = s.zone
      ∧ (raisePointReady n s).link = s.link ∧ (raisePointReady n s).peers = s.peers
      ∧ (raisePointReady n s).temps = s.temps ∧ (raisePointReady n s).probes = s.probes
      ∧ (raisePointReady n s).corr = s.corr ∧ (raisePointReady n s).points = s.points
      ∧ (raisePointReady n s).port = s.port := by
  simp [raisePointReady]

@[simp] theorem raiseQueueHold_keeps (s : State) :
    (raiseQueueHold s).pending = s.pending ∧ (raiseQueueHold s).clock = s.clock
      ∧ (raiseQueueHold s).station = s.station ∧ (raiseQueueHold s).axes = s.axes
      ∧ (raiseQueueHold s).motion = s.motion ∧ (raiseQueueHold s).zone = s.zone
      ∧ (raiseQueueHold s).link = s.link ∧ (raiseQueueHold s).peers = s.peers
      ∧ (raiseQueueHold s).temps = s.temps ∧ (raiseQueueHold s).probes = s.probes
      ∧ (raiseQueueHold s).corr = s.corr ∧ (raiseQueueHold s).points = s.points
      ∧ (raiseQueueHold s).port = s.port := by
  simp [raiseQueueHold]

@[simp] theorem raiseOverrun_keeps (n : BitVec 16) (s : State) :
    (raiseOverrun n s).pending = s.pending ∧ (raiseOverrun n s).clock = s.clock
      ∧ (raiseOverrun n s).station = s.station ∧ (raiseOverrun n s).axes = s.axes
      ∧ (raiseOverrun n s).motion = s.motion ∧ (raiseOverrun n s).zone = s.zone
      ∧ (raiseOverrun n s).link = s.link ∧ (raiseOverrun n s).peers = s.peers
      ∧ (raiseOverrun n s).temps = s.temps ∧ (raiseOverrun n s).probes = s.probes
      ∧ (raiseOverrun n s).corr = s.corr ∧ (raiseOverrun n s).points = s.points
      ∧ (raiseOverrun n s).port = s.port := by
  simp [raiseOverrun]

@[simp] theorem raiseSegmentDone_keeps (t : Tag) (s : State) :
    (raiseSegmentDone t s).pending = s.pending ∧ (raiseSegmentDone t s).clock = s.clock
      ∧ (raiseSegmentDone t s).station = s.station ∧ (raiseSegmentDone t s).axes = s.axes
      ∧ (raiseSegmentDone t s).motion = s.motion ∧ (raiseSegmentDone t s).zone = s.zone
      ∧ (raiseSegmentDone t s).link = s.link ∧ (raiseSegmentDone t s).peers = s.peers
      ∧ (raiseSegmentDone t s).temps = s.temps ∧ (raiseSegmentDone t s).probes = s.probes
      ∧ (raiseSegmentDone t s).corr = s.corr ∧ (raiseSegmentDone t s).points = s.points
      ∧ (raiseSegmentDone t s).port = s.port := by
  simp [raiseSegmentDone]

@[simp] theorem raiseProbeRefused_keeps (r : RefuseReason) (t : Tag) (s : State) :
    (raiseProbeRefused r t s).pending = s.pending ∧ (raiseProbeRefused r t s).clock = s.clock
      ∧ (raiseProbeRefused r t s).station = s.station ∧ (raiseProbeRefused r t s).axes = s.axes
      ∧ (raiseProbeRefused r t s).motion = s.motion ∧ (raiseProbeRefused r t s).zone = s.zone
      ∧ (raiseProbeRefused r t s).link = s.link ∧ (raiseProbeRefused r t s).peers = s.peers
      ∧ (raiseProbeRefused r t s).temps = s.temps ∧ (raiseProbeRefused r t s).probes = s.probes
      ∧ (raiseProbeRefused r t s).corr = s.corr ∧ (raiseProbeRefused r t s).points = s.points
      ∧ (raiseProbeRefused r t s).port = s.port := by
  simp [raiseProbeRefused]

@[simp] theorem raiseMotionFault_keeps (r : FaultReason) (t : Option Tag) (s : State) :
    (raiseMotionFault r t s).pending = s.pending ∧ (raiseMotionFault r t s).clock = s.clock
      ∧ (raiseMotionFault r t s).station = s.station ∧ (raiseMotionFault r t s).axes = s.axes
      ∧ (raiseMotionFault r t s).motion = s.motion ∧ (raiseMotionFault r t s).zone = s.zone
      ∧ (raiseMotionFault r t s).link = s.link ∧ (raiseMotionFault r t s).peers = s.peers
      ∧ (raiseMotionFault r t s).temps = s.temps ∧ (raiseMotionFault r t s).probes = s.probes
      ∧ (raiseMotionFault r t s).corr = s.corr ∧ (raiseMotionFault r t s).points = s.points
      ∧ (raiseMotionFault r t s).port = s.port := by
  simp [raiseMotionFault]

@[simp] theorem raiseZoneWait_keeps (cs : CellSet) (s : State) :
    (raiseZoneWait cs s).pending = s.pending ∧ (raiseZoneWait cs s).clock = s.clock
      ∧ (raiseZoneWait cs s).station = s.station ∧ (raiseZoneWait cs s).axes = s.axes
      ∧ (raiseZoneWait cs s).motion = s.motion ∧ (raiseZoneWait cs s).zone = s.zone
      ∧ (raiseZoneWait cs s).link = s.link ∧ (raiseZoneWait cs s).peers = s.peers
      ∧ (raiseZoneWait cs s).temps = s.temps ∧ (raiseZoneWait cs s).probes = s.probes
      ∧ (raiseZoneWait cs s).corr = s.corr ∧ (raiseZoneWait cs s).points = s.points
      ∧ (raiseZoneWait cs s).port = s.port := by
  simp [raiseZoneWait]

@[simp] theorem raiseZoneWaitTimeout_keeps (cs : CellSet) (s : State) :
    (raiseZoneWaitTimeout cs s).pending = s.pending ∧ (raiseZoneWaitTimeout cs s).clock = s.clock
      ∧ (raiseZoneWaitTimeout cs s).station = s.station ∧ (raiseZoneWaitTimeout cs s).axes = s.axes
      ∧ (raiseZoneWaitTimeout cs s).motion = s.motion ∧ (raiseZoneWaitTimeout cs s).zone = s.zone
      ∧ (raiseZoneWaitTimeout cs s).link = s.link ∧ (raiseZoneWaitTimeout cs s).peers = s.peers
      ∧ (raiseZoneWaitTimeout cs s).temps = s.temps ∧ (raiseZoneWaitTimeout cs s).probes = s.probes
      ∧ (raiseZoneWaitTimeout cs s).corr = s.corr ∧ (raiseZoneWaitTimeout cs s).points = s.points
      ∧ (raiseZoneWaitTimeout cs s).port = s.port := by
  simp [raiseZoneWaitTimeout]

@[simp] theorem raiseZoneOverstay_keeps (c : Cell) (w : Station) (s : State) :
    (raiseZoneOverstay c w s).pending = s.pending ∧ (raiseZoneOverstay c w s).clock = s.clock
      ∧ (raiseZoneOverstay c w s).station = s.station ∧ (raiseZoneOverstay c w s).axes = s.axes
      ∧ (raiseZoneOverstay c w s).motion = s.motion ∧ (raiseZoneOverstay c w s).zone = s.zone
      ∧ (raiseZoneOverstay c w s).link = s.link ∧ (raiseZoneOverstay c w s).peers = s.peers
      ∧ (raiseZoneOverstay c w s).temps = s.temps ∧ (raiseZoneOverstay c w s).probes = s.probes
      ∧ (raiseZoneOverstay c w s).corr = s.corr ∧ (raiseZoneOverstay c w s).points = s.points
      ∧ (raiseZoneOverstay c w s).port = s.port := by
  simp [raiseZoneOverstay]

@[simp] theorem raiseZoneConflict_keeps (p : Station) (cs : CellSet) (s : State) :
    (raiseZoneConflict p cs s).pending = s.pending ∧ (raiseZoneConflict p cs s).clock = s.clock
      ∧ (raiseZoneConflict p cs s).station = s.station ∧ (raiseZoneConflict p cs s).axes = s.axes
      ∧ (raiseZoneConflict p cs s).motion = s.motion ∧ (raiseZoneConflict p cs s).zone = s.zone
      ∧ (raiseZoneConflict p cs s).link = s.link ∧ (raiseZoneConflict p cs s).peers = s.peers
      ∧ (raiseZoneConflict p cs s).temps = s.temps ∧ (raiseZoneConflict p cs s).probes = s.probes
      ∧ (raiseZoneConflict p cs s).corr = s.corr ∧ (raiseZoneConflict p cs s).points = s.points
      ∧ (raiseZoneConflict p cs s).port = s.port := by
  simp [raiseZoneConflict]

@[simp] theorem raiseChangeDone_keeps (t : Ident) (s : State) :
    (raiseChangeDone t s).pending = s.pending ∧ (raiseChangeDone t s).clock = s.clock
      ∧ (raiseChangeDone t s).station = s.station ∧ (raiseChangeDone t s).axes = s.axes
      ∧ (raiseChangeDone t s).motion = s.motion ∧ (raiseChangeDone t s).zone = s.zone
      ∧ (raiseChangeDone t s).link = s.link ∧ (raiseChangeDone t s).peers = s.peers
      ∧ (raiseChangeDone t s).temps = s.temps ∧ (raiseChangeDone t s).probes = s.probes
      ∧ (raiseChangeDone t s).corr = s.corr ∧ (raiseChangeDone t s).points = s.points
      ∧ (raiseChangeDone t s).port = s.port := by
  simp [raiseChangeDone]

@[simp] theorem raiseChangeFailed_keeps (r : FailReason) (t : Ident) (s : State) :
    (raiseChangeFailed r t s).pending = s.pending ∧ (raiseChangeFailed r t s).clock = s.clock
      ∧ (raiseChangeFailed r t s).station = s.station ∧ (raiseChangeFailed r t s).axes = s.axes
      ∧ (raiseChangeFailed r t s).motion = s.motion ∧ (raiseChangeFailed r t s).zone = s.zone
      ∧ (raiseChangeFailed r t s).link = s.link ∧ (raiseChangeFailed r t s).peers = s.peers
      ∧ (raiseChangeFailed r t s).temps = s.temps ∧ (raiseChangeFailed r t s).probes = s.probes
      ∧ (raiseChangeFailed r t s).corr = s.corr ∧ (raiseChangeFailed r t s).points = s.points
      ∧ (raiseChangeFailed r t s).port = s.port := by
  simp [raiseChangeFailed]

@[simp] theorem raiseRackConflict_keeps (k : SlotIx) (i : Ident) (s : State) :
    (raiseRackConflict k i s).pending = s.pending ∧ (raiseRackConflict k i s).clock = s.clock
      ∧ (raiseRackConflict k i s).station = s.station ∧ (raiseRackConflict k i s).axes = s.axes
      ∧ (raiseRackConflict k i s).motion = s.motion ∧ (raiseRackConflict k i s).zone = s.zone
      ∧ (raiseRackConflict k i s).link = s.link ∧ (raiseRackConflict k i s).peers = s.peers
      ∧ (raiseRackConflict k i s).temps = s.temps ∧ (raiseRackConflict k i s).probes = s.probes
      ∧ (raiseRackConflict k i s).corr = s.corr ∧ (raiseRackConflict k i s).points = s.points
      ∧ (raiseRackConflict k i s).port = s.port := by
  simp [raiseRackConflict]

@[simp] theorem raiseSeatedChange_keeps (level : Bool) (s : State) :
    (raiseSeatedChange level s).pending = s.pending ∧ (raiseSeatedChange level s).clock = s.clock
      ∧ (raiseSeatedChange level s).station = s.station ∧ (raiseSeatedChange level s).axes = s.axes
      ∧ (raiseSeatedChange level s).motion = s.motion ∧ (raiseSeatedChange level s).zone = s.zone
      ∧ (raiseSeatedChange level s).link = s.link ∧ (raiseSeatedChange level s).peers = s.peers
      ∧ (raiseSeatedChange level s).temps = s.temps ∧ (raiseSeatedChange level s).probes = s.probes
      ∧ (raiseSeatedChange level s).corr = s.corr ∧ (raiseSeatedChange level s).points = s.points
      ∧ (raiseSeatedChange level s).port = s.port := by
  simp [raiseSeatedChange]

@[simp] theorem raiseStrayTouch_keeps (s : State) :
    (raiseStrayTouch s).pending = s.pending ∧ (raiseStrayTouch s).clock = s.clock
      ∧ (raiseStrayTouch s).station = s.station ∧ (raiseStrayTouch s).axes = s.axes
      ∧ (raiseStrayTouch s).motion = s.motion ∧ (raiseStrayTouch s).zone = s.zone
      ∧ (raiseStrayTouch s).link = s.link ∧ (raiseStrayTouch s).peers = s.peers
      ∧ (raiseStrayTouch s).temps = s.temps ∧ (raiseStrayTouch s).probes = s.probes
      ∧ (raiseStrayTouch s).corr = s.corr ∧ (raiseStrayTouch s).points = s.points
      ∧ (raiseStrayTouch s).port = s.port := by
  simp [raiseStrayTouch]

@[simp] theorem raiseSensorFault_keeps (c : Chan) (s : State) :
    (raiseSensorFault c s).pending = s.pending ∧ (raiseSensorFault c s).clock = s.clock
      ∧ (raiseSensorFault c s).station = s.station ∧ (raiseSensorFault c s).axes = s.axes
      ∧ (raiseSensorFault c s).motion = s.motion ∧ (raiseSensorFault c s).zone = s.zone
      ∧ (raiseSensorFault c s).link = s.link ∧ (raiseSensorFault c s).peers = s.peers
      ∧ (raiseSensorFault c s).temps = s.temps ∧ (raiseSensorFault c s).probes = s.probes
      ∧ (raiseSensorFault c s).corr = s.corr ∧ (raiseSensorFault c s).points = s.points
      ∧ (raiseSensorFault c s).port = s.port := by
  simp [raiseSensorFault]

@[simp] theorem raisePeerLost_keeps (p : Station) (s : State) :
    (raisePeerLost p s).pending = s.pending ∧ (raisePeerLost p s).clock = s.clock
      ∧ (raisePeerLost p s).station = s.station ∧ (raisePeerLost p s).axes = s.axes
      ∧ (raisePeerLost p s).motion = s.motion ∧ (raisePeerLost p s).zone = s.zone
      ∧ (raisePeerLost p s).link = s.link ∧ (raisePeerLost p s).peers = s.peers
      ∧ (raisePeerLost p s).temps = s.temps ∧ (raisePeerLost p s).probes = s.probes
      ∧ (raisePeerLost p s).corr = s.corr ∧ (raisePeerLost p s).points = s.points
      ∧ (raisePeerLost p s).port = s.port := by
  simp [raisePeerLost]

@[simp] theorem raiseLinkFault_keeps (r : LinkReason) (k : Option FrameKind) (s : State) :
    (raiseLinkFault r k s).pending = s.pending ∧ (raiseLinkFault r k s).clock = s.clock
      ∧ (raiseLinkFault r k s).station = s.station ∧ (raiseLinkFault r k s).axes = s.axes
      ∧ (raiseLinkFault r k s).motion = s.motion ∧ (raiseLinkFault r k s).zone = s.zone
      ∧ (raiseLinkFault r k s).link = s.link ∧ (raiseLinkFault r k s).peers = s.peers
      ∧ (raiseLinkFault r k s).temps = s.temps ∧ (raiseLinkFault r k s).probes = s.probes
      ∧ (raiseLinkFault r k s).corr = s.corr ∧ (raiseLinkFault r k s).points = s.points
      ∧ (raiseLinkFault r k s).port = s.port := by
  simp [raiseLinkFault]

@[simp] theorem raisePortError_keeps (r : PortReason) (s : State) :
    (raisePortError r s).pending = s.pending ∧ (raisePortError r s).clock = s.clock
      ∧ (raisePortError r s).station = s.station ∧ (raisePortError r s).axes = s.axes
      ∧ (raisePortError r s).motion = s.motion ∧ (raisePortError r s).zone = s.zone
      ∧ (raisePortError r s).link = s.link ∧ (raisePortError r s).peers = s.peers
      ∧ (raisePortError r s).temps = s.temps ∧ (raisePortError r s).probes = s.probes
      ∧ (raisePortError r s).corr = s.corr ∧ (raisePortError r s).points = s.points
      ∧ (raisePortError r s).port = s.port := by
  simp [raisePortError]

@[simp] theorem State.setAxis_keeps (s : State) (a : Axis) (c : AxisChan) :
    (State.setAxis s a c).pending = s.pending ∧ (State.setAxis s a c).clock = s.clock
      ∧ (State.setAxis s a c).station = s.station ∧ (State.setAxis s a c).motion = s.motion
      ∧ (State.setAxis s a c).zone = s.zone ∧ (State.setAxis s a c).link = s.link
      ∧ (State.setAxis s a c).peers = s.peers ∧ (State.setAxis s a c).temps = s.temps
      ∧ (State.setAxis s a c).probes = s.probes ∧ (State.setAxis s a c).corr = s.corr
      ∧ (State.setAxis s a c).points = s.points ∧ (State.setAxis s a c).port = s.port
      ∧ (State.setAxis s a c).events = s.events := by
  simp [State.setAxis]

@[simp] theorem State.setModes_keeps (s : State) (m : Mode) :
    (State.setModes s m).pending = s.pending ∧ (State.setModes s m).clock = s.clock
      ∧ (State.setModes s m).station = s.station ∧ (State.setModes s m).motion = s.motion
      ∧ (State.setModes s m).zone = s.zone ∧ (State.setModes s m).link = s.link
      ∧ (State.setModes s m).peers = s.peers ∧ (State.setModes s m).temps = s.temps
      ∧ (State.setModes s m).probes = s.probes ∧ (State.setModes s m).corr = s.corr
      ∧ (State.setModes s m).points = s.points ∧ (State.setModes s m).port = s.port
      ∧ (State.setModes s m).events = s.events := by
  simp [State.setModes]

@[simp] theorem State.sendSetpoints_keeps (s : State) (p : V3 Int) :
    (State.sendSetpoints s p).pending = s.pending ∧ (State.sendSetpoints s p).clock = s.clock
      ∧ (State.sendSetpoints s p).station = s.station ∧ (State.sendSetpoints s p).motion = s.motion
      ∧ (State.sendSetpoints s p).zone = s.zone ∧ (State.sendSetpoints s p).link = s.link
      ∧ (State.sendSetpoints s p).peers = s.peers ∧ (State.sendSetpoints s p).temps = s.temps
      ∧ (State.sendSetpoints s p).probes = s.probes ∧ (State.sendSetpoints s p).corr = s.corr
      ∧ (State.sendSetpoints s p).points = s.points ∧ (State.sendSetpoints s p).port = s.port
      ∧ (State.sendSetpoints s p).events = s.events := by
  simp [State.sendSetpoints]

@[simp] theorem State.setCurrent_keeps (s : State) (g : Segment) :
    (State.setCurrent s g).pending = s.pending ∧ (State.setCurrent s g).clock = s.clock
      ∧ (State.setCurrent s g).station = s.station ∧ (State.setCurrent s g).axes = s.axes
      ∧ (State.setCurrent s g).zone = s.zone ∧ (State.setCurrent s g).link = s.link
      ∧ (State.setCurrent s g).peers = s.peers ∧ (State.setCurrent s g).temps = s.temps
      ∧ (State.setCurrent s g).probes = s.probes ∧ (State.setCurrent s g).corr = s.corr
      ∧ (State.setCurrent s g).points = s.points ∧ (State.setCurrent s g).port = s.port
      ∧ (State.setCurrent s g).events = s.events := by
  unfold State.setCurrent
  repeat' split
  all_goals simp

@[simp] theorem State.dropCurrent_keeps (s : State) :
    (State.dropCurrent s).pending = s.pending ∧ (State.dropCurrent s).clock = s.clock
      ∧ (State.dropCurrent s).station = s.station ∧ (State.dropCurrent s).axes = s.axes
      ∧ (State.dropCurrent s).zone = s.zone ∧ (State.dropCurrent s).link = s.link
      ∧ (State.dropCurrent s).peers = s.peers ∧ (State.dropCurrent s).temps = s.temps
      ∧ (State.dropCurrent s).probes = s.probes ∧ (State.dropCurrent s).corr = s.corr
      ∧ (State.dropCurrent s).points = s.points ∧ (State.dropCurrent s).port = s.port
      ∧ (State.dropCurrent s).events = s.events := by
  unfold State.dropCurrent
  split <;> simp

@[simp] theorem State.setMotionState_keeps (s : State) (m : MotionState) :
    (State.setMotionState s m).pending = s.pending ∧ (State.setMotionState s m).clock = s.clock
      ∧ (State.setMotionState s m).station = s.station ∧ (State.setMotionState s m).axes = s.axes
      ∧ (State.setMotionState s m).zone = s.zone ∧ (State.setMotionState s m).link = s.link
      ∧ (State.setMotionState s m).peers = s.peers ∧ (State.setMotionState s m).temps = s.temps
      ∧ (State.setMotionState s m).probes = s.probes ∧ (State.setMotionState s m).corr = s.corr
      ∧ (State.setMotionState s m).points = s.points ∧ (State.setMotionState s m).port = s.port
      ∧ (State.setMotionState s m).events = s.events := by
  simp [State.setMotionState]

@[simp] theorem settleBank_keeps (s : State) :
    (settleBank s).pending = s.pending ∧ (settleBank s).clock = s.clock
      ∧ (settleBank s).station = s.station ∧ (settleBank s).axes = s.axes
      ∧ (settleBank s).motion = s.motion ∧ (settleBank s).zone = s.zone
      ∧ (settleBank s).link = s.link ∧ (settleBank s).peers = s.peers
      ∧ (settleBank s).temps = s.temps ∧ (settleBank s).corr = s.corr
      ∧ (settleBank s).points = s.points ∧ (settleBank s).port = s.port
      ∧ (settleBank s).events = s.events := by
  unfold settleBank
  repeat' split
  all_goals simp

@[simp] theorem State.mapCells_keeps (s : State) (f : Cell → CellEntry → CellEntry) :
    (State.mapCells s f).pending = s.pending ∧ (State.mapCells s f).clock = s.clock
      ∧ (State.mapCells s f).station = s.station ∧ (State.mapCells s f).axes = s.axes
      ∧ (State.mapCells s f).motion = s.motion ∧ (State.mapCells s f).link = s.link
      ∧ (State.mapCells s f).peers = s.peers ∧ (State.mapCells s f).temps = s.temps
      ∧ (State.mapCells s f).probes = s.probes ∧ (State.mapCells s f).corr = s.corr
      ∧ (State.mapCells s f).points = s.points ∧ (State.mapCells s f).port = s.port
      ∧ (State.mapCells s f).events = s.events := by
  simp [State.mapCells]

@[simp] theorem takeBack_keeps (p : Station) (n : Byte) (s : State) :
    (takeBack p n s).pending = s.pending ∧ (takeBack p n s).clock = s.clock
      ∧ (takeBack p n s).station = s.station ∧ (takeBack p n s).axes = s.axes
      ∧ (takeBack p n s).motion = s.motion ∧ (takeBack p n s).link = s.link
      ∧ (takeBack p n s).peers = s.peers ∧ (takeBack p n s).temps = s.temps
      ∧ (takeBack p n s).probes = s.probes ∧ (takeBack p n s).corr = s.corr
      ∧ (takeBack p n s).points = s.points ∧ (takeBack p n s).port = s.port
      ∧ (takeBack p n s).events = s.events := by
  simp [takeBack]

@[simp] theorem removeSending_keeps (s : State) :
    (removeSending s).pending = s.pending ∧ (removeSending s).clock = s.clock
      ∧ (removeSending s).station = s.station ∧ (removeSending s).axes = s.axes
      ∧ (removeSending s).motion = s.motion ∧ (removeSending s).zone = s.zone
      ∧ (removeSending s).peers = s.peers ∧ (removeSending s).temps = s.temps
      ∧ (removeSending s).probes = s.probes ∧ (removeSending s).corr = s.corr
      ∧ (removeSending s).points = s.points ∧ (removeSending s).port = s.port
      ∧ (removeSending s).events = s.events := by
  simp [removeSending]

/-- What offering a frame leaves as it is, whatever becomes of the frame (R94). -/
@[simp] theorem offer_keeps (f : TxFrame) (s : State) : (offer f s).2.pending = s.pending ∧ (offer f s).2.clock = s.clock ∧ (offer f s).2.station = s.station ∧ (offer f s).2.axes = s.axes ∧ (offer f s).2.motion = s.motion ∧ (offer f s).2.zone = s.zone ∧ (offer f s).2.peers = s.peers ∧ (offer f s).2.temps = s.temps ∧ (offer f s).2.probes = s.probes ∧ (offer f s).2.corr = s.corr ∧ (offer f s).2.points = s.points ∧ (offer f s).2.port = s.port := by
  unfold offer placeFrame
  dsimp only
  refine ⟨?_, ?_, ?_, ?_, ?_, ?_, ?_, ?_, ?_, ?_, ?_, ?_⟩ <;> (repeat' split) <;> simp

/-- The same for an offer whose result is named. -/
theorem offer_keeps_of {f : TxFrame} {s t : State} {o : Offer} (h : offer f s = (o, t)) :
    t.pending = s.pending ∧ t.clock = s.clock ∧ t.station = s.station ∧ t.axes = s.axes ∧ t.motion = s.motion ∧ t.zone = s.zone ∧ t.peers = s.peers ∧ t.temps = s.temps ∧ t.probes = s.probes ∧ t.corr = s.corr ∧ t.points = s.points ∧ t.port = s.port := by
  have k := offer_keeps f s
  rwa [h] at k

@[simp] theorem backToPending_keeps (attempts : Nat) (s : State) :
    (backToPending attempts s).pending = s.pending ∧ (backToPending attempts s).clock = s.clock
      ∧ (backToPending attempts s).station = s.station ∧ (backToPending attempts s).axes = s.axes
      ∧ (backToPending attempts s).motion = s.motion ∧ (backToPending attempts s).zone = s.zone
      ∧ (backToPending attempts s).peers = s.peers ∧ (backToPending attempts s).temps = s.temps
      ∧ (backToPending attempts s).probes = s.probes ∧ (backToPending attempts s).corr = s.corr
      ∧ (backToPending attempts s).points = s.points ∧ (backToPending attempts s).port = s.port
      ∧ (backToPending attempts s).events = s.events := by
  unfold backToPending
  split <;> simp

@[simp] theorem presenceLeft_keeps (s : State) :
    (presenceLeft s).pending = s.pending ∧ (presenceLeft s).clock = s.clock
      ∧ (presenceLeft s).station = s.station ∧ (presenceLeft s).axes = s.axes
      ∧ (presenceLeft s).motion = s.motion ∧ (presenceLeft s).zone = s.zone
      ∧ (presenceLeft s).link = s.link ∧ (presenceLeft s).temps = s.temps
      ∧ (presenceLeft s).probes = s.probes ∧ (presenceLeft s).corr = s.corr
      ∧ (presenceLeft s).points = s.points ∧ (presenceLeft s).port = s.port
      ∧ (presenceLeft s).events = s.events := by
  unfold presenceLeft
  split <;> simp

@[simp] theorem offerPresence_keeps (s : State) :
    (offerPresence s).pending = s.pending ∧ (offerPresence s).clock = s.clock
      ∧ (offerPresence s).station = s.station ∧ (offerPresence s).axes = s.axes
      ∧ (offerPresence s).motion = s.motion ∧ (offerPresence s).zone = s.zone
      ∧ (offerPresence s).temps = s.temps ∧ (offerPresence s).probes = s.probes
      ∧ (offerPresence s).corr = s.corr ∧ (offerPresence s).points = s.points
      ∧ (offerPresence s).port = s.port := by
  unfold offerPresence
  repeat' split
  all_goals first
    | (simp; done)
    | (rename_i h; simp [offer_keeps_of h])

@[simp] theorem releaseReport_keeps (s : State) :
    (releaseReport s).pending = s.pending ∧ (releaseReport s).clock = s.clock
      ∧ (releaseReport s).station = s.station ∧ (releaseReport s).axes = s.axes
      ∧ (releaseReport s).motion = s.motion ∧ (releaseReport s).zone = s.zone
      ∧ (releaseReport s).temps = s.temps ∧ (releaseReport s).probes = s.probes
      ∧ (releaseReport s).corr = s.corr ∧ (releaseReport s).points = s.points
      ∧ (releaseReport s).port = s.port := by
  unfold releaseReport
  split <;> simp

@[simp] theorem State.setSlot_keeps (s : State) (k : SlotIx) (v : Slot) :
    (State.setSlot s k v).pending = s.pending ∧ (State.setSlot s k v).clock = s.clock
      ∧ (State.setSlot s k v).station = s.station ∧ (State.setSlot s k v).axes = s.axes
      ∧ (State.setSlot s k v).motion = s.motion ∧ (State.setSlot s k v).zone = s.zone
      ∧ (State.setSlot s k v).link = s.link ∧ (State.setSlot s k v).peers = s.peers
      ∧ (State.setSlot s k v).temps = s.temps ∧ (State.setSlot s k v).corr = s.corr
      ∧ (State.setSlot s k v).points = s.points ∧ (State.setSlot s k v).port = s.port
      ∧ (State.setSlot s k v).events = s.events := by
  simp [State.setSlot]

@[simp] theorem markUnsent_keeps (k : SlotIx) (v : Bool) (s : State) :
    (markUnsent k v s).pending = s.pending ∧ (markUnsent k v s).clock = s.clock
      ∧ (markUnsent k v s).station = s.station ∧ (markUnsent k v s).axes = s.axes
      ∧ (markUnsent k v s).motion = s.motion ∧ (markUnsent k v s).zone = s.zone
      ∧ (markUnsent k v s).link = s.link ∧ (markUnsent k v s).peers = s.peers
      ∧ (markUnsent k v s).temps = s.temps ∧ (markUnsent k v s).corr = s.corr
      ∧ (markUnsent k v s).points = s.points ∧ (markUnsent k v s).port = s.port
      ∧ (markUnsent k v s).events = s.events := by
  simp [markUnsent]

@[simp] theorem offerNote_keeps (k : SlotIx) (content : Ident) (s : State) :
    (offerNote k content s).pending = s.pending ∧ (offerNote k content s).clock = s.clock
      ∧ (offerNote k content s).station = s.station ∧ (offerNote k content s).axes = s.axes
      ∧ (offerNote k content s).motion = s.motion ∧ (offerNote k content s).zone = s.zone
      ∧ (offerNote k content s).peers = s.peers ∧ (offerNote k content s).temps = s.temps
      ∧ (offerNote k content s).corr = s.corr ∧ (offerNote k content s).points = s.points
      ∧ (offerNote k content s).port = s.port := by
  unfold offerNote
  split <;> rename_i h <;> simp [offer_keeps_of h]

@[simp] theorem applyNote_keeps (k : SlotIx) (c : Ident) (src : NotedBy) (s : State) :
    (applyNote k c src s).pending = s.pending ∧ (applyNote k c src s).clock = s.clock
      ∧ (applyNote k c src s).station = s.station ∧ (applyNote k c src s).axes = s.axes
      ∧ (applyNote k c src s).motion = s.motion ∧ (applyNote k c src s).zone = s.zone
      ∧ (applyNote k c src s).link = s.link ∧ (applyNote k c src s).peers = s.peers
      ∧ (applyNote k c src s).temps = s.temps ∧ (applyNote k c src s).corr = s.corr
      ∧ (applyNote k c src s).points = s.points ∧ (applyNote k c src s).port = s.port := by
  unfold applyNote
  split <;> simp

@[simp] theorem expelIdent_keeps (i : Ident) (s : State) :
    (expelIdent i s).pending = s.pending ∧ (expelIdent i s).clock = s.clock
      ∧ (expelIdent i s).station = s.station ∧ (expelIdent i s).axes = s.axes
      ∧ (expelIdent i s).motion = s.motion ∧ (expelIdent i s).zone = s.zone
      ∧ (expelIdent i s).peers = s.peers ∧ (expelIdent i s).temps = s.temps
      ∧ (expelIdent i s).corr = s.corr ∧ (expelIdent i s).points = s.points
      ∧ (expelIdent i s).port = s.port := by
  unfold expelIdent
  split
  · refine ⟨?_, ?_, ?_, ?_, ?_, ?_, ?_, ?_, ?_, ?_, ?_⟩ <;>
      (refine foldl_keeps _ _ (fun t x => ?_) _ _; dsimp only; (repeat' split) <;> simp)
  · simp

@[simp] theorem State.setCurrentProbe_keeps (s : State) (p : CurrentProbe) :
    (State.setCurrentProbe s p).pending = s.pending ∧ (State.setCurrentProbe s p).clock = s.clock
      ∧ (State.setCurrentProbe s p).station = s.station ∧ (State.setCurrentProbe s p).axes = s.axes
      ∧ (State.setCurrentProbe s p).motion = s.motion ∧ (State.setCurrentProbe s p).zone = s.zone
      ∧ (State.setCurrentProbe s p).link = s.link ∧ (State.setCurrentProbe s p).peers = s.peers
      ∧ (State.setCurrentProbe s p).temps = s.temps ∧ (State.setCurrentProbe s p).corr = s.corr
      ∧ (State.setCurrentProbe s p).points = s.points ∧ (State.setCurrentProbe s p).port = s.port
      ∧ (State.setCurrentProbe s p).events = s.events := by
  simp [State.setCurrentProbe]

@[simp] theorem failChange_keeps (s : State) :
    (failChange s).pending = s.pending ∧ (failChange s).clock = s.clock
      ∧ (failChange s).station = s.station ∧ (failChange s).axes = s.axes
      ∧ (failChange s).motion = s.motion ∧ (failChange s).link = s.link
      ∧ (failChange s).peers = s.peers ∧ (failChange s).temps = s.temps
      ∧ (failChange s).corr = s.corr ∧ (failChange s).points = s.points
      ∧ (failChange s).port = s.port := by
  unfold failChange
  split <;> simp

@[simp] theorem faultStop_keeps (r : FaultReason) (s : State) :
    (faultStop r s).pending = s.pending ∧ (faultStop r s).clock = s.clock
      ∧ (faultStop r s).station = s.station ∧ (faultStop r s).link = s.link
      ∧ (faultStop r s).peers = s.peers ∧ (faultStop r s).temps = s.temps
      ∧ (faultStop r s).corr = s.corr ∧ (faultStop r s).points = s.points
      ∧ (faultStop r s).port = s.port := by
  unfold faultStop
  repeat' split
  all_goals simp

@[simp] theorem zoneConflict_keeps (p : Station) (cs : CellSet) (s : State) :
    (zoneConflict p cs s).pending = s.pending ∧ (zoneConflict p cs s).clock = s.clock
      ∧ (zoneConflict p cs s).station = s.station ∧ (zoneConflict p cs s).link = s.link
      ∧ (zoneConflict p cs s).peers = s.peers ∧ (zoneConflict p cs s).temps = s.temps
      ∧ (zoneConflict p cs s).corr = s.corr ∧ (zoneConflict p cs s).points = s.points
      ∧ (zoneConflict p cs s).port = s.port := by
  simp [zoneConflict]

/-! ## Machine/Claims.lean -/

@[simp] theorem State.setClaim_keeps (s : State) (c : Option Claim) :
    (State.setClaim s c).pending = s.pending ∧ (State.setClaim s c).clock = s.clock
      ∧ (State.setClaim s c).station = s.station ∧ (State.setClaim s c).axes = s.axes
      ∧ (State.setClaim s c).motion = s.motion ∧ (State.setClaim s c).link = s.link
      ∧ (State.setClaim s c).peers = s.peers ∧ (State.setClaim s c).temps = s.temps
      ∧ (State.setClaim s c).probes = s.probes ∧ (State.setClaim s c).corr = s.corr
      ∧ (State.setClaim s c).points = s.points ∧ (State.setClaim s c).port = s.port
      ∧ (State.setClaim s c).events = s.events := by
  simp [State.setClaim]

@[simp] theorem markTimeout_keeps (c : Claim) (s : State) :
    (markTimeout c s).pending = s.pending ∧ (markTimeout c s).clock = s.clock
      ∧ (markTimeout c s).station = s.station ∧ (markTimeout c s).axes = s.axes
      ∧ (markTimeout c s).motion = s.motion ∧ (markTimeout c s).link = s.link
      ∧ (markTimeout c s).peers = s.peers ∧ (markTimeout c s).temps = s.temps
      ∧ (markTimeout c s).probes = s.probes ∧ (markTimeout c s).corr = s.corr
      ∧ (markTimeout c s).points = s.points ∧ (markTimeout c s).port = s.port := by
  simp [markTimeout]

@[simp] theorem offerWait_keeps (cs : CellSet) (s : State) :
    (offerWait cs s).pending = s.pending ∧ (offerWait cs s).clock = s.clock
      ∧ (offerWait cs s).station = s.station ∧ (offerWait cs s).axes = s.axes
      ∧ (offerWait cs s).motion = s.motion ∧ (offerWait cs s).zone = s.zone
      ∧ (offerWait cs s).peers = s.peers ∧ (offerWait cs s).temps = s.temps
      ∧ (offerWait cs s).probes = s.probes ∧ (offerWait cs s).corr = s.corr
      ∧ (offerWait cs s).points = s.points ∧ (offerWait cs s).port = s.port := by
  unfold offerWait
  split <;> simp

@[simp] theorem takeBackClaim_keeps (c : Claim) (s : State) :
    (takeBackClaim c s).pending = s.pending ∧ (takeBackClaim c s).clock = s.clock
      ∧ (takeBackClaim c s).station = s.station ∧ (takeBackClaim c s).axes = s.axes
      ∧ (takeBackClaim c s).motion = s.motion ∧ (takeBackClaim c s).link = s.link
      ∧ (takeBackClaim c s).peers = s.peers ∧ (takeBackClaim c s).temps = s.temps
      ∧ (takeBackClaim c s).probes = s.probes ∧ (takeBackClaim c s).corr = s.corr
      ∧ (takeBackClaim c s).points = s.points ∧ (takeBackClaim c s).port = s.port
      ∧ (takeBackClaim c s).events = s.events := by
  unfold takeBackClaim
  split <;> simp

@[simp] theorem claimToWaiting_keeps (blocking : CellSet) (s : State) :
    (claimToWaiting blocking s).pending = s.pending ∧ (claimToWaiting blocking s).clock = s.clock
      ∧ (claimToWaiting blocking s).station = s.station ∧ (claimToWaiting blocking s).axes = s.axes
      ∧ (claimToWaiting blocking s).motion = s.motion ∧ (claimToWaiting blocking s).peers = s.peers
      ∧ (claimToWaiting blocking s).temps = s.temps ∧ (claimToWaiting blocking s).probes = s.probes
      ∧ (claimToWaiting blocking s).corr = s.corr ∧ (claimToWaiting blocking s).points = s.points
      ∧ (claimToWaiting blocking s).port = s.port := by
  unfold claimToWaiting
  dsimp only
  repeat' split
  all_goals simp

@[simp] theorem claimUndelivered_keeps (s : State) :
    (claimUndelivered s).pending = s.pending ∧ (claimUndelivered s).clock = s.clock
      ∧ (claimUndelivered s).station = s.station ∧ (claimUndelivered s).axes = s.axes
      ∧ (claimUndelivered s).motion = s.motion ∧ (claimUndelivered s).peers = s.peers
      ∧ (claimUndelivered s).temps = s.temps ∧ (claimUndelivered s).probes = s.probes
      ∧ (claimUndelivered s).corr = s.corr ∧ (claimUndelivered s).points = s.points
      ∧ (claimUndelivered s).port = s.port := by
  unfold claimUndelivered
  split <;> simp

@[simp] theorem sendClaim_keeps (c : Claim) (s : State) :
    (sendClaim c s).pending = s.pending ∧ (sendClaim c s).clock = s.clock
      ∧ (sendClaim c s).station = s.station ∧ (sendClaim c s).axes = s.axes
      ∧ (sendClaim c s).motion = s.motion ∧ (sendClaim c s).peers = s.peers
      ∧ (sendClaim c s).temps = s.temps ∧ (sendClaim c s).probes = s.probes
      ∧ (sendClaim c s).corr = s.corr ∧ (sendClaim c s).points = s.points
      ∧ (sendClaim c s).port = s.port := by
  unfold sendClaim
  dsimp only
  repeat' split
  all_goals first
    | (simp; done)
    | (rename_i h; simp [offer_keeps_of h])

@[simp] theorem requestCells_keeps (cs : CellSet) (s : State) :
    (requestCells cs s).pending = s.pending ∧ (requestCells cs s).clock = s.clock
      ∧ (requestCells cs s).station = s.station ∧ (requestCells cs s).axes = s.axes
      ∧ (requestCells cs s).motion = s.motion ∧ (requestCells cs s).peers = s.peers
      ∧ (requestCells cs s).temps = s.temps ∧ (requestCells cs s).probes = s.probes
      ∧ (requestCells cs s).corr = s.corr ∧ (requestCells cs s).points = s.points
      ∧ (requestCells cs s).port = s.port := by
  unfold requestCells
  repeat' split
  all_goals simp

@[simp] theorem retryCheck_keeps (s : State) :
    (retryCheck s).pending = s.pending ∧ (retryCheck s).clock = s.clock
      ∧ (retryCheck s).station = s.station ∧ (retryCheck s).axes = s.axes
      ∧ (retryCheck s).motion = s.motion ∧ (retryCheck s).peers = s.peers
      ∧ (retryCheck s).temps = s.temps ∧ (retryCheck s).probes = s.probes
      ∧ (retryCheck s).corr = s.corr ∧ (retryCheck s).points = s.points
      ∧ (retryCheck s).port = s.port := by
  unfold retryCheck
  repeat' split
  all_goals simp

@[simp] theorem takeUpHeldBack_keeps (before : CellSet) (s : State) :
    (takeUpHeldBack before s).pending = s.pending ∧ (takeUpHeldBack before s).clock = s.clock
      ∧ (takeUpHeldBack before s).station = s.station ∧ (takeUpHeldBack before s).axes = s.axes
      ∧ (takeUpHeldBack before s).motion = s.motion ∧ (takeUpHeldBack before s).peers = s.peers
      ∧ (takeUpHeldBack before s).temps = s.temps ∧ (takeUpHeldBack before s).probes = s.probes
      ∧ (takeUpHeldBack before s).corr = s.corr ∧ (takeUpHeldBack before s).points = s.points
      ∧ (takeUpHeldBack before s).port = s.port := by
  unfold takeUpHeldBack
  repeat' split
  all_goals simp

@[simp] theorem deferralsEnded_keeps (before : CellSet) (s : State) :
    (deferralsEnded before s).pending = s.pending ∧ (deferralsEnded before s).clock = s.clock
      ∧ (deferralsEnded before s).station = s.station ∧ (deferralsEnded before s).axes = s.axes
      ∧ (deferralsEnded before s).motion = s.motion ∧ (deferralsEnded before s).peers = s.peers
      ∧ (deferralsEnded before s).temps = s.temps ∧ (deferralsEnded before s).probes = s.probes
      ∧ (deferralsEnded before s).corr = s.corr ∧ (deferralsEnded before s).points = s.points
      ∧ (deferralsEnded before s).port = s.port := by
  unfold deferralsEnded
  dsimp only
  repeat' split
  all_goals simp

@[simp] theorem withdrawClaim_keeps (s : State) :
    (withdrawClaim s).pending = s.pending ∧ (withdrawClaim s).clock = s.clock
      ∧ (withdrawClaim s).station = s.station ∧ (withdrawClaim s).axes = s.axes
      ∧ (withdrawClaim s).motion = s.motion ∧ (withdrawClaim s).temps = s.temps
      ∧ (withdrawClaim s).probes = s.probes ∧ (withdrawClaim s).corr = s.corr
      ∧ (withdrawClaim s).points = s.points ∧ (withdrawClaim s).port = s.port := by
  simp [withdrawClaim]

@[simp] theorem currentChanged_keeps (s : State) :
    (currentChanged s).pending = s.pending ∧ (currentChanged s).clock = s.clock
      ∧ (currentChanged s).station = s.station ∧ (currentChanged s).axes = s.axes
      ∧ (currentChanged s).motion = s.motion ∧ (currentChanged s).temps = s.temps
      ∧ (currentChanged s).probes = s.probes ∧ (currentChanged s).corr = s.corr
      ∧ (currentChanged s).points = s.points ∧ (currentChanged s).port = s.port := by
  unfold currentChanged
  dsimp only
  repeat' split
  all_goals simp

@[simp] theorem handOver_keeps (keep : CellSet) (s : State) :
    (handOver keep s).pending = s.pending ∧ (handOver keep s).clock = s.clock
      ∧ (handOver keep s).station = s.station ∧ (handOver keep s).axes = s.axes
      ∧ (handOver keep s).motion = s.motion ∧ (handOver keep s).peers = s.peers
      ∧ (handOver keep s).temps = s.temps ∧ (handOver keep s).probes = s.probes
      ∧ (handOver keep s).corr = s.corr ∧ (handOver keep s).points = s.points
      ∧ (handOver keep s).port = s.port := by
  unfold handOver
  dsimp only
  repeat' split
  all_goals simp

@[simp] theorem forgetHolders_keeps (s : State) :
    (forgetHolders s).pending = s.pending ∧ (forgetHolders s).clock = s.clock
      ∧ (forgetHolders s).station = s.station ∧ (forgetHolders s).axes = s.axes
      ∧ (forgetHolders s).motion = s.motion ∧ (forgetHolders s).link = s.link
      ∧ (forgetHolders s).peers = s.peers ∧ (forgetHolders s).temps = s.temps
      ∧ (forgetHolders s).probes = s.probes ∧ (forgetHolders s).corr = s.corr
      ∧ (forgetHolders s).points = s.points ∧ (forgetHolders s).port = s.port
      ∧ (forgetHolders s).events = s.events := by
  simp [forgetHolders]

@[simp] theorem claimingToWaiting_keeps (s : State) :
    (claimingToWaiting s).pending = s.pending ∧ (claimingToWaiting s).clock = s.clock
      ∧ (claimingToWaiting s).station = s.station ∧ (claimingToWaiting s).axes = s.axes
      ∧ (claimingToWaiting s).motion = s.motion ∧ (claimingToWaiting s).peers = s.peers
      ∧ (claimingToWaiting s).temps = s.temps ∧ (claimingToWaiting s).probes = s.probes
      ∧ (claimingToWaiting s).corr = s.corr ∧ (claimingToWaiting s).points = s.points
      ∧ (claimingToWaiting s).port = s.port := by
  unfold claimingToWaiting
  repeat' split
  all_goals simp

@[simp] theorem enterDeaf_keeps (r : LinkReason) (k : Option FrameKind) (s : State) :
    (enterDeaf r k s).pending = s.pending ∧ (enterDeaf r k s).clock = s.clock
      ∧ (enterDeaf r k s).station = s.station ∧ (enterDeaf r k s).temps = s.temps
      ∧ (enterDeaf r k s).corr = s.corr ∧ (enterDeaf r k s).points = s.points
      ∧ (enterDeaf r k s).port = s.port := by
  unfold enterDeaf
  refine ⟨?_, ?_, ?_, ?_, ?_, ?_, ?_⟩ <;>
    (simp; try (refine (foldl_keeps (fun u : State => _) _ (fun t x => ?_) _ _).trans ?_ <;> simp))

@[simp] theorem ownerTold_keeps (f : TxFrame) (s : State) :
    (ownerTold f s).pending = s.pending ∧ (ownerTold f s).clock = s.clock
      ∧ (ownerTold f s).station = s.station ∧ (ownerTold f s).temps = s.temps
      ∧ (ownerTold f s).corr = s.corr ∧ (ownerTold f s).points = s.points
      ∧ (ownerTold f s).port = s.port := by
  unfold ownerTold
  repeat' split
  all_goals simp

@[simp] theorem attemptSpoiled_keeps (s : State) :
    (attemptSpoiled s).pending = s.pending ∧ (attemptSpoiled s).clock = s.clock
      ∧ (attemptSpoiled s).station = s.station ∧ (attemptSpoiled s).temps = s.temps
      ∧ (attemptSpoiled s).corr = s.corr ∧ (attemptSpoiled s).points = s.points
      ∧ (attemptSpoiled s).port = s.port := by
  unfold attemptSpoiled
  repeat' split
  all_goals simp

@[simp] theorem countError_keeps (s : State) :
    (countError s).pending = s.pending ∧ (countError s).clock = s.clock
      ∧ (countError s).station = s.station ∧ (countError s).temps = s.temps
      ∧ (countError s).corr = s.corr ∧ (countError s).points = s.points
      ∧ (countError s).port = s.port := by
  unfold countError
  dsimp only
  repeat' split
  all_goals simp

/-! ## Machine/Current.lean -/

@[simp] theorem updateHold_keeps (before : Nat) (s : State) :
    (updateHold before s).pending = s.pending ∧ (updateHold before s).clock = s.clock
      ∧ (updateHold before s).station = s.station ∧ (updateHold before s).axes = s.axes
      ∧ (updateHold before s).motion = s.motion ∧ (updateHold before s).zone = s.zone
      ∧ (updateHold before s).link = s.link ∧ (updateHold before s).peers = s.peers
      ∧ (updateHold before s).temps = s.temps ∧ (updateHold before s).probes = s.probes
      ∧ (updateHold before s).corr = s.corr ∧ (updateHold before s).port = s.port := by
  unfold updateHold
  dsimp only
  repeat' split
  all_goals simp

@[simp] theorem takeWork_keeps (s : State) :
    (takeWork s).pending = s.pending ∧ (takeWork s).clock = s.clock
      ∧ (takeWork s).station = s.station ∧ (takeWork s).axes = s.axes
      ∧ (takeWork s).motion = s.motion ∧ (takeWork s).zone = s.zone ∧ (takeWork s).link = s.link
      ∧ (takeWork s).peers = s.peers ∧ (takeWork s).temps = s.temps ∧ (takeWork s).points = s.points
      ∧ (takeWork s).port = s.port ∧ (takeWork s).events = s.events := by
  unfold takeWork
  repeat' split
  all_goals simp

@[simp] theorem enterSettlingAt_keeps (n : Nat) (g : Segment) (s : State) :
    (enterSettlingAt n g s).pending = s.pending ∧ (enterSettlingAt n g s).clock = s.clock
      ∧ (enterSettlingAt n g s).station = s.station ∧ (enterSettlingAt n g s).axes = s.axes
      ∧ (enterSettlingAt n g s).zone = s.zone ∧ (enterSettlingAt n g s).link = s.link
      ∧ (enterSettlingAt n g s).peers = s.peers ∧ (enterSettlingAt n g s).temps = s.temps
      ∧ (enterSettlingAt n g s).corr = s.corr ∧ (enterSettlingAt n g s).points = s.points
      ∧ (enterSettlingAt n g s).port = s.port ∧ (enterSettlingAt n g s).events = s.events := by
  simp [enterSettlingAt]

@[simp] theorem enterSettling_keeps (g : Segment) (s : State) :
    (enterSettling g s).pending = s.pending ∧ (enterSettling g s).clock = s.clock
      ∧ (enterSettling g s).station = s.station ∧ (enterSettling g s).axes = s.axes
      ∧ (enterSettling g s).zone = s.zone ∧ (enterSettling g s).link = s.link
      ∧ (enterSettling g s).peers = s.peers ∧ (enterSettling g s).temps = s.temps
      ∧ (enterSettling g s).corr = s.corr ∧ (enterSettling g s).points = s.points
      ∧ (enterSettling g s).port = s.port ∧ (enterSettling g s).events = s.events := by
  simp [enterSettling]

@[simp] theorem startSegment_keeps (g : Segment) (s : State) :
    (startSegment g s).pending = s.pending ∧ (startSegment g s).clock = s.clock
      ∧ (startSegment g s).station = s.station ∧ (startSegment g s).zone = s.zone
      ∧ (startSegment g s).link = s.link ∧ (startSegment g s).peers = s.peers
      ∧ (startSegment g s).temps = s.temps ∧ (startSegment g s).corr = s.corr
      ∧ (startSegment g s).points = s.points ∧ (startSegment g s).port = s.port
      ∧ (startSegment g s).events = s.events := by
  unfold startSegment
  repeat' split
  all_goals simp

@[simp] theorem refuseNoProbe_keeps (g : Segment) (s : State) :
    (refuseNoProbe g s).pending = s.pending ∧ (refuseNoProbe g s).clock = s.clock
      ∧ (refuseNoProbe g s).station = s.station ∧ (refuseNoProbe g s).axes = s.axes
      ∧ (refuseNoProbe g s).zone = s.zone ∧ (refuseNoProbe g s).link = s.link
      ∧ (refuseNoProbe g s).peers = s.peers ∧ (refuseNoProbe g s).temps = s.temps
      ∧ (refuseNoProbe g s).probes = s.probes ∧ (refuseNoProbe g s).corr = s.corr
      ∧ (refuseNoProbe g s).points = s.points ∧ (refuseNoProbe g s).port = s.port := by
  simp [refuseNoProbe]

@[simp] theorem weigh_keeps (s : State) :
    (weigh s).pending = s.pending ∧ (weigh s).clock = s.clock ∧ (weigh s).station = s.station
      ∧ (weigh s).zone = s.zone ∧ (weigh s).link = s.link ∧ (weigh s).peers = s.peers
      ∧ (weigh s).temps = s.temps ∧ (weigh s).corr = s.corr ∧ (weigh s).points = s.points
      ∧ (weigh s).port = s.port := by
  unfold weigh
  repeat' split
  all_goals simp

@[simp] theorem holdChanged_keeps (before : Nat) (s : State) :
    (holdChanged before s).pending = s.pending ∧ (holdChanged before s).clock = s.clock
      ∧ (holdChanged before s).station = s.station ∧ (holdChanged before s).zone = s.zone
      ∧ (holdChanged before s).link = s.link ∧ (holdChanged before s).peers = s.peers
      ∧ (holdChanged before s).temps = s.temps ∧ (holdChanged before s).corr = s.corr
      ∧ (holdChanged before s).port = s.port := by
  unfold holdChanged
  dsimp only
  repeat' split
  all_goals simp

@[simp] theorem handOverIfEmpty_keeps (s : State) :
    (handOverIfEmpty s).pending = s.pending ∧ (handOverIfEmpty s).clock = s.clock
      ∧ (handOverIfEmpty s).station = s.station ∧ (handOverIfEmpty s).axes = s.axes
      ∧ (handOverIfEmpty s).peers = s.peers ∧ (handOverIfEmpty s).temps = s.temps
      ∧ (handOverIfEmpty s).probes = s.probes ∧ (handOverIfEmpty s).corr = s.corr
      ∧ (handOverIfEmpty s).points = s.points ∧ (handOverIfEmpty s).port = s.port := by
  unfold handOverIfEmpty
  repeat' split
  all_goals simp

@[simp] theorem refuseZeroLength_keeps (g : Segment) (s : State) :
    (refuseZeroLength g s).pending = s.pending ∧ (refuseZeroLength g s).clock = s.clock
      ∧ (refuseZeroLength g s).station = s.station ∧ (refuseZeroLength g s).axes = s.axes
      ∧ (refuseZeroLength g s).temps = s.temps ∧ (refuseZeroLength g s).probes = s.probes
      ∧ (refuseZeroLength g s).corr = s.corr ∧ (refuseZeroLength g s).points = s.points
      ∧ (refuseZeroLength g s).port = s.port := by
  simp [refuseZeroLength]

@[simp] theorem fixGeometry_keeps (g : Segment) (s : State) :
    (fixGeometry g s).pending = s.pending ∧ (fixGeometry g s).clock = s.clock
      ∧ (fixGeometry g s).station = s.station ∧ (fixGeometry g s).temps = s.temps
      ∧ (fixGeometry g s).corr = s.corr ∧ (fixGeometry g s).points = s.points
      ∧ (fixGeometry g s).port = s.port := by
  unfold fixGeometry
  dsimp only
  repeat' split
  all_goals simp

@[simp] theorem becomeCurrent_keeps (s : State) :
    (becomeCurrent s).pending = s.pending ∧ (becomeCurrent s).clock = s.clock
      ∧ (becomeCurrent s).station = s.station ∧ (becomeCurrent s).temps = s.temps
      ∧ (becomeCurrent s).corr = s.corr ∧ (becomeCurrent s).points = s.points
      ∧ (becomeCurrent s).port = s.port := by
  unfold becomeCurrent
  repeat' split
  all_goals simp

@[simp] theorem dropOrphan_keeps (s : State) :
    (dropOrphan s).pending = s.pending ∧ (dropOrphan s).clock = s.clock
      ∧ (dropOrphan s).station = s.station ∧ (dropOrphan s).axes = s.axes
      ∧ (dropOrphan s).motion = s.motion ∧ (dropOrphan s).temps = s.temps
      ∧ (dropOrphan s).probes = s.probes ∧ (dropOrphan s).corr = s.corr
      ∧ (dropOrphan s).points = s.points ∧ (dropOrphan s).port = s.port := by
  unfold dropOrphan
  repeat' split
  all_goals simp

@[simp] theorem followHandOver_keeps (s : State) :
    (followHandOver s).pending = s.pending ∧ (followHandOver s).clock = s.clock
      ∧ (followHandOver s).station = s.station ∧ (followHandOver s).axes = s.axes
      ∧ (followHandOver s).peers = s.peers ∧ (followHandOver s).temps = s.temps
      ∧ (followHandOver s).probes = s.probes ∧ (followHandOver s).corr = s.corr
      ∧ (followHandOver s).points = s.points ∧ (followHandOver s).port = s.port := by
  unfold followHandOver
  split <;> simp

@[simp] theorem followCurrent_keeps (s : State) :
    (followCurrent s).pending = s.pending ∧ (followCurrent s).clock = s.clock
      ∧ (followCurrent s).station = s.station ∧ (followCurrent s).temps = s.temps
      ∧ (followCurrent s).corr = s.corr ∧ (followCurrent s).points = s.points
      ∧ (followCurrent s).port = s.port := by
  unfold followCurrent
  split <;> simp

@[simp] theorem followClaim_keeps (s : State) :
    (followClaim s).pending = s.pending ∧ (followClaim s).clock = s.clock
      ∧ (followClaim s).station = s.station ∧ (followClaim s).temps = s.temps
      ∧ (followClaim s).corr = s.corr ∧ (followClaim s).points = s.points
      ∧ (followClaim s).port = s.port := by
  simp [followClaim]

@[simp] theorem afterClaim_keeps (s : State) :
    (afterClaim s).pending = s.pending ∧ (afterClaim s).clock = s.clock
      ∧ (afterClaim s).station = s.station ∧ (afterClaim s).temps = s.temps
      ∧ (afterClaim s).corr = s.corr ∧ (afterClaim s).points = s.points
      ∧ (afterClaim s).port = s.port := by
  simp [afterClaim]

@[simp] theorem handInternal_keeps (kind : SegKind) (target : V3 Int) (s : State) :
    (handInternal kind target s).pending = s.pending ∧ (handInternal kind target s).clock = s.clock
      ∧ (handInternal kind target s).station = s.station
      ∧ (handInternal kind target s).temps = s.temps ∧ (handInternal kind target s).corr = s.corr
      ∧ (handInternal kind target s).points = s.points ∧ (handInternal kind target s).port = s.port := by
  simp [handInternal]

@[simp] theorem State.setChange_keeps (s : State) (c : Option Change) :
    (State.setChange s c).pending = s.pending ∧ (State.setChange s c).clock = s.clock
      ∧ (State.setChange s c).station = s.station ∧ (State.setChange s c).axes = s.axes
      ∧ (State.setChange s c).motion = s.motion ∧ (State.setChange s c).zone = s.zone
      ∧ (State.setChange s c).link = s.link ∧ (State.setChange s c).peers = s.peers
      ∧ (State.setChange s c).temps = s.temps ∧ (State.setChange s c).corr = s.corr
      ∧ (State.setChange s c).points = s.points ∧ (State.setChange s c).port = s.port
      ∧ (State.setChange s c).events = s.events := by
  simp [State.setChange]

@[simp] theorem beginTravel_keeps (ph : Phase) (ch : Change) (s : State) :
    (beginTravel ph ch s).pending = s.pending ∧ (beginTravel ph ch s).clock = s.clock
      ∧ (beginTravel ph ch s).station = s.station ∧ (beginTravel ph ch s).temps = s.temps
      ∧ (beginTravel ph ch s).corr = s.corr ∧ (beginTravel ph ch s).points = s.points
      ∧ (beginTravel ph ch s).port = s.port := by
  simp [beginTravel]

@[simp] theorem beginLeaving_keeps (ph : Phase) (ch : Change) (s : State) :
    (beginLeaving ph ch s).pending = s.pending ∧ (beginLeaving ph ch s).clock = s.clock
      ∧ (beginLeaving ph ch s).station = s.station ∧ (beginLeaving ph ch s).temps = s.temps
      ∧ (beginLeaving ph ch s).corr = s.corr ∧ (beginLeaving ph ch s).points = s.points
      ∧ (beginLeaving ph ch s).port = s.port := by
  simp [beginLeaving]

@[simp] theorem beginDropping_keeps (ch : Change) (s : State) :
    (beginDropping ch s).pending = s.pending ∧ (beginDropping ch s).clock = s.clock
      ∧ (beginDropping ch s).station = s.station ∧ (beginDropping ch s).axes = s.axes
      ∧ (beginDropping ch s).motion = s.motion ∧ (beginDropping ch s).zone = s.zone
      ∧ (beginDropping ch s).link = s.link ∧ (beginDropping ch s).peers = s.peers
      ∧ (beginDropping ch s).temps = s.temps ∧ (beginDropping ch s).corr = s.corr
      ∧ (beginDropping ch s).points = s.points ∧ (beginDropping ch s).port = s.port
      ∧ (beginDropping ch s).events = s.events := by
  simp [beginDropping]

@[simp] theorem beginPicking_keeps (ch : Change) (s : State) :
    (beginPicking ch s).pending = s.pending ∧ (beginPicking ch s).clock = s.clock
      ∧ (beginPicking ch s).station = s.station ∧ (beginPicking ch s).axes = s.axes
      ∧ (beginPicking ch s).motion = s.motion ∧ (beginPicking ch s).zone = s.zone
      ∧ (beginPicking ch s).link = s.link ∧ (beginPicking ch s).peers = s.peers
      ∧ (beginPicking ch s).temps = s.temps ∧ (beginPicking ch s).corr = s.corr
      ∧ (beginPicking ch s).points = s.points ∧ (beginPicking ch s).port = s.port
      ∧ (beginPicking ch s).events = s.events := by
  simp [beginPicking]

@[simp] theorem endChange_keeps (ch : Change) (s : State) :
    (endChange ch s).pending = s.pending ∧ (endChange ch s).clock = s.clock
      ∧ (endChange ch s).station = s.station ∧ (endChange ch s).temps = s.temps
      ∧ (endChange ch s).corr = s.corr ∧ (endChange ch s).points = s.points
      ∧ (endChange ch s).port = s.port := by
  unfold endChange
  split <;> simp

/-! ## Machine/Operands.lean -/

@[simp] theorem answerPart_keeps (part : Nat) (content : List Byte) (s : State) :
    (answerPart part content s).pending = s.pending ∧ (answerPart part content s).clock = s.clock
      ∧ (answerPart part content s).station = s.station ∧ (answerPart part content s).axes = s.axes
      ∧ (answerPart part content s).motion = s.motion ∧ (answerPart part content s).zone = s.zone
      ∧ (answerPart part content s).link = s.link ∧ (answerPart part content s).peers = s.peers
      ∧ (answerPart part content s).temps = s.temps ∧ (answerPart part content s).probes = s.probes
      ∧ (answerPart part content s).corr = s.corr ∧ (answerPart part content s).points = s.points
      ∧ (answerPart part content s).events = s.events := by
  unfold answerPart
  split <;> simp

/-! ## Machine/Temperature.lean -/

@[simp] theorem takeSamples_keeps (v : Conversions) (s : State) :
    (takeSamples v s).pending = s.pending ∧ (takeSamples v s).clock = s.clock
      ∧ (takeSamples v s).station = s.station ∧ (takeSamples v s).axes = s.axes
      ∧ (takeSamples v s).motion = s.motion ∧ (takeSamples v s).zone = s.zone
      ∧ (takeSamples v s).link = s.link ∧ (takeSamples v s).peers = s.peers
      ∧ (takeSamples v s).probes = s.probes ∧ (takeSamples v s).corr = s.corr
      ∧ (takeSamples v s).points = s.points ∧ (takeSamples v s).port = s.port
      ∧ (takeSamples v s).events = s.events := by
  simp [takeSamples]

@[simp] theorem raiseFailures_keeps (before : Vec 8 Channel) (order : List Chan) (s : State) :
    (raiseFailures before order s).pending = s.pending
      ∧ (raiseFailures before order s).clock = s.clock
      ∧ (raiseFailures before order s).station = s.station
      ∧ (raiseFailures before order s).axes = s.axes
      ∧ (raiseFailures before order s).motion = s.motion
      ∧ (raiseFailures before order s).zone = s.zone ∧ (raiseFailures before order s).link = s.link
      ∧ (raiseFailures before order s).peers = s.peers
      ∧ (raiseFailures before order s).temps = s.temps
      ∧ (raiseFailures before order s).probes = s.probes
      ∧ (raiseFailures before order s).corr = s.corr
      ∧ (raiseFailures before order s).points = s.points
      ∧ (raiseFailures before order s).port = s.port := by
  unfold raiseFailures
  refine ⟨?_, ?_, ?_, ?_, ?_, ?_, ?_, ?_, ?_, ?_, ?_, ?_, ?_⟩ <;>
    (refine foldl_keeps (fun u : State => _) _ (fun t x => ?_) _ _; (repeat' split) <;> simp)

@[simp] theorem evaluate_keeps (s : State) :
    (evaluate s).pending = s.pending ∧ (evaluate s).clock = s.clock
      ∧ (evaluate s).station = s.station ∧ (evaluate s).axes = s.axes
      ∧ (evaluate s).motion = s.motion ∧ (evaluate s).zone = s.zone ∧ (evaluate s).link = s.link
      ∧ (evaluate s).peers = s.peers ∧ (evaluate s).probes = s.probes ∧ (evaluate s).corr = s.corr
      ∧ (evaluate s).points = s.points ∧ (evaluate s).port = s.port ∧ (evaluate s).events = s.events := by
  simp [evaluate]

@[simp] theorem sampleChannels_keeps (v : Conversions) (order : List Chan) (s : State) :
    (sampleChannels v order s).pending = s.pending ∧ (sampleChannels v order s).clock = s.clock
      ∧ (sampleChannels v order s).station = s.station ∧ (sampleChannels v order s).axes = s.axes
      ∧ (sampleChannels v order s).motion = s.motion ∧ (sampleChannels v order s).zone = s.zone
      ∧ (sampleChannels v order s).link = s.link ∧ (sampleChannels v order s).peers = s.peers
      ∧ (sampleChannels v order s).probes = s.probes ∧ (sampleChannels v order s).corr = s.corr
      ∧ (sampleChannels v order s).points = s.points ∧ (sampleChannels v order s).port = s.port := by
  simp [sampleChannels]

/-! ## Machine/StartUp.lean -/

@[simp] theorem dropAssembly_keeps (s : State) :
    (dropAssembly s).pending = s.pending ∧ (dropAssembly s).clock = s.clock
      ∧ (dropAssembly s).axes = s.axes ∧ (dropAssembly s).motion = s.motion
      ∧ (dropAssembly s).zone = s.zone ∧ (dropAssembly s).link = s.link
      ∧ (dropAssembly s).peers = s.peers ∧ (dropAssembly s).temps = s.temps
      ∧ (dropAssembly s).probes = s.probes ∧ (dropAssembly s).corr = s.corr
      ∧ (dropAssembly s).points = s.points ∧ (dropAssembly s).port = s.port
      ∧ (dropAssembly s).events = s.events := by
  simp [dropAssembly]

@[simp] theorem answerNumbered_keeps (code : Code) (data : List Byte) (s : State) :
    (answerNumbered code data s).pending = s.pending ∧ (answerNumbered code data s).clock = s.clock
      ∧ (answerNumbered code data s).station = s.station
      ∧ (answerNumbered code data s).axes = s.axes ∧ (answerNumbered code data s).motion = s.motion
      ∧ (answerNumbered code data s).zone = s.zone ∧ (answerNumbered code data s).link = s.link
      ∧ (answerNumbered code data s).peers = s.peers ∧ (answerNumbered code data s).temps = s.temps
      ∧ (answerNumbered code data s).probes = s.probes ∧ (answerNumbered code data s).corr = s.corr
      ∧ (answerNumbered code data s).points = s.points
      ∧ (answerNumbered code data s).events = s.events := by
  simp [answerNumbered]

@[simp] theorem addPart_keeps (content : List Byte) (next : Nat) (s : State) :
    (addPart content next s).pending = s.pending ∧ (addPart content next s).clock = s.clock
      ∧ (addPart content next s).axes = s.axes ∧ (addPart content next s).motion = s.motion
      ∧ (addPart content next s).zone = s.zone ∧ (addPart content next s).link = s.link
      ∧ (addPart content next s).peers = s.peers ∧ (addPart content next s).temps = s.temps
      ∧ (addPart content next s).probes = s.probes ∧ (addPart content next s).corr = s.corr
      ∧ (addPart content next s).points = s.points ∧ (addPart content next s).events = s.events := by
  simp [addPart]

@[simp] theorem acceptBlock_keeps (b : List Byte) (s : State) :
    (acceptBlock b s).pending = s.pending ∧ (acceptBlock b s).clock = s.clock
      ∧ (acceptBlock b s).axes = s.axes ∧ (acceptBlock b s).motion = s.motion
      ∧ (acceptBlock b s).zone = s.zone ∧ (acceptBlock b s).link = s.link
      ∧ (acceptBlock b s).peers = s.peers ∧ (acceptBlock b s).probes = s.probes
      ∧ (acceptBlock b s).corr = s.corr ∧ (acceptBlock b s).points = s.points
      ∧ (acceptBlock b s).events = s.events := by
  simp [acceptBlock]

@[simp] theorem checkBlock_keeps (b : List Byte) (s : State) :
    (checkBlock b s).pending = s.pending ∧ (checkBlock b s).clock = s.clock
      ∧ (checkBlock b s).axes = s.axes ∧ (checkBlock b s).motion = s.motion
      ∧ (checkBlock b s).zone = s.zone ∧ (checkBlock b s).link = s.link
      ∧ (checkBlock b s).peers = s.peers ∧ (checkBlock b s).probes = s.probes
      ∧ (checkBlock b s).corr = s.corr ∧ (checkBlock b s).points = s.points
      ∧ (checkBlock b s).events = s.events := by
  unfold checkBlock
  repeat' split
  all_goals simp

@[simp] theorem takePart_keeps (data : List Byte) (s : State) :
    (takePart data s).pending = s.pending ∧ (takePart data s).clock = s.clock
      ∧ (takePart data s).axes = s.axes ∧ (takePart data s).motion = s.motion
      ∧ (takePart data s).zone = s.zone ∧ (takePart data s).link = s.link
      ∧ (takePart data s).peers = s.peers ∧ (takePart data s).probes = s.probes
      ∧ (takePart data s).corr = s.corr ∧ (takePart data s).points = s.points
      ∧ (takePart data s).events = s.events := by
  unfold takePart
  dsimp only
  repeat' split
  all_goals simp

@[simp] theorem startUp_keeps (s : State) :
    (startUp s).pending = s.pending ∧ (startUp s).clock = s.clock ∧ (startUp s).temps = s.temps
      ∧ (startUp s).corr = s.corr ∧ (startUp s).points = s.points := by
  simp [startUp]

/-! ## Machine/Axes.lean -/

@[simp] theorem removeUnstarted_keeps (s : State) :
    (removeUnstarted s).pending = s.pending ∧ (removeUnstarted s).clock = s.clock
      ∧ (removeUnstarted s).station = s.station ∧ (removeUnstarted s).axes = s.axes
      ∧ (removeUnstarted s).temps = s.temps ∧ (removeUnstarted s).probes = s.probes
      ∧ (removeUnstarted s).corr = s.corr ∧ (removeUnstarted s).points = s.points
      ∧ (removeUnstarted s).port = s.port := by
  unfold removeUnstarted
  split <;> simp

@[simp] theorem beginReference_keeps (a : Axis) (s : State) :
    (beginReference a s).pending = s.pending ∧ (beginReference a s).clock = s.clock
      ∧ (beginReference a s).station = s.station ∧ (beginReference a s).zone = s.zone
      ∧ (beginReference a s).link = s.link ∧ (beginReference a s).peers = s.peers
      ∧ (beginReference a s).temps = s.temps ∧ (beginReference a s).probes = s.probes
      ∧ (beginReference a s).corr = s.corr ∧ (beginReference a s).points = s.points
      ∧ (beginReference a s).port = s.port ∧ (beginReference a s).events = s.events := by
  simp [beginReference]

@[simp] theorem leaveReference_keeps (r : RefRun) (referenced : Bool) (m : MotionState) (s : State) :
    (leaveReference r referenced m s).pending = s.pending
      ∧ (leaveReference r referenced m s).clock = s.clock
      ∧ (leaveReference r referenced m s).station = s.station
      ∧ (leaveReference r referenced m s).zone = s.zone
      ∧ (leaveReference r referenced m s).link = s.link
      ∧ (leaveReference r referenced m s).peers = s.peers
      ∧ (leaveReference r referenced m s).temps = s.temps
      ∧ (leaveReference r referenced m s).probes = s.probes
      ∧ (leaveReference r referenced m s).corr = s.corr
      ∧ (leaveReference r referenced m s).points = s.points
      ∧ (leaveReference r referenced m s).port = s.port
      ∧ (leaveReference r referenced m s).events = s.events := by
  simp [leaveReference]

/-! ## Machine/Changes.lean -/

@[simp] theorem endDeceleration_keeps (s : State) :
    (endDeceleration s).pending = s.pending ∧ (endDeceleration s).clock = s.clock
      ∧ (endDeceleration s).station = s.station ∧ (endDeceleration s).temps = s.temps
      ∧ (endDeceleration s).corr = s.corr ∧ (endDeceleration s).points = s.points
      ∧ (endDeceleration s).port = s.port := by
  unfold endDeceleration
  repeat' split
  all_goals simp

@[simp] theorem decelerate_keeps (g : Segment) (s : State) :
    (decelerate g s).pending = s.pending ∧ (decelerate g s).clock = s.clock
      ∧ (decelerate g s).station = s.station ∧ (decelerate g s).temps = s.temps
      ∧ (decelerate g s).corr = s.corr ∧ (decelerate g s).points = s.points
      ∧ (decelerate g s).port = s.port := by
  unfold decelerate
  repeat' split
  all_goals simp

@[simp] theorem beginRead_keeps (forChange : Bool) (s : State) :
    (beginRead forChange s).pending = s.pending ∧ (beginRead forChange s).clock = s.clock
      ∧ (beginRead forChange s).station = s.station ∧ (beginRead forChange s).axes = s.axes
      ∧ (beginRead forChange s).motion = s.motion ∧ (beginRead forChange s).zone = s.zone
      ∧ (beginRead forChange s).link = s.link ∧ (beginRead forChange s).peers = s.peers
      ∧ (beginRead forChange s).temps = s.temps ∧ (beginRead forChange s).corr = s.corr
      ∧ (beginRead forChange s).points = s.points ∧ (beginRead forChange s).port = s.port
      ∧ (beginRead forChange s).events = s.events := by
  simp [beginRead]

@[simp] theorem endRead_keeps (result : Option Ident) (s : State) :
    (endRead result s).pending = s.pending ∧ (endRead result s).clock = s.clock
      ∧ (endRead result s).station = s.station ∧ (endRead result s).temps = s.temps
      ∧ (endRead result s).corr = s.corr ∧ (endRead result s).points = s.points
      ∧ (endRead result s).port = s.port := by
  unfold endRead
  dsimp only
  repeat' split
  all_goals simp

@[simp] theorem failAttempt_keeps (s : State) :
    (failAttempt s).pending = s.pending ∧ (failAttempt s).clock = s.clock
      ∧ (failAttempt s).station = s.station ∧ (failAttempt s).temps = s.temps
      ∧ (failAttempt s).corr = s.corr ∧ (failAttempt s).points = s.points
      ∧ (failAttempt s).port = s.port := by
  unfold failAttempt
  repeat' split
  all_goals simp

@[simp] theorem beginChange_keeps (ch : Change) (s : State) :
    (beginChange ch s).pending = s.pending ∧ (beginChange ch s).clock = s.clock
      ∧ (beginChange ch s).station = s.station ∧ (beginChange ch s).temps = s.temps
      ∧ (beginChange ch s).corr = s.corr ∧ (beginChange ch s).points = s.points
      ∧ (beginChange ch s).port = s.port := by
  simp [beginChange]

@[simp] theorem abortTravel_keeps (ch : Change) (s : State) :
    (abortTravel ch s).pending = s.pending ∧ (abortTravel ch s).clock = s.clock
      ∧ (abortTravel ch s).station = s.station ∧ (abortTravel ch s).temps = s.temps
      ∧ (abortTravel ch s).corr = s.corr ∧ (abortTravel ch s).points = s.points
      ∧ (abortTravel ch s).port = s.port := by
  unfold abortTravel
  dsimp only
  repeat' split
  all_goals simp

@[simp] theorem abortChange_keeps (s : State) :
    (abortChange s).1.pending = s.pending ∧ (abortChange s).1.clock = s.clock ∧ (abortChange s).1.station = s.station ∧ (abortChange s).1.temps = s.temps ∧ (abortChange s).1.corr = s.corr ∧ (abortChange s).1.points = s.points ∧ (abortChange s).1.port = s.port := by
  unfold abortChange
  repeat' split
  all_goals simp

@[simp] theorem completeDrop_keeps (ch : Change) (s : State) :
    (completeDrop ch s).pending = s.pending ∧ (completeDrop ch s).clock = s.clock
      ∧ (completeDrop ch s).station = s.station ∧ (completeDrop ch s).temps = s.temps
      ∧ (completeDrop ch s).corr = s.corr ∧ (completeDrop ch s).points = s.points
      ∧ (completeDrop ch s).port = s.port := by
  unfold completeDrop
  split <;> simp

@[simp] theorem completePick_keeps (ch : Change) (s : State) :
    (completePick ch s).pending = s.pending ∧ (completePick ch s).clock = s.clock
      ∧ (completePick ch s).station = s.station ∧ (completePick ch s).axes = s.axes
      ∧ (completePick ch s).motion = s.motion ∧ (completePick ch s).zone = s.zone
      ∧ (completePick ch s).peers = s.peers ∧ (completePick ch s).temps = s.temps
      ∧ (completePick ch s).corr = s.corr ∧ (completePick ch s).points = s.points
      ∧ (completePick ch s).port = s.port := by
  unfold completePick
  split <;> simp

/-! ## Machine/Moves.lean -/

@[simp] theorem appendMove_keeps (g : Segment) (s : State) :
    (appendMove g s).pending = s.pending ∧ (appendMove g s).clock = s.clock
      ∧ (appendMove g s).station = s.station ∧ (appendMove g s).temps = s.temps
      ∧ (appendMove g s).corr = s.corr ∧ (appendMove g s).points = s.points
      ∧ (appendMove g s).port = s.port := by
  unfold appendMove
  split <;> simp

@[simp] theorem stopSegment_keeps (g : Segment) (s : State) :
    (stopSegment g s).pending = s.pending ∧ (stopSegment g s).clock = s.clock
      ∧ (stopSegment g s).station = s.station ∧ (stopSegment g s).temps = s.temps
      ∧ (stopSegment g s).corr = s.corr ∧ (stopSegment g s).points = s.points
      ∧ (stopSegment g s).port = s.port := by
  unfold stopSegment
  split <;> simp

@[simp] theorem stopEffect_keeps (s : State) :
    (stopEffect s).pending = s.pending ∧ (stopEffect s).clock = s.clock
      ∧ (stopEffect s).station = s.station ∧ (stopEffect s).temps = s.temps
      ∧ (stopEffect s).corr = s.corr ∧ (stopEffect s).points = s.points
      ∧ (stopEffect s).port = s.port := by
  unfold stopEffect
  repeat' split
  all_goals simp

@[simp] theorem shedAbortedClaim_keeps (s : State) :
    (shedAbortedClaim s).pending = s.pending ∧ (shedAbortedClaim s).clock = s.clock
      ∧ (shedAbortedClaim s).station = s.station ∧ (shedAbortedClaim s).axes = s.axes
      ∧ (shedAbortedClaim s).motion = s.motion ∧ (shedAbortedClaim s).temps = s.temps
      ∧ (shedAbortedClaim s).probes = s.probes ∧ (shedAbortedClaim s).corr = s.corr
      ∧ (shedAbortedClaim s).points = s.points ∧ (shedAbortedClaim s).port = s.port := by
  unfold shedAbortedClaim
  dsimp only
  repeat' split
  all_goals simp

@[simp] theorem requestNoContact_keeps (g : Segment) (s : State) :
    (requestNoContact g s).pending = s.pending ∧ (requestNoContact g s).clock = s.clock
      ∧ (requestNoContact g s).station = s.station ∧ (requestNoContact g s).zone = s.zone
      ∧ (requestNoContact g s).link = s.link ∧ (requestNoContact g s).peers = s.peers
      ∧ (requestNoContact g s).temps = s.temps ∧ (requestNoContact g s).port = s.port := by
  unfold requestNoContact
  split <;> simp

@[simp] theorem completeHost_keeps (g : Segment) (s : State) :
    (completeHost g s).pending = s.pending ∧ (completeHost g s).clock = s.clock
      ∧ (completeHost g s).station = s.station ∧ (completeHost g s).temps = s.temps
      ∧ (completeHost g s).port = s.port := by
  unfold completeHost
  repeat' split
  all_goals simp

@[simp] theorem continueTravel_keeps (ch : Change) (s : State) :
    (continueTravel ch s).pending = s.pending ∧ (continueTravel ch s).clock = s.clock
      ∧ (continueTravel ch s).station = s.station ∧ (continueTravel ch s).temps = s.temps
      ∧ (continueTravel ch s).corr = s.corr ∧ (continueTravel ch s).points = s.points
      ∧ (continueTravel ch s).port = s.port := by
  simp [continueTravel]

@[simp] theorem endPhase_keeps (ch : Change) (s : State) :
    (endPhase ch s).pending = s.pending ∧ (endPhase ch s).clock = s.clock
      ∧ (endPhase ch s).station = s.station ∧ (endPhase ch s).temps = s.temps
      ∧ (endPhase ch s).corr = s.corr ∧ (endPhase ch s).points = s.points
      ∧ (endPhase ch s).port = s.port := by
  unfold endPhase
  repeat' split
  all_goals simp

@[simp] theorem completeInternal_keeps (g : Segment) (ch : Change) (s : State) :
    (completeInternal g ch s).pending = s.pending ∧ (completeInternal g ch s).clock = s.clock
      ∧ (completeInternal g ch s).station = s.station ∧ (completeInternal g ch s).temps = s.temps
      ∧ (completeInternal g ch s).corr = s.corr ∧ (completeInternal g ch s).points = s.points
      ∧ (completeInternal g ch s).port = s.port := by
  unfold completeInternal
  repeat' split
  all_goals simp

@[simp] theorem latchTouch_keeps (g : Segment) (c : V3 Int) (s : State) :
    (latchTouch g c s).pending = s.pending ∧ (latchTouch g c s).clock = s.clock
      ∧ (latchTouch g c s).station = s.station ∧ (latchTouch g c s).zone = s.zone
      ∧ (latchTouch g c s).link = s.link ∧ (latchTouch g c s).peers = s.peers
      ∧ (latchTouch g c s).temps = s.temps ∧ (latchTouch g c s).port = s.port := by
  unfold latchTouch
  repeat' split
  all_goals simp

/-! ## Machine/Period.lean -/

@[simp] theorem advanceReference_keeps (s : State) :
    (advanceReference s).pending = s.pending ∧ (advanceReference s).clock = s.clock
      ∧ (advanceReference s).station = s.station ∧ (advanceReference s).zone = s.zone
      ∧ (advanceReference s).link = s.link ∧ (advanceReference s).peers = s.peers
      ∧ (advanceReference s).temps = s.temps ∧ (advanceReference s).probes = s.probes
      ∧ (advanceReference s).corr = s.corr ∧ (advanceReference s).points = s.points
      ∧ (advanceReference s).port = s.port ∧ (advanceReference s).events = s.events := by
  unfold advanceReference
  split <;> simp

@[simp] theorem runPeriod_keeps (g : Segment) (s : State) :
    (runPeriod g s).pending = s.pending ∧ (runPeriod g s).clock = s.clock
      ∧ (runPeriod g s).station = s.station ∧ (runPeriod g s).zone = s.zone
      ∧ (runPeriod g s).link = s.link ∧ (runPeriod g s).peers = s.peers
      ∧ (runPeriod g s).temps = s.temps ∧ (runPeriod g s).corr = s.corr
      ∧ (runPeriod g s).points = s.points ∧ (runPeriod g s).port = s.port
      ∧ (runPeriod g s).events = s.events := by
  unfold runPeriod
  dsimp only
  repeat' split
  all_goals simp

@[simp] theorem stopPeriod_keeps (g : Segment) (v : Nat) (s : State) :
    (stopPeriod g v s).pending = s.pending ∧ (stopPeriod g v s).clock = s.clock
      ∧ (stopPeriod g v s).station = s.station ∧ (stopPeriod g v s).zone = s.zone
      ∧ (stopPeriod g v s).link = s.link ∧ (stopPeriod g v s).peers = s.peers
      ∧ (stopPeriod g v s).temps = s.temps ∧ (stopPeriod g v s).probes = s.probes
      ∧ (stopPeriod g v s).corr = s.corr ∧ (stopPeriod g v s).points = s.points
      ∧ (stopPeriod g v s).port = s.port ∧ (stopPeriod g v s).events = s.events := by
  unfold stopPeriod
  dsimp only
  repeat' split
  all_goals simp

@[simp] theorem backOffPeriod_keeps (g : Segment) (s : State) :
    (backOffPeriod g s).pending = s.pending ∧ (backOffPeriod g s).clock = s.clock
      ∧ (backOffPeriod g s).station = s.station ∧ (backOffPeriod g s).zone = s.zone
      ∧ (backOffPeriod g s).link = s.link ∧ (backOffPeriod g s).peers = s.peers
      ∧ (backOffPeriod g s).temps = s.temps ∧ (backOffPeriod g s).corr = s.corr
      ∧ (backOffPeriod g s).points = s.points ∧ (backOffPeriod g s).port = s.port
      ∧ (backOffPeriod g s).events = s.events := by
  unfold backOffPeriod
  dsimp only
  repeat' split
  all_goals simp

@[simp] theorem touchedPeriod_keeps (g : Segment) (s : State) :
    (touchedPeriod g s).pending = s.pending ∧ (touchedPeriod g s).clock = s.clock
      ∧ (touchedPeriod g s).station = s.station ∧ (touchedPeriod g s).zone = s.zone
      ∧ (touchedPeriod g s).link = s.link ∧ (touchedPeriod g s).peers = s.peers
      ∧ (touchedPeriod g s).temps = s.temps ∧ (touchedPeriod g s).corr = s.corr
      ∧ (touchedPeriod g s).points = s.points ∧ (touchedPeriod g s).port = s.port
      ∧ (touchedPeriod g s).events = s.events := by
  unfold touchedPeriod
  repeat' split
  all_goals simp

@[simp] theorem advanceSegment_keeps (s : State) :
    (advanceSegment s).pending = s.pending ∧ (advanceSegment s).clock = s.clock
      ∧ (advanceSegment s).station = s.station ∧ (advanceSegment s).zone = s.zone
      ∧ (advanceSegment s).link = s.link ∧ (advanceSegment s).peers = s.peers
      ∧ (advanceSegment s).temps = s.temps ∧ (advanceSegment s).corr = s.corr
      ∧ (advanceSegment s).points = s.points ∧ (advanceSegment s).port = s.port
      ∧ (advanceSegment s).events = s.events := by
  unfold advanceSegment
  repeat' split
  all_goals simp

@[simp] theorem advance_keeps (s : State) :
    (advance s).pending = s.pending ∧ (advance s).clock = s.clock ∧ (advance s).station = s.station
      ∧ (advance s).zone = s.zone ∧ (advance s).link = s.link ∧ (advance s).peers = s.peers
      ∧ (advance s).temps = s.temps ∧ (advance s).corr = s.corr ∧ (advance s).points = s.points
      ∧ (advance s).port = s.port ∧ (advance s).events = s.events := by
  simp [advance]

@[simp] theorem sampleLevels_keeps (v : Samples) (s : State) :
    (sampleLevels v s).pending = s.pending ∧ (sampleLevels v s).clock = s.clock
      ∧ (sampleLevels v s).station = s.station ∧ (sampleLevels v s).motion = s.motion
      ∧ (sampleLevels v s).zone = s.zone ∧ (sampleLevels v s).link = s.link
      ∧ (sampleLevels v s).peers = s.peers ∧ (sampleLevels v s).temps = s.temps
      ∧ (sampleLevels v s).probes = s.probes ∧ (sampleLevels v s).corr = s.corr
      ∧ (sampleLevels v s).points = s.points ∧ (sampleLevels v s).port = s.port
      ∧ (sampleLevels v s).events = s.events := by
  simp [sampleLevels]

@[simp] theorem enableOff_keeps (a : Axis) (s : State) :
    (enableOff a s).pending = s.pending ∧ (enableOff a s).clock = s.clock
      ∧ (enableOff a s).station = s.station ∧ (enableOff a s).motion = s.motion
      ∧ (enableOff a s).zone = s.zone ∧ (enableOff a s).link = s.link
      ∧ (enableOff a s).peers = s.peers ∧ (enableOff a s).temps = s.temps
      ∧ (enableOff a s).probes = s.probes ∧ (enableOff a s).corr = s.corr
      ∧ (enableOff a s).points = s.points ∧ (enableOff a s).port = s.port
      ∧ (enableOff a s).events = s.events := by
  simp [enableOff]

@[simp] theorem watchLevel_keeps (r : FaultReason) (a : Axis) (bad : Bool) (s : State) :
    (watchLevel r a bad s).pending = s.pending ∧ (watchLevel r a bad s).clock = s.clock
      ∧ (watchLevel r a bad s).station = s.station ∧ (watchLevel r a bad s).link = s.link
      ∧ (watchLevel r a bad s).peers = s.peers ∧ (watchLevel r a bad s).temps = s.temps
      ∧ (watchLevel r a bad s).corr = s.corr ∧ (watchLevel r a bad s).points = s.points
      ∧ (watchLevel r a bad s).port = s.port := by
  unfold watchLevel
  repeat' split
  all_goals simp

@[simp] theorem watchFollowing_keeps (a : Axis) (s : State) :
    (watchFollowing a s).pending = s.pending ∧ (watchFollowing a s).clock = s.clock
      ∧ (watchFollowing a s).station = s.station ∧ (watchFollowing a s).link = s.link
      ∧ (watchFollowing a s).peers = s.peers ∧ (watchFollowing a s).temps = s.temps
      ∧ (watchFollowing a s).corr = s.corr ∧ (watchFollowing a s).points = s.points
      ∧ (watchFollowing a s).port = s.port := by
  unfold watchFollowing
  repeat' split
  all_goals simp

@[simp] theorem noteSeated_keeps (level : Bool) (s : State) :
    (noteSeated level s).pending = s.pending ∧ (noteSeated level s).clock = s.clock
      ∧ (noteSeated level s).station = s.station ∧ (noteSeated level s).axes = s.axes
      ∧ (noteSeated level s).motion = s.motion ∧ (noteSeated level s).zone = s.zone
      ∧ (noteSeated level s).link = s.link ∧ (noteSeated level s).peers = s.peers
      ∧ (noteSeated level s).temps = s.temps ∧ (noteSeated level s).corr = s.corr
      ∧ (noteSeated level s).points = s.points ∧ (noteSeated level s).port = s.port
      ∧ (noteSeated level s).events = s.events := by
  simp [noteSeated]

@[simp] theorem seatedOutside_keeps (level : Bool) (s : State) :
    (seatedOutside level s).pending = s.pending ∧ (seatedOutside level s).clock = s.clock
      ∧ (seatedOutside level s).station = s.station ∧ (seatedOutside level s).link = s.link
      ∧ (seatedOutside level s).peers = s.peers ∧ (seatedOutside level s).temps = s.temps
      ∧ (seatedOutside level s).corr = s.corr ∧ (seatedOutside level s).points = s.points
      ∧ (seatedOutside level s).port = s.port := by
  unfold seatedOutside
  split <;> simp

@[simp] theorem seatedInChange_keeps (ch : Change) (level : Bool) (s : State) :
    (seatedInChange ch level s).pending = s.pending ∧ (seatedInChange ch level s).clock = s.clock
      ∧ (seatedInChange ch level s).station = s.station
      ∧ (seatedInChange ch level s).temps = s.temps ∧ (seatedInChange ch level s).corr = s.corr
      ∧ (seatedInChange ch level s).points = s.points ∧ (seatedInChange ch level s).port = s.port := by
  unfold seatedInChange
  split <;> simp

@[simp] theorem watchSeated_keeps (level : Bool) (s : State) :
    (watchSeated level s).pending = s.pending ∧ (watchSeated level s).clock = s.clock
      ∧ (watchSeated level s).station = s.station ∧ (watchSeated level s).temps = s.temps
      ∧ (watchSeated level s).corr = s.corr ∧ (watchSeated level s).points = s.points
      ∧ (watchSeated level s).port = s.port := by
  unfold watchSeated
  dsimp only
  repeat' split
  all_goals simp

@[simp] theorem watch_keeps (v : Samples) (w : Watch) (s : State) :
    (watch v w s).pending = s.pending ∧ (watch v w s).clock = s.clock
      ∧ (watch v w s).station = s.station ∧ (watch v w s).temps = s.temps
      ∧ (watch v w s).corr = s.corr ∧ (watch v w s).points = s.points ∧ (watch v w s).port = s.port := by
  unfold watch
  split <;> simp

/-! ## Machine/PointQueue.lean -/

@[simp] theorem arrive_keeps (r : RawRecord) (s : State) :
    (arrive r s).pending = s.pending ∧ (arrive r s).clock = s.clock
      ∧ (arrive r s).station = s.station ∧ (arrive r s).axes = s.axes
      ∧ (arrive r s).motion = s.motion ∧ (arrive r s).zone = s.zone ∧ (arrive r s).link = s.link
      ∧ (arrive r s).peers = s.peers ∧ (arrive r s).temps = s.temps ∧ (arrive r s).probes = s.probes
      ∧ (arrive r s).corr = s.corr ∧ (arrive r s).port = s.port := by
  unfold arrive
  split <;> simp

/-! ## Machine/Peers.lean -/

@[simp] theorem State.setPeer_keeps (s : State) (p : Station) (e : Option Peer) :
    (State.setPeer s p e).pending = s.pending ∧ (State.setPeer s p e).clock = s.clock
      ∧ (State.setPeer s p e).station = s.station ∧ (State.setPeer s p e).axes = s.axes
      ∧ (State.setPeer s p e).motion = s.motion ∧ (State.setPeer s p e).zone = s.zone
      ∧ (State.setPeer s p e).link = s.link ∧ (State.setPeer s p e).temps = s.temps
      ∧ (State.setPeer s p e).probes = s.probes ∧ (State.setPeer s p e).corr = s.corr
      ∧ (State.setPeer s p e).points = s.points ∧ (State.setPeer s p e).port = s.port
      ∧ (State.setPeer s p e).events = s.events := by
  simp [State.setPeer]

@[simp] theorem clearLostMarks_keeps (p : Station) (s : State) :
    (clearLostMarks p s).pending = s.pending ∧ (clearLostMarks p s).clock = s.clock
      ∧ (clearLostMarks p s).station = s.station ∧ (clearLostMarks p s).axes = s.axes
      ∧ (clearLostMarks p s).motion = s.motion ∧ (clearLostMarks p s).link = s.link
      ∧ (clearLostMarks p s).peers = s.peers ∧ (clearLostMarks p s).temps = s.temps
      ∧ (clearLostMarks p s).probes = s.probes ∧ (clearLostMarks p s).corr = s.corr
      ∧ (clearLostMarks p s).points = s.points ∧ (clearLostMarks p s).port = s.port
      ∧ (clearLostMarks p s).events = s.events := by
  simp [clearLostMarks]

@[simp] theorem hear_keeps (p : Station) (s : State) :
    (hear p s).pending = s.pending ∧ (hear p s).clock = s.clock ∧ (hear p s).station = s.station
      ∧ (hear p s).axes = s.axes ∧ (hear p s).motion = s.motion ∧ (hear p s).probes = s.probes
      ∧ (hear p s).corr = s.corr ∧ (hear p s).points = s.points ∧ (hear p s).port = s.port
      ∧ (hear p s).events = s.events := by
  unfold hear
  dsimp only
  repeat' split
  all_goals simp

@[simp] theorem dropOwed_keeps (p : Station) (s : State) :
    (dropOwed p s).pending = s.pending ∧ (dropOwed p s).clock = s.clock
      ∧ (dropOwed p s).station = s.station ∧ (dropOwed p s).axes = s.axes
      ∧ (dropOwed p s).motion = s.motion ∧ (dropOwed p s).link = s.link
      ∧ (dropOwed p s).peers = s.peers ∧ (dropOwed p s).temps = s.temps
      ∧ (dropOwed p s).probes = s.probes ∧ (dropOwed p s).corr = s.corr
      ∧ (dropOwed p s).points = s.points ∧ (dropOwed p s).port = s.port
      ∧ (dropOwed p s).events = s.events := by
  simp [dropOwed]

@[simp] theorem dropDeferrals_keeps (p : Station) (s : State) :
    (dropDeferrals p s).pending = s.pending ∧ (dropDeferrals p s).clock = s.clock
      ∧ (dropDeferrals p s).station = s.station ∧ (dropDeferrals p s).axes = s.axes
      ∧ (dropDeferrals p s).motion = s.motion ∧ (dropDeferrals p s).link = s.link
      ∧ (dropDeferrals p s).peers = s.peers ∧ (dropDeferrals p s).temps = s.temps
      ∧ (dropDeferrals p s).probes = s.probes ∧ (dropDeferrals p s).corr = s.corr
      ∧ (dropDeferrals p s).points = s.points ∧ (dropDeferrals p s).port = s.port
      ∧ (dropDeferrals p s).events = s.events := by
  simp [dropDeferrals]

@[simp] theorem dropClaims_keeps (p : Station) (s : State) :
    (dropClaims p s).pending = s.pending ∧ (dropClaims p s).clock = s.clock
      ∧ (dropClaims p s).station = s.station ∧ (dropClaims p s).axes = s.axes
      ∧ (dropClaims p s).motion = s.motion ∧ (dropClaims p s).link = s.link
      ∧ (dropClaims p s).peers = s.peers ∧ (dropClaims p s).temps = s.temps
      ∧ (dropClaims p s).probes = s.probes ∧ (dropClaims p s).corr = s.corr
      ∧ (dropClaims p s).points = s.points ∧ (dropClaims p s).port = s.port
      ∧ (dropClaims p s).events = s.events := by
  simp [dropClaims]

@[simp] theorem markLost_keeps (p : Station) (s : State) :
    (markLost p s).pending = s.pending ∧ (markLost p s).clock = s.clock
      ∧ (markLost p s).station = s.station ∧ (markLost p s).axes = s.axes
      ∧ (markLost p s).motion = s.motion ∧ (markLost p s).link = s.link
      ∧ (markLost p s).peers = s.peers ∧ (markLost p s).temps = s.temps
      ∧ (markLost p s).probes = s.probes ∧ (markLost p s).corr = s.corr
      ∧ (markLost p s).points = s.points ∧ (markLost p s).port = s.port
      ∧ (markLost p s).events = s.events := by
  simp [markLost]

@[simp] theorem freeCellsOf_keeps (p : Station) (s : State) :
    (freeCellsOf p s).pending = s.pending ∧ (freeCellsOf p s).clock = s.clock
      ∧ (freeCellsOf p s).station = s.station ∧ (freeCellsOf p s).axes = s.axes
      ∧ (freeCellsOf p s).motion = s.motion ∧ (freeCellsOf p s).link = s.link
      ∧ (freeCellsOf p s).peers = s.peers ∧ (freeCellsOf p s).temps = s.temps
      ∧ (freeCellsOf p s).probes = s.probes ∧ (freeCellsOf p s).corr = s.corr
      ∧ (freeCellsOf p s).points = s.points ∧ (freeCellsOf p s).port = s.port
      ∧ (freeCellsOf p s).events = s.events := by
  simp [freeCellsOf]

@[simp] theorem peerGone_keeps (p : Station) (s : State) :
    (peerGone p s).pending = s.pending ∧ (peerGone p s).clock = s.clock
      ∧ (peerGone p s).station = s.station ∧ (peerGone p s).temps = s.temps
      ∧ (peerGone p s).corr = s.corr ∧ (peerGone p s).points = s.points
      ∧ (peerGone p s).port = s.port := by
  unfold peerGone
  dsimp only
  split <;> simp

@[simp] theorem takeClaims_keeps (cs : CellSet) (s : State) :
    (takeClaims cs s).pending = s.pending ∧ (takeClaims cs s).clock = s.clock
      ∧ (takeClaims cs s).station = s.station ∧ (takeClaims cs s).axes = s.axes
      ∧ (takeClaims cs s).motion = s.motion ∧ (takeClaims cs s).peers = s.peers
      ∧ (takeClaims cs s).temps = s.temps ∧ (takeClaims cs s).probes = s.probes
      ∧ (takeClaims cs s).corr = s.corr ∧ (takeClaims cs s).points = s.points
      ∧ (takeClaims cs s).port = s.port := by
  unfold takeClaims
  refine ⟨?_, ?_, ?_, ?_, ?_, ?_, ?_, ?_, ?_, ?_, ?_⟩ <;>
    (refine foldl_keeps (fun u : State => _) _ (fun t x => ?_) _ _; (repeat' split) <;> simp)

@[simp] theorem setHolder_keeps (p : Station) (cs : CellSet) (s : State) :
    (setHolder p cs s).pending = s.pending ∧ (setHolder p cs s).clock = s.clock
      ∧ (setHolder p cs s).station = s.station ∧ (setHolder p cs s).axes = s.axes
      ∧ (setHolder p cs s).motion = s.motion ∧ (setHolder p cs s).link = s.link
      ∧ (setHolder p cs s).peers = s.peers ∧ (setHolder p cs s).temps = s.temps
      ∧ (setHolder p cs s).probes = s.probes ∧ (setHolder p cs s).corr = s.corr
      ∧ (setHolder p cs s).points = s.points ∧ (setHolder p cs s).port = s.port
      ∧ (setHolder p cs s).events = s.events := by
  simp [setHolder]

@[simp] theorem endOwings_keeps (p : Station) (waiting : CellSet) (s : State) :
    (endOwings p waiting s).pending = s.pending ∧ (endOwings p waiting s).clock = s.clock
      ∧ (endOwings p waiting s).station = s.station ∧ (endOwings p waiting s).axes = s.axes
      ∧ (endOwings p waiting s).motion = s.motion ∧ (endOwings p waiting s).link = s.link
      ∧ (endOwings p waiting s).peers = s.peers ∧ (endOwings p waiting s).temps = s.temps
      ∧ (endOwings p waiting s).probes = s.probes ∧ (endOwings p waiting s).corr = s.corr
      ∧ (endOwings p waiting s).points = s.points ∧ (endOwings p waiting s).port = s.port
      ∧ (endOwings p waiting s).events = s.events := by
  simp [endOwings]

@[simp] theorem meetConflict_keeps (p : Station) (cs : CellSet) (s : State) :
    (meetConflict p cs s).pending = s.pending ∧ (meetConflict p cs s).clock = s.clock
      ∧ (meetConflict p cs s).station = s.station ∧ (meetConflict p cs s).link = s.link
      ∧ (meetConflict p cs s).peers = s.peers ∧ (meetConflict p cs s).temps = s.temps
      ∧ (meetConflict p cs s).corr = s.corr ∧ (meetConflict p cs s).points = s.points
      ∧ (meetConflict p cs s).port = s.port := by
  unfold meetConflict
  split <;> simp

@[simp] theorem applyReport_keeps (p : Station) (r : Report) (s : State) :
    (applyReport p r s).pending = s.pending ∧ (applyReport p r s).clock = s.clock
      ∧ (applyReport p r s).station = s.station ∧ (applyReport p r s).temps = s.temps
      ∧ (applyReport p r s).corr = s.corr ∧ (applyReport p r s).points = s.points
      ∧ (applyReport p r s).port = s.port := by
  unfold applyReport
  dsimp only
  repeat' split
  all_goals simp

@[simp] theorem recordReport_keeps (p : Station) (r : Report) (s : State) :
    (recordReport p r s).pending = s.pending ∧ (recordReport p r s).clock = s.clock
      ∧ (recordReport p r s).station = s.station ∧ (recordReport p r s).axes = s.axes
      ∧ (recordReport p r s).motion = s.motion ∧ (recordReport p r s).zone = s.zone
      ∧ (recordReport p r s).link = s.link ∧ (recordReport p r s).temps = s.temps
      ∧ (recordReport p r s).probes = s.probes ∧ (recordReport p r s).corr = s.corr
      ∧ (recordReport p r s).points = s.points ∧ (recordReport p r s).port = s.port
      ∧ (recordReport p r s).events = s.events := by
  unfold recordReport
  split <;> simp

/-! ## Machine/ZoneFrames.lean -/

@[simp] theorem claimCells_keeps (p : Station) (n : Byte) (cs : CellSet) (s : State) :
    (claimCells p n cs s).pending = s.pending ∧ (claimCells p n cs s).clock = s.clock
      ∧ (claimCells p n cs s).station = s.station ∧ (claimCells p n cs s).axes = s.axes
      ∧ (claimCells p n cs s).motion = s.motion ∧ (claimCells p n cs s).link = s.link
      ∧ (claimCells p n cs s).peers = s.peers ∧ (claimCells p n cs s).temps = s.temps
      ∧ (claimCells p n cs s).probes = s.probes ∧ (claimCells p n cs s).corr = s.corr
      ∧ (claimCells p n cs s).points = s.points ∧ (claimCells p n cs s).port = s.port
      ∧ (claimCells p n cs s).events = s.events := by
  unfold claimCells
  split <;> simp

@[simp] theorem openWindow_keeps (p : Station) (n : Byte) (s : State) :
    (openWindow p n s).pending = s.pending ∧ (openWindow p n s).clock = s.clock
      ∧ (openWindow p n s).station = s.station ∧ (openWindow p n s).axes = s.axes
      ∧ (openWindow p n s).motion = s.motion ∧ (openWindow p n s).link = s.link
      ∧ (openWindow p n s).peers = s.peers ∧ (openWindow p n s).temps = s.temps
      ∧ (openWindow p n s).probes = s.probes ∧ (openWindow p n s).corr = s.corr
      ∧ (openWindow p n s).points = s.points ∧ (openWindow p n s).port = s.port
      ∧ (openWindow p n s).events = s.events := by
  simp [openWindow]

@[simp] theorem holdReport_keeps (s : State) :
    (holdReport s).pending = s.pending ∧ (holdReport s).clock = s.clock
      ∧ (holdReport s).station = s.station ∧ (holdReport s).axes = s.axes
      ∧ (holdReport s).motion = s.motion ∧ (holdReport s).zone = s.zone
      ∧ (holdReport s).temps = s.temps ∧ (holdReport s).probes = s.probes
      ∧ (holdReport s).corr = s.corr ∧ (holdReport s).points = s.points
      ∧ (holdReport s).port = s.port ∧ (holdReport s).events = s.events := by
  unfold holdReport
  split <;> simp

@[simp] theorem judgeOwnClaim_keeps (n : Byte) (cs : CellSet) (s : State) :
    (judgeOwnClaim n cs s).pending = s.pending ∧ (judgeOwnClaim n cs s).clock = s.clock
      ∧ (judgeOwnClaim n cs s).station = s.station ∧ (judgeOwnClaim n cs s).axes = s.axes
      ∧ (judgeOwnClaim n cs s).motion = s.motion ∧ (judgeOwnClaim n cs s).temps = s.temps
      ∧ (judgeOwnClaim n cs s).probes = s.probes ∧ (judgeOwnClaim n cs s).corr = s.corr
      ∧ (judgeOwnClaim n cs s).points = s.points ∧ (judgeOwnClaim n cs s).port = s.port := by
  unfold judgeOwnClaim
  dsimp only
  repeat' split
  all_goals simp

@[simp] theorem sendObject_keeps (p : Station) (n : Byte) (overlap : CellSet) (s : State) :
    (sendObject p n overlap s).pending = s.pending ∧ (sendObject p n overlap s).clock = s.clock
      ∧ (sendObject p n overlap s).station = s.station ∧ (sendObject p n overlap s).peers = s.peers
      ∧ (sendObject p n overlap s).temps = s.temps ∧ (sendObject p n overlap s).corr = s.corr
      ∧ (sendObject p n overlap s).points = s.points ∧ (sendObject p n overlap s).port = s.port := by
  unfold sendObject
  repeat' split
  all_goals first
    | (simp; done)
    | (rename_i h; simp [offer_keeps_of h])

@[simp] theorem endDeferrals_keeps (p : Station) (cs : CellSet) (s : State) :
    (endDeferrals p cs s).pending = s.pending ∧ (endDeferrals p cs s).clock = s.clock
      ∧ (endDeferrals p cs s).station = s.station ∧ (endDeferrals p cs s).axes = s.axes
      ∧ (endDeferrals p cs s).motion = s.motion ∧ (endDeferrals p cs s).link = s.link
      ∧ (endDeferrals p cs s).peers = s.peers ∧ (endDeferrals p cs s).temps = s.temps
      ∧ (endDeferrals p cs s).probes = s.probes ∧ (endDeferrals p cs s).corr = s.corr
      ∧ (endDeferrals p cs s).points = s.points ∧ (endDeferrals p cs s).port = s.port
      ∧ (endDeferrals p cs s).events = s.events := by
  simp [endDeferrals]

@[simp] theorem judgePeerClaim_keeps (p : Station) (n : Byte) (cs : CellSet) (s : State) :
    (judgePeerClaim p n cs s).pending = s.pending ∧ (judgePeerClaim p n cs s).clock = s.clock
      ∧ (judgePeerClaim p n cs s).station = s.station ∧ (judgePeerClaim p n cs s).peers = s.peers
      ∧ (judgePeerClaim p n cs s).temps = s.temps ∧ (judgePeerClaim p n cs s).corr = s.corr
      ∧ (judgePeerClaim p n cs s).points = s.points ∧ (judgePeerClaim p n cs s).port = s.port := by
  unfold judgePeerClaim
  dsimp only
  repeat' split
  all_goals simp

@[simp] theorem closeWindow_keeps (p : Station) (n : Byte) (s : State) :
    (closeWindow p n s).pending = s.pending ∧ (closeWindow p n s).clock = s.clock
      ∧ (closeWindow p n s).station = s.station ∧ (closeWindow p n s).axes = s.axes
      ∧ (closeWindow p n s).motion = s.motion ∧ (closeWindow p n s).link = s.link
      ∧ (closeWindow p n s).peers = s.peers ∧ (closeWindow p n s).temps = s.temps
      ∧ (closeWindow p n s).probes = s.probes ∧ (closeWindow p n s).corr = s.corr
      ∧ (closeWindow p n s).points = s.points ∧ (closeWindow p n s).port = s.port
      ∧ (closeWindow p n s).events = s.events := by
  simp [closeWindow]

@[simp] theorem grantCells_keeps (p : Station) (n : Byte) (s : State) :
    (grantCells p n s).pending = s.pending ∧ (grantCells p n s).clock = s.clock
      ∧ (grantCells p n s).station = s.station ∧ (grantCells p n s).axes = s.axes
      ∧ (grantCells p n s).motion = s.motion ∧ (grantCells p n s).link = s.link
      ∧ (grantCells p n s).peers = s.peers ∧ (grantCells p n s).temps = s.temps
      ∧ (grantCells p n s).probes = s.probes ∧ (grantCells p n s).corr = s.corr
      ∧ (grantCells p n s).points = s.points ∧ (grantCells p n s).port = s.port
      ∧ (grantCells p n s).events = s.events := by
  simp [grantCells]

@[simp] theorem joinGranted_keeps (s : State) :
    (joinGranted s).pending = s.pending ∧ (joinGranted s).clock = s.clock
      ∧ (joinGranted s).station = s.station ∧ (joinGranted s).axes = s.axes
      ∧ (joinGranted s).motion = s.motion ∧ (joinGranted s).peers = s.peers
      ∧ (joinGranted s).temps = s.temps ∧ (joinGranted s).probes = s.probes
      ∧ (joinGranted s).corr = s.corr ∧ (joinGranted s).points = s.points
      ∧ (joinGranted s).port = s.port := by
  unfold joinGranted
  split <;> simp

@[simp] theorem takeUpKept_keeps (s : State) :
    (takeUpKept s).pending = s.pending ∧ (takeUpKept s).clock = s.clock
      ∧ (takeUpKept s).station = s.station ∧ (takeUpKept s).axes = s.axes
      ∧ (takeUpKept s).motion = s.motion ∧ (takeUpKept s).peers = s.peers
      ∧ (takeUpKept s).temps = s.temps ∧ (takeUpKept s).probes = s.probes
      ∧ (takeUpKept s).corr = s.corr ∧ (takeUpKept s).points = s.points
      ∧ (takeUpKept s).port = s.port := by
  unfold takeUpKept
  split <;> simp

@[simp] theorem grantClaim_keeps (c : Claim) (s : State) :
    (grantClaim c s).pending = s.pending ∧ (grantClaim c s).clock = s.clock
      ∧ (grantClaim c s).station = s.station ∧ (grantClaim c s).peers = s.peers
      ∧ (grantClaim c s).temps = s.temps ∧ (grantClaim c s).corr = s.corr
      ∧ (grantClaim c s).points = s.points ∧ (grantClaim c s).port = s.port := by
  unfold grantClaim
  split <;> simp

@[simp] theorem settle_keeps (p : Station) (n : Byte) (s : State) :
    (settle p n s).pending = s.pending ∧ (settle p n s).clock = s.clock
      ∧ (settle p n s).station = s.station ∧ (settle p n s).peers = s.peers
      ∧ (settle p n s).temps = s.temps ∧ (settle p n s).corr = s.corr
      ∧ (settle p n s).points = s.points ∧ (settle p n s).port = s.port := by
  unfold settle
  dsimp only
  repeat' split
  all_goals simp

@[simp] theorem objectClaim_keeps (n : Byte) (cs : CellSet) (s : State) :
    (objectClaim n cs s).pending = s.pending ∧ (objectClaim n cs s).clock = s.clock
      ∧ (objectClaim n cs s).station = s.station ∧ (objectClaim n cs s).axes = s.axes
      ∧ (objectClaim n cs s).motion = s.motion ∧ (objectClaim n cs s).peers = s.peers
      ∧ (objectClaim n cs s).temps = s.temps ∧ (objectClaim n cs s).probes = s.probes
      ∧ (objectClaim n cs s).corr = s.corr ∧ (objectClaim n cs s).points = s.points
      ∧ (objectClaim n cs s).port = s.port := by
  unfold objectClaim
  repeat' split
  all_goals simp

@[simp] theorem objectInTime_keeps (target : Station) (n : Byte) (cs : CellSet) (s : State) :
    (objectInTime target n cs s).pending = s.pending ∧ (objectInTime target n cs s).clock = s.clock
      ∧ (objectInTime target n cs s).station = s.station
      ∧ (objectInTime target n cs s).axes = s.axes ∧ (objectInTime target n cs s).motion = s.motion
      ∧ (objectInTime target n cs s).peers = s.peers ∧ (objectInTime target n cs s).temps = s.temps
      ∧ (objectInTime target n cs s).probes = s.probes ∧ (objectInTime target n cs s).corr = s.corr
      ∧ (objectInTime target n cs s).points = s.points ∧ (objectInTime target n cs s).port = s.port := by
  unfold objectInTime
  split <;> simp

@[simp] theorem objectLate_keeps (sender target : Station) (cs : CellSet) (s : State) :
    (objectLate sender target cs s).pending = s.pending
      ∧ (objectLate sender target cs s).clock = s.clock
      ∧ (objectLate sender target cs s).station = s.station
      ∧ (objectLate sender target cs s).link = s.link
      ∧ (objectLate sender target cs s).peers = s.peers
      ∧ (objectLate sender target cs s).temps = s.temps
      ∧ (objectLate sender target cs s).corr = s.corr
      ∧ (objectLate sender target cs s).points = s.points
      ∧ (objectLate sender target cs s).port = s.port := by
  unfold objectLate
  repeat' split
  all_goals simp

@[simp] theorem freeReleased_keeps (p : Station) (cs : CellSet) (s : State) :
    (freeReleased p cs s).pending = s.pending ∧ (freeReleased p cs s).clock = s.clock
      ∧ (freeReleased p cs s).station = s.station ∧ (freeReleased p cs s).axes = s.axes
      ∧ (freeReleased p cs s).motion = s.motion ∧ (freeReleased p cs s).link = s.link
      ∧ (freeReleased p cs s).peers = s.peers ∧ (freeReleased p cs s).temps = s.temps
      ∧ (freeReleased p cs s).probes = s.probes ∧ (freeReleased p cs s).corr = s.corr
      ∧ (freeReleased p cs s).points = s.points ∧ (freeReleased p cs s).port = s.port
      ∧ (freeReleased p cs s).events = s.events := by
  simp [freeReleased]

/-! ## Machine/LinkLine.lean -/

@[simp] theorem awaitIdle_keeps (s : State) :
    (awaitIdle s).pending = s.pending ∧ (awaitIdle s).clock = s.clock
      ∧ (awaitIdle s).station = s.station ∧ (awaitIdle s).axes = s.axes
      ∧ (awaitIdle s).motion = s.motion ∧ (awaitIdle s).zone = s.zone
      ∧ (awaitIdle s).peers = s.peers ∧ (awaitIdle s).temps = s.temps
      ∧ (awaitIdle s).probes = s.probes ∧ (awaitIdle s).corr = s.corr
      ∧ (awaitIdle s).points = s.points ∧ (awaitIdle s).port = s.port
      ∧ (awaitIdle s).events = s.events := by
  simp [awaitIdle]

@[simp] theorem duplicateFound_keeps (k : FrameKind) (s : State) :
    (duplicateFound k s).pending = s.pending ∧ (duplicateFound k s).clock = s.clock
      ∧ (duplicateFound k s).station = s.station ∧ (duplicateFound k s).temps = s.temps
      ∧ (duplicateFound k s).corr = s.corr ∧ (duplicateFound k s).points = s.points
      ∧ (duplicateFound k s).port = s.port := by
  simp [duplicateFound]

@[simp] theorem toldDelivered_keeps (f : TxFrame) (s : State) :
    (toldDelivered f s).pending = s.pending ∧ (toldDelivered f s).clock = s.clock
      ∧ (toldDelivered f s).station = s.station ∧ (toldDelivered f s).axes = s.axes
      ∧ (toldDelivered f s).motion = s.motion ∧ (toldDelivered f s).zone = s.zone
      ∧ (toldDelivered f s).link = s.link ∧ (toldDelivered f s).temps = s.temps
      ∧ (toldDelivered f s).corr = s.corr ∧ (toldDelivered f s).points = s.points
      ∧ (toldDelivered f s).port = s.port ∧ (toldDelivered f s).events = s.events := by
  unfold toldDelivered
  split <;> simp

@[simp] theorem claimAfterReset_keeps (s : State) :
    (claimAfterReset s).pending = s.pending ∧ (claimAfterReset s).clock = s.clock
      ∧ (claimAfterReset s).station = s.station ∧ (claimAfterReset s).axes = s.axes
      ∧ (claimAfterReset s).motion = s.motion ∧ (claimAfterReset s).link = s.link
      ∧ (claimAfterReset s).peers = s.peers ∧ (claimAfterReset s).temps = s.temps
      ∧ (claimAfterReset s).probes = s.probes ∧ (claimAfterReset s).corr = s.corr
      ∧ (claimAfterReset s).points = s.points ∧ (claimAfterReset s).port = s.port
      ∧ (claimAfterReset s).events = s.events := by
  unfold claimAfterReset
  repeat' split
  all_goals simp

@[simp] theorem dropWindows_keeps (s : State) :
    (dropWindows s).pending = s.pending ∧ (dropWindows s).clock = s.clock
      ∧ (dropWindows s).station = s.station ∧ (dropWindows s).axes = s.axes
      ∧ (dropWindows s).motion = s.motion ∧ (dropWindows s).link = s.link
      ∧ (dropWindows s).peers = s.peers ∧ (dropWindows s).temps = s.temps
      ∧ (dropWindows s).probes = s.probes ∧ (dropWindows s).corr = s.corr
      ∧ (dropWindows s).points = s.points ∧ (dropWindows s).port = s.port
      ∧ (dropWindows s).events = s.events := by
  simp [dropWindows]

@[simp] theorem restartLink_keeps (s : State) :
    (restartLink s).pending = s.pending ∧ (restartLink s).clock = s.clock
      ∧ (restartLink s).station = s.station ∧ (restartLink s).axes = s.axes
      ∧ (restartLink s).motion = s.motion ∧ (restartLink s).zone = s.zone
      ∧ (restartLink s).temps = s.temps ∧ (restartLink s).corr = s.corr
      ∧ (restartLink s).points = s.points ∧ (restartLink s).port = s.port
      ∧ (restartLink s).events = s.events := by
  unfold restartLink
  refine ⟨?_, ?_, ?_, ?_, ?_, ?_, ?_, ?_, ?_, ?_, ?_⟩ <;>
    (simp; try (refine (foldl_keeps (fun u : State => _) _ (fun t x => ?_) _ _).trans ?_ <;> simp))

@[simp] theorem resetLinkEffect_keeps (s : State) :
    (resetLinkEffect s).pending = s.pending ∧ (resetLinkEffect s).clock = s.clock
      ∧ (resetLinkEffect s).station = s.station ∧ (resetLinkEffect s).corr = s.corr
      ∧ (resetLinkEffect s).points = s.points ∧ (resetLinkEffect s).port = s.port := by
  simp [resetLinkEffect]

@[simp] theorem settleView_keeps (s : State) :
    (settleView s).pending = s.pending ∧ (settleView s).clock = s.clock
      ∧ (settleView s).station = s.station ∧ (settleView s).axes = s.axes
      ∧ (settleView s).motion = s.motion ∧ (settleView s).link = s.link
      ∧ (settleView s).peers = s.peers ∧ (settleView s).temps = s.temps
      ∧ (settleView s).probes = s.probes ∧ (settleView s).corr = s.corr
      ∧ (settleView s).points = s.points ∧ (settleView s).port = s.port
      ∧ (settleView s).events = s.events := by
  simp [settleView]

@[simp] theorem settleConflicts_keeps (s : State) :
    (settleConflicts s).pending = s.pending ∧ (settleConflicts s).clock = s.clock
      ∧ (settleConflicts s).station = s.station ∧ (settleConflicts s).link = s.link
      ∧ (settleConflicts s).peers = s.peers ∧ (settleConflicts s).temps = s.temps
      ∧ (settleConflicts s).corr = s.corr ∧ (settleConflicts s).points = s.points
      ∧ (settleConflicts s).port = s.port := by
  unfold settleConflicts
  refine ⟨?_, ?_, ?_, ?_, ?_, ?_, ?_, ?_, ?_⟩ <;>
    (refine foldl_keeps (fun u : State => _) _ (fun t x => ?_) _ _; (repeat' split) <;> simp)

@[simp] theorem joinClaim_keeps (s : State) :
    (joinClaim s).pending = s.pending ∧ (joinClaim s).clock = s.clock
      ∧ (joinClaim s).station = s.station ∧ (joinClaim s).axes = s.axes
      ∧ (joinClaim s).motion = s.motion ∧ (joinClaim s).peers = s.peers
      ∧ (joinClaim s).temps = s.temps ∧ (joinClaim s).probes = s.probes
      ∧ (joinClaim s).corr = s.corr ∧ (joinClaim s).points = s.points ∧ (joinClaim s).port = s.port := by
  unfold joinClaim
  dsimp only
  repeat' split
  all_goals simp

@[simp] theorem weighClaim_keeps (s : State) :
    (weighClaim s).pending = s.pending ∧ (weighClaim s).clock = s.clock
      ∧ (weighClaim s).station = s.station ∧ (weighClaim s).axes = s.axes
      ∧ (weighClaim s).motion = s.motion ∧ (weighClaim s).peers = s.peers
      ∧ (weighClaim s).temps = s.temps ∧ (weighClaim s).probes = s.probes
      ∧ (weighClaim s).corr = s.corr ∧ (weighClaim s).points = s.points
      ∧ (weighClaim s).port = s.port := by
  unfold weighClaim
  repeat' split
  all_goals simp

@[simp] theorem becomeActive_keeps (s : State) :
    (becomeActive s).pending = s.pending ∧ (becomeActive s).clock = s.clock
      ∧ (becomeActive s).axes = s.axes ∧ (becomeActive s).motion = s.motion
      ∧ (becomeActive s).zone = s.zone ∧ (becomeActive s).link = s.link
      ∧ (becomeActive s).peers = s.peers ∧ (becomeActive s).temps = s.temps
      ∧ (becomeActive s).probes = s.probes ∧ (becomeActive s).corr = s.corr
      ∧ (becomeActive s).points = s.points ∧ (becomeActive s).port = s.port := by
  unfold becomeActive
  split <;> simp

/-! ## Machine/ProbeCommands.lean -/

@[simp] theorem createEntry_keeps (i : Ident) (bank : Bank) (q : QualSet) (s : State) :
    (createEntry i bank q s).pending = s.pending ∧ (createEntry i bank q s).clock = s.clock
      ∧ (createEntry i bank q s).station = s.station ∧ (createEntry i bank q s).axes = s.axes
      ∧ (createEntry i bank q s).motion = s.motion ∧ (createEntry i bank q s).zone = s.zone
      ∧ (createEntry i bank q s).peers = s.peers ∧ (createEntry i bank q s).temps = s.temps
      ∧ (createEntry i bank q s).corr = s.corr ∧ (createEntry i bank q s).points = s.points
      ∧ (createEntry i bank q s).port = s.port := by
  unfold createEntry
  dsimp only
  repeat' split
  all_goals simp

@[simp] theorem rewriteEntry_keeps (e : LibEntry) (bank : Bank) (q : QualSet) (s : State) :
    (rewriteEntry e bank q s).pending = s.pending ∧ (rewriteEntry e bank q s).clock = s.clock
      ∧ (rewriteEntry e bank q s).station = s.station ∧ (rewriteEntry e bank q s).axes = s.axes
      ∧ (rewriteEntry e bank q s).motion = s.motion ∧ (rewriteEntry e bank q s).zone = s.zone
      ∧ (rewriteEntry e bank q s).link = s.link ∧ (rewriteEntry e bank q s).peers = s.peers
      ∧ (rewriteEntry e bank q s).temps = s.temps ∧ (rewriteEntry e bank q s).corr = s.corr
      ∧ (rewriteEntry e bank q s).points = s.points ∧ (rewriteEntry e bank q s).port = s.port
      ∧ (rewriteEntry e bank q s).events = s.events := by
  simp [rewriteEntry]

/-! ## Machine/HostPort.lean -/

@[simp] theorem failFrame_keeps (r : PortReason) (s : State) :
    (failFrame r s).pending = s.pending ∧ (failFrame r s).clock = s.clock
      ∧ (failFrame r s).station = s.station ∧ (failFrame r s).axes = s.axes
      ∧ (failFrame r s).motion = s.motion ∧ (failFrame r s).zone = s.zone
      ∧ (failFrame r s).link = s.link ∧ (failFrame r s).peers = s.peers
      ∧ (failFrame r s).temps = s.temps ∧ (failFrame r s).probes = s.probes
      ∧ (failFrame r s).corr = s.corr ∧ (failFrame r s).points = s.points := by
  simp [failFrame]

end Sys2Proof.Machine
end

