-- ==== Sys2Proof/Laws/Operands.lean ====
section
/-! SUPPORT. Reading back what is laid out: bytes, words, signed values and fields of command data. -/

namespace Sys2Proof

@[simp] theorem length_beBytes (n x : Nat) : (beBytes n x).length = n := by
  induction n generalizing x with
  | zero => rfl
  | succ n ih => simp [beBytes, ih]

theorem beNat_append_one (l : List Byte) (b : Byte) : beNat (l ++ [b]) = beNat l * 256 + b.toNat := by
  simp [beNat]

/-- The low n bytes of a number spell it modulo 256 to the n. -/
theorem beNat_beBytes (n x : Nat) : beNat (beBytes n x) = x % 256 ^ n := by
  induction n generalizing x with
  | zero => simp [beBytes, beNat, Nat.mod_one]
  | succ n ih =>
    have h : x % 256 ^ (n + 1) = x % 256 + 256 * (x / 256 % 256 ^ n) := by
      rw [Nat.pow_succ', Nat.mod_mul]
    rw [beBytes, beNat_append_one, ih, h, BitVec.toNat_ofNat]
    omega

theorem beNat_beBytes_of_lt {n x : Nat} (h : x < 256 ^ n) : beNat (beBytes n x) = x := by
  rw [beNat_beBytes, Nat.mod_eq_of_lt h]

@[simp] theorem length_beSigned (n : Nat) (x : Int) : (beSigned n x).length = n := by
  simp [beSigned]

/-- A signed 32-bit count is read back from its four bytes. -/
theorem beInt32_beSigned {x : Int} (lo : -2147483648 ≤ x) (hi : x ≤ 2147483647) :
    beInt32 (beSigned 4 x) = x := by
  have h0 : (0 : Int) ≤ x % 4294967296 := Int.emod_nonneg _ (by decide)
  have h1 : x % 4294967296 < 4294967296 := Int.emod_lt_of_pos _ (by decide)
  have h2 : (x % 4294967296).toNat < 256 ^ 4 := by simp; omega
  have h3 : beNat (beSigned 4 x) = (x % 4294967296).toNat := beNat_beBytes_of_lt h2
  rw [beInt32, h3, BitVec.toInt_ofNat', Int.toNat_of_nonneg h0, Int.bmod_def]
  split <;> omega

/-- A signed 16-bit value is read back from its two bytes. -/
theorem beInt16_beSigned {x : Int} (lo : -32768 ≤ x) (hi : x ≤ 32767) :
    beInt16 (beSigned 2 x) = x := by
  have h0 : (0 : Int) ≤ x % 65536 := Int.emod_nonneg _ (by decide)
  have h1 : x % 65536 < 65536 := Int.emod_lt_of_pos _ (by decide)
  have h2 : (x % 65536).toNat < 256 ^ 2 := by simp; omega
  have h3 : beNat (beSigned 2 x) = (x % 65536).toNat := beNat_beBytes_of_lt h2
  rw [beInt16, h3, BitVec.toInt_ofNat', Int.toNat_of_nonneg h0, Int.bmod_def]
  split <;> omega

/-- The part of a list that follows a piece of known length. -/
theorem slice_after {l m r : List Byte} {off n : Nat} (hl : l.length = off) (hm : m.length = n) :
    slice off n (l ++ m ++ r) = m := by
  subst hl hm
  simp [slice, List.append_assoc]

theorem slice_head {m r : List Byte} {n : Nat} (hm : m.length = n) : slice 0 n (m ++ r) = m := by
  subst hm
  simp [slice]

theorem slice_tail {l m : List Byte} {off n : Nat} (hl : l.length = off) (hm : m.length = n) :
    slice off n (l ++ m) = m := by
  subst hl hm
  simp [slice]

namespace Machine

@[simp] theorem length_one (n : Nat) : (one n).length = 1 := by simp [one]

@[simp] theorem length_word (w : BitVec 16) : (word w).length = 2 := by simp [word]

@[simp] theorem length_yesNo (v : Bool) : (yesNo v).length = 1 := rfl

@[simp] theorem length_temp (t : Int) : (temp t).length = 2 := by simp [temp]

@[simp] theorem length_count (c : Int) : (count c).length = 4 := by simp [count]

@[simp] theorem length_counts (v : V3 Int) : (counts v).length = 12 := by simp [counts]

@[simp] theorem length_time (t : Nat) : (time t).length = 4 := by unfold time; split <;> simp

theorem length_optional {α : Type} {n : Nat} {lay : α → List Byte} (h : ∀ v, (lay v).length = n)
    (o : Option α) : (optional n lay o).length = n + 1 := by
  cases o <;> simp [optional, h]

/-- The number that a byte of the data carries. -/
theorem beNat_one {n : Nat} (h : n < 256) : beNat (one n) = n := beNat_beBytes_of_lt (by simpa using h)

theorem beNat_word (w : BitVec 16) : beNat (word w) = w.toNat :=
  beNat_beBytes_of_lt (by simpa using w.isLt)

theorem ofNat_beNat_word (w : BitVec 16) : BitVec.ofNat 16 (beNat (word w)) = w := by
  rw [beNat_word]; simp

/-- A field of one byte alone. -/
theorem field_one {n : Nat} (h : n < 256) : field 0 1 (one n) = n := by
  simp [field, slice, List.take_of_length_le, beNat_one h]

theorem field_one_append {n : Nat} (h : n < 256) (l : List Byte) : field 0 1 (one n ++ l) = n := by
  rw [field, slice_head (length_one n), beNat_one h]

@[simp] theorem fieldWord_word (w : BitVec 16) : fieldWord 0 (word w) = w := by
  simp [fieldWord, field, slice, List.take_of_length_le, ofNat_beNat_word]

@[simp] theorem fieldWord_word_append (w : BitVec 16) (l : List Byte) :
    fieldWord 0 (word w ++ l) = w := by
  rw [fieldWord, field, slice_head (length_word w), ofNat_beNat_word]

theorem field_slice {data m : List Byte} {off n : Nat} (h : slice off n data = m) :
    field off n data = beNat m := by rw [field, h]

theorem fieldInt32_slice {data : List Byte} {off : Nat} {x : Int} (h : slice off 4 data = beSigned 4 x)
    (lo : -2147483648 ≤ x) (hi : x ≤ 2147483647) : fieldInt32 off data = x := by
  rw [fieldInt32, h, beInt32_beSigned lo hi]

theorem fits32_iff (x : Int) : fits32 x = true ↔ -2147483648 ≤ x ∧ x ≤ 2147483647 := by
  rw [fits32, Bool.and_eq_true]
  exact ⟨fun h => ⟨of_decide_eq_true h.1, of_decide_eq_true h.2⟩,
    fun h => ⟨decide_eq_true h.1, decide_eq_true h.2⟩⟩

theorem count32_of_fits {x : Int} (h : fits32 x = true) : count32 x = x := by simp [count32, h]

theorem axisOf_code : ∀ a, axisOf (match a with | .x => 0 | .y => 1 | .z => 2) = some a := by
  intro a; cases a <;> rfl

theorem axisOf_none {n : Nat} (h : 3 ≤ n) : axisOf n = none := by
  match n, h with
  | n + 3, _ => rfl

theorem bankOf_num (k : Bank) : bankOf k.num = some k := by cases k <;> rfl

theorem bankOf_none {n : Nat} (h : 2 ≤ n) : bankOf n = none := by
  match n, h with
  | n + 2, _ => rfl

theorem indexOf_val {n : Nat} [NeZero n] (i : Fin n) : indexOf n i.val = some i := by
  simp [indexOf, i.isLt]

theorem indexOf_none {n k : Nat} [NeZero n] (h : n ≤ k) : indexOf n k = none := by
  simp [indexOf, Nat.not_lt.mpr h]

/-- A command with data of its length is the block's own act (R201). -/
theorem withLength_eq {n : Nat} {data : List Byte} {s act : State} (h : data.length = n) :
    withLength n data s act = act := by simp [withLength, h]

end Machine

end Sys2Proof
end

