-- ==== Sys2Proof/Laws/PerInstr.lean ====
section
/-! SUPPORT. The commands one by one: each command of the host is what its code and data spell, and each
accepted frame is what its sender and content are. -/

namespace Sys2Proof.Laws.SpelledByItsFrame

/-- The code of Table 10-5 and the data bytes of a command that arrives in a host frame. -/
def hostForm : Instr → Option (Byte × List Byte)
  | .powerOn _ => none
  | .hostFrameCheckFailed _ _ => none
  | .replyShiftOut => none
  | .configure d => some (0x01#8, d)
  | .start d => some (0x02#8, d)
  | .resetStation d _ => some (0x03#8, d)
  | .resetLink d => some (0x04#8, d)
  | .queueMove d => some (0x05#8, d)
  | .stop d => some (0x06#8, d)
  | .resume d => some (0x07#8, d)
  | .flushMoves d => some (0x08#8, d)
  | .referenceAxis d => some (0x09#8, d)
  | .clearFault d => some (0x0A#8, d)
  | .changeProbe d => some (0x0B#8, d)
  | .abortChange d => some (0x0C#8, d)
  | .identifyProbe d => some (0x0D#8, d)
  | .writeProbeSet d => some (0x0E#8, d)
  | .deleteProbe d => some (0x0F#8, d)
  | .selectBank d => some (0x10#8, d)
  | .setRackSlot d => some (0x11#8, d)
  | .setFixedTemperature d => some (0x12#8, d)
  | .clearFixedTemperature d => some (0x13#8, d)
  | .setPart d => some (0x14#8, d)
  | .callSample d => some (0x15#8, d)
  | .forgetPeer d => some (0x16#8, d)
  | .readPoint d => some (0x17#8, d)
  | .peekPoint d => some (0x18#8, d)
  | .flushPoints d => some (0x19#8, d)
  | .readStatus d => some (0x1A#8, d)
  | .readTemperatures d => some (0x1B#8, d)
  | .readZoneView d => some (0x1C#8, d)
  | .readRackView d => some (0x1D#8, d)
  | .readProbe d => some (0x1E#8, d)
  | .readPeer d => some (0x1F#8, d)
  | .readEvents d => some (0x20#8, d)
  | .enableEvents d => some (0x21#8, d)
  | .acknowledgeEvents d => some (0x22#8, d)
  | .releaseHoldEnd => none
  | .motionPeriod _ _ => none
  | .segmentComplete => none
  | .positionTimeout => none
  | .stopDecelerationEnd => none
  | .scaleCount _ _ => none
  | .scaleFault _ => none
  | .referenceMark _ => none
  | .referenceEnd => none
  | .referenceStopEnd => none
  | .touch _ => none
  | .correctionEnd => none
  | .frameSendStart => none
  | .arbitrationLost => none
  | .duplicateStationMismatch => none
  | .earlySpoil _ => none
  | .frameSpoiled _ _ => none
  | .duplicateStationFrame _ => none
  | .frameDelivered => none
  | .claimAccepted _ _ _ => none
  | .settleWindowEnd _ _ => none
  | .objectAccepted _ _ _ _ => none
  | .waitAccepted _ _ => none
  | .claimRetryRoom => none
  | .zoneWaitTimeout => none
  | .zoneOverstay _ => none
  | .releaseAccepted _ _ => none
  | .deferralExpiry _ => none
  | .presenceAccepted _ _ => none
  | .peerLost _ => none
  | .rackNoteAccepted _ _ _ => none
  | .sampleCallAccepted _ _ _ => none
  | .presencePeriod => none
  | .listeningEnd => none
  | .sampleTimer _ _ => none
  | .dropTimeout => none
  | .pickTimeout => none
  | .identAnswer _ _ _ => none
  | .identAttemptTimeout => none
  | .lineIdle => none
  | .lineDriverFault => none

/-- The sender and the content of a command that is an accepted link frame (R90). -/
def linkForm : Instr → Option (Station × Msg)
  | .powerOn _ => none
  | .hostFrameCheckFailed _ _ => none
  | .replyShiftOut => none
  | .configure _ => none
  | .start _ => none
  | .resetStation _ _ => none
  | .resetLink _ => none
  | .queueMove _ => none
  | .stop _ => none
  | .resume _ => none
  | .flushMoves _ => none
  | .referenceAxis _ => none
  | .clearFault _ => none
  | .changeProbe _ => none
  | .abortChange _ => none
  | .identifyProbe _ => none
  | .writeProbeSet _ => none
  | .deleteProbe _ => none
  | .selectBank _ => none
  | .setRackSlot _ => none
  | .setFixedTemperature _ => none
  | .clearFixedTemperature _ => none
  | .setPart _ => none
  | .callSample _ => none
  | .forgetPeer _ => none
  | .readPoint _ => none
  | .peekPoint _ => none
  | .flushPoints _ => none
  | .readStatus _ => none
  | .readTemperatures _ => none
  | .readZoneView _ => none
  | .readRackView _ => none
  | .readProbe _ => none
  | .readPeer _ => none
  | .readEvents _ => none
  | .enableEvents _ => none
  | .acknowledgeEvents _ => none
  | .releaseHoldEnd => none
  | .motionPeriod _ _ => none
  | .segmentComplete => none
  | .positionTimeout => none
  | .stopDecelerationEnd => none
  | .scaleCount _ _ => none
  | .scaleFault _ => none
  | .referenceMark _ => none
  | .referenceEnd => none
  | .referenceStopEnd => none
  | .touch _ => none
  | .correctionEnd => none
  | .frameSendStart => none
  | .arbitrationLost => none
  | .duplicateStationMismatch => none
  | .earlySpoil _ => none
  | .frameSpoiled _ _ => none
  | .duplicateStationFrame _ => none
  | .frameDelivered => none
  | .claimAccepted p n cs => some (p, .claim n cs)
  | .settleWindowEnd _ _ => none
  | .objectAccepted p t n cs => some (p, .object t n cs)
  | .waitAccepted p cs => some (p, .wait cs)
  | .claimRetryRoom => none
  | .zoneWaitTimeout => none
  | .zoneOverstay _ => none
  | .releaseAccepted p cs => some (p, .release cs)
  | .deferralExpiry _ => none
  | .presenceAccepted p r => some (p, .presence r)
  | .peerLost _ => none
  | .rackNoteAccepted p k c => some (p, .rackNote k c)
  | .sampleCallAccepted p _ _ => some (p, .sampleCall)
  | .presencePeriod => none
  | .listeningEnd => none
  | .sampleTimer _ _ => none
  | .dropTimeout => none
  | .pickTimeout => none
  | .identAnswer _ _ _ => none
  | .identAttemptTimeout => none
  | .lineIdle => none
  | .lineDriverFault => none

/-- The command is spelled by its frame: a host command by its code and its data, which a frame can carry
when it is well formed, an accepted frame by its sender and its content. -/
def Statement (i : Instr) : Prop :=
  (∀ code data, hostForm i = some (code, data) →
      (∃ pins, hostInstr pins code data = some i) ∧ (i.wellFormed = true → data.length ≤ 60))
    ∧ ∀ p m, linkForm i = some (p, m) → ∃ conv order, acceptedInstr conv order p m = i

/-- A command with neither form. -/
theorem of_none {i : Instr} (h : hostForm i = none) (l : linkForm i = none) : Statement i := by
  constructor <;> intros <;> simp_all

/-- A command of the host. -/
theorem of_host {i : Instr} {code : Byte} {data : List Byte} (h : hostForm i = some (code, data))
    (l : linkForm i = none) (pins : Pins) (spelled : hostInstr pins code data = some i)
    (fits : i.wellFormed = dataFits data) : Statement i := by
  refine ⟨fun c d e => ?_, fun p m e => by simp [l] at e⟩
  obtain ⟨rfl, rfl⟩ : code = c ∧ data = d := by simpa [h] using e
  exact ⟨⟨pins, spelled⟩, fun w => by simpa [fits, dataFits] using w⟩

/-- An accepted frame. -/
theorem of_link {i : Instr} {p : Station} {m : Msg} (h : hostForm i = none)
    (l : linkForm i = some (p, m)) (conv : Conversions) (order : List Chan)
    (accepted : acceptedInstr conv order p m = i) : Statement i := by
  refine ⟨fun c d e => by simp [h] at e, fun q n e => ?_⟩
  obtain ⟨rfl, rfl⟩ : p = q ∧ m = n := by simpa [l] using e
  exact ⟨conv, order, accepted⟩

/-- Some pin levels, for commands that read none. -/
def somePins : Pins :=
  { straps := 0, lower := ⟨false, false, false⟩, upper := ⟨false, false, false⟩,
    ready := ⟨false, false, false⟩, seated := false, retracted := false }

theorem powerOn (pins : Pins) :
    Statement (.powerOn pins) := of_none rfl rfl
theorem hostFrameCheckFailed (bytes : List Byte) (midByte : Bool) :
    Statement (.hostFrameCheckFailed bytes midByte) := of_none rfl rfl
theorem replyShiftOut :
    Statement .replyShiftOut := of_none rfl rfl
theorem configure (data : List Byte) :
    Statement (.configure data) := of_host rfl rfl somePins rfl rfl
theorem start (data : List Byte) :
    Statement (.start data) := of_host rfl rfl somePins rfl rfl
theorem resetStation (data : List Byte) (pins : Pins) :
    Statement (.resetStation data pins) := of_host rfl rfl pins rfl rfl
theorem resetLink (data : List Byte) :
    Statement (.resetLink data) := of_host rfl rfl somePins rfl rfl
theorem queueMove (data : List Byte) :
    Statement (.queueMove data) := of_host rfl rfl somePins rfl rfl
theorem stop (data : List Byte) :
    Statement (.stop data) := of_host rfl rfl somePins rfl rfl
theorem resume (data : List Byte) :
    Statement (.resume data) := of_host rfl rfl somePins rfl rfl
theorem flushMoves (data : List Byte) :
    Statement (.flushMoves data) := of_host rfl rfl somePins rfl rfl
theorem referenceAxis (data : List Byte) :
    Statement (.referenceAxis data) := of_host rfl rfl somePins rfl rfl
theorem clearFault (data : List Byte) :
    Statement (.clearFault data) := of_host rfl rfl somePins rfl rfl
theorem changeProbe (data : List Byte) :
    Statement (.changeProbe data) := of_host rfl rfl somePins rfl rfl
theorem abortChange (data : List Byte) :
    Statement (.abortChange data) := of_host rfl rfl somePins rfl rfl
theorem identifyProbe (data : List Byte) :
    Statement (.identifyProbe data) := of_host rfl rfl somePins rfl rfl
theorem writeProbeSet (data : List Byte) :
    Statement (.writeProbeSet data) := of_host rfl rfl somePins rfl rfl
theorem deleteProbe (data : List Byte) :
    Statement (.deleteProbe data) := of_host rfl rfl somePins rfl rfl
theorem selectBank (data : List Byte) :
    Statement (.selectBank data) := of_host rfl rfl somePins rfl rfl
theorem setRackSlot (data : List Byte) :
    Statement (.setRackSlot data) := of_host rfl rfl somePins rfl rfl
theorem setFixedTemperature (data : List Byte) :
    Statement (.setFixedTemperature data) := of_host rfl rfl somePins rfl rfl
theorem clearFixedTemperature (data : List Byte) :
    Statement (.clearFixedTemperature data) := of_host rfl rfl somePins rfl rfl
theorem setPart (data : List Byte) :
    Statement (.setPart data) := of_host rfl rfl somePins rfl rfl
theorem callSample (data : List Byte) :
    Statement (.callSample data) := of_host rfl rfl somePins rfl rfl
theorem forgetPeer (data : List Byte) :
    Statement (.forgetPeer data) := of_host rfl rfl somePins rfl rfl
theorem readPoint (data : List Byte) :
    Statement (.readPoint data) := of_host rfl rfl somePins rfl rfl
theorem peekPoint (data : List Byte) :
    Statement (.peekPoint data) := of_host rfl rfl somePins rfl rfl
theorem flushPoints (data : List Byte) :
    Statement (.flushPoints data) := of_host rfl rfl somePins rfl rfl
theorem readStatus (data : List Byte) :
    Statement (.readStatus data) := of_host rfl rfl somePins rfl rfl
theorem readTemperatures (data : List Byte) :
    Statement (.readTemperatures data) := of_host rfl rfl somePins rfl rfl
theorem readZoneView (data : List Byte) :
    Statement (.readZoneView data) := of_host rfl rfl somePins rfl rfl
theorem readRackView (data : List Byte) :
    Statement (.readRackView data) := of_host rfl rfl somePins rfl rfl
theorem readProbe (data : List Byte) :
    Statement (.readProbe data) := of_host rfl rfl somePins rfl rfl
theorem readPeer (data : List Byte) :
    Statement (.readPeer data) := of_host rfl rfl somePins rfl rfl
theorem readEvents (data : List Byte) :
    Statement (.readEvents data) := of_host rfl rfl somePins rfl rfl
theorem enableEvents (data : List Byte) :
    Statement (.enableEvents data) := of_host rfl rfl somePins rfl rfl
theorem acknowledgeEvents (data : List Byte) :
    Statement (.acknowledgeEvents data) := of_host rfl rfl somePins rfl rfl
theorem releaseHoldEnd :
    Statement .releaseHoldEnd := of_none rfl rfl
theorem motionPeriod (samples : Samples) (order : List Watch) :
    Statement (.motionPeriod samples order) := of_none rfl rfl
theorem segmentComplete :
    Statement .segmentComplete := of_none rfl rfl
theorem positionTimeout :
    Statement .positionTimeout := of_none rfl rfl
theorem stopDecelerationEnd :
    Statement .stopDecelerationEnd := of_none rfl rfl
theorem scaleCount (axis : Axis) (forward : Bool) :
    Statement (.scaleCount axis forward) := of_none rfl rfl
theorem scaleFault (axis : Axis) :
    Statement (.scaleFault axis) := of_none rfl rfl
theorem referenceMark (axis : Axis) :
    Statement (.referenceMark axis) := of_none rfl rfl
theorem referenceEnd :
    Statement .referenceEnd := of_none rfl rfl
theorem referenceStopEnd :
    Statement .referenceStopEnd := of_none rfl rfl
theorem touch (counts : V3 (BitVec 32)) :
    Statement (.touch counts) := of_none rfl rfl
theorem correctionEnd :
    Statement .correctionEnd := of_none rfl rfl
theorem frameSendStart :
    Statement .frameSendStart := of_none rfl rfl
theorem arbitrationLost :
    Statement .arbitrationLost := of_none rfl rfl
theorem duplicateStationMismatch :
    Statement .duplicateStationMismatch := of_none rfl rfl
theorem earlySpoil (own : Bool) :
    Statement (.earlySpoil own) := of_none rfl rfl
theorem frameSpoiled (rx : Reception) (byOther : Bool) :
    Statement (.frameSpoiled rx byOther) := of_none rfl rfl
theorem duplicateStationFrame (kind : FrameKind) :
    Statement (.duplicateStationFrame kind) := of_none rfl rfl
theorem frameDelivered :
    Statement .frameDelivered := of_none rfl rfl
theorem claimAccepted (sender : Station) (number : Byte) (cells : CellSet) :
    Statement (.claimAccepted sender number cells) := of_link rfl rfl (Vec.ofFn fun _ => none) [] rfl
theorem settleWindowEnd (station : Station) (number : Byte) :
    Statement (.settleWindowEnd station number) := of_none rfl rfl
theorem objectAccepted (sender : Station) (target : Station) (number : Byte) (cells : CellSet) :
    Statement (.objectAccepted sender target number cells) := of_link rfl rfl (Vec.ofFn fun _ => none) [] rfl
theorem waitAccepted (sender : Station) (cells : CellSet) :
    Statement (.waitAccepted sender cells) := of_link rfl rfl (Vec.ofFn fun _ => none) [] rfl
theorem claimRetryRoom :
    Statement .claimRetryRoom := of_none rfl rfl
theorem zoneWaitTimeout :
    Statement .zoneWaitTimeout := of_none rfl rfl
theorem zoneOverstay (cell : Cell) :
    Statement (.zoneOverstay cell) := of_none rfl rfl
theorem releaseAccepted (sender : Station) (cells : CellSet) :
    Statement (.releaseAccepted sender cells) := of_link rfl rfl (Vec.ofFn fun _ => none) [] rfl
theorem deferralExpiry (cell : Cell) :
    Statement (.deferralExpiry cell) := of_none rfl rfl
theorem presenceAccepted (sender : Station) (report : Report) :
    Statement (.presenceAccepted sender report) := of_link rfl rfl (Vec.ofFn fun _ => none) [] rfl
theorem peerLost (peer : Station) :
    Statement (.peerLost peer) := of_none rfl rfl
theorem rackNoteAccepted (sender : Station) (slot : SlotIx) (content : Ident) :
    Statement (.rackNoteAccepted sender slot content) := of_link rfl rfl (Vec.ofFn fun _ => none) [] rfl
theorem sampleCallAccepted (sender : Station) (conversions : Conversions) (order : List Chan) :
    Statement (.sampleCallAccepted sender conversions order) := of_link rfl rfl conversions order rfl
theorem presencePeriod :
    Statement .presencePeriod := of_none rfl rfl
theorem listeningEnd :
    Statement .listeningEnd := of_none rfl rfl
theorem sampleTimer (conversions : Conversions) (order : List Chan) :
    Statement (.sampleTimer conversions order) := of_none rfl rfl
theorem dropTimeout :
    Statement .dropTimeout := of_none rfl rfl
theorem pickTimeout :
    Statement .pickTimeout := of_none rfl rfl
theorem identAnswer (high : Byte) (low : Byte) (check : Byte) :
    Statement (.identAnswer high low check) := of_none rfl rfl
theorem identAttemptTimeout :
    Statement .identAttemptTimeout := of_none rfl rfl
theorem lineIdle :
    Statement .lineIdle := of_none rfl rfl
theorem lineDriverFault :
    Statement .lineDriverFault := of_none rfl rfl

end Sys2Proof.Laws.SpelledByItsFrame
end

