-- ==== Sys2Proof/Laws/Word.lean ====
section
/-! SUPPORT. The small lemmas of the triples, the fixed banks and the cell sets. -/

namespace Sys2Proof

@[simp] theorem V3.get_set_same {α : Type} (v : V3 α) (a : Axis) (w : α) : (v.set a w).get a = w := by
  cases a <;> rfl

theorem V3.get_set_other {α : Type} (v : V3 α) {a b : Axis} (w : α) (h : b ≠ a) :
    (v.set a w).get b = v.get b := by
  cases a <;> cases b <;> first | rfl | exact absurd rfl h

@[simp] theorem V3.get_map {α β : Type} (f : α → β) (v : V3 α) (a : Axis) :
    (v.map f).get a = f (v.get a) := by cases a <;> rfl

@[simp] theorem V3.get_zip {α β γ : Type} (f : α → β → γ) (v : V3 α) (w : V3 β) (a : Axis) :
    (V3.zip f v w).get a = f (v.get a) (w.get a) := by cases a <;> rfl

theorem V3.ext_get {α : Type} {v w : V3 α} (h : ∀ a, v.get a = w.get a) : v = w := by
  cases v; cases w
  have hx := h .x; have hy := h .y; have hz := h .z
  simp_all [V3.get]

theorem V3.all_iff {α : Type} (p : α → Bool) (v : V3 α) :
    v.all p = true ↔ ∀ a, p (v.get a) = true := by
  constructor
  · intro h a
    simp only [V3.all, Bool.and_eq_true] at h
    cases a <;> simp [V3.get, h]
  · intro h
    have hx := h .x; have hy := h .y; have hz := h .z
    simp_all [V3.get, V3.all]

@[simp] theorem Vec.get_ofFn {n : Nat} {α : Type} (f : Fin n → α) (i : Fin n) :
    (Vec.ofFn f).get i = f i := by
  simp only [Vec.ofFn, Vec.get, List.get_eq_getElem, List.getElem_ofFn]
  rfl

@[simp] theorem Vec.get_set_same {n : Nat} {α : Type} (v : Vec n α) (i : Fin n) (a : α) :
    (v.set i a).get i = a := by
  simp [Vec.set]

theorem Vec.get_set_other {n : Nat} {α : Type} (v : Vec n α) {i j : Fin n} (a : α) (h : j ≠ i) :
    (v.set i a).get j = v.get j := by
  simp [Vec.set, h]

@[simp] theorem Vec.get_mapIx {n : Nat} {α β : Type} (f : Fin n → α → β) (v : Vec n α) (i : Fin n) :
    (v.mapIx f).get i = f i (v.get i) := by
  simp [Vec.mapIx]

theorem Vec.ext_get {n : Nat} {α : Type} {v w : Vec n α} (h : ∀ i, v.get i = w.get i) : v = w := by
  obtain ⟨l, hl⟩ := v
  obtain ⟨m, hm⟩ := w
  have : l = m := by
    apply List.ext_getElem (by omega)
    intro k hk hk'
    have := h ⟨k, by omega⟩
    simpa [Vec.get] using this
  subst this; rfl

@[simp] theorem CellSet.has_of (p : Cell → Bool) (c : Cell) : CellSet.has (CellSet.of p) c = p c := by
  simp [CellSet.has, CellSet.of]

@[simp] theorem CellSet.has_minus (a b : CellSet) (c : Cell) :
    CellSet.has (CellSet.minus a b) c = (CellSet.has a c && !CellSet.has b c) := by
  simp [CellSet.has, CellSet.minus]

@[simp] theorem CellSet.has_or (a b : CellSet) (c : Cell) :
    CellSet.has (a ||| b) c = (CellSet.has a c || CellSet.has b c) := by
  simp [CellSet.has]

@[simp] theorem CellSet.has_and (a b : CellSet) (c : Cell) :
    CellSet.has (a &&& b) c = (CellSet.has a c && CellSet.has b c) := by
  simp [CellSet.has]

@[simp] theorem CellSet.has_all (c : Cell) : CellSet.has CellSet.all c = true := by
  revert c; decide

@[simp] theorem CellSet.has_zero (c : Cell) : CellSet.has 0#20 c = false := by
  simp [CellSet.has]

theorem CellSet.ext_has {a b : CellSet} (h : ∀ c, CellSet.has a c = CellSet.has b c) : a = b := by
  apply BitVec.eq_of_getLsbD_eq
  intro i hi
  exact h ⟨i, hi⟩

theorem CellSet.within_iff (a b : CellSet) :
    CellSet.within a b = true ↔ ∀ c, CellSet.has a c = true → CellSet.has b c = true := by
  constructor
  · intro h c hc
    have h0 : CellSet.minus a b = 0#20 := by simpa [CellSet.within] using h
    have k := congrArg (fun x => CellSet.has x c) h0
    rw [CellSet.has_minus, hc] at k
    simpa using k
  · intro h
    have : CellSet.minus a b = 0#20 := CellSet.ext_has fun c => by
      cases ha : CellSet.has a c <;> simp_all
    simp [CellSet.within, this]

end Sys2Proof
end

