-- ==== Sys2Proof/Tests/Slice0.lean ====
section
/-! SUPPORT. Tests: well-formedness, the worked cases of spec/ (their numbers are the manual's), and a state
and operands that meet the hypotheses of each statement. -/

/- One theorem after another: each is evaluated and checked in its turn, so that no test waits in a thread of its
own for those before it. -/
set_option Elab.async false

namespace Sys2Proof.Tests

open Sys2Proof Sys2Proof.Machine

/-! ## Well-formed commands: one ill-formed term for each check -/

theorem test_wellFormed_data : (Instr.configure (List.replicate 60 0#8)).wellFormed = true
    ∧ (Instr.configure (List.replicate 61 0#8)).wellFormed = false := by decide

theorem test_wellFormed_failed_frame :
    (Instr.hostFrameCheckFailed [2#8] false).wellFormed = true
    ∧ (Instr.hostFrameCheckFailed [] false).wellFormed = false
    ∧ (Instr.hostFrameCheckFailed (encodeHostFrame 0x06#8 []) false).wellFormed = false := by
  decide +kernel

/-- Levels sampled with nothing wrong. -/
def quiet : Samples :=
  { lower := ⟨false, false, false⟩, upper := ⟨false, false, false⟩, ready := ⟨true, true, true⟩,
    seated := false, retracted := true }

theorem test_wellFormed_orders :
    (Instr.motionPeriod quiet [.seated, .limit .x]).wellFormed = true
    ∧ (Instr.motionPeriod quiet [.limit .x, .limit .x]).wellFormed = false
    ∧ (Instr.sampleTimer (Vec.ofFn fun _ => none) [0, 0]).wellFormed = false
    ∧ (Instr.sampleCallAccepted 1 (Vec.ofFn fun _ => none) [7, 7]).wellFormed = false := by
  decide

theorem test_wellFormed_reception :
    (Instr.frameSpoiled ⟨List.replicate 38 0#8, false⟩ false).wellFormed = true
    ∧ (Instr.frameSpoiled ⟨List.replicate 39 0#8, false⟩ false).wellFormed = false := by decide

/-- A PART reading. -/
def part (c : Chan) (v : Int) : Reading := { channel := c, kind := .part, status := .valid, value := v }

/-- A report with readings. -/
def reportOfReadings (rs : List Reading) : Report :=
  { active := true, held := 0, waiting := 0, carried := 0, readings := rs }

theorem test_wellFormed_report :
    (Instr.presenceAccepted 1 (reportOfReadings ((List.finRange 8).map fun c => part c 6000))).wellFormed
      = true
    ∧ (Instr.presenceAccepted 1 (reportOfReadings [part 3 2000, part 3 2001])).wellFormed = false
    ∧ (Instr.presenceAccepted 1 (reportOfReadings [part 3 6001])).wellFormed = false
    ∧ (reportOfReadings (((List.finRange 8).map fun c => part c 0) ++ [part 0 1])).wellFormed = false := by
  decide

/-! ## Frames: the manual's check values and characters (R82, R196, 4.3.1) -/

/-- The ASCII text "123456789". -/
def ascii : List Byte := (List.range 9).map fun i => BitVec.ofNat 8 (0x31 + i)

theorem test_crc8 : crc8 ascii = 0xF4#8 := by decide +kernel

theorem test_crc16 : crc16 ascii = 0x29B1#16 := by decide +kernel

theorem test_head_characters : headByte 5 .release = 0x37#8 ∧ headByte 2 .claim = 0x4B#8
    ∧ headByte 3 .presence = 0xCF#8 := by decide

theorem test_release_frame : (encodeFrame 5 (.release 0x40#20)).take 5
      = [0x37#8, 0x03#8, 0x00#8, 0x00#8, 0x40#8]
    ∧ (encodeFrame 5 (.release 0x40#20)).length = 7
    ∧ decodeFrame (encodeFrame 5 (.release 0x40#20)) = some (5, .release 0x40#20) := by
  decide +kernel

theorem test_host_frame_codes (pins : Pins) :
    hostInstr pins 0x01#8 [] = some (.configure []) ∧ hostInstr pins 0x06#8 [] = some (.stop [])
    ∧ hostInstr pins 0x0B#8 [] = some (.changeProbe [])
    ∧ hostInstr pins 0x17#8 [] = some (.readPoint [])
    ∧ hostInstr pins 0x22#8 [] = some (.acknowledgeEvents [])
    ∧ hostInstr pins 0x23#8 [] = none := by
  refine ⟨rfl, rfl, rfl, rfl, rfl, rfl⟩

/-- 4.3.1: at the idle, 37h goes on, then 4Bh before CFh. -/
theorem test_worked_arbitration :
    losesTo (characterBits 0xCF#8) (characterBits 0x37#8) = true
      ∧ losesTo (characterBits 0x4B#8) (characterBits 0x37#8) = true
      ∧ losesTo (characterBits 0x37#8) (characterBits 0x4B#8) = false
      ∧ losesTo (characterBits 0xCF#8) (characterBits 0x4B#8) = true := by decide

/-- R79, R143: start bit, eight data bits, stop bit; an answer with a framing error is incomplete. -/
theorem test_characters :
    characterBits 0x37#8 = [false, false, false, true, true, false, true, true, true, true]
      ∧ identInstr (lineBits [0x12#8, 0x34#8, 0x56#8]) = some (.identAnswer 0x12#8 0x34#8 0x56#8)
      ∧ identInstr (lineBits [0x12#8, 0x34#8] ++ List.replicate 10 false) = none := by decide

/-- R88: a payload length of 35 calls for an early spoil, 34 does not. -/
theorem test_early_spoil :
    earlySpoilAt (lineBits [0x37#8, 35#8]) = some 1
      ∧ earlySpoilAt (lineBits [0x37#8, 34#8]) = none := by decide

/-- R88: another station's run falls in character 2, and the frame is discarded without an error of its own. -/
theorem test_early_spoil_of_another :
    receptionInstr 5 (Vec.ofFn fun _ => none) [] (lineBits [0x37#8, 3#8] ++ List.replicate 10 false) false
        = .earlySpoil false
      ∧ receptionInstr 5 (Vec.ofFn fun _ => none) [] (lineBits (encodeFrame 2 .sampleCall)) false
        = .sampleCallAccepted 2 (Vec.ofFn fun _ => none) []
      ∧ receptionInstr 5 (Vec.ofFn fun _ => none) [] (lineBits (encodeFrame 5 .sampleCall)) false
        = .duplicateStationFrame .sampleCall := by decide +kernel

/-- R195: a period that ends in the middle of a byte; R210: STRAP 2 is the most significant. -/
theorem test_select_and_straps :
    readSelect (byteBits 0x1D#8 ++ [true]) = ([0x1D#8], true)
      ∧ strapNumber true false false = 4 := by decide

/-! ## Paths (2.4.1, 2.5.1, 2.7.1) and cells (3.1.1) -/

theorem test_profile_full :
    profile 10000 1000 250 = [250, 500, 750, 1000, 1000, 1000, 1000, 1000, 1000, 1000, 750, 500, 250] := by
  decide +kernel

theorem test_profile_triangular :
    profile 4999 1000 250 = [250, 500, 750, 1000, 999, 750, 500, 250] := by decide +kernel

theorem test_profile_remainder :
    profile 5000 600 250 = [250, 500, 600, 600, 600, 600, 500, 600, 500, 250] := by decide +kernel

theorem test_profile_probing : rampSteps 200000 200 250 = 1 ∧ cruisePeriods 200000 200 250 = 998
    ∧ profileLength 200000 200 250 = 1000 ∧ profileLength 5000 200 250 = 25
    ∧ profileEntry 200000 200 250 901 = 200 := by decide +kernel

/-- Start and target of the manual's worked interpolation. -/
def workedStart : V3 Int := ⟨30000000, 15000000, 2000000⟩
/-- See workedStart. -/
def workedTarget : V3 Int := ⟨30007000, 15000000, 2007141⟩

theorem test_path_length : pathLength workedStart workedTarget = 10000
    ∧ pathLength workedStart workedStart = 0 := by decide +kernel

theorem test_interpolation :
    ([250, 750, 1500, 2500, 5500, 9250, 10000].map (pathPoint workedStart workedTarget 10000))
      = [⟨30000175, 15000000, 2000179⟩, ⟨30000525, 15000000, 2000536⟩, ⟨30001050, 15000000, 2001071⟩,
         ⟨30001750, 15000000, 2001785⟩, ⟨30003850, 15000000, 2003928⟩, ⟨30006475, 15000000, 2006605⟩,
         workedTarget] := by decide +kernel

/-- The worked cells 4, 5 and 12 with the guard band of 3.1.1; the other cells lie elsewhere. -/
def workedCells : Block := { Block.absent with
  guardBand := 500000
  cells := Vec.ofFn fun c =>
    if c = 4 then ⟨20000000, 30000000, 10000000⟩
    else if c = 5 then ⟨30000000, 40000000, 10000000⟩
    else if c = 12 then ⟨20000000, 40000000, 25000000⟩
    else ⟨70000000, 70000001, 40000000⟩ }

theorem test_need_and_rest_sets :
    needSet workedCells ⟨28000000, 5000000, 8000000⟩ ⟨31000000, 5000000, 12000000⟩ = 0x30#20
    ∧ restSet workedCells ⟨28000000, 5000000, 8000000⟩ = 0#20
    ∧ restSet workedCells ⟨31000000, 5000000, 12000000⟩ = 0x20#20 := by decide +kernel

/-- R51: a cell that ends where the X travel begins is in no need set, however wide the guard band. -/
theorem test_cell_outside_the_travel :
    let cfg (lo hi : Int) : Block := { Block.absent with
      guardBand := 500000, cells := Vec.ofFn fun _ => ⟨lo, hi, 0⟩ }
    restSet (cfg (-10) 0) ⟨0, 0, 1⟩ = 0#20 ∧ restSet (cfg (-10) 1) ⟨0, 0, 1⟩ = CellSet.all
      ∧ restSet (cfg 80000001 80000002) ⟨80000000, 0, 1⟩ = 0#20
      ∧ restSet (cfg 80000000 80000002) ⟨80000000, 0, 1⟩ = CellSet.all := by decide +kernel

/-! ## Sampling (6.1.1) and correction (8.2, 8.6) -/

/-- Channel 4 of the worked sampling, with a window and its reading. -/
def workedChannel (w : List Int) (r : Int) : Channel :=
  { kind := some .part, shared := true, state := .valid, window := w, reading := some r,
    invalidRun := 0, last := some r }

theorem test_sampling_clamps : (workedChannel [2168, 2171, 2170, 2172] 2170).take (some 2400)
      = workedChannel [2171, 2170, 2172, 2220] 2183 := by decide +kernel

theorem test_sampling_rounds_half_away :
    (workedChannel [2170, 2172, 2220, 2233] 2199).take (some 2400)
      = workedChannel [2172, 2220, 2233, 2249] 2219 := by decide +kernel

theorem test_sampling_open : (workedChannel [2220, 2233, 2249, 2269] 2243).take none
    = { workedChannel [2220, 2233, 2249, 2269] 2243 with state := .holding, invalidRun := 1 } := by
  decide +kernel

theorem test_scale_stage_rounds : scaleStage 20000000 1025 1990 = 19999979 := by decide +kernel

/-- Set A of the worked case, with its touch count. -/
def workedSet (n : Nat) : QualSet :=
  { valid := true, offset := ⟨-1250000, -350000, 1100000⟩, radius := 15000, qualTemp := 2050,
    limit := 2000, count := n }

/-- The snapshot of the worked case. -/
def workedSnap : Snapshot :=
  { temps := ⟨[⟨2250, .none⟩, ⟨2200, .none⟩, ⟨2150, .none⟩, ⟨2200, .none⟩, ⟨2180, .none⟩], rfl⟩
    datum := ⟨10000000, 2000000, 0⟩, partCoeff := 2300 }

/-- The latch of the worked case. -/
def workedLatch : Latch :=
  { tag := 42, counts := ⟨25000000, 12000000, 8000000⟩, ident := 0x0207, bank := .a,
    set := workedSet 1208, delta := ⟨-200000, 0, 0⟩, len := 200000, snap := workedSnap }

/-- The block of the worked case. -/
def workedBlock : Block := { Block.absent with scaleCoeffs := ⟨1050, 1050, 1050⟩, qualBand := 100 }

theorem test_worked_point :
    (touchRecord workedBlock workedLatch).point = some ⟨23735087, 11649852, 9099749⟩ := by
  decide +kernel

theorem test_worked_tags : (touchRecord workedBlock workedLatch).suspect
      = { fixed := false, backup := false, held := false, due := false, band := true }
    ∧ (touchRecord workedBlock { workedLatch with set := workedSet 2001 }).suspect.due = true := by
  decide +kernel

theorem test_hold_flag : holdAfter 8 3 7 8 false = true ∧ holdAfter 8 3 8 7 true = true
    ∧ holdAfter 8 3 7 6 true = true ∧ holdAfter 8 3 6 5 true = false ∧ holdAfter 0 0 63 64 false = false
    := by decide

/-! ## States for the tests -/

/-- A configuration: cell c over X from 100c to 100c + 100 with Z threshold 50. -/
def block : Block := { Block.absent with
  cells := Vec.ofFn fun c => ⟨100 * (c.val : Int), 100 * (c.val : Int) + 100, 50⟩
  slots := Vec.ofFn fun k => ⟨⟨100 * (k.val : Int), 500, 40⟩, ⟨100 * (k.val : Int), 600, 40⟩⟩
  soft := ⟨⟨0, 2000⟩, ⟨0, 1000⟩, ⟨0, 1000⟩⟩
  refFeed := 500
  refValues := ⟨0, 5000, 0⟩
  rapidMax := 1000
  probingMax := 500
  dockMax := 500
  accel := 250
  followLimit := 2000
  band := 20
  backOff := 5000
  holdLevel := 8
  hysteresis := 3
  waitLimit := 5
  yieldLimit := 5 }

/-- An axis at rest at a count. -/
def rest (x : Int) : AxisChan :=
  { scale := x, referenced := true, mode := .idle, setpoint := x, lower := false, upper := false,
    ready := true, enable := true }

/-- Station 5, ACTIVE, ON, motion IDLE, every axis referenced, no cell held. -/
def idle : State := { State.reset with
  clock := 10000
  station := { number := 5, state := .active, config := some block,
               assembly := { content := [], next := 0 } }
  axes := { chan := ⟨rest 150, rest 10, rest 10⟩, retracted := true }
  link := { State.reset.link with state := .on } }

/-- The station with its motion state and its move queue set. -/
def moving (m : MotionState) (q : List Segment) : State :=
  idle.setMotion { idle.motion with state := m, queue := q }

/-- A segment from (150, 10, 10) along X to 1150. -/
def seg (k : SegKind) (st : SegState) : Segment :=
  { newSegment (some 42) k ⟨1150, 10, 10⟩ 1000 with
    geom := some { start := ⟨150, 10, 10⟩, len := 1000, need := 0 }, state := st }

/-- A cell in a state. -/
def cellIn (st : CellState) : CellEntry := { CellEntry.reset with state := st }

/-- A station with one cell in a state. -/
def withCell (s : State) (c : Cell) (e : CellEntry) : State :=
  s.setZone { s.zone with cells := s.zone.cells.set c e }

/-- Probe 0207h on the arm with the worked set in bank A. -/
def carrying (s : State) : State := s.setProbes { s.probes with
  library := [{ ident := 0x0207, setA := workedSet 1207, setB := emptySet }]
  current := .known 0x0207
  seated := true }

/-- The station with a claim record. -/
def claiming (c : Claim) (s : State) : State := s.setZone { s.zone with claim := some c }

/-- A CLAIMING claim on cell 3 under number 9. -/
def claim9 : Claim :=
  { number := some 9, cells := 8, waitingState := false, waiting := 0, made := 9000, timeout := false,
    owner := .head, orphan := false }

/-- A WAITING claim on cell 3. -/
def waiting9 : Claim := { claim9 with waitingState := true, waiting := 8 }

/-- The station with a settle window of a claim open. -/
def withWindow (p : Station) (s : State) : State :=
  s.setZone { s.zone with windows := [{ station := p, number := 9, since := 9999 }] }

/-- The station with a transmit list. -/
def listing (l : List TxEntry) (s : State) : State := s.setLink { s.link with list := l }

/-- A frame being sent. -/
def sent (f : TxFrame) (n : Nat) : TxEntry := { frame := f, attempts := n, sending := true }

/-- A frame pending. -/
def held (f : TxFrame) : TxEntry := { frame := f, attempts := 0, sending := false }

/-- A peer heard of, lost or not. -/
def withPeer (p : Station) (lost : Bool) (r : Option Report) (s : State) : State :=
  let e : Peer := { lost := lost, lastHeard := 8000, report := r }
  s.setPeers { s.peers with entries := s.peers.entries.set p (some e) }

/-- A change to 0207h in slot 2 with the drop slot 3, in a phase. -/
def changing (ph : Phase) (s : State) : State :=
  (s.setMotion { s.motion with state := .changing }).setProbes { s.probes with
    change := some { target := 0x0207, pick := some 2, drop := some 3, phase := ph, abort := false,
                     failure := none, seatDue := some 10300 } }

/-- A record without a point. -/
def record (n : Nat) : PointRecord :=
  { sequence := BitVec.ofNat 16 n
    raw := { tag := 42, point := none, ident := 0x0207, bank := .a, temps := workedSnap.values,
             suspect := { fixed := false, backup := false, held := false, due := false, band := false } } }

/-- The station with this many point records. -/
def withRecords (n : Nat) (s : State) : State :=
  s.setPoints { s.points with records := (List.range n).map record }

/-- The station with a reference of an axis in progress. -/
def referencing (r : RefRun) : State :=
  let s := idle.setMotion { idle.motion with state := .referencing, reference := some r }
  s.setAxis r.axis { s.axis r.axis with mode := .moving, referenced := false }

/-- The station in CONFIG. -/
def inConfig (next : Nat) (content : List Byte) : State :=
  State.reset.setStation { State.reset.station with assembly := { content := content, next := next } }

theorem forall_axis {p : Axis → Prop} : (∀ a, p a) ↔ p .x ∧ p .y ∧ p .z :=
  ⟨fun h => ⟨h .x, h .y, h .z⟩, fun h a => by cases a; exacts [h.1, h.2.1, h.2.2]⟩

/-- The state after a command. -/
def after (c : Instr) (s : State) : State :=
  match exec c s with
  | .next t => t
  | .fault _ => s
  | .refused _ => s

/-! ## Witnesses: start-up and the host port -/

theorem witness_step_front :
    (idle.setPending [.lineIdle, .replyShiftOut]).pending = .lineIdle :: [.replyShiftOut]
    ∧ idle.pending = [] := by decide

theorem witness_configure_part : (inConfig 15 []).station.state = .config ∧ 15 < 16
    ∧ 15 = (inConfig 15 []).station.assembly.next ∧ (List.replicate 58 0#8).length = 58 := by decide

theorem witness_configure_refused :
    3 ≤ [0#8, 17#8, 0#8].length ∧ idle.station.state ≠ .config
    ∧ (one 5 ++ one 17 ++ List.replicate 58 0#8).length = 60
    ∧ field 0 1 (one 5 ++ one 17 ++ List.replicate 58 0#8) ≠ 0
    ∧ field 0 1 (one 5 ++ one 17 ++ List.replicate 58 0#8) ≠ (inConfig 4 []).station.assembly.next
    ∧ 16 < field 0 1 (one 17 ++ one 17 ++ List.replicate 5 0#8) := by decide +kernel

/-- The first 931 bytes of a block with every field in range. -/
def blockBody : List Byte :=
  (List.replicate 20 (beBytes 4 0 ++ beBytes 4 1 ++ beBytes 4 0)).flatten ++ List.replicate 580 0#8
    ++ (List.replicate 3 (beBytes 4 0 ++ beBytes 4 1)).flatten ++ beBytes 2 1 ++ List.replicate 12 0#8
    ++ (List.replicate 4 (beBytes 2 1)).flatten ++ beBytes 4 1 ++ List.replicate 14 0#8
    ++ (List.replicate 8 [6#8, 0#8]).flatten ++ List.replicate 29 0#8 ++ [1#8, 60#8]

/-- 931 bytes with a number in the place of their CRC. -/
def withCrc (body : List Byte) (n : Nat) : List Byte := body ++ beBytes 2 n

/-- The block with the last field, the yield limit, one above its range. -/
def badBody : List Byte := blockBody.take 930 ++ [61#8]

theorem witness_last_part (b : List Byte) :
    (inConfig 16 (b.take 928)).station.state = .config
    ∧ (inConfig 16 (b.take 928)).station.assembly.next = 16 := ⟨rfl, rfl⟩

theorem crc_field {body : List Byte} (h : body.length = 931) (n : Nat) :
    crc16 ((withCrc body n).take 931) = crc16 body ∧ field 931 2 (withCrc body n) = n % 65536
    ∧ ((withCrc body n).drop 928).length = 5 := by
  refine ⟨by simp [withCrc, ← h], ?_, by simp [withCrc, h]⟩
  simp [field, withCrc, slice_tail h (length_beBytes 2 n), beNat_beBytes]

theorem witness_last_part_crc {body : List Byte} (h : body.length = 931) :
    (crc16 ((withCrc body (crc16 body).toNat).take 931)).toNat
      = field 931 2 (withCrc body (crc16 body).toNat)
    ∧ (crc16 ((withCrc body ((crc16 body).toNat + 1)).take 931)).toNat
      ≠ field 931 2 (withCrc body ((crc16 body).toNat + 1)) := by
  have l : (crc16 body).toNat < 65536 := (crc16 body).isLt
  rw [(crc_field h _).1, (crc_field h _).2.1, (crc_field h _).1, (crc_field h _).2.1]
  omega

theorem witness_last_part_good : blockBody.length = 931
    ∧ firstBadField (withCrc blockBody (crc16 blockBody).toNat) = none := by decide +kernel

theorem witness_last_part_bad_field : badBody.length = 931
    ∧ firstBadField (withCrc badBody (crc16 badBody).toNat) = some 17 := by decide +kernel

/-- The station in CONFIG with a block accepted. -/
def configured : State :=
  State.reset.setStation { State.reset.station with config := some block }

theorem witness_start : configured.station.state = .config ∧ configured.station.config.isSome
    ∧ configured.zone.windows = [] ∧ idle.station.state ≠ .config ∧ State.reset.station.config = none := by
  decide

/-- Stopped in CONFIG, motion is HELD, and START leaves it IDLE (R48, R50). -/
theorem test_start_after_stop :
    (after (.stop []) configured).motion.state = .held
      ∧ (after (.start []) (after (.stop []) configured)).motion.state = .idle
      ∧ (after (.start []) (after (.stop []) configured)).station.state = .joining := by decide +kernel

theorem witness_wrong_length :
    hostInstr Pins.low 0x05#8 (List.replicate 16 0#8) = some (.queueMove (List.replicate 16 0#8))
    ∧ commandLength (0x05#8).toNat = some (17, 17) ∧ (List.replicate 16 0#8).length < 17
    ∧ hostInstr Pins.low 0x01#8 (List.replicate 61 0#8) = some (.configure (List.replicate 61 0#8))
    ∧ commandLength (0x01#8).toNat = some (3, 60) ∧ 60 < (List.replicate 61 0#8).length := by decide

theorem witness_host_frame : (List.replicate 60 0#8).length ≤ 60 ∧ 1 ≤ (0x01#8).toNat
    ∧ (0x22#8).toNat ≤ 0x22 := by decide

theorem witness_failed_frame : [1#8, 2#8] ≠ [] ∧ [1#8, 2#8].length < 3
    ∧ 60 < ([1#8, 61#8, 0#8].getD 1 0).toNat
    ∧ checkHostFrame [0x06#8, 0#8, 0#8] false = some .check
    ∧ checkHostFrame (encodeHostFrame 0x23#8 []) false = some .unknownCode
    ∧ checkHostFrame (encodeHostFrame 0x06#8 []) true = some .byteCount := by decide +kernel

theorem witness_read_peer (r : Option Report) (l : Bool) :
    State.reset.peer 2 = none ∧ (withPeer 2 l r idle).peer 2 = some ⟨l, 8000, r⟩ := by
  constructor <;> rfl

theorem witness_read_probe : validIdent 0x0207 = true
    ∧ (carrying idle).entry 0x0207 = some ⟨0x0207, workedSet 1207, emptySet⟩ := by decide

theorem witness_points_listed : idle.points.records = []
    ∧ (withRecords 2 idle).points.records = record 0 :: [record 1] ∧ 16 ≤ (16#8).toNat
    ∧ (withRecords 2 idle).points.hold = false := by decide

theorem witness_acknowledge : State.reset.events.pending &&& 1#20 = 0#20
    ∧ (raiseReady State.reset).events.pending &&& 1#20 ≠ 0#20 := by decide

/-! ## Witnesses: axes and motion -/

theorem witness_scale_count : -2147483648 ≤ (idle.axis .x).scale + 1
    ∧ (idle.axis .x).scale + 1 ≤ 2147483647
    ∧ 2147483647 < ((idle.setAxis .x (rest 2147483647)).axis .x).scale + 1
    ∧ ((idle.setAxis .x (rest (-2147483648))).axis .x).scale + -1 < -2147483648 := by decide

theorem witness_scale_fault : (idle.axis .x).mode = .idle ∧ (idle.axis .x).referenced = true
    ∧ idle.motion.state ≠ .faulted ∧ (State.reset.axis .x).mode = .off := by decide

theorem witness_fault_stop : (moving .faulted []).motion.state = .faulted
    ∧ (moving .running [seg .rapid .running]).motion.state ≠ .faulted
    ∧ (moving .running [seg .rapid .running]).flying.isSome
    ∧ (changing .picking idle).motion.state = .changing := by decide

theorem witness_reference_allowed : idle.motion.state = .idle ∧ (∀ b, (idle.axis b).mode = .idle)
    ∧ idle.motion.queue = [] ∧ idle.axes.retracted = true
    ∧ (moving .held []).motion.state ≠ .idle := by
  simp only [forall_axis]; decide

/-- A reference of Y in progress. -/
def run (marked stopping : Bool) : RefRun :=
  { axis := .y, k := 4, vel := 250, marked := marked, stopping := stopping }

theorem witness_reference : (referencing (run false false)).motion.state = .referencing
    ∧ (referencing (run false false)).motion.reference = some (run false false)
    ∧ fits32 (((referencing (run false false)).axis .y).setpoint
        + ((referencing (run false false)).cfg.refValues.get .y
          - ((referencing (run false false)).axis .y).scale)) = true
    ∧ (run true false).vel ≤ (referencing (run true false)).cfg.accel
    ∧ (run false true).vel ≤ (referencing (run false true)).cfg.accel
    ∧ ((referencing (run true false)).setAxis .x
        { rest 0 with referenced := false }).axis .x = { rest 0 with referenced := false } := by decide

/-- A reference with the other axes referenced and cell 3 owed to station 1. -/
def lastReference : State := withCell (withCell (referencing (run true false)) 1 (cellIn (.held 5))) 3
  { cellIn (.held 5) with owed := some { waiter := 1, since := 9000, overstayed := false } }

theorem witness_reference_hand_over : lastReference.motion.reference = some (run true false)
    ∧ (∀ b, b ≠ (run true false).axis → (lastReference.axis b).referenced = true)
    ∧ lastReference.motion.queue = [] ∧ lastReference.calm
    ∧ CellSet.minus lastReference.heldSet (restSet lastReference.cfg lastReference.setpoints)
        ||| lastReference.owedSet = 0xA#20
    ∧ lastReference.link.state = .on ∧ lastReference.link.list.length < 8
    ∧ (∀ e ∈ lastReference.link.list, e.frame.kind ≠ .release) := by
  simp only [forall_axis, State.calm]; decide +kernel

theorem witness_reference_period (marked stopping : Bool) :
    (referencing (run marked stopping)).motion.queue = []
    ∧ (∀ a, ((referencing (run marked stopping)).axis a).mode = .idle
        ∨ ((referencing (run marked stopping)).axis a).mode = .moving)
    ∧ (referencing (run marked stopping)).quiet quiet
    ∧ (∀ vel : Nat, vel ≤ 500 → fits32 (((referencing (run marked stopping)).setpoints.set .y
          (((referencing (run marked stopping)).axis .y).setpoint - (vel : Nat))).get .y) = true
        ∧ (referencing (run marked stopping)).follows ((referencing (run marked stopping)).setpoints.set .y
          (((referencing (run marked stopping)).axis .y).setpoint - (vel : Nat)))) := by
  refine ⟨rfl, ?_, ⟨?_, rfl⟩, fun vel h => ⟨?_, ?_⟩⟩
  · simp only [forall_axis]; decide +revert
  · simp only [forall_axis]; decide
  · show fits32 (10 - (vel : Int)) = true
    simp only [fits32, minCount, maxCount, Bool.and_eq_true]
    constructor <;> (apply decide_eq_true; omega)
  · intro a
    cases a
    · show (150 - 150 : Int).natAbs ≤ 2000; decide
    · show ((10 - (vel : Int)) - 10).natAbs ≤ 2000; omega
    · show (10 - 10 : Int).natAbs ≤ 2000; decide

/-- R16: in period 5 the velocity is min(F_ref, 5·A) = 500; R17: after the mark it falls by A. -/
theorem test_reference_periods :
    (after (.motionPeriod quiet []) (referencing (run false false))).setpoints = ⟨150, -490, 10⟩
      ∧ (after (.motionPeriod quiet []) (referencing { run true false with vel := 500 })).setpoints
        = ⟨150, -240, 10⟩ := by decide +kernel

/-- FAULTED with an axis as given. -/
def faulted (x : AxisChan) : State := (moving .faulted []).setAxis .x x

theorem witness_clear_fault : idle.motion.state ≠ .faulted
    ∧ ((faulted { rest 0 with lower := true }).axis .x).lower = true
    ∧ ((faulted { rest 0 with ready := false }).axis .x).ready = false
    ∧ ∀ a, ((faulted (rest 0)).axis a).lower = false ∧ ((faulted (rest 0)).axis a).upper = false
        ∧ ((faulted (rest 0)).axis a).ready = true := by
  simp only [forall_axis]; decide

theorem witness_path : (0 : Nat) < 10000 ∧ 9999 ≤ 10000
    ∧ (∀ a, fits32 (workedStart.get a) = true ∧ fits32 (workedTarget.get a) = true)
    ∧ (workedTarget.x - workedStart.x).natAbs ≤ 80000000 := by
  simp only [forall_axis]; decide

theorem witness_ramp :
    2 * ((List.range 4).map fun i => min 1000 ((i + 1) * 250)).sum ≤ 5000
    ∧ 4999 < 2 * ((List.range 4).map fun i => min 1000 ((i + 1) * 250)).sum := by decide

/-- A RAPID with some of its profile sent. -/
def running (k d : Nat) : Segment := { seg .rapid .running with sent := k, dist := d }

/-- The station with every axis MOVING along a segment. -/
def onTheMove (g : Segment) : State := (moving .running [g]).setModes .moving

theorem witness_motion_period (k d : Nat) :
    (onTheMove (running k d)).motion.state = .running
    ∧ (onTheMove (running k d)).motion.queue = running k d :: [] ∧ (running k d).state = .running
    ∧ (running k d).decel = none
    ∧ (running k d).geom = some { start := ⟨150, 10, 10⟩, len := 1000, need := 0 }
    ∧ (∀ a, ((onTheMove (running k d)).axis a).mode = .moving)
    ∧ (onTheMove (running k d)).quiet quiet := by
  refine ⟨rfl, rfl, rfl, rfl, rfl, ?_, ?_, rfl⟩ <;> (intro a; cases a) <;> first | rfl | exact ⟨rfl, rfl, rfl⟩

/-- A segment in a STOP deceleration that goes on. -/
def decelerating : Segment := { running 3 750 with decel := some 600 }

theorem witness_stop_period : (onTheMove decelerating).motion.queue = decelerating :: []
    ∧ decelerating.state = .running ∧ decelerating.decel = some 600
    ∧ decelerating.geom = some { start := ⟨150, 10, 10⟩, len := 1000, need := 0 }
    ∧ (onTheMove decelerating).cfg.accel < 600
    ∧ (onTheMove decelerating).follows (pathPoint ⟨150, 10, 10⟩ ⟨1150, 10, 10⟩ 1000
        (min 1000 (750 + (600 - 250)))) := by
  simp only [State.follows, forall_axis]; decide +kernel

theorem witness_motion_period_values :
    profileLength 1000 1000 250 = 3
    ∧ ∀ a, ((pathPoint ⟨150, 10, 10⟩ ⟨1150, 10, 10⟩ 1000 (750 + profileEntry 1000 1000 250 3)).get a
        - ((onTheMove (running 2 750)).axis a).scale).natAbs
          ≤ (onTheMove (running 2 750)).cfg.followLimit := by
  simp only [forall_axis]; decide +kernel

theorem test_motion_period_first :
    (after (.motionPeriod quiet []) (onTheMove (running 0 0))).setpoints = ⟨400, 10, 10⟩ := by
  decide +kernel

theorem test_motion_period_last :
    (after (.motionPeriod quiet []) (onTheMove (running 2 750))).motion.queue.map (·.state)
      = [.settling] := by decide +kernel

/-- A PROBE touched at path distance 600; sent: the frozen setpoints have been sent again. -/
def touchedAt600 (sent : Bool) : Segment :=
  { seg .probe .touched with dist := 600, touchedAt := some 600, resent := sent }

/-- Periods 902 and 903 of the worked probing segment (2.7.1): TOUCHED, then RETRACTING. -/
theorem test_touched_lasts_a_period :
    (after (.motionPeriod quiet []) (onTheMove (touchedAt600 false))).motion.queue.map (·.state)
      = [.touched]
    ∧ (after (.motionPeriod quiet []) (onTheMove (touchedAt600 true))).motion.queue.map (·.state)
      = [.retracting]
    ∧ (after (.motionPeriod quiet []) (onTheMove (touchedAt600 true))).setpoints = ⟨500, 10, 10⟩ := by
  decide +kernel

/-- R36, R37: touched in period p = 9998 with a back-off of 0, TOUCHED to the end of period 9999 and SETTLING from
then on, the segment times out with period p + 501 = 10499. -/
theorem test_zero_back_off_times_out :
    let touched := onTheMove { touchedAt600 false with dist := 0, touchedAt := some 0 }
    let t := after (.motionPeriod quiet []) (touched.setClock 9998)
    let u := after (.motionPeriod quiet []) t
    t.motion.queue.map (·.state) = [.touched] ∧ t.clock = 9999
      ∧ u.motion.queue.map (·.state) = [.settling]
      ∧ u.motion.queue.map (·.settleSince + 500) = [10499] := by decide +kernel

/-- A PROBE in its back-off from path distance 600. -/
def retractingFrom600 : Segment := { touchedAt600 true with state := .retracting }

theorem witness_back_off_periods (g : Segment) (h : g = touchedAt600 false ∨ g = retractingFrom600) :
    (onTheMove g).motion.state = .running ∧ (onTheMove g).motion.queue = g :: []
    ∧ (∀ a, ((onTheMove g).axis a).mode = .moving)
    ∧ quiet.seated = (onTheMove g).probes.seated ∧ g.decel = none
    ∧ g.geom = some { start := ⟨150, 10, 10⟩, len := 1000, need := 0 } ∧ g.touchedAt = some 600 := by
  refine ⟨rfl, rfl, ?_, rfl, ?_, ?_, ?_⟩
  · intro a; cases a <;> rfl
  all_goals rcases h with rfl | rfl <;> rfl

theorem witness_back_off_values :
    (touchedAt600 false).resent = false ∧ profileLength 600 1000 250 = 3
    ∧ (∀ a, ((onTheMove retractingFrom600).setpoints.get a
        - ((onTheMove retractingFrom600).axis a).scale).natAbs
          ≤ (onTheMove retractingFrom600).cfg.followLimit)
    ∧ ∀ a, ((pathPoint ⟨150, 10, 10⟩ ⟨1150, 10, 10⟩ 1000 (600 - (0 + profileEntry 600 1000 250 1))).get a
        - ((onTheMove retractingFrom600).axis a).scale).natAbs
          ≤ (onTheMove retractingFrom600).cfg.followLimit := by
  simp only [forall_axis]; decide +kernel

theorem witness_back_off_begins : (touchedAt600 true).resent = true ∧ (touchedAt600 true).decel = none
    ∧ (touchedAt600 true).geom = some { start := ⟨150, 10, 10⟩, len := 1000, need := 0 }
    ∧ (touchedAt600 true).touchedAt = some 600 ∧ (touchedAt600 true).back = 0
    ∧ (touchedAt600 true).backSent = 0 ∧ (onTheMove (touchedAt600 true)).quiet quiet
    ∧ min (onTheMove (touchedAt600 true)).cfg.backOff 600 ≠ 0
    ∧ (onTheMove (touchedAt600 true)).follows
        (pathPoint ⟨150, 10, 10⟩ ⟨1150, 10, 10⟩ 1000 (600 - profileEntry 600 1000 250 1))
    ∧ min (onTheMove { touchedAt600 true with touchedAt := some 0 }).cfg.backOff 0 = 0
    ∧ (onTheMove { touchedAt600 true with touchedAt := some 0 }).follows
        (onTheMove { touchedAt600 true with touchedAt := some 0 }).setpoints := by
  simp only [State.quiet, State.follows, forall_axis]; decide +kernel

theorem witness_settling_period : (seg .rapid .settling).state = .settling
    ∧ (onTheMove (seg .rapid .settling)).motion.queue = seg .rapid .settling :: []
    ∧ (∀ a, ((onTheMove (seg .rapid .settling)).axis a).mode = .moving)
    ∧ (onTheMove (seg .rapid .settling)).quiet quiet
    ∧ (onTheMove (seg .rapid .settling)).follows (onTheMove (seg .rapid .settling)).setpoints := by
  simp only [State.quiet, State.follows, forall_axis]; decide +kernel

theorem witness_limit_switch : (idle.axis .z).mode = .idle ∧ idle.motion.state ≠ .faulted
    ∧ ({ quiet with upper := ⟨false, false, true⟩ } : Samples).upper.get .z = true
    ∧ ({ quiet with ready := ⟨true, true, false⟩ } : Samples).ready.get .z = false
    ∧ [Watch.limit .z].head? = some (.limit .z) ∧ [Watch.drive .z].head? = some (.drive .z) := by decide

theorem witness_following :
    idle.flying = none ∧ idle.motion.state ≠ .referencing
    ∧ (let s := idle.setAxis .x { rest 150 with setpoint := 2151 }
       s.cfg.followLimit < (s.setpoints.get .x - (s.axis .x).scale).natAbs)
    ∧ (let s := (onTheMove (running 0 0)).setAxis .x { rest (-1601) with setpoint := 150 }
       (s.axis .x).mode = .idle ∧ s.motion.queue = running 0 0 :: []
       ∧ s.cfg.followLimit < ((pathPoint ⟨150, 10, 10⟩ ⟨1150, 10, 10⟩ 1000
            (0 + profileEntry 1000 1000 s.cfg.accel 1)).get .x - (s.axis .x).scale).natAbs) := by
  decide +kernel

theorem witness_seated :
    ({ quiet with seated := true } : Samples).seated ≠ idle.probes.seated
    ∧ (changing .goingToDrop (carrying idle)).motion.state = .changing
    ∧ (changing .goingToDrop (carrying idle)).probes.change.map (·.phase) = some .goingToDrop
    ∧ quiet.seated ≠ (changing .goingToDrop (carrying idle)).probes.seated
    ∧ (carrying (moving .running [seg .probe .running])).flying.isSome = true
    ∧ (carrying (moving .running [seg .probe .running])).probes.change = none
    ∧ quiet.seated ≠ (carrying (moving .running [seg .probe .running])).probes.seated
    ∧ quiet.seated ≠ (carrying idle).probes.seated ∧ (carrying idle).flying = none := by decide

theorem witness_queue_move_refused :
    ([(decide ((1 : Nat) < 2 ∨ (1 : Nat) = 0), Code.outOfRange)].find? (·.1)) = some (true, .outOfRange)
    ∧ (∀ a, fits32 ((⟨0, 0, 0⟩ : V3 Int).get a) = true) ∧ State.reset.station.state ≠ .active
    ∧ 16 ≤ (moving .running (List.replicate 16 (seg .rapid .queued))).motion.queue.length
    ∧ ¬ (1000 : Int) ≥ 1001 := by
  simp only [forall_axis]; decide

theorem witness_queue_move_joins : (moving .held []).motion.state ≠ .idle
    ∧ moveRefusal (some .probe) ⟨2000, 1000, 0⟩ 65535 (moving .held []) = none
    ∧ moveRefusal (some .rapid) ⟨0, 0, 1000⟩ 1 (moving .running [seg .rapid .running]) = none := by
  decide +kernel

theorem witness_rapid_starts : 0 < 1000 ∧ 1000 ≤ idle.cfg.rapidMax
    ∧ (∀ a, fits32 ((⟨1150, 10, 10⟩ : V3 Int).get a) = true) ∧ idle.station.state = .active
    ∧ (∀ a, (idle.axis a).referenced = true) ∧ idle.motion.queue = [] ∧ idle.motion.state = .idle
    ∧ idle.calm ∧ idle.inSoftLimits ⟨1150, 10, 10⟩ = true
    ∧ CellSet.minus (needSet idle.cfg idle.setpoints ⟨1150, 10, 10⟩) idle.heldSet = 0#20
    ∧ profileLength (pathLength idle.setpoints ⟨1150, 10, 10⟩) 1000 idle.cfg.accel ≠ 0 := by
  simp only [forall_axis, State.calm]; decide +kernel

theorem witness_rapid_claims :
    CellSet.minus (needSet idle.cfg idle.setpoints ⟨250, 10, 51⟩) idle.heldSet = 0x6#20
    ∧ idle.inSoftLimits ⟨250, 10, 51⟩ = true ∧ idle.link.state = .on ∧ idle.deferred = 0#20
    ∧ idle.link.list.length < 8 := by decide +kernel

/-- An idle station that carries a probe, the hold flag as given. -/
def holding (b : Bool) : State :=
  let s := carrying idle
  s.setPoints { s.points with hold := b }

theorem witness_probe_head (b : Bool) : 500 ≤ (holding b).cfg.probingMax
    ∧ (holding b).station.state = .active ∧ (∀ a, ((holding b).axis a).referenced = true)
    ∧ (holding b).motion.queue = [] ∧ (holding b).motion.state = .idle ∧ (holding b).calm
    ∧ (holding b).inSoftLimits ⟨1150, 10, 10⟩ = true ∧ (⟨1150, 10, 10⟩ : V3 Int) ≠ (holding b).setpoints
    ∧ CellSet.minus (needSet (holding b).cfg (holding b).setpoints ⟨1150, 10, 10⟩) (holding b).heldSet
        = 0#20
    ∧ (holding b).probeUsable = true ∧ (holding b).points.hold = b ∧ idle.probeUsable = false
    ∧ profileLength (pathLength (holding b).setpoints ⟨1150, 10, 10⟩) 500 (holding b).cfg.accel ≠ 0 := by
  simp only [forall_axis, State.calm]; cases b <;> decide +kernel

/-- A PROBE to where the arm stands. -/
def standing : Segment := { newSegment (some 42) .probe ⟨150, 10, 10⟩ 500 with state := .queued }

theorem witness_zero_length : (moving .held [standing, seg .rapid .queued]).motion.state = .held
    ∧ standing.state.flying = false ∧ standing.kind = .probe ∧ standing.tag = some 42
    ∧ standing.target = (moving .held [standing, seg .rapid .queued]).setpoints
    ∧ (moving .held [standing, seg .rapid .queued]).calm := by
  simp only [State.calm]; decide

/-- A PROBE waiting for points, with six records and the hold flag set. -/
def waitingForPoints : State :=
  let s := withRecords 6 (carrying (moving .idle [seg .probe .queued]))
  s.setPoints { s.points with hold := true }

theorem witness_fresh_weighing : waitingForPoints.motion.queue = seg .probe .queued :: []
    ∧ CellSet.minus (0#20 : CellSet) waitingForPoints.heldSet = 0#20
    ∧ waitingForPoints.probeUsable = true ∧ waitingForPoints.points.hold = true
    ∧ waitingForPoints.points.records.head? = some (record 0) ∧ waitingForPoints.cfg.holdLevel ≠ 0
    ∧ waitingForPoints.holdCount + waitingForPoints.cfg.hysteresis ≤ waitingForPoints.cfg.holdLevel + 1
    ∧ profileLength 1000 1000 waitingForPoints.cfg.accel ≠ 0 := by decide +kernel

theorem witness_stop_flying : (moving .running [running 1 250]).motion.state = .running
    ∧ (running 1 250).geom.isSome ∧ (running 1 250).tag = some 42 ∧ (running 1 250).decel = none
    ∧ 0 < (running 1 250).sent ∧ (seg .probe .settling).state = .settling
    ∧ (moving .running [seg .probe .settling]).motion.queue = seg .probe .settling :: [] := by decide

theorem witness_stop_and_resume : idle.motion.state = .idle ∧ (moving .held []).motion.state = .held
    ∧ (moving .held []).motion.queue = [] ∧ (moving .held []).calm
    ∧ (referencing (run false false)).motion.state = .referencing := by
  simp only [State.calm]; decide

/-- A segment of a kind SETTLING at the arm's place. -/
def settling (k : SegKind) : Segment := { seg k .settling with target := ⟨170, 10, -10⟩ }

theorem witness_segment_complete : (moving .running [settling .rapid]).motion.state = .running
    ∧ (settling .rapid).state = .settling ∧ (settling .rapid).touchedAt = none
    ∧ (settling .rapid).tag = some 42 ∧ (moving .running [settling .rapid]).calm
    ∧ (moving .running [settling .rapid]).motion.stopPending = false
    ∧ ∀ a, (((moving .running [settling .rapid]).axis a).scale - (settling .rapid).target.get a).natAbs
        ≤ (moving .running [settling .rapid]).cfg.band := by
  simp only [forall_axis, State.calm]; decide

theorem witness_no_contact :
    (carrying (moving .running [settling .probe])).probes.current = .known 0x0207
    ∧ (carrying (moving .running [settling .probe])).entry 0x0207
        = some ⟨0x0207, workedSet 1207, emptySet⟩
    ∧ (carrying (moving .running [settling .probe])).corr.computing = none
    ∧ (carrying (moving .running [settling .probe])).corr.request = none
    ∧ (carrying (moving .running [settling .probe])).probes.latch = none := by decide

/-- A change in a phase with an internal segment of a kind SETTLING in position. -/
def arriving (ph : Phase) (k : SegKind) : State :=
  let s := changing ph idle
  s.setMotion { s.motion with internal := some { settling k with tag := none } }

theorem witness_internal_complete (ph : Phase) (k : SegKind) :
    (arriving ph k).motion.state = .changing
    ∧ (arriving ph k).motion.internal = some { settling k with tag := none }
    ∧ ((arriving ph k).probes.change.map fun c => (c.phase, c.pick, c.drop, c.abort, c.failure))
        = some (ph, some 2, some 3, false, none)
    ∧ (settling k).state = .settling ∧ (settling k).touchedAt = none ∧ (arriving ph k).calm
    ∧ (arriving ph k).motion.queue = [] ∧ (arriving ph k).BankSound
    ∧ ∀ a, (((arriving ph k).axis a).scale - (settling k).target.get a).natAbs
        ≤ (arriving ph k).cfg.band := by
  refine ⟨rfl, rfl, rfl, rfl, rfl, ⟨rfl, rfl, rfl, rfl⟩, rfl, fun h => (by cases h), fun a => ?_⟩
  cases a <;> exact Nat.le_of_ble_eq_true rfl

/-- R152, R153: behind the DOCK of GOING TO DROP the latch is open and DROPPING waits 300 ms. -/
theorem test_dock_to_drop :
    let t := after .segmentComplete (arriving .goingToDrop .dock)
    t.probes.latchOpen = true ∧ t.probes.change.map (fun c => (c.phase, c.seatDue))
      = some (.dropping, some 10300) := by decide +kernel

theorem witness_position_timeout :
    (moving .running [seg .rapid .settling]).cfg.band
      < (((moving .running [seg .rapid .settling]).axis .x).scale - (seg .rapid .settling).target.x).natAbs
    ∧ (seg .rapid .settling).touchedAt = none := by decide

/-- A segment in a STOP deceleration that ends. -/
def stopping : Segment := { running 1 250 with decel := some 250 }

theorem witness_stop_deceleration_end : (moving .running [stopping]).motion.state = .running
    ∧ stopping.state = .running ∧ stopping.decel = some 250
    ∧ 250 ≤ (moving .running [stopping]).cfg.accel ∧ (moving .running [stopping]).calm := by
  simp only [State.calm]; decide

/-! ## Witnesses: touches and points -/

theorem witness_touch_latched : (carrying (moving .running [seg .probe .running])).motion.state = .running
    ∧ (seg .probe .running).kind = .probe ∧ (seg .probe .settling).touchedAt = none
    ∧ (carrying (moving .running [seg .probe .running])).probes.current = .known 0x0207
    ∧ ((carrying (moving .running [seg .probe .running])).entry 0x0207).isSome
    ∧ (carrying (moving .running [seg .probe .running])).probes.latch = none
    ∧ (carrying (moving .running [seg .probe .running])).corr.request = none
    ∧ (carrying (moving .running [seg .probe .running])).corr.computing = none := by decide

theorem witness_touch_other : idle.motion.state ≠ .referencing ∧ idle.flying = none
    ∧ (moving .running [seg .probe .touched]).flying = some (seg .probe .touched)
    ∧ (moving .running [seg .rapid .running]).flying = some (seg .rapid .running)
    ∧ (seg .rapid .running).kind ≠ .probe
    ∧ (moving .running [seg .rapid .running]).motion.state ≠ .faulted := by decide

theorem witness_touch_after_touch :
    (moving .running [retractingFrom600]).flying = some retractingFrom600
    ∧ retractingFrom600.kind = .probe ∧ retractingFrom600.state = .retracting
    ∧ (moving .running [{ touchedAt600 true with state := .settling }]).flying
        = some { touchedAt600 true with state := .settling }
    ∧ (touchedAt600 true).kind = .probe ∧ (touchedAt600 true).touchedAt.isSome := by decide

/-- The Correction Unit with the worked touch in flight. -/
def computing (s : State) : State :=
  s.setCorr { s.corr with computing := some (.touch workedLatch) }

theorem witness_correction_end (n : Nat) :
    (computing (withRecords n idle)).corr.computing = some (.touch workedLatch)
    ∧ (computing (withRecords n idle)).probes.latch = none
    ∧ (computing (withRecords n idle)).corr.request = none := ⟨rfl, rfl, rfl⟩

theorem witness_correction_end_sizes : (computing (withRecords 63 idle)).points.records.length < 64
    ∧ 64 ≤ (computing (withRecords 64 idle)).points.records.length := by decide +kernel

/-- A NO CONTACT request of the worked probe. -/
def missed : NoContact := { tag := 43, ident := 0x0207, bank := .a, qualTemp := 2050, snap := workedSnap }

/-- The worked touch in flight, with latch and request filled in an order. -/
def waitingWork (latch : Bool) (first : Bool) : State :=
  let s := idle.setProbes { idle.probes with latch := if latch then some workedLatch else none }
  s.setCorr { computing := some (.touch workedLatch), request := some missed, requestFirst := first }

theorem witness_waiting_work : (waitingWork true false).probes.latch = some workedLatch
    ∧ (waitingWork true false).corr.requestFirst = false ∧ (waitingWork true true).corr.requestFirst = true
    ∧ (waitingWork false true).probes.latch = none ∧ (waitingWork false true).corr.request = some missed := by
  decide

/-- R164: latch A, then request B, then touch C while A is computed: B comes before C. -/
theorem test_work_in_order :
    let taken := after .correctionEnd (waitingWork true false)
    let later := taken.setProbes { taken.probes with latch := some workedLatch }
    (after .correctionEnd later).corr.computing = some (.noContact missed) := by decide +kernel

theorem witness_due_tag : (65535 : Nat) = 65535 ∧ (workedSet 65535).count ≤ 65535 ∧ (0 : Nat) < 1 := by
  decide

/-! ## Witnesses: zone -/

theorem witness_peer_claim_free : (2 : Station) ≠ idle.own ∧ idle.frames = true ∧ idle.calm
    ∧ idle.deferred = 0#20 ∧ idle.notLost 2 ∧ CellSet.minus 0x80001#20 idle.freeSet = 0#20 := by
  simp only [State.calm, State.notLost]; decide +kernel

theorem witness_peer_claim_not_free :
    CellSet.minus 0x18#20 (withCell idle 3 (cellIn (.held 1))).freeSet ≠ 0#20
    ∧ (withCell idle 3 (cellIn (.held 1))).ownSet &&& 0x18#20 = 0#20
    ∧ (withCell idle 3 (cellIn (.held 1))).calm := by
  simp only [State.calm]; decide +kernel

theorem witness_peer_claim_overlap :
    (withCell idle 19 (cellIn (.held 5))).ownSet &&& 0x80000#20 ≠ 0#20
    ∧ (withCell idle 19 (cellIn (.held 5))).link.state ≠ .deaf
    ∧ (withCell idle 19 (cellIn (.held 5))).link.list.length < 8
    ∧ (withCell idle 19 (cellIn (.held 5))).calm := by
  simp only [State.calm]; decide +kernel

/-- The station holds cell 19, with its link DEAF or its transmit list full. -/
def speechless (deaf : Bool) : State :=
  let s := withCell idle 19 (cellIn (.held 5))
  if deaf then s.setLink { s.link with state := .deaf }
  else listing (List.replicate 8 (held .sampleCall)) s

theorem witness_peer_claim_no_room (deaf : Bool) : (2 : Station) ≠ (speechless deaf).own
    ∧ (speechless deaf).frames = true ∧ (speechless deaf).calm ∧ (speechless deaf).deferred = 0#20
    ∧ (speechless deaf).notLost 2 ∧ (speechless deaf).ownSet &&& 0x80000#20 ≠ 0#20
    ∧ ((speechless deaf).link.state = .deaf ∨ 8 ≤ (speechless deaf).link.list.length)
    ∧ (speechless deaf).motion.state ≠ .faulted := by
  simp only [State.calm, State.notLost]; cases deaf <;> decide +kernel

/-- The station's claim on cell 3, which station 1 has taken. -/
def forestalled : State := withCell (claiming claim9 idle) 3 (cellIn (.claimed 1 9))

theorem witness_own_claim_lost : forestalled.zone.claim = some claim9 ∧ forestalled.frames = true
    ∧ (∀ k, (forestalled.cell k).state ≠ .claimed forestalled.own 9)
    ∧ CellSet.minus claim9.cells forestalled.freeSet = 8#20
    ∧ forestalled.link.state = .on ∧ forestalled.link.list.length < 8
    ∧ (∀ e ∈ forestalled.link.list, e.frame.kind ≠ .wait)
    ∧ forestalled.motion.deferCurrent = none ∧ forestalled.motion.deferHandOver = none := by
  decide +kernel

/-- A change whose internal segment waits for cells, with the join claim in its window. -/
def changingAtJoin : State :=
  let s := changing .goingToPick (claiming { claim9 with cells := CellSet.all, owner := .join } (withWindow 5 idle))
  (s.setMotion { s.motion with internal := some (seg .rapid .waitingZone) }).setZone
    { s.zone with cells := Vec.ofFn fun _ => cellIn (.claimed 5 9) }

theorem witness_join_grant_in_change : changingAtJoin.motion.state = .changing
    ∧ changingAtJoin.motion.internal = some (seg .rapid .waitingZone)
    ∧ (seg .rapid .waitingZone).geom = some { start := ⟨150, 10, 10⟩, len := 1000, need := 0 }
    ∧ changingAtJoin.zone.kept = none ∧ (changingAtJoin.window 5 9).isSome
    ∧ ∀ k, (changingAtJoin.cell k).state = .claimed 5 9 := by decide +kernel

/-- The join claim in its window, cell 2 held and owed, every other cell CLAIMED. -/
def joinClaiming : State :=
  let s := claiming { claim9 with cells := CellSet.all, owner := .join } (withWindow 5 idle)
  withCell (s.setZone { s.zone with cells := Vec.ofFn fun _ => cellIn (.claimed 5 9) }) 2
    { cellIn (.held 5) with owed := some { waiter := 1, since := 9000, overstayed := false } }

theorem witness_join_grant : joinClaiming.zone.claim.map (fun c => (c.owner, c.number, c.waitingState))
      = some (.join, some 9, false)
    ∧ joinClaiming.zone.kept = none ∧ (joinClaiming.window 5 9).isSome
    ∧ (∀ k, (joinClaiming.cell k).state = .held 5 ∨ (joinClaiming.cell k).state = .claimed 5 9)
    ∧ (∀ a, (joinClaiming.axis a).referenced = true) ∧ joinClaiming.motion.queue = []
    ∧ joinClaiming.current = none ∧ joinClaiming.link.state = .on
    ∧ joinClaiming.link.list.length < 8
    ∧ ((joinClaiming.setAxis .x { rest 0 with referenced := false }).axis .x).referenced = false := by
  simp only [forall_axis]; decide +kernel

theorem witness_own_claim : (claiming claim9 idle).zone.claim = some claim9 ∧ claim9.number = some 9
    ∧ claim9.waitingState = false ∧ claim9.orphan = false ∧ (claiming claim9 idle).frames = true
    ∧ CellSet.minus claim9.cells (claiming claim9 idle).freeSet = 0#20
    ∧ (claiming claim9 idle).motion.deferCurrent = none
    ∧ (claiming claim9 idle).motion.deferHandOver = none := by decide +kernel

theorem witness_own_grant : claim9.owner ≠ .join ∧ (claiming claim9 (withWindow 5 idle)).zone.kept = none
    ∧ (claiming claim9 (withWindow 5 idle)).window 5 9
        = some { station := 5, number := 9, since := 9999 } := by decide

theorem witness_peer_grant : (2 : Station) ≠ idle.own ∧ (withWindow 2 idle).zone.claim = none
    ∧ (withWindow 2 idle).window 2 9 = some { station := 2, number := 9, since := 9999 } := by decide

theorem witness_object_in_time : idle.frames = true ∧ idle.notLost 1 ∧ (2 : Station) ≠ idle.own
    ∧ idle.zone.claim = none ∧ ((withWindow 2 idle).window 2 9).isSome := by
  simp only [State.notLost]; decide +kernel

/-- The station's claim on cell 3 in its window, cell 3 CLAIMED by it. -/
def contested (c : Claim) : State :=
  withCell (claiming c (withWindow 5 idle)) 3 (cellIn (.claimed 5 9))

theorem witness_object_own : (5 : Station) = (contested claim9).own
    ∧ (contested claim9).zone.claim = some claim9 ∧ ((contested claim9).window 5 9).isSome
    ∧ (∀ k, claim9.cells.has k = true → ((contested claim9).cell k).state = .claimed 5 9)
    ∧ (contested claim9).link.state = .on ∧ (contested claim9).link.list.length < 7
    ∧ (contested claim9).deferred = 0#20 ∧ 8#20 &&& claim9.cells ≠ 0#20
    ∧ (∀ e ∈ (contested claim9).link.list, e.frame.kind ≠ .wait)
    ∧ (contested claim9).frames = true ∧ (contested claim9).notLost 1 := by
  simp only [State.notLost]; decide +kernel

theorem witness_object_waiting :
    (withCell (claiming waiting9 (withWindow 5 idle)) 3 (cellIn (.held 1))).zone.claim = some waiting9
    ∧ waiting9.waitingState = true ∧ waiting9.cells.has 3 = true
    ∧ ((withCell (claiming waiting9 (withWindow 5 idle)) 3 (cellIn (.held 1))).cell 3).state = .held 1
    ∧ ({ claim9 with orphan := true } : Claim).orphan = true
    ∧ (contested { claim9 with orphan := true }).link.state ≠ .deaf := by decide +kernel

/-- R63: an abandoned claim that an OBJECT takes back is withdrawn, and not claimed again. -/
theorem test_object_withdraws :
    let t := after (.objectAccepted 1 5 9 8) (contested { claim9 with orphan := true })
    t.zone.claim = none ∧ t.zone.nextNumber = 0 ∧ (t.cell 3).state = .free := by decide +kernel

theorem witness_object_other : (5 : Station) = idle.own ∧ (2 : Station) ≠ idle.own
    ∧ idle.window 2 9 = none ∧ (1 : Station) ≠ idle.own ∧ idle.zone.claim = none := by decide

theorem witness_object_late :
    (5 : Station) = (withCell idle 3 (cellIn (.held 5))).own
    ∧ (withCell idle 3 (cellIn (.held 5))).zone.claim = none
    ∧ (withCell idle 3 (cellIn (.held 5))).window 5 9 = none
    ∧ (withCell idle 3 (cellIn (.held 5))).heldSet &&& 8#20 ≠ 0#20 := by decide +kernel

theorem witness_wait_and_release : (1 : Station) ≠ idle.own ∧ (5 : Station) = idle.own
    ∧ idle.frames = true ∧ idle.notLost 1 ∧ idle.calm
    ∧ ((withCell idle 7 { cellIn .free with deferral := some ⟨1, 9995⟩ }).cell 7).deferral
        = some ⟨1, 9995⟩ := by
  simp only [State.calm, State.notLost]; decide +kernel

theorem witness_wait_limit : (claiming waiting9 idle).zone.claim = some waiting9
    ∧ waiting9.waitingState = true ∧ waiting9.timeout = false
    ∧ ({ waiting9 with timeout := true } : Claim).timeout = true := by decide

/-- A WAITING claim whose retry awaits room. -/
def retrying : State :=
  let s := claiming waiting9 idle
  s.setZone { s.zone with retryAwaited := true }

theorem witness_retry : waiting9.orphan = false ∧ retrying.zone.retryAwaited = true
    ∧ retrying.link.state = .on ∧ retrying.link.list.length < 8
    ∧ CellSet.minus waiting9.cells retrying.freeSet = 0#20 ∧ retrying.deferred = 0#20
    ∧ retrying.motion.deferCurrent = none ∧ retrying.motion.deferHandOver = none := by decide +kernel

theorem witness_overstay (b : Bool) :
    ((withCell idle 2 { cellIn (.held 5) with owed := some ⟨1, 9000, b⟩ }).cell 2).owed
      = some ⟨1, 9000, b⟩ := by cases b <;> decide +kernel

/-! ## Witnesses: link and peers -/

theorem witness_send : idle.link.state = .on
    ∧ (listing [held .sampleCall, held .presence] idle).sendingEntry = none
    ∧ (listing [held .sampleCall, held .presence] idle).link.list
        = held .sampleCall :: [held .presence] := by decide

theorem witness_delivered (f : TxFrame) :
    (listing [held .sampleCall, sent f 0] idle).link.list = [held .sampleCall] ++ sent f 0 :: []
    ∧ (sent f 0).sending = true ∧ (∀ x ∈ [held .sampleCall] ++ [], x.sending = false)
    ∧ (∀ x ∈ [held .sampleCall] ++ [], x.frame ≠ .presence)
    ∧ (listing [held .sampleCall, sent f 0] idle).peers.heldBack = false := by
  refine ⟨rfl, rfl, ?_, ?_, rfl⟩ <;> simp [held]

theorem witness_attempts (n : Nat) :
    (listing [sent .sampleCall n, held .presence] idle).link.list
      = [] ++ sent .sampleCall n :: [held .presence]
    ∧ (sent .sampleCall n).frame.kind = .sampleCall
    ∧ (∀ x ∈ [] ++ [held .presence], x.sending = false)
    ∧ (listing [sent .sampleCall n, held .presence] idle).calm := by
  refine ⟨rfl, rfl, by simp [held], ⟨rfl, rfl, rfl, rfl⟩⟩

theorem witness_attempts_joined (n : Nat) :
    (listing [sent (.release 1) n, held (.release 2), held .presence] idle).link.list
      = [] ++ sent (.release 1) n :: held (.release 2) :: [held .presence]
    ∧ (∀ x ∈ [] ++ [held .presence], x.frame.kind ≠ (TxFrame.release 1).kind)
    ∧ (listing [sent (.release 1) n, held (.release 2), held .presence] idle).calm := by
  refine ⟨rfl, by simp [held, TxFrame.kind], ⟨rfl, rfl, rfl, rfl⟩⟩

theorem witness_attempts_counts : (sent .sampleCall 14).attempts < 15
    ∧ 15 ≤ (sent .sampleCall 15).attempts := by decide

theorem witness_dropped (f : TxFrame) (hf : f ≠ .presence) :
    (listing [sent f 15, held .presence] idle).link.list = [] ++ sent f 15 :: [held .presence]
    ∧ 15 ≤ (sent f 15).attempts ∧ (∀ x ∈ [] ++ [held .presence], x.sending = false)
    ∧ (∀ x ∈ [] ++ [held .presence], x.frame.kind ≠ .object)
    ∧ (listing [sent f 15, held .presence] idle).calm
    ∧ (listing [sent f 15, held .presence] idle).motion.state ≠ .faulted
    ∧ (listing [sent f 15, held .presence] idle).peers.heldBack = false ∧ (sent f 15).frame ≠ .presence := by
  refine ⟨rfl, Nat.le_refl _, ?_, ?_, ⟨rfl, rfl, rfl, rfl⟩, ?_, rfl, hf⟩
  · simp [held]
  · simp [held, TxFrame.kind]
  · exact MotionState.noConfusion

theorem witness_dropped_presence : (listing [sent .presence 15] idle).link.list
      = [] ++ sent .presence 15 :: [] ∧ (sent .presence 15).frame = .presence
    ∧ (listing [sent .presence 15] idle).calm := ⟨rfl, rfl, ⟨rfl, rfl, rfl, rfl⟩⟩

/-- A CLAIM of the standing claim being sent, cell 3 held by a peer. -/
def claimSent : State :=
  withCell (listing [sent (.claim 9 8) 15] (claiming claim9 idle)) 3 (cellIn (.held 1))

theorem witness_dropped_claim : claimSent.zone.claim = some claim9 ∧ claim9.number = some 9
    ∧ claimSent.link.list = [] ++ sent (.claim 9 8) 15 :: [] ∧ claim9.waitingState = false
    ∧ claim9.orphan = false ∧ claimSent.motion.deferCurrent = none
    ∧ claimSent.motion.deferHandOver = none ∧ claimSent.link.list.length ≤ 8
    ∧ claimSent.peers.heldBack = false ∧ claimSent.link.state = .on
    ∧ CellSet.minus claim9.cells claimSent.freeSet ≠ 0#20 := by decide +kernel

/-- The station with a receive-error run. -/
def erring (n : Nat) : State := idle.setLink { idle.link with run := n }

theorem witness_reception_errors (n : Nat) : (erring n).calm ∧ (erring n).peers.heldBack = false
    ∧ (∀ e ∈ (erring n).link.list, e.frame.kind ≠ .object) ∧ (erring n).frames = true
    ∧ (erring n).judges = true ∧ (erring n).sendingEntry = none ∧ (erring n).link.run = n := by
  refine ⟨⟨rfl, rfl, rfl, rfl⟩, rfl, ?_, rfl, rfl, rfl, rfl⟩; intro e h; cases h

theorem witness_deaf_claim : (claiming claim9 (erring 7)).zone.claim = some claim9
    ∧ (claiming waiting9 (erring 7)).zone.claim = some waiting9 ∧ claim9.orphan = false
    ∧ waiting9.orphan = false ∧ waiting9.waitingState = true
    ∧ (claiming claim9 (erring 7)).frames = true ∧ (claiming claim9 (erring 7)).judges = true
    ∧ (claiming claim9 (erring 7)).sendingEntry = none ∧ (claiming claim9 (erring 7)).link.run = 7 := by
  decide

theorem witness_deaf_object :
    (listing [held (.object 1 0 1), held .presence] (erring 7)).link.list
      = [] ++ held (.object 1 0 1) :: [held .presence]
    ∧ (∀ x ∈ [held .presence], x.frame.kind ≠ .object)
    ∧ (listing [held (.object 1 0 1), held .presence] (erring 7)).calm
    ∧ (listing [held (.object 1 0 1), held .presence] (erring 7)).frames = true
    ∧ (listing [held (.object 1 0 1), held .presence] (erring 7)).motion.state ≠ .faulted := by
  simp only [State.calm]; decide

theorem witness_bad_reception :
    receptionBad ⟨[0x37#8, 0x03#8, 0#8, 0#8, 0x40#8, 0#8, 0#8], false⟩ = true
    ∧ receptionSender ⟨[0x37#8, 0x03#8, 0#8, 0#8, 0x40#8, 0#8, 0#8], false⟩ = some 5
    ∧ receptionSender ⟨[0x37#8, 0x03#8, 0#8, 0#8, 0x40#8, 0#8, 0#8], false⟩
        ≠ some (State.reset.own) := by decide +kernel

theorem witness_reset_link : State.reset.link.state = .silent ∧ idle.link.state = .on ∧ idle.calm
    ∧ (∀ e ∈ (listing [held (.rackNote 3 0)] idle).link.list, e.frame.kind ≠ .object)
    ∧ (∃ e ∈ (listing [held (.object 1 0 1)] idle).link.list, e.frame.kind = .object)
    ∧ (∃ e ∈ (listing [held (.rackNote 3 0)] idle).link.list, e.frame = .rackNote 3 0) := by
  simp only [State.calm]; decide

/-- An abandoned claim in its window, a head with a target waiting for its end. -/
def abandonedFor (p : V3 Int) : State :=
  let s := contested { claim9 with orphan := true }
  s.setMotion { s.motion with
    queue := [newSegment (some 7) .rapid p 500], deferCurrent := some 9 }

/-- Its head needs no cell. -/
def abandoned : State := abandonedFor ⟨90, 10, 10⟩

/-- An abandoned claim in its window, the empty queue's hand-over waiting for its end. -/
def flushed : State :=
  let s := contested { claim9 with orphan := true }
  s.setMotion { s.motion with deferHandOver := some 9 }

theorem witness_abandoned : (abandoned.window 5 9).isSome ∧ abandoned.zone.kept = none
    ∧ abandoned.own = 5 ∧ abandoned.frames = true ∧ abandoned.notLost 1
    ∧ abandoned.zone.claim = some { claim9 with orphan := true } ∧ claim9.number = some 9
    ∧ claim9.waitingState = false ∧ claim9.owner ≠ .join
    ∧ abandoned.motion.deferCurrent = some 9 ∧ abandoned.motion.deferHandOver = none
    ∧ abandoned.motion.state = .idle
    ∧ abandoned.motion.queue = [newSegment (some 7) .rapid ⟨90, 10, 10⟩ 500]
    ∧ needSet abandoned.cfg abandoned.setpoints ⟨90, 10, 10⟩ = 0#20
    ∧ CellSet.minus (needSet abandoned.cfg (abandonedFor ⟨1500, 10, 90⟩).setpoints ⟨1500, 10, 90⟩)
        (CellSet.of fun k => ((abandonedFor ⟨1500, 10, 90⟩).cell k).state == .held 5
          || ((abandonedFor ⟨1500, 10, 90⟩).cell k).state == .claimed 5 9) ≠ 0#20
    ∧ (flushed.window 5 9).isSome ∧ flushed.zone.kept = none
    ∧ flushed.motion.deferCurrent = none ∧ flushed.motion.deferHandOver = some 9
    ∧ flushed.motion.state = .idle ∧ (∀ a, (flushed.axis a).referenced = true)
    ∧ flushed.motion.queue = [] := by
  simp only [forall_axis, State.notLost]; decide +kernel

/-- R30, R63: a claim lost inside its window is withdrawn, and the new current segment follows at the end. -/
theorem test_lost_claim_window :
    let t := after (.objectAccepted 1 5 9 8) abandoned
    t.motion = abandoned.motion ∧ t.zone.claim = none
      ∧ (after (.settleWindowEnd 5 9) t).motion.queue.map (fun g => (g.state, g.geom.isSome))
          = [(.running, true)] := by decide +kernel

/-- R20, R50, R98: RESET LINK starts no segment, whatever waits for a claim's end. -/
theorem test_reset_link_keeps_motion :
    (after (.resetLink []) abandoned).motion = abandoned.motion
      ∧ (after (.resetLink []) abandoned).zone.claim = none
      ∧ (after (.resetLink []) abandoned).port.reply.code = .ok := by decide +kernel

/-- The station LISTENING in its start-up, the arm in or out; station 2 holds {3, 4} in a report. -/
def joining (retracted : Bool) : State :=
  let s := (idle.setStation { idle.station with state := .joining }).setLink
    { idle.link with state := .listening, listeningDue := some 11200 }
  let r : Report := { active := true, held := 0x18, waiting := 0, carried := 0, readings := [] }
  withPeer 2 false (some r)
    ((s.setAxes { s.axes with retracted := retracted }).setZone
      { s.zone with cells := Vec.ofFn fun _ => cellIn .heldUnknown })

theorem witness_listening (b : Bool) : (joining b).link.state = .listening
    ∧ (joining b).link.listeningDue = some 11200 ∧ (joining b).calm
    ∧ (joining b).peer (joining b).own = none ∧ (joining b).heldSet = 0#20
    ∧ (joining b).axes.retracted = b ∧ (joining b).station.state = .joining
    ∧ (joining b).link.list.length < 8 := by
  simp only [State.calm]; cases b <;> decide +kernel

theorem test_listening_end :
    let t := after .listeningEnd (joining false)
    (t.cell 3).state = .held 2 ∧ (t.cell 9).state = .free ∧ t.station.state = .active
      ∧ t.zone.claim.map (·.cells) = some CellSet.all := by decide +kernel

theorem witness_peer_lost : (withPeer 2 false none idle).calm
    ∧ (withPeer 2 false none idle).peer 2 = some ⟨false, 8000, none⟩ ∧ idle.link.state ≠ .silent
    ∧ (withPeer 2 true none idle).isLost 2 = true ∧ idle.isLost 2 = false ∧ 8 ≤ 8 ∧ 8 < 256 := by
  simp only [State.calm]; decide

/-- A report that names one cell as held. -/
def holds (cs : CellSet) : Report :=
  { active := true, held := cs, waiting := 0, carried := 0, readings := [] }

theorem witness_presence : (1 : Station) ≠ idle.own ∧ idle.frames = true ∧ idle.link.state = .on
    ∧ idle.calm ∧ idle.notLost 1 ∧ (holds 8).wellFormed = true
    ∧ ∀ c, (idle.cell c).state = .free := by
  simp only [State.calm, State.notLost]; decide +kernel

theorem witness_presence_conflict :
    (withCell idle 3 (cellIn (.held 5))).heldSet &&& (holds 8).held ≠ 0#20
    ∧ (withCell idle 3 (cellIn (.held 5))).calm := by
  simp only [State.calm]; decide +kernel

/-- The station with its report due. -/
def reporting (s : State) : State := s.setPeers { s.peers with presenceDue := some 10500 }

theorem witness_presence_period : (reporting idle).peers.presenceDue = some 10500
    ∧ (reporting (withWindow 5 idle)).holdsReports = true ∧ (reporting idle).holdsReports = false
    ∧ (reporting idle).link.state ≠ .silent ∧ (reporting idle).link.list.length < 8
    ∧ ∀ e ∈ (reporting idle).link.list, e.frame ≠ .presence := by decide +kernel

theorem witness_call_sample : State.reset.link.state = .silent ∧ idle.link.state ≠ .silent
    ∧ (listing (List.replicate 7 (held .sampleCall)) idle).link.list.length < 8
    ∧ 8 ≤ (listing (List.replicate 8 (held .sampleCall)) idle).link.list.length := by decide

/-! ## Witnesses: temperatures and probes -/

theorem test_fixed_temperature_limits :
    (after (.setFixedTemperature (one 4 ++ beSigned 2 (-32768))) idle).port.reply
        = { code := .clamped, data := beSigned 2 (-1000) }
    ∧ (after (.setFixedTemperature (one 4 ++ beSigned 2 6000)) idle).port.reply.code = .ok
    ∧ (after (.setFixedTemperature (one 5 ++ beSigned 2 6000)) idle).port.reply.code = .outOfRange := by
  decide +kernel

theorem witness_fixed_temperature : (-32768 : Int) ≤ -32768 ∧ (32767 : Int) ≤ 32767 ∧ 5 ≤ 5 ∧ 255 < 256 := by
  decide

/-- The station with AIR backing T_arm up on channel 5, and one channel as given. -/
def sources (c : Channel) : State :=
  let b : Block := { block with
    sources := ⟨[⟨.own 0, none⟩, ⟨.own 1, none⟩, ⟨.own 2, none⟩, ⟨.own 3, some 5⟩, ⟨.partMean, none⟩], rfl⟩ }
  let s := idle.setStation { idle.station with config := some b }
  s.setTemps { s.temps with channels := s.temps.channels.set 5 c }

theorem witness_clear_fixed_temperature :
    primaryOf (sources (workedChannel [2090] 2090)) 3 = none
    ∧ backupOf (sources (workedChannel [2090] 2090)) 3 = some 2090
    ∧ primaryOf (sources (workedChannel [2090] 2090)) 4 = some 2090
    ∧ backupOf (sources Channel.reset) 3 = none := by decide +kernel

/-- R126: channel 5 is PART's only contributor and T_arm's backup; the others have no source. -/
theorem test_sample_evaluates :
    let t := after (.sampleTimer (Vec.ofFn fun _ => some 2100) []) (sources (workedChannel [2090] 2090))
    (t.temps.quantities.get 3).value = 2095 ∧ (t.temps.quantities.get 3).tag = .backup
      ∧ (t.temps.quantities.get 4).value = 2095 ∧ (t.temps.quantities.get 4).tag = .none
      ∧ (t.temps.quantities.get 0).value = 2000 ∧ (t.temps.quantities.get 0).tag = .held := by
  decide +kernel

theorem witness_set_part : (∀ a, fits32 ((⟨80000000, 40000000, 0⟩ : V3 Int).get a) = true)
    ∧ 3000 < 65536 ∧ inTravel ⟨80000000, 40000000, 0⟩ = true ∧ inTravel ⟨80000001, 0, 0⟩ = false := by
  simp only [forall_axis]; decide

theorem witness_sample : idle.frames = true ∧ idle.notLost 5 ∧ idle.holdsReports = false
    ∧ idle.link.list.length < 8
    ∧ (workedChannel [] 0).kind = some .part
    ∧ ({ workedChannel [] 0 with state := .holding, invalidRun := 9 } : Channel).take none
        = { workedChannel [] 0 with state := .failed, window := [], reading := none,
                                    invalidRun := 10 } := by
  simp only [State.notLost]; decide +kernel

/-- Slot 2 holds 0207h, which stands in the library; nothing is on the arm. -/
def racked : State :=
  let s := carrying idle
  s.setProbes { s.probes with
    current := .none
    seated := false
    slots := s.probes.slots.set 2 { content := 0x0207, notedBy := .host, unsent := false } }

/-- An identity read of the host at an attempt. -/
def reading (n : Nat) : State :=
  let s := carrying idle
  s.setProbes { s.probes with read := some { attempts := n, forChange := false, since := 9990 }
                              current := .unknown 0xFFFF }

/-- Probe 0207h in slot 8, a probe of another ident on the arm, and one EMPTY slot beside slots 3 and 20. -/
def loaded (k : SlotIx) : State :=
  let empty : Slot := { content := 0x0000, notedBy := .host, unsent := false }
  let slots := ((racked.probes.slots.set 2 Slot.reset).set 8
    { content := 0x0207, notedBy := .host, unsent := false }).set k empty
  racked.setProbes { racked.probes with
    current := .unknown 0x0300, seated := true, slots := (slots.set 3 empty).set 20 empty }

theorem witness_change_probe : racked.station.state = .active ∧ racked.motion.state = .idle
    ∧ racked.probes.read = none ∧ (∀ a, (racked.axis a).referenced = true)
    ∧ racked.probes.current = .none ∧ (racked.entry 0x0207).isSome
    ∧ (∀ j, (racked.probes.slots.get j).content = 0x0207 ↔ j = 2) ∧ racked.calm := by
  simp only [forall_axis, State.calm]; decide +kernel

/-- The drop slot: slot 10 in the rack of slot 8, else slot 3, the lowest of any rack. -/
theorem witness_change_drops (k : SlotIx) (h : k = 10 ∨ k = 23) : (loaded k).calm
    ∧ (∀ j, ((loaded k).probes.slots.get j).content = 0x0207 ↔ j = 8)
    ∧ ((loaded k).probes.slots.get k).content = 0x0000
    ∧ (k = 10 → k.val / 6 = (8 : SlotIx).val / 6
        ∧ ∀ j, j < k → ((loaded k).probes.slots.get j).content = 0x0000
          → j.val / 6 ≠ (8 : SlotIx).val / 6)
    ∧ (k = 23 → (∀ j, ((loaded k).probes.slots.get j).content = 0x0000
          → j.val / 6 ≠ (8 : SlotIx).val / 6)
        ∧ ∀ j, j < 3 → ((loaded k).probes.slots.get j).content ≠ 0x0000) := by
  simp only [State.calm]; rcases h with rfl | rfl <;> decide +kernel

theorem test_change_slots :
    (after (.changeProbe (word 0x0207)) (loaded 10)).port.reply = { code := .ok, data := [1#8, 8#8, 1#8, 10#8] }
    ∧ (after (.changeProbe (word 0x0207)) (loaded 23)).port.reply.data = [1#8, 8#8, 1#8, 3#8]
    ∧ (after (.changeProbe (word 0x0000)) (loaded 10)).port.reply.data = [0#8, 0#8, 1#8, 3#8] := by
  decide +kernel

theorem witness_change_refused : (after (.changeProbe (word 0xFFFF)) idle).port.reply.code = .outOfRange
    ∧ (after (.changeProbe (word 0x0207)) State.reset).port.reply.code = .wrongState
    ∧ (after (.changeProbe (word 0x0207)) (reading 1)).port.reply.code = .busy
    ∧ (after (.changeProbe (word 0x0207)) (idle.setAxis .y { rest 0 with referenced := false })).port.reply.code
        = .notReferenced
    ∧ (after (.changeProbe (word 0x0207)) (carrying idle)).port.reply.code = .already
    ∧ (after (.changeProbe (word 0x0208)) (carrying idle)).port.reply.code = .unknownProbe
    ∧ (after (.changeProbe (word 0x0207))
        (racked.setProbes { racked.probes with slots := idle.probes.slots })).port.reply.code = .notInRack
    ∧ (after (.changeProbe (word 0x0000)) (carrying idle)).port.reply.code = .rackFull := by
  decide +kernel

/-- An internal RAPID in flight. -/
def travelling (ph : Phase) : State :=
  let s := changing ph idle
  s.setMotion { s.motion with internal := some { running 1 250 with tag := none } }

theorem witness_abort_change : idle.motion.state ≠ .changing
    ∧ (travelling .goingToPick).motion.state = .changing
    ∧ ((travelling .goingToPick).probes.change.map (·.phase)) = some .goingToPick
    ∧ (travelling .goingToPick).motion.internal = some { running 1 250 with tag := none }
    ∧ ((changing .leavingDrop idle).probes.change.map (·.phase)) = some .leavingDrop
    ∧ ((changing .identifying idle).probes.change.map (·.phase)) = some .identifying := by decide

theorem witness_identify : idle.probes.seated = false ∧ (carrying idle).motion.state = .idle
    ∧ (carrying idle).probes.seated = true ∧ (carrying idle).probes.read = none := by decide

theorem witness_identity_read :
    (reading 3).probes.read = some { attempts := 3, forChange := false, since := 9990 }
    ∧ (reading 2).probes.read = some { attempts := 2, forChange := false, since := 9990 }
    ∧ (0x02#8 ++ 0x07#8 : Ident) = 0x0207#16 ∧ crc8 [0x02#8, 0x07#8] ≠ crc8 [0x02#8, 0x08#8]
    ∧ ∀ k, ((reading 3).probes.slots.get k).content ≠ 0x0207#16 := by decide +kernel

theorem test_ident_answer :
    (after (.identAnswer 0x02#8 0x07#8 (crc8 [0x02#8, 0x07#8])) (reading 1)).probes.current
        = .known 0x0207 := by decide +kernel

/-- The identity read of a change at an attempt. -/
def readingForChange (n : Nat) : State :=
  let s := changing .identifying (carrying idle)
  s.setProbes { s.probes with read := some { attempts := n, forChange := true, since := 9990 }
                              current := .unknown 0xFFFF }

theorem witness_change_read (n : Nat) : (readingForChange n).motion.state = .changing
    ∧ ((readingForChange n).probes.change.map fun c => (c.phase, c.pick, c.target))
        = some (.identifying, some 2, 0x0207#16)
    ∧ (readingForChange n).probes.read = some { attempts := n, forChange := true, since := 9990 }
    ∧ (readingForChange n).calm := ⟨rfl, rfl, rfl, ⟨rfl, rfl, rfl, rfl⟩⟩

theorem witness_change_read_sound (n : Nat) : (readingForChange n).MotionSound
    ∧ (readingForChange n).BankSound := by
  refine ⟨⟨Nat.zero_le _, ⟨fun _ => rfl, fun _ => rfl⟩, ⟨fun h => ?_, fun h => ?_⟩, fun r h => ?_,
    fun g h => ?_⟩, fun h => ?_⟩ <;> cases h

theorem witness_change_answer : (0x02#8 ++ 0x07#8 : Ident) = 0x0207#16
    ∧ (0x02#8 ++ 0x08#8 : Ident) ≠ 0x0207#16
    ∧ (∀ j, ((readingForChange 1).probes.slots.get j).content ≠ 0x0207#16)
    ∧ ∀ j, ((readingForChange 1).probes.slots.get j).content ≠ 0x0208#16 := by decide +kernel

theorem witness_seat_timers : (changing .dropping idle).motion.state = .changing
    ∧ (changing .dropping idle).probes.change.map (fun c => (c.phase, c.drop)) = some (.dropping, some 3)
    ∧ (changing .picking idle).probes.change.map (fun c => (c.phase, c.pick)) = some (.picking, some 2)
    ∧ (changing .dropping idle).calm := by
  simp only [State.calm]; decide

/-- A change in a phase that waits for the seated line, with a probe on the arm or none. -/
def seating (ph : Phase) (on : Bool) : State :=
  changing ph (if on then carrying idle else idle)

theorem witness_seating : (seating .dropping true).motion.internal = none
    ∧ (seating .dropping true).calm ∧ (seating .picking false).calm
    ∧ (seating .dropping true).follows (seating .dropping true).setpoints
    ∧ (∀ a, ((seating .dropping true).axis a).mode = .idle)
    ∧ (seating .dropping true).link.state ≠ .silent ∧ (seating .dropping true).link.list.length < 8
    ∧ (seating .dropping true).probes.seated = true
    ∧ (seating .dropping true).probes.current.ident = some 0x0207#16
    ∧ (seating .picking false).probes.seated = false
    ∧ (seating .picking false).probes.change.map (·.pick) = some (some 2) := by
  simp only [State.calm, State.follows, forall_axis]; decide

theorem witness_write_set : (∀ a, -5000000 ≤ (workedSet 0).offset.get a
      ∧ (workedSet 0).offset.get a ≤ 5000000) ∧ (workedSet 0).radius ≤ 50000
    ∧ (-1000 : Int) ≤ (workedSet 0).qualTemp ∧ (workedSet 0).qualTemp ≤ 6000
    ∧ (workedSet 0).limit < 65536 ∧ idle.probes.current.ident ≠ some 0x0207#16
    ∧ idle.entry 0x0207 = none ∧ idle.probes.library.length < 16
    ∧ racked.entry 0x0207 = some ⟨0x0207, workedSet 1207, emptySet⟩
    ∧ racked.probes.current.ident ≠ some 0x0207#16 := by
  simp only [forall_axis]; decide

/-- A PROBE in flight with the current probe, and a pending bank. -/
def probing (g : Segment) : State :=
  let s := carrying (onTheMove g)
  s.setProbes { s.probes with pendingBank := some .b }

theorem witness_write_set_busy : (probing (seg .probe .running)).probes.current.ident = some 0x0207#16
    ∧ (probing (seg .probe .running)).flying = some (seg .probe .running)
    ∧ (seg .probe .running).kind = .probe ∧ Bank.a = (probing (seg .probe .running)).probes.live
    ∧ Bank.b ≠ (probing (seg .probe .running)).probes.live ∧ (seg .probe .running).bank ≠ some .b
    ∧ ((probing (seg .probe .running)).entry 0x0207).isSome := by decide

/-- A probe of ident 0300h on the arm without an entry. -/
def unlisted : State := idle.setProbes { idle.probes with current := .unknown 0x0300, seated := true }

theorem witness_write_set_known : unlisted.probes.current = .unknown 0x0300
    ∧ unlisted.entry 0x0300 = none ∧ unlisted.probes.library.length < 16 ∧ unlisted.flying = none
    ∧ (∀ k, (unlisted.probes.slots.get k).content ≠ 0x0300)
    ∧ 50000 < ({ workedSet 0 with radius := 65535 } : QualSet).radius ∧ 65535 < 65536
    ∧ (∀ a, fits32 ((workedSet 0).offset.get a) = true) := by
  simp only [forall_axis]; decide +kernel

theorem witness_pending_bank (g : Segment) (h : g = touchedAt600 true ∨ g = retractingFrom600
      ∨ g = { seg .probe .running with decel := some 250 }) :
    (probing g).motion.state = .running ∧ (probing g).motion.queue = g :: [] ∧ g.kind = .probe
    ∧ (g.state = .running ∨ g.state = .touched ∨ g.state = .retracting)
    ∧ (probing g).probes.pendingBank = some .b ∧ (probing g).calm
    ∧ (∀ v, g.decel = some v → v ≤ (probing g).cfg.accel) := by
  simp only [State.calm]
  rcases h with rfl | rfl | rfl <;>
    exact ⟨rfl, rfl, rfl, by decide, rfl, ⟨rfl, rfl, rfl, rfl⟩, fun v hv => by cases hv <;> decide⟩

/-- A full library. -/
def fullLibrary : State := idle.setProbes { idle.probes with
  library := (List.range 16).map fun i => ⟨BitVec.ofNat 16 (i + 1), emptySet, emptySet⟩ }

theorem witness_library_full : fullLibrary.entry 0x0207 = none
    ∧ 16 ≤ fullLibrary.probes.library.length := by decide +kernel

theorem witness_delete : (carrying idle).probes.current.ident = some 0x0207#16
    ∧ ((carrying idle).entry 0x0207).isSome ∧ idle.entry 0x0207 = none
    ∧ racked.probes.current.ident ≠ some 0x0207#16
    ∧ racked.probes.change.map (·.target) ≠ some 0x0207#16
    ∧ (changing .picking idle).probes.change.map (·.target) = some 0x0207#16 := by decide

theorem witness_select_bank : idle.probeBusy = false
    ∧ (moving .running [seg .probe .running]).probeBusy = true ∧ 2 ≤ 2 ∧ 255 < 256 := by decide

theorem witness_rack_note : idle.frames = true ∧ (1 : Station) ≠ idle.own ∧ idle.notLost 1
    ∧ idle.probes.current.ident ≠ some 0x0207#16
    ∧ (carrying idle).probes.current.ident = some 0x0207#16 ∧ idle.link.state ≠ .silent
    ∧ idle.link.list.length < 8 ∧ 24 ≤ 24 := by
  simp only [State.notLost]; decide +kernel

theorem test_slot_numbers :
    (after (.setRackSlot (one 23 ++ word 0x0207#16)) idle).port.reply.code = .ok
    ∧ (after (.setRackSlot (one 24 ++ word 0x0207#16)) idle).port.reply.code = .outOfRange := by
  decide +kernel

/-! ## Witnesses: encodings and invariants -/

theorem witness_link_frame : (reportOfReadings [part 0 (-1000), part 7 6000]).wellFormed = true := by
  decide

theorem witness_points_sound : (withRecords 64 idle).points.Sound := by
  unfold Points.Sound; decide +kernel

theorem witness_link_sound (n : Nat) (h : n < 16) :
    (listing [sent (.release 1) n, held .presence] idle).link.Sound := by
  refine ⟨by simp [listing], by simp [listing, listSorted, sent, held, TxFrame.kind, FrameKind.code], ?_,
    by simp [listing, sent, held], by simp [listing, idle], by simp [listing, idle],
    by simp [listing, idle, State.reset, State.powerOn], by simp [listing, idle, State.reset, State.powerOn]⟩
  simp [listing, sent, held, h]

theorem witness_early_spoil : earlySpoilAt (lineBits [0x37#8, 35#8]) = some 1 ∧ idle.frames = true
    ∧ idle.judges = true ∧ idle.sendingEntry = none
    ∧ (idle.setLink { idle.link with state := .deaf }).link.state = .deaf := by decide

theorem witness_hold_sound : (carrying (withRecords 7 (moving .running [seg .probe .running]))).HoldSound
    ∧ waitingForPoints.WorkOrdered := by
  refine ⟨⟨by decide, by decide, by decide, by decide, fun _ => ⟨by decide, fun _ => by decide, ?_⟩⟩, ?_⟩
  · intro h; cases h
  · intro _ h; cases h

theorem witness_hold_changes (data : List Byte) (p : Pins) :
    (∀ q, Instr.readPoint data ≠ .powerOn q) ∧ (∀ d q, Instr.readPoint data ≠ .resetStation d q)
    ∧ waitingForPoints.points.hold = true ∧ p = p := by
  refine ⟨by simp, by simp, rfl, rfl⟩

theorem witness_zone_sound : (contested claim9).ZoneSound ∧ (contested claim9).ownFramesTrue
    ∧ (contested claim9).link.Sound := by
  refine ⟨⟨?_, by decide, by decide⟩, ⟨?_, by decide⟩, ?_⟩
  · intro c h; cases h
    refine ⟨by decide, fun _ => ⟨rfl, rfl, fun n h _ => ?_⟩⟩
    cases h; decide +kernel
  · intro n cs rest h; cases h
  · exact ⟨by decide, by simp [contested, withCell, claiming, withWindow, idle, listSorted, State.reset,
      State.powerOn], by decide, by decide, by decide, by decide, by decide, by decide⟩

theorem witness_motion_sound : (travelling .goingToPick).MotionSound
    ∧ (referencing (run true false)).MotionSound := by
  constructor
  · refine ⟨by decide, by decide, by decide, ?_, ?_⟩
    · intro r h; cases h
    · intro g h; cases h; decide
  · refine ⟨by decide, by decide, by decide, ?_, ?_⟩
    · intro r h; cases h; decide
    · intro g h; cases h

theorem witness_counts_and_temperatures_sound : idle.ScalesSound
    ∧ (sources (workedChannel [2090] 2090)).TempsSound := by
  constructor
  · constructor <;> intro a <;> cases a <;> decide
  · refine ⟨?_, by decide, ?_⟩
    · simp only [Channel.Sound]; decide
    · intro p e r x h
      have none : ∀ q, (sources (workedChannel [2090] 2090)).peer q = Option.none := by decide
      rw [none] at h; cases h

theorem witness_bank_sound : (probing (seg .probe .running)).BankSound
    ∧ (probing (seg .probe .running)).MotionSound ∧ (probing (seg .probe .running)).HoldSound
    ∧ (probing (seg .probe .running)).probes.pendingBank.isSome = true := by
  refine ⟨fun _ => by decide, ⟨by decide, by decide, by decide, ?_, ?_⟩,
    ⟨by decide, by decide, by decide, by decide, fun _ => ⟨by decide, fun _ => by decide, ?_⟩⟩, rfl⟩
  · intro r h; cases h
  · intro g h; cases h
  · intro h; cases h

theorem witness_probes_sound : librarySound racked.probes.library ∧ rackSound racked.probes
    ∧ racked.entriesStand ∧ (carrying idle).entriesStand := by
  refine ⟨?_, ?_, ⟨?_, ?_⟩, ⟨?_, ?_⟩⟩
  · unfold librarySound; decide
  · unfold rackSound; decide +kernel
  · intro i h; cases h
  · intro ch h; cases h
  · intro i h; cases h; decide
  · intro ch h; cases h

end Sys2Proof.Tests
end

section
/-! PROOFS. CLEAR FAULT (R14). First the frames by parts of the operations that a command's effect is made of,
and how they compose; then the conditions and the three outcomes of the command. -/

namespace Sys2Proof.Machine

/-! ## Frames by parts -/

/-- Two changes one after the other change at most the parts of either. -/
theorem State.sameBut_trans {s t u : State} {ps qs : List Part} (hst : s.sameBut t ps)
    (htu : t.sameBut u qs) : s.sameBut u (ps ++ qs) := by
  intro p hp
  obtain ⟨hps, hqs⟩ : p ∉ ps ∧ p ∉ qs := by simpa using hp
  have first := hst p hps
  have second := htu p hqs
  cases p <;> exact Eq.trans second first

theorem State.sameBut_setAxes (s : State) (v : Axes) : s.sameBut (s.setAxes v) [.axes] := by
  intro p hp
  cases p
  case axes => simp at hp
  all_goals rfl

theorem State.sameBut_setMotionState (s : State) (m : MotionState) :
    s.sameBut (s.setMotionState m) [.motion] := by
  intro p hp
  cases p
  case motion => simp at hp
  all_goals rfl

theorem State.sameBut_answer (s : State) (code : Code) (data : List Byte) :
    s.sameBut (s.answer code data) [.port] := by
  intro p hp
  cases p
  case port => simp at hp
  all_goals rfl

/-! ## CLEAR FAULT -/

/-- What bars the clearing of a fault on one axis: a limit switch active or the drive ready lost (R14). -/
theorem State.faultCauseStands_iff (s : State) :
    s.faultCauseStands = true
      ↔ ∃ a, (s.axis a).lower = true ∨ (s.axis a).upper = true ∨ (s.axis a).ready = false := by
  unfold State.faultCauseStands
  rw [Bool.not_eq_true', ← Bool.not_eq_true, V3.all_iff, not_forall]
  refine exists_congr fun a => ?_
  change ¬ (!(s.axis a).lower && !(s.axis a).upper && (s.axis a).ready) = true ↔ _
  cases (s.axis a).lower <;> cases (s.axis a).upper <;> simp

theorem State.faultCauseStands_eq_false {s : State}
    (h : ∀ a, (s.axis a).lower = false ∧ (s.axis a).upper = false ∧ (s.axis a).ready = true) :
    s.faultCauseStands = false := by
  rw [← Bool.not_eq_true, State.faultCauseStands_iff]
  rintro ⟨a, cause⟩
  obtain ⟨lower, upper, ready⟩ := h a
  simp [lower, upper, ready] at cause

theorem exec_clearFault (data : List Byte) (s : State) :
    exec (.clearFault data) s = .next (clearFault data s) := rfl

theorem clearFault_not_faulted {s : State} (h : s.motion.state ≠ .faulted) :
    clearFault [] s = s.answer .wrongState [] := by
  rw [clearFault, withLength_eq List.length_nil, if_pos h]

theorem clearFault_cause_stands {s : State} (h : s.motion.state = .faulted)
    (cause : s.faultCauseStands = true) : clearFault [] s = s.answer .busy [] := by
  rw [clearFault, withLength_eq List.length_nil, if_neg (not_not_intro h), if_pos cause]

/-- The state after an accepted CLEAR FAULT, the reply in the port (R14). -/
theorem clearFault_accepted {s : State} (h : s.motion.state = .faulted)
    (noCause : s.faultCauseStands = false) :
    clearFault [] s
      = ((s.setAxes { s.axes with chan := s.axes.chan.map AxisChan.start }).setMotionState .held).answer
          .ok [] := by
  rw [clearFault, withLength_eq List.length_nil, if_neg (not_not_intro h), if_neg (by simp [noCause])]

/-- Settles O17: the three outcomes, one for each branch of the command. -/
theorem clearFaultLeavesFaulted : Obligations.ClearFaultLeavesFaulted := by
  intro s
  refine ⟨fun notFaulted => ?_, fun isFaulted cause => ?_, fun isFaulted clear => ?_⟩
  · rw [exec_clearFault, clearFault_not_faulted notFaulted]
  · rw [exec_clearFault, clearFault_cause_stands isFaulted (s.faultCauseStands_iff.mpr cause)]
  · rw [exec_clearFault, clearFault_accepted isFaulted (State.faultCauseStands_eq_false clear)]
    refine ⟨_, rfl, ?_, ?_, ?_, ?_, ?_⟩
    · exact State.sameBut_trans (State.sameBut_trans (s.sameBut_setAxes _)
        (State.sameBut_setMotionState _ _)) (State.sameBut_answer _ _ _)
    · intro a
      simp [State.axis, AxisChan.start]
    · simp
    · simp [State.setMotionState]
    · rfl

end Sys2Proof.Machine
end

section
/-! PROOFS. Paths (R31): the model's bitwise square root is the library's, the nearest root is characterised by one
equivalence, and every fact about a path length is that equivalence at a number. -/

namespace Sys2Proof.Machine

/-! ## Square roots -/

theorem isqrtBelow_eq_sqrt {k n : Nat} (h : n < 4 ^ k) : isqrtBelow k n = n.sqrt := by
  induction k generalizing n with
  | zero =>
    obtain rfl : n = 0 := by simpa using h
    simp [isqrtBelow]
  | succ k ih =>
    have quarter : isqrtBelow k (n / 4) = (n / 4).sqrt := ih (by rw [pow_succ] at h; omega)
    obtain ⟨lower, upper⟩ := Nat.eq_sqrt.mp quarter
    simp only [isqrtBelow]
    generalize isqrtBelow k (n / 4) = r at lower upper ⊢
    have low : 4 * (r * r) ≤ n := by omega
    have high : n < 4 * ((r + 1) * (r + 1)) := by omega
    refine Nat.eq_sqrt.mpr ?_
    split_ifs with odd
    · exact ⟨odd, by linarith⟩
    · exact ⟨by linarith, not_le.mp odd⟩

theorem isqrt_eq_sqrt (n : Nat) : isqrt n = n.sqrt := by
  refine isqrtBelow_eq_sqrt ?_
  calc n < 2 ^ (n.log2 + 1) := Nat.lt_log2_self
    _ ≤ 4 ^ (n.log2 + 1) := Nat.pow_le_pow_left (by decide) _

/-- The nearest root is at most m exactly where n lies below the square of m + 1/2 (R31). -/
theorem nearestSqrt_le_iff {n m : Nat} : nearestSqrt n ≤ m ↔ n ≤ m * (m + 1) := by
  simp only [nearestSqrt, isqrt_eq_sqrt]
  have lower : n.sqrt * n.sqrt ≤ n := n.sqrt_le
  have upper : n < (n.sqrt + 1) * (n.sqrt + 1) := n.lt_succ_sqrt
  generalize n.sqrt = r at lower upper ⊢
  split_ifs with up
  · have above : r * (r + 1) < n := by rw [Nat.mul_succ]; omega
    refine ⟨fun h => ?_, fun h => ?_⟩
    · nlinarith
    · by_contra below
      nlinarith
  · have within : n ≤ r * (r + 1) := by rw [Nat.mul_succ]; omega
    refine ⟨fun h => ?_, fun h => ?_⟩
    · nlinarith
    · by_contra below
      nlinarith

/-! ## Path length -/

/-- The square of a move's Euclidean length, of which pathLength takes the nearest root. -/
def moveSquare (a b : V3 Int) : Nat :=
  (b.x - a.x).natAbs ^ 2 + (b.y - a.y).natAbs ^ 2 + (b.z - a.z).natAbs ^ 2

theorem pathLength_eq (a b : V3 Int) : pathLength a b = nearestSqrt (moveSquare a b) := rfl

theorem cast_moveSquare (a b : V3 Int) :
    (moveSquare a b : Int) = (b.x - a.x) ^ 2 + (b.y - a.y) ^ 2 + (b.z - a.z) ^ 2 := by
  simp [moveSquare]

theorem moveSquare_eq_zero_iff {a b : V3 Int} : moveSquare a b = 0 ↔ a = b := by
  obtain ⟨x, y, z⟩ := a
  obtain ⟨u, v, w⟩ := b
  simp only [moveSquare, Nat.add_eq_zero_iff, pow_eq_zero_iff two_ne_zero, Int.natAbs_eq_zero, V3.mk.injEq]
  omega

theorem pathLength_le_iff {a b : V3 Int} {m : Nat} :
    pathLength a b ≤ m ↔ moveSquare a b ≤ m * (m + 1) := nearestSqrt_le_iff

theorem pathLength_eq_zero_iff {a b : V3 Int} : pathLength a b = 0 ↔ a = b := by
  rw [← Nat.le_zero, pathLength_le_iff, Nat.zero_mul, Nat.le_zero, moveSquare_eq_zero_iff]

theorem four_mul_moveSquare_lt (a b : V3 Int) : 4 * moveSquare a b < (2 * pathLength a b + 1) ^ 2 := by
  have below := pathLength_le_iff.mp (le_refl (pathLength a b))
  linarith

theorem lt_four_mul_moveSquare {a b : V3 Int} {m : Nat} (h : m < pathLength a b) :
    (2 * m + 1) ^ 2 < 4 * moveSquare a b := by
  have above : m * (m + 1) < moveSquare a b := by
    rw [← not_le] at h ⊢
    exact mt pathLength_le_iff.mpr h
  linarith

/-- The bound of R31 on a path within the travel. -/
theorem pathLength_le_of_travel {a b : V3 Int} (hx : (b.x - a.x).natAbs ≤ 80000000)
    (hy : (b.y - a.y).natAbs ≤ 40000000) (hz : (b.z - a.z).natAbs ≤ 40000000) :
    pathLength a b ≤ 97979590 := by
  rw [pathLength_le_iff]
  calc moveSquare a b ≤ 80000000 ^ 2 + 40000000 ^ 2 + 40000000 ^ 2 := by
        unfold moveSquare
        gcongr
    _ ≤ 97979590 * (97979590 + 1) := by norm_num

/-- Settles O18: each clause is the equivalence for the nearest root at one number. -/
theorem pathLengthIsTheNearestInteger : Obligations.PathLengthIsTheNearestInteger := by
  intro p q
  simp only [← cast_moveSquare]
  refine ⟨?_, fun nonzero => ?_, ?_, fun hx hy hz => ?_⟩
  · exact_mod_cast four_mul_moveSquare_lt p q
  · obtain ⟨m, hm⟩ := Nat.exists_eq_succ_of_ne_zero (Int.natCast_ne_zero.mp nonzero)
    have above := lt_four_mul_moveSquare (hm ▸ Nat.lt_succ_self m)
    have shift : 2 * (pathLength p q : Int) - 1 = 2 * (m : Int) + 1 := by omega
    rw [shift]
    exact_mod_cast above
  · rw [Int.natCast_eq_zero, pathLength_eq_zero_iff]
  · exact_mod_cast pathLength_le_of_travel hx hy hz

end Sys2Proof.Machine
end

section
/-! PROOFS. Ramps (R32, R33): the step count by its defining inequality, the ramp sum in closed form while the
steps stay below the feed, and from these the two kinds of ramp. -/

namespace Sys2Proof.Machine

/-! ## The full ramp's step count and the ramp sum -/

theorem ceilDiv_le_iff {n d k : Nat} (hd : 0 < d) : ceilDiv n d ≤ k ↔ n ≤ k * d := by
  rw [ceilDiv, ← Nat.ceilDiv_eq_add_pred_div, ceilDiv_le_iff_le_mul hd, mul_comm]

theorem lt_ceilDiv_iff {n d k : Nat} (hd : 0 < d) : k < ceilDiv n d ↔ k * d < n := by
  rw [← not_le, ceilDiv_le_iff hd, not_le]

theorem rampSum_eq_sum (feed accel n : Nat) :
    rampSum feed accel n = ((List.range n).map fun i => min feed ((i + 1) * accel)).sum := by
  induction n with
  | zero => rfl
  | succ n ih => simp [rampSum, stepVelocity, List.range_succ, ih]

/-- No step velocity is above k·A, so twice the ramp distance is at most that of an unbounded ramp. -/
theorem two_mul_rampSum_le (feed accel n : Nat) : 2 * rampSum feed accel n ≤ accel * n * (n + 1) := by
  induction n with
  | zero => simp [rampSum]
  | succ n ih =>
    have step : stepVelocity feed accel (n + 1) ≤ (n + 1) * accel := min_le_right _ _
    simp only [rampSum]
    linarith

/-- The ramp distance A·r·(r + 1) / 2 of a ramp whose steps stay at or below the feed (R33). -/
theorem two_mul_rampSum_eq {feed accel n : Nat} (h : n * accel ≤ feed) :
    2 * rampSum feed accel n = accel * n * (n + 1) := by
  induction n with
  | zero => simp [rampSum]
  | succ n ih =>
    have step : stepVelocity feed accel (n + 1) = (n + 1) * accel := min_eq_right h
    have before := ih (le_trans (Nat.mul_le_mul_right accel n.le_succ) h)
    rw [rampSum, step, mul_add, before]
    ring

theorem rampSum_pos {feed accel n : Nat} (hf : 0 < feed) (ha : 0 < accel) (hn : 0 < n) :
    0 < rampSum feed accel n := by
  obtain ⟨n, rfl⟩ := Nat.exists_eq_succ_of_ne_zero hn.ne'
  have step : 0 < stepVelocity feed accel (n + 1) := lt_min hf (Nat.mul_pos n.succ_pos ha)
  simp only [rampSum]
  omega

/-! ## The full ramp -/

theorem rampSteps_eq_ceilDiv {len feed accel : Nat}
    (full : 2 * rampSum feed accel (ceilDiv feed accel) ≤ len) :
    rampSteps len feed accel = ceilDiv feed accel := if_pos full

theorem cruise_eq_feed {len feed accel : Nat} (ha : 0 < accel)
    (full : 2 * rampSum feed accel (ceilDiv feed accel) ≤ len) : cruise len feed accel = feed := by
  rw [cruise, rampSteps_eq_ceilDiv full]
  exact min_eq_left ((ceilDiv_le_iff ha).mp (Nat.le_succ _))

/-! ## The triangular ramp -/

/-- Any m ramp steps that fit the path twice are fewer than the full ramp's, where that does not fit. -/
theorem lt_ceilDiv_of_fits {len feed accel m : Nat}
    (short : len < 2 * rampSum feed accel (ceilDiv feed accel)) (fits : accel * m * (m + 1) ≤ len) :
    m < ceilDiv feed accel := by
  by_contra! beyond
  have more : accel * ceilDiv feed accel * (ceilDiv feed accel + 1) ≤ accel * m * (m + 1) := by gcongr
  have full := two_mul_rampSum_le feed accel (ceilDiv feed accel)
  omega

theorem rampSteps_eq_findGreatest {len feed accel : Nat}
    (short : len < 2 * rampSum feed accel (ceilDiv feed accel)) :
    rampSteps len feed accel
      = Nat.findGreatest (fun m => accel * m * (m + 1) ≤ len) (ceilDiv feed accel) :=
  if_neg (not_le.mpr short)

theorem rampSteps_fits {len feed accel : Nat}
    (short : len < 2 * rampSum feed accel (ceilDiv feed accel)) :
    accel * rampSteps len feed accel * (rampSteps len feed accel + 1) ≤ len := by
  rw [rampSteps_eq_findGreatest short]
  exact Nat.findGreatest_spec (P := fun m => accel * m * (m + 1) ≤ len) (Nat.zero_le _) (by simp)

theorem le_rampSteps_of_fits {len feed accel m : Nat}
    (short : len < 2 * rampSum feed accel (ceilDiv feed accel)) (fits : accel * m * (m + 1) ≤ len) :
    m ≤ rampSteps len feed accel := by
  rw [rampSteps_eq_findGreatest short]
  exact Nat.le_findGreatest (lt_ceilDiv_of_fits short fits).le fits

theorem rampSteps_lt_ceilDiv {len feed accel : Nat}
    (short : len < 2 * rampSum feed accel (ceilDiv feed accel)) :
    rampSteps len feed accel < ceilDiv feed accel :=
  lt_ceilDiv_of_fits short (rampSteps_fits short)

theorem mul_lt_feed_of_le_rampSteps {len feed accel k : Nat} (ha : 0 < accel)
    (short : len < 2 * rampSum feed accel (ceilDiv feed accel)) (hk : k ≤ rampSteps len feed accel) :
    k * accel < feed :=
  (lt_ceilDiv_iff ha).mp (lt_of_le_of_lt hk (rampSteps_lt_ceilDiv short))

theorem profileEntry_of_le_rampSteps {len feed accel k : Nat} (h : k ≤ rampSteps len feed accel) :
    profileEntry len feed accel k = min feed (k * accel) := if_pos h

/-! ## Either ramp -/

theorem two_mul_rampSum_rampSteps_le (len feed accel : Nat) :
    2 * rampSum feed accel (rampSteps len feed accel) ≤ len := by
  rcases le_or_gt (2 * rampSum feed accel (ceilDiv feed accel)) len with full | short
  · rwa [rampSteps_eq_ceilDiv full]
  · exact (two_mul_rampSum_le _ _ _).trans (rampSteps_fits short)

/-- A path of length 0 has no ramp: one step already has a positive velocity. -/
theorem rampSteps_zero {feed accel : Nat} (hf : 0 < feed) (ha : 0 < accel) : rampSteps 0 feed accel = 0 := by
  by_contra nonzero
  have positive := rampSum_pos hf ha (Nat.pos_of_ne_zero nonzero)
  have bounded := two_mul_rampSum_rampSteps_le 0 feed accel
  omega

/-- Settles O19: the two ramps by whether the full one fits the path twice, and the empty path. -/
theorem rampFollowsFeedAndAcceleration : Obligations.RampFollowsFeedAndAcceleration := by
  intro len feed accel hf ha n d r
  have distance : d = rampSum feed accel n := (rampSum_eq_sum feed accel n).symm
  refine ⟨rfl, fun full => ?_, fun short => ?_, ?_⟩
  · rw [distance] at full ⊢
    have steps : r = n := rampSteps_eq_ceilDiv full
    exact ⟨steps, by rw [steps], cruise_eq_feed ha full⟩
  · rw [distance] at short
    refine ⟨rampSteps_fits short, fun m => le_rampSteps_of_fits short, rampSteps_lt_ceilDiv short,
      fun k _ hk => ?_, two_mul_rampSum_eq (mul_lt_feed_of_le_rampSteps ha short le_rfl).le⟩
    have below := mul_lt_feed_of_le_rampSteps ha short hk
    exact ⟨by rw [profileEntry_of_le_rampSteps hk, min_eq_right below.le], below⟩
  · rintro rfl
    have steps : r = 0 := rampSteps_zero hf ha
    exact ⟨steps, by rw [steps, rampSum]⟩

end Sys2Proof.Machine
end

section
/-! PROOFS. SET FIXED TEMPERATURE (R124). First what an evaluation does to one quantity and leaves of the rest,
then the quantity under its new override, then the outcomes of the command. -/

namespace Sys2Proof.Machine

/-! ## Frames by parts -/

/-- A change of fewer parts is a change of more. -/
theorem State.sameBut_mono {s t : State} {ps qs : List Part} (h : s.sameBut t ps) (sub : ps ⊆ qs) :
    s.sameBut t qs :=
  fun p hp => h p fun listed => hp (sub listed)

theorem State.sameBut_setTemps (s : State) (v : Temps) : s.sameBut (s.setTemps v) [.temps] := by
  intro p hp
  cases p
  case temps => simp at hp
  all_goals rfl

/-! ## The evaluation of a quantity (R126, R127) -/

theorem sameBut_evaluate (s : State) : s.sameBut (evaluate s) [.temps] := s.sameBut_setTemps _

@[simp] theorem evaluate_channels (s : State) : (evaluate s).temps.channels = s.temps.channels := rfl

@[simp] theorem evaluate_quantity (s : State) (i : Fin 5) :
    (evaluate s).temps.quantities.get i = evalQuantity s i (s.temps.quantities.get i) := by
  simp [evaluate]

/-- An override that is on decides the quantity, whatever its sources are. -/
theorem evalQuantity_of_overrideOn {q : Quantity} (h : q.overrideOn = true) (s : State) (i : Fin 5) :
    evalQuantity s i q = { q with value := q.override, tag := .fixed } := if_pos h

theorem evalQuantity_keeps_override (s : State) (i : Fin 5) (q : Quantity) :
    (evalQuantity s i q).overrideOn = q.overrideOn ∧ (evalQuantity s i q).override = q.override := by
  unfold evalQuantity
  split_ifs with on
  · exact ⟨rfl, rfl⟩
  · split <;> exact ⟨rfl, rfl⟩

/-! ## A quantity under an override -/

/-- The override of a quantity put on with a value, before the evaluation that follows (R124). -/
def State.overridden (s : State) (i : Fin 5) (v : Int) : State :=
  s.setTemps { s.temps with
    quantities := s.temps.quantities.set i
      { s.temps.quantities.get i with overrideOn := true, override := v } }

theorem State.sameBut_overridden (s : State) (i : Fin 5) (v : Int) :
    s.sameBut (s.overridden i v) [.temps] := s.sameBut_setTemps _

theorem State.overridden_channels (s : State) (i : Fin 5) (v : Int) :
    (s.overridden i v).temps.channels = s.temps.channels := rfl

theorem State.overridden_quantity_same (s : State) (i : Fin 5) (v : Int) :
    (s.overridden i v).temps.quantities.get i
      = { s.temps.quantities.get i with overrideOn := true, override := v } := by
  simp [State.overridden]

theorem State.overridden_quantity_other (s : State) {i j : Fin 5} (v : Int) (h : j ≠ i) :
    (s.overridden i v).temps.quantities.get j = s.temps.quantities.get j :=
  Vec.get_set_other _ _ h

/-- The overridden quantity has the override's value, tagged FIXED, at once. -/
theorem evaluate_overridden_same (s : State) (i : Fin 5) (v : Int) :
    (evaluate (s.overridden i v)).temps.quantities.get i
      = { value := v, tag := .fixed, overrideOn := true, override := v } := by
  rw [evaluate_quantity, s.overridden_quantity_same, evalQuantity_of_overrideOn rfl]

theorem evaluate_overridden_other (s : State) {i j : Fin 5} (v : Int) (h : j ≠ i) :
    ((evaluate (s.overridden i v)).temps.quantities.get j).overrideOn
        = (s.temps.quantities.get j).overrideOn
      ∧ ((evaluate (s.overridden i v)).temps.quantities.get j).override
        = (s.temps.quantities.get j).override := by
  rw [evaluate_quantity, s.overridden_quantity_other v h]
  exact evalQuantity_keeps_override _ _ _

/-! ## SET FIXED TEMPERATURE -/

theorem clampInt_eq_max_min {lo hi : Int} (h : lo ≤ hi) (x : Int) :
    clampInt lo hi x = max lo (min hi x) := by
  unfold clampInt
  split_ifs <;> omega

theorem fieldInt16_slice {data : List Byte} {off : Nat} {x : Int} (h : slice off 2 data = beSigned 2 x)
    (lo : -32768 ≤ x) (hi : x ≤ 32767) : fieldInt16 off data = x := by
  rw [fieldInt16, h, beInt16_beSigned lo hi]

theorem exec_setFixedTemperature (data : List Byte) (s : State) :
    exec (.setFixedTemperature data) s = .next (setFixedTemperature data s) := rfl

theorem length_fixedTemperatureData (n : Nat) (v : Int) : (one n ++ beSigned 2 v).length = 3 := by
  simp

theorem setFixedTemperature_no_quantity {n : Nat} (outside : 5 ≤ n) (byte : n < 256) (v : Int) (s : State) :
    setFixedTemperature (one n ++ beSigned 2 v) s = s.answer .outOfRange [] := by
  rw [setFixedTemperature, withLength_eq (length_fixedTemperatureData n v), field_one_append byte,
    indexOf_none outside]

/-- The state after an accepted SET FIXED TEMPERATURE, the reply in the port (R124). -/
theorem setFixedTemperature_accepted {v : Int} (lo : -32768 ≤ v) (hi : v ≤ 32767) (i : Fin 5) (s : State) :
    setFixedTemperature (one i.val ++ beSigned 2 v) s
      = (evaluate (s.overridden i (max (-1000) (min 6000 v)))).answer
          (if max (-1000) (min 6000 v) = v then .ok else .clamped)
          (beSigned 2 (max (-1000) (min 6000 v))) := by
  have byte : i.val < 256 := by omega
  have asked : fieldInt16 1 (one i.val ++ beSigned 2 v) = v :=
    fieldInt16_slice (slice_tail (length_one _) (length_beSigned 2 v)) lo hi
  rw [setFixedTemperature, withLength_eq (length_fixedTemperatureData _ v), field_one_append byte,
    indexOf_val]
  simp only [asked, clampInt_eq_max_min (show (-1000 : Int) ≤ 6000 by decide)]
  rfl

/-- Settles O46: the override decides its quantity in the evaluation that follows, which keeps the other
overrides; a number that names no quantity is only answered. -/
theorem fixedTemperatureIsSet : Obligations.FixedTemperatureIsSet := by
  intro v s lo hi kept
  refine ⟨fun q => ?_, fun n outside byte => ?_⟩
  · rw [exec_setFixedTemperature, setFixedTemperature_accepted lo hi]
    refine ⟨_, rfl, ?_, evaluate_overridden_same s q kept, fun p other => ?_, ?_, rfl⟩
    · have override_evaluated := State.sameBut_trans (s.sameBut_overridden q kept) (sameBut_evaluate _)
      exact State.sameBut_mono (State.sameBut_trans override_evaluated (State.sameBut_answer _ _ _))
        (by decide)
    · exact evaluate_overridden_other s kept other
    · exact (evaluate_channels _).trans (s.overridden_channels q kept)
  · rw [exec_setFixedTemperature, setFixedTemperature_no_quantity outside byte]

end Sys2Proof.Machine
end

section
/-! PROOFS. The correction computation (8.2 to 8.4). The rounded quotient is odd in its dividend, so what a
nonnegative dividend shows holds of every one; the stages are their formulas at the stated constants; the suspect
tags of a record are read off its snapshot and its captured set. -/

namespace Sys2Proof.Machine

/-! ## The rounded quotient (R167) -/

theorem roundDiv_natCast (k d : Nat) : roundDiv k d = ((2 * k + d) / (2 * d) : Nat) := by
  simp [roundDiv]

theorem roundDiv_zero_left (d : Nat) : roundDiv 0 d = 0 := by
  have small : d / (2 * d) = 0 := by
    rcases d.eq_zero_or_pos with rfl | positive
    · rfl
    · exact Nat.div_eq_of_lt (by omega)
  simpa [small] using roundDiv_natCast 0 d

/-- A negative dividend is the mirror of the positive one. -/
theorem roundDiv_neg (n : Int) (d : Nat) : roundDiv (-n) d = -roundDiv n d := by
  rcases lt_trichotomy n 0 with neg | rfl | pos
  · simp [roundDiv, neg, neg.le]
  · simp [roundDiv_zero_left]
  · simp [roundDiv, pos, pos.le]

/-- For a nonnegative dividend the remainder of the division lies within half the divisor, and a half is
rounded up. -/
theorem roundDiv_natCast_nearest (k : Nat) {d : Nat} (hd : 0 < d) :
    2 * |(k : Int) - roundDiv k d * d| ≤ d
      ∧ (2 * |(k : Int) - roundDiv k d * d| = d → |(k : Int)| < |roundDiv k d * d|) := by
  have division := Nat.div_add_mod (2 * k + d) (2 * d)
  have below : (2 * k + d) % (2 * d) < 2 * d := Nat.mod_lt _ (by omega)
  simp only [roundDiv_natCast, ← Nat.cast_mul, Int.abs_eq_natAbs]
  rw [mul_assoc, mul_comm d] at division
  generalize (2 * k + d) / (2 * d) * d = e at division ⊢
  omega

theorem roundDiv_nearest (n : Int) {d : Nat} (hd : 0 < d) :
    2 * |n - roundDiv n d * d| ≤ d
      ∧ (2 * |n - roundDiv n d * d| = d → |n| < |roundDiv n d * d|) := by
  obtain ⟨k, rfl | rfl⟩ := n.eq_nat_or_neg
  · exact roundDiv_natCast_nearest k hd
  · have mirror : -(k : Int) - roundDiv (-k) d * d = -(k - roundDiv k d * d) := by
      rw [roundDiv_neg]
      ring
    rw [mirror, roundDiv_neg, neg_mul, abs_neg, abs_neg, abs_neg]
    exact roundDiv_natCast_nearest k hd

theorem natAbs_roundDiv (n : Int) (d : Nat) :
    (roundDiv n d).natAbs = (2 * n.natAbs + d) / (2 * d) := by
  obtain ⟨k, rfl | rfl⟩ := n.eq_nat_or_neg
  · rw [roundDiv_natCast, Int.natAbs_natCast, Int.natAbs_natCast]
  · rw [roundDiv_neg, roundDiv_natCast, Int.natAbs_neg, Int.natAbs_neg, Int.natAbs_natCast,
      Int.natAbs_natCast]

/-- Rounding does not carry a quotient beyond a whole bound; a divisor of 0 gives 0. -/
theorem natAbs_roundDiv_le {n : Int} {m d : Nat} (h : n.natAbs ≤ m * d) :
    (roundDiv n d).natAbs ≤ m := by
  rw [natAbs_roundDiv]
  rcases d.eq_zero_or_pos with rfl | positive
  · simp
  · refine Nat.lt_succ_iff.mp ((Nat.div_lt_iff_lt_mul (by omega)).mpr ?_)
    calc 2 * n.natAbs + d < 2 * (m * d) + 2 * d := by omega
      _ = m.succ * (2 * d) := by rw [Nat.succ_eq_add_one]; ring

/-! ## The stages (R168 to R170) -/

theorem clamp32_eq_max_min (x : Int) : clamp32 x = max (-2147483648) (min 2147483647 x) :=
  clampInt_eq_max_min (by decide) x

/-- No axis moves by more than the path length, rounded as it is (R31). -/
theorem natAbs_move_le_pathLength (p q : V3 Int) (a : Axis) :
    (q.get a - p.get a).natAbs ≤ pathLength p q := by
  have part : (q.get a - p.get a).natAbs ^ 2 ≤ moveSquare p q := by
    cases a <;> simp only [V3.get, moveSquare] <;> omega
  have whole : moveSquare p q ≤ pathLength p q * (pathLength p q + 1) :=
    pathLength_le_iff.mp le_rfl
  by_contra beyond
  nlinarith

/-- The tip stage moves no axis by more than the tip radius (R169). -/
theorem abs_tip_correction_le (p q : V3 Int) (a : Axis) (radius : Nat) :
    |roundDiv (radius * (q.get a - p.get a)) (pathLength p q)| ≤ radius := by
  have bound : (roundDiv (radius * (q.get a - p.get a)) (pathLength p q)).natAbs ≤ radius := by
    refine natAbs_roundDiv_le ?_
    rw [Int.natAbs_mul, Int.natAbs_natCast]
    exact Nat.mul_le_mul_left radius (natAbs_move_le_pathLength p q a)
  rw [Int.abs_eq_natAbs]
  exact_mod_cast bound

theorem touchRecord_point (cfg : Block) (l : Latch) :
    ∃ p, (touchRecord cfg l).point = some p ∧ ∀ a, p.get a = correctAxis cfg l a :=
  ⟨_, rfl, fun a => by cases a <;> rfl⟩

/-- Settles O31: the quotient, the stages at their constants, the point axis by axis, the bound of the tip
stage. -/
theorem stagesRoundToNearest : Obligations.StagesRoundToNearest := by
  refine ⟨fun n d hd => ?_, fun count move datum temp coeff radius len => ?_, fun cfg l a => ?_,
    abs_tip_correction_le⟩
  · obtain ⟨within, half⟩ := roundDiv_nearest n hd
    exact ⟨within, half, roundDiv_neg n d⟩
  · exact ⟨clamp32_eq_max_min _, clamp32_eq_max_min _, clamp32_eq_max_min _⟩
  · obtain ⟨p, point, axes⟩ := touchRecord_point cfg l
    refine ⟨p, point, (axes a).trans ?_⟩
    -- Table 6-3 names the quantity that is the scale temperature of each axis.
    cases a <;> rfl

/-! ## The suspect tags (R172 to R174) -/

theorem mem_toList_iff_get {n : Nat} {α : Type} (v : Vec n α) (w : α) :
    w ∈ v.toList ↔ ∃ i, v.get i = w := by
  rw [List.mem_iff_get]
  exact (finCongr v.size_eq).exists_congr fun _ => Iff.rfl

theorem Snapshot.tagged_iff (n : Snapshot) (tag : TempTag) :
    n.tagged tag = true ↔ ∃ i, (n.temps.get i).tag = tag := by
  simp [Snapshot.tagged, mem_toList_iff_get]

theorem dueTag_iff (q : QualSet) : dueTag q = true ↔ q.limit ≠ 0 ∧ q.limit < q.count := by
  simp [dueTag]

theorem bandTag_iff (cfg : Block) (n : Snapshot) (qualTemp : Int) :
    bandTag cfg n qualTemp = true ↔ (cfg.qualBand : Int) < |(n.temps.get 3).value - qualTemp| := by
  rw [bandTag, decide_eq_true_iff, Int.abs_eq_natAbs, Int.ofNat_lt]
  rfl

/-- The three tags of the fallback temperatures, whichever the outcome of the measuring (R172). -/
theorem suspectTags_fallback_iff (cfg : Block) (n : Snapshot) (qualTemp : Int) (due : Bool) :
    ((suspectTags cfg n qualTemp due).fixed = true ↔ ∃ i, (n.temps.get i).tag = .fixed)
      ∧ ((suspectTags cfg n qualTemp due).backup = true ↔ ∃ i, (n.temps.get i).tag = .backup)
      ∧ ((suspectTags cfg n qualTemp due).held = true ↔ ∃ i, (n.temps.get i).tag = .held) :=
  ⟨n.tagged_iff .fixed, n.tagged_iff .backup, n.tagged_iff .held⟩

/-- Settles O30: both records' tags are suspectTags of their snapshot, and each tag is its comparison. -/
theorem dueAndBandTags : Obligations.DueAndBandTags := by
  intro cfg l r
  refine ⟨dueTag_iff l.set, fun limit count => ?_, rfl, bandTag_iff cfg l.snap _,
    bandTag_iff cfg r.snap _, l.snap.tagged_iff, ?_⟩
  · have notDue : ¬ dueTag l.set = true := by
      rw [dueTag_iff]
      omega
    exact Bool.eq_false_iff.mpr notDue
  · rintro _ _ (⟨rfl, rfl⟩ | ⟨rfl, rfl⟩)
    · exact suspectTags_fallback_iff cfg l.snap _ _
    · exact suspectTags_fallback_iff cfg r.snap _ _

end Sys2Proof.Machine
end

section
/-! PROOFS. The checks of a host frame (R197). The model's nested conditions are one search through the statement's
list of checks; each decoding of a frame, and the effect of a failed one, follows from what that search finds. -/

namespace Sys2Proof.Machine

/-! ## The first check that fails -/

/-- The reason of the first check in a list that fails. -/
def firstFailed (checks : List (Bool × PortReason)) : Option PortReason :=
  (checks.find? (·.1)).map (·.2)

@[simp] theorem firstFailed_nil : firstFailed [] = none := rfl

@[simp] theorem firstFailed_cons (failed : Bool) (r : PortReason) (checks : List (Bool × PortReason)) :
    firstFailed ((failed, r) :: checks) = if failed then some r else firstFailed checks := by
  cases failed <;> rfl

/-- The five checks of R197 in their order, each with its reason. -/
def hostFrameChecks (bytes : List Byte) (midByte : Bool) : List (Bool × PortReason) :=
  let code := (bytes.getD 0 0).toNat
  let len := (bytes.getD 1 0).toNat
  [(decide (bytes.length < 3), .byteCount),
   (decide (60 < len), .length),
   (decide (bytes.length < len + 3 ∨ (∃ b ∈ bytes.drop (len + 3), b ≠ 0#8) ∨ midByte = true),
     .byteCount),
   (decide (crc8 (bytes.take (len + 2)) ≠ bytes.getD (len + 2) 0), .check),
   (decide (¬ (1 ≤ code ∧ code ≤ 0x22)), .unknownCode)]

/-- The model's checks are the five of R197 in their order. -/
theorem checkHostFrame_eq_firstFailed (bytes : List Byte) (midByte : Bool) :
    checkHostFrame bytes midByte = firstFailed (hostFrameChecks bytes midByte) := by
  match bytes with
  | [] => rfl
  | [_] => rfl
  | [_, _] => rfl
  | c :: n :: b :: rest => simp [checkHostFrame, hostFrameChecks, knownCode, slice, or_assoc]

/-! ## Decoding the frame -/

theorem period_has_edge {bytes : List Byte} {midByte : Bool} (edge : bytes ≠ [] ∨ midByte = true) :
    (bytes.isEmpty && !midByte) = false := by
  rcases edge with some_byte | mid
  · simp [some_byte]
  · simp [mid]

theorem decodeHostFrame_of_failed (pins : Pins) {bytes : List Byte} {midByte : Bool} {r : PortReason}
    (edge : bytes ≠ [] ∨ midByte = true) (failed : checkHostFrame bytes midByte = some r) :
    decodeHostFrame pins bytes midByte = some (.hostFrameCheckFailed bytes midByte) := by
  simp [decodeHostFrame, period_has_edge edge, failed]

theorem decodeHostFrame_of_passed (pins : Pins) {bytes : List Byte} {midByte : Bool}
    (edge : bytes ≠ [] ∨ midByte = true) (passed : checkHostFrame bytes midByte = none) :
    decodeHostFrame pins bytes midByte
      = hostInstr pins (bytes.getD 0 0) ((bytes.drop 2).take (bytes.getD 1 0).toNat) := by
  simp [decodeHostFrame, period_has_edge edge, passed, slice]

/-! ## The effect of a failed frame -/

theorem State.sameBut_setEvents (s : State) (v : Events) : s.sameBut (s.setEvents v) [.events] := by
  intro p hp
  cases p
  case events => simp at hp
  all_goals rfl

theorem sameBut_failFrame (r : PortReason) (s : State) : s.sameBut (failFrame r s) [.port, .events] :=
  State.sameBut_trans (s.sameBut_answer .frame []) (State.sameBut_setEvents _ _)

theorem exec_hostFrameCheckFailed {bytes : List Byte} {midByte : Bool} {r : PortReason} (s : State)
    (edge : bytes ≠ [] ∨ midByte = true) (failed : checkHostFrame bytes midByte = some r) :
    exec (.hostFrameCheckFailed bytes midByte) s = .next (failFrame r s) := by
  change Host.Outcome.next (checkFailed bytes midByte s) = _
  simp [checkFailed, period_has_edge edge, failed]

/-- Settles O9: a failing check is the reason the model finds, and with none the frame is its command. -/
theorem failedFrameIsNotExecuted : Obligations.FailedFrameIsNotExecuted := by
  intro pins bytes midByte s edge code len checks
  have found : checkHostFrame bytes midByte = (checks.find? (·.1)).map (·.2) :=
    checkHostFrame_eq_firstFailed bytes midByte
  refine ⟨fun b r first => ?_, fun passed => ?_⟩
  · have failed : checkHostFrame bytes midByte = some r := by rw [found, first, Option.map_some]
    exact ⟨decodeHostFrame_of_failed pins edge failed, failFrame r s,
      exec_hostFrameCheckFailed s edge failed, sameBut_failFrame r s, rfl, rfl⟩
  · exact decodeHostFrame_of_passed pins edge (by rw [found, passed, Option.map_none])

end Sys2Proof.Machine
end

section
/-! PROOFS. The event commands (R206 to R208). First the event set that three bytes of data spell, then the events
after an acknowledge, then the commands. -/

namespace Sys2Proof.Machine

/-! ## The set in the data -/

theorem field_whole {data : List Byte} {n : Nat} (h : data.length = n) : field 0 n data = beNat data := by
  simp [field, slice, ← h]

theorem eventSetOf_beBytes (e : EventSet) : eventSetOf (beBytes 3 e.toNat) = some e := by
  have read : field 0 3 (beBytes 3 e.toNat) = e.toNat := by
    rw [field_whole (length_beBytes 3 _)]
    exact beNat_beBytes_of_lt (e.isLt.trans (by decide))
  rw [eventSetOf, read, if_pos e.isLt, BitVec.ofNat_toNat, BitVec.setWidth_eq]

/-- With any of bits 23 to 20 set, three bytes spell no event set (R206, R207). -/
theorem eventSetOf_high_bits (a b c : Byte) (high : 16 ≤ a.toNat) : eventSetOf [a, b, c] = none := by
  have read : field 0 3 [a, b, c] = (a.toNat * 256 + b.toNat) * 256 + c.toNat := by
    have three : [a, b, c].length = 3 := rfl
    simp [field_whole three, beNat]
  rw [eventSetOf, read, if_neg (by omega)]

/-! ## The events after an acknowledge (R207, R208) -/

/-- The marks of the set are cleared, and the release hold runs if one of them was pending or it ran before. -/
def Events.acknowledged (v : Events) (e : EventSet) : Events :=
  { v with pending := v.pending &&& ~~~e
           releaseHold := v.releaseHold || (v.pending &&& ~~~e) != v.pending }

theorem and_not_eq_self_iff {w : Nat} (x y : BitVec w) : x &&& ~~~y = x ↔ x &&& y = 0#w := by
  constructor
  · intro h
    rw [← h, BitVec.and_assoc]
    simp
  · intro h
    ext i hi
    have bit : (x[i] && y[i]) = false := by rw [← BitVec.getElem_and hi, h, BitVec.getElem_zero]
    cases hx : x[i] <;> simp_all

/-- An acknowledge that clears a mark starts the hold. -/
theorem Events.acknowledged_releaseHold {v : Events} {e : EventSet} (some_cleared : v.pending &&& e ≠ 0#20) :
    (v.acknowledged e).releaseHold = true := by
  have changed : v.pending &&& ~~~e ≠ v.pending := mt (and_not_eq_self_iff _ _).mp some_cleared
  simp [Events.acknowledged, changed]

/-- An acknowledge of kinds none of which is pending changes nothing. -/
theorem Events.acknowledged_of_none_pending {v : Events} {e : EventSet} (none_pending : v.pending &&& e = 0#20) :
    v.acknowledged e = v := by
  have same : v.pending &&& ~~~e = v.pending := (and_not_eq_self_iff _ _).mpr none_pending
  simp [Events.acknowledged, same]

/-! ## The commands -/

theorem enableEvents_of_set {data : List Byte} {e : EventSet} (s : State) (three : data.length = 3)
    (spelled : eventSetOf data = some e) :
    enableEvents data s = (s.setEvents { s.events with enable := e }).answer .ok (eventBytes e) := by
  rw [enableEvents, withLength_eq three, spelled]

theorem enableEvents_refused {data : List Byte} (s : State) (three : data.length = 3)
    (no_set : eventSetOf data = none) : enableEvents data s = s.answer .outOfRange [] := by
  rw [enableEvents, withLength_eq three, no_set]

theorem acknowledgeEvents_of_set {data : List Byte} {e : EventSet} (s : State) (three : data.length = 3)
    (spelled : eventSetOf data = some e) :
    acknowledgeEvents data s
      = (s.setEvents (s.events.acknowledged e)).answer .ok (eventBytes (s.events.pending &&& ~~~e)) := by
  rw [acknowledgeEvents, withLength_eq three, spelled]
  rfl

theorem acknowledgeEvents_refused {data : List Byte} (s : State) (three : data.length = 3)
    (no_set : eventSetOf data = none) : acknowledgeEvents data s = s.answer .outOfRange [] := by
  rw [acknowledgeEvents, withLength_eq three, no_set]

theorem exec_enableEvents (data : List Byte) (s : State) :
    exec (.enableEvents data) s = .next (enableEvents data s) := rfl

theorem exec_acknowledgeEvents (data : List Byte) (s : State) :
    exec (.acknowledgeEvents data) s = .next (acknowledgeEvents data s) := rfl

theorem exec_releaseHoldEnd (s : State) : exec .releaseHoldEnd s = .next (endReleaseHold s) := rfl

/-- While the hold runs the line is released (R208). -/
theorem State.attentionLine_of_hold {s : State} (hold : s.events.releaseHold = true) :
    s.attentionLine = false := by
  simp [State.attentionLine, hold]

/-- With no hold running the line follows the attention condition (R208). -/
theorem State.attentionLine_of_no_hold {s : State} (ended : s.events.releaseHold = false) :
    s.attentionLine = s.attention := by
  simp [State.attentionLine, ended]

/-- Settles O13: the enable set, the acknowledge, the end of the hold and the refused sets. -/
theorem eventCommandsAndTheAttentionLine : Obligations.EventCommandsAndTheAttentionLine := by
  intro s
  refine ⟨fun e => ⟨?_, ?_⟩, ?_, fun a b c high => ⟨?_, ?_⟩⟩
  · rw [exec_enableEvents, enableEvents_of_set s (length_beBytes 3 _) (eventSetOf_beBytes e), eventBytes]
  · rw [exec_acknowledgeEvents, acknowledgeEvents_of_set s (length_beBytes 3 _) (eventSetOf_beBytes e)]
    refine ⟨_, rfl, ?_, rfl, rfl, rfl, rfl, rfl, fun some_cleared => ?_, fun none_pending => ?_⟩
    · exact State.sameBut_mono
        (State.sameBut_trans (s.sameBut_setEvents _) (State.sameBut_answer _ _ _)) (by simp)
    · have hold := Events.acknowledged_releaseHold some_cleared
      exact ⟨hold, State.attentionLine_of_hold hold⟩
    · exact Events.acknowledged_of_none_pending none_pending
  · rw [exec_releaseHoldEnd]
    exact ⟨_, rfl, s.sameBut_setEvents _, rfl, State.attentionLine_of_no_hold rfl⟩
  · rw [exec_enableEvents, enableEvents_refused s rfl (eventSetOf_high_bits a b c high)]
  · rw [exec_acknowledgeEvents, acknowledgeEvents_refused s rfl (eventSetOf_high_bits a b c high)]

end Sys2Proof.Machine
end

section
/-! PROOFS. The frame of every command, by the parts of the state (95): one lemma for each command's operation
from the frames of the operations that it is made of, and the statement that every command completes. -/

namespace Sys2Proof.Machine
/-! ## Frames by parts -/

theorem State.sameBut_ite {s t u : State} {ps : List Part} {c : Prop} [Decidable c] (ht : s.sameBut t ps)
    (hu : s.sameBut u ps) : s.sameBut (if c then t else u) ps := by
  split_ifs
  · exact ht
  · exact hu

theorem State.sameBut_foldl {α : Type} {f : State → α → State} {ps : List Part}
    (h : ∀ (t : State) (x : α), t.sameBut (f t x) ps) : ∀ (l : List α) (s : State), s.sameBut (l.foldl f s) ps
  | [], s => fun p _ => by cases p <;> rfl
  | x :: l, s => State.sameBut_mono (State.sameBut_trans (h s x) (State.sameBut_foldl h l _)) (by simp)

theorem sameBut_withLength {s act : State} {n : Nat} {data : List Byte} {ps : List Part}
    (h : s.sameBut act ps) (port : .port ∈ ps) : s.sameBut (withLength n data s act) ps := by
  unfold withLength
  split_ifs
  · exact h
  · exact State.sameBut_mono (State.sameBut_answer _ _ _) (by simpa using port)

/-! ## The parts that each command changes -/

theorem sameBut_checkFailed (bytes : List Byte) (midByte : Bool) (s : State) :
    s.sameBut (checkFailed bytes midByte s) [.port, .events] := by
  intro p hp
  unfold checkFailed
  cases p <;> simp [State.sameIn] at hp ⊢ <;> (repeat' split) <;> simp

theorem sameBut_shiftOut (s : State) :
    s.sameBut (shiftOut s) [.port] := by
  intro p hp
  unfold shiftOut
  cases p <;> simp [State.sameIn] at hp ⊢

theorem sameBut_configure (data : List Byte) (s : State) :
    s.sameBut (configure data s) [.station, .temps, .port] := by
  intro p hp
  unfold configure
  cases p <;> simp [State.sameIn] at hp ⊢ <;> (repeat' split) <;> simp

theorem sameBut_start (data : List Byte) (s : State) :
    s.sameBut (start data s) [.station, .axes, .motion, .zone, .link, .peers,
      .probes, .port, .events] := by
  intro p hp
  unfold start
  cases p <;> simp [State.sameIn] at hp ⊢ <;> (repeat' split) <;> simp

theorem sameBut_resetStation (data : List Byte) (p : Pins) (s : State) :
    s.sameBut (resetStation data p s) [.clock, .station, .axes, .motion, .zone, .link, .peers,
      .temps, .probes, .corr, .points, .port, .events] := by
  unfold resetStation
  refine sameBut_withLength ?_ (by decide)
  intro p hp
  cases p <;> simp [State.sameIn] at hp ⊢

/-- RESET LINK raises no event, and moves nothing (R98, log 11). -/
theorem sameBut_resetLinkEffect (s : State) :
    s.sameBut (resetLinkEffect s) [.zone, .link, .peers, .temps, .probes] := by
  intro p hp
  cases p <;> simp [State.sameIn, resetLinkEffect] at hp ⊢

theorem sameBut_resetLink (data : List Byte) (s : State) :
    s.sameBut (resetLink data s) [.zone, .link, .peers, .temps, .probes, .port] := by
  unfold resetLink
  refine sameBut_withLength ?_ (by decide)
  have effect := sameBut_resetLinkEffect s
  split <;> (try split) <;>
    first
    | exact State.sameBut_mono (State.sameBut_answer _ _ _) (by simp)
    | exact State.sameBut_mono (State.sameBut_trans effect (State.sameBut_answer _ _ _)) (by simp)

theorem sameBut_queueMove (data : List Byte) (s : State) :
    s.sameBut (queueMove data s) [.axes, .motion, .zone, .link, .peers,
      .probes, .port, .events] := by
  unfold queueMove
  refine sameBut_withLength ?_ (by decide)
  intro p hp
  cases p <;> simp [State.sameIn] at hp ⊢ <;> (repeat' split) <;> simp

theorem sameBut_stop (data : List Byte) (s : State) :
    s.sameBut (stop data s) [.axes, .motion, .zone, .link, .peers,
      .probes, .port, .events] := by
  unfold stop
  refine sameBut_withLength ?_ (by decide)
  intro p hp
  cases p <;> simp [State.sameIn] at hp ⊢

theorem sameBut_resume (data : List Byte) (s : State) :
    s.sameBut (resume data s) [.axes, .motion, .zone, .link, .peers,
      .probes, .port, .events] := by
  unfold resume
  refine sameBut_withLength ?_ (by decide)
  intro p hp
  cases p <;> simp [State.sameIn] at hp ⊢ <;> (repeat' split) <;> simp

theorem sameBut_flushMoves (data : List Byte) (s : State) :
    s.sameBut (flushMoves data s) [.motion, .zone, .link, .peers, .port, .events] := by
  unfold flushMoves
  refine sameBut_withLength ?_ (by decide)
  intro p hp
  cases p <;> simp [State.sameIn] at hp ⊢ <;> (repeat' split) <;> simp

theorem sameBut_referenceAxis (data : List Byte) (s : State) :
    s.sameBut (referenceAxis data s) [.axes, .motion, .port] := by
  unfold referenceAxis
  refine sameBut_withLength ?_ (by decide)
  intro p hp
  cases p <;> simp [State.sameIn] at hp ⊢ <;> (repeat' split) <;> simp

theorem sameBut_clearFault (data : List Byte) (s : State) :
    s.sameBut (clearFault data s) [.axes, .motion, .port] := by
  unfold clearFault
  refine sameBut_withLength ?_ (by decide)
  intro p hp
  cases p <;> simp [State.sameIn] at hp ⊢ <;> (repeat' split) <;> simp

theorem sameBut_changeProbe (data : List Byte) (s : State) :
    s.sameBut (changeProbe data s) [.axes, .motion, .zone, .link, .peers,
      .probes, .port, .events] := by
  unfold changeProbe
  refine sameBut_withLength ?_ (by decide)
  intro p hp
  cases p <;> simp [State.sameIn] at hp ⊢ <;> (repeat' split) <;> simp

theorem sameBut_abortCommand (data : List Byte) (s : State) :
    s.sameBut (abortCommand data s) [.axes, .motion, .zone, .link, .peers,
      .probes, .port, .events] := by
  unfold abortCommand
  refine sameBut_withLength ?_ (by decide)
  intro p hp
  cases p <;> simp [State.sameIn] at hp ⊢ <;> (repeat' split) <;> simp

theorem sameBut_identifyProbe (data : List Byte) (s : State) :
    s.sameBut (identifyProbe data s) [.probes, .port] := by
  unfold identifyProbe
  refine sameBut_withLength ?_ (by decide)
  intro p hp
  cases p <;> simp [State.sameIn] at hp ⊢ <;> (repeat' split) <;> simp

theorem sameBut_writeProbeSet (data : List Byte) (s : State) :
    s.sameBut (writeProbeSet data s) [.link, .probes, .port, .events] := by
  unfold writeProbeSet
  refine sameBut_withLength ?_ (by decide)
  intro p hp
  cases p <;> simp [State.sameIn] at hp ⊢ <;> (repeat' split) <;> simp

theorem sameBut_deleteProbe (data : List Byte) (s : State) :
    s.sameBut (deleteProbe data s) [.probes, .port] := by
  unfold deleteProbe
  refine sameBut_withLength ?_ (by decide)
  intro p hp
  cases p <;> simp [State.sameIn] at hp ⊢ <;> (repeat' split) <;> simp

theorem sameBut_selectBank (data : List Byte) (s : State) :
    s.sameBut (selectBank data s) [.probes, .port] := by
  unfold selectBank
  refine sameBut_withLength ?_ (by decide)
  intro p hp
  cases p <;> simp [State.sameIn] at hp ⊢ <;> (repeat' split) <;> simp

theorem sameBut_setRackSlot (data : List Byte) (s : State) :
    s.sameBut (setRackSlot data s) [.link, .probes, .port, .events] := by
  unfold setRackSlot
  refine sameBut_withLength ?_ (by decide)
  intro p hp
  cases p <;> simp [State.sameIn] at hp ⊢ <;> (repeat' split) <;> simp

theorem sameBut_setFixedTemperature (data : List Byte) (s : State) :
    s.sameBut (setFixedTemperature data s) [.temps, .port] := by
  unfold setFixedTemperature
  refine sameBut_withLength ?_ (by decide)
  intro p hp
  cases p <;> simp [State.sameIn] at hp ⊢ <;> (repeat' split) <;> simp

theorem sameBut_clearFixedTemperature (data : List Byte) (s : State) :
    s.sameBut (clearFixedTemperature data s) [.temps, .port] := by
  unfold clearFixedTemperature
  refine sameBut_withLength ?_ (by decide)
  intro p hp
  cases p <;> simp [State.sameIn] at hp ⊢ <;> (repeat' split) <;> simp

theorem sameBut_setPart (data : List Byte) (s : State) :
    s.sameBut (setPart data s) [.temps, .port] := by
  unfold setPart
  refine sameBut_withLength ?_ (by decide)
  intro p hp
  cases p <;> simp [State.sameIn] at hp ⊢ <;> (repeat' split) <;> simp

theorem sameBut_callSample (data : List Byte) (s : State) :
    s.sameBut (callSample data s) [.link, .port, .events] := by
  unfold callSample
  refine sameBut_withLength ?_ (by decide)
  have offered : s.sameBut (offer .sampleCall s).2 [.link, .events] := by
    intro p hp
    cases p <;> simp [State.sameIn] at hp ⊢
  have answered (code : Code) := State.sameBut_trans offered (State.sameBut_answer _ code [])
  split
  · exact State.sameBut_mono (State.sameBut_answer _ _ _) (by simp)
  · split <;> rename_i eq <;> rw [eq] at answered <;> exact State.sameBut_mono (answered _) (by simp)

theorem sameBut_forgetPeer (data : List Byte) (s : State) :
    s.sameBut (forgetPeer data s) [.axes, .motion, .zone, .link, .peers,
      .temps, .probes, .port, .events] := by
  unfold forgetPeer
  refine sameBut_withLength ?_ (by decide)
  intro p hp
  cases p <;> simp [State.sameIn] at hp ⊢ <;> (repeat' split) <;> simp

theorem sameBut_readPoint (data : List Byte) (s : State) :
    s.sameBut (readPoint data s) [.axes, .motion, .probes, .points, .port, .events] := by
  unfold readPoint
  refine sameBut_withLength ?_ (by decide)
  intro p hp
  cases p <;> simp [State.sameIn] at hp ⊢ <;> (repeat' split) <;> simp

theorem sameBut_peekPoint (data : List Byte) (s : State) :
    s.sameBut (peekPoint data s) [.port] := by
  unfold peekPoint
  refine sameBut_withLength ?_ (by decide)
  intro p hp
  cases p <;> simp [State.sameIn] at hp ⊢

theorem sameBut_flushPoints (data : List Byte) (s : State) :
    s.sameBut (flushPoints data s) [.axes, .motion, .probes, .points, .port, .events] := by
  unfold flushPoints
  refine sameBut_withLength ?_ (by decide)
  intro p hp
  cases p <;> simp [State.sameIn] at hp ⊢

theorem sameBut_readStatus (data : List Byte) (s : State) :
    s.sameBut (readStatus data s) [.port] := by
  unfold readStatus
  refine sameBut_withLength ?_ (by decide)
  intro p hp
  cases p <;> simp [State.sameIn] at hp ⊢

theorem sameBut_readTemperatures (data : List Byte) (s : State) :
    s.sameBut (readTemperatures data s) [.port] := by
  unfold readTemperatures
  refine sameBut_withLength ?_ (by decide)
  intro p hp
  cases p <;> simp [State.sameIn] at hp ⊢

theorem sameBut_readZoneView (data : List Byte) (s : State) :
    s.sameBut (readZoneView data s) [.port] := by
  unfold readZoneView
  refine sameBut_withLength ?_ (by decide)
  intro p hp
  cases p <;> simp [State.sameIn] at hp ⊢

theorem sameBut_readRackView (data : List Byte) (s : State) :
    s.sameBut (readRackView data s) [.port] := by
  unfold readRackView
  refine sameBut_withLength ?_ (by decide)
  intro p hp
  cases p <;> simp [State.sameIn] at hp ⊢

theorem sameBut_readProbe (data : List Byte) (s : State) :
    s.sameBut (readProbe data s) [.port] := by
  unfold readProbe
  refine sameBut_withLength ?_ (by decide)
  intro p hp
  cases p <;> simp [State.sameIn] at hp ⊢ <;> (repeat' split) <;> simp

theorem sameBut_readPeer (data : List Byte) (s : State) :
    s.sameBut (readPeer data s) [.port] := by
  unfold readPeer
  refine sameBut_withLength ?_ (by decide)
  intro p hp
  cases p <;> simp [State.sameIn] at hp ⊢ <;> (repeat' split) <;> simp

theorem sameBut_readEvents (data : List Byte) (s : State) :
    s.sameBut (readEvents data s) [.port] := by
  unfold readEvents
  refine sameBut_withLength ?_ (by decide)
  intro p hp
  cases p <;> simp [State.sameIn] at hp ⊢

theorem sameBut_enableEvents (data : List Byte) (s : State) :
    s.sameBut (enableEvents data s) [.port, .events] := by
  unfold enableEvents
  refine sameBut_withLength ?_ (by decide)
  intro p hp
  cases p <;> simp [State.sameIn] at hp ⊢ <;> (repeat' split) <;> simp

theorem sameBut_acknowledgeEvents (data : List Byte) (s : State) :
    s.sameBut (acknowledgeEvents data s) [.port, .events] := by
  unfold acknowledgeEvents
  refine sameBut_withLength ?_ (by decide)
  intro p hp
  cases p <;> simp [State.sameIn] at hp ⊢ <;> (repeat' split) <;> simp

theorem sameBut_endReleaseHold (s : State) :
    s.sameBut (endReleaseHold s) [.events] := by
  intro p hp
  unfold endReleaseHold
  cases p <;> simp [State.sameIn] at hp ⊢

theorem sameBut_watch (v : Samples) (s : State) (w : Watch) :
    s.sameBut (watch v w s) [.axes, .motion, .zone, .link, .peers, .probes, .events] := by
  intro p hp
  cases p <;> simp [State.sameIn] at hp ⊢

theorem sameBut_motionPeriod (v : Samples) (order : List Watch) (s : State) :
    s.sameBut (motionPeriod v order s) [.clock, .axes, .motion, .zone, .link, .peers,
      .probes, .events] := by
  have moved : s.sameBut (advance (sampleLevels v (s.setClock (s.clock + 1))))
      [.clock, .axes, .motion, .probes] := by
    intro p hp
    cases p <;> simp [State.sameIn] at hp ⊢
  have watched := State.sameBut_trans moved (State.sameBut_foldl (sameBut_watch v) (watchOrder order) _)
  exact State.sameBut_mono (State.sameBut_trans watched (State.sameBut_setAxes _ _)) (by simp)

theorem sameBut_completeSegment (s : State) :
    s.sameBut (completeSegment s) [.axes, .motion, .zone, .link, .peers,
      .probes, .corr, .points, .events] := by
  intro p hp
  unfold completeSegment
  cases p <;> simp [State.sameIn] at hp ⊢ <;> (repeat' split) <;> simp

theorem sameBut_positionTimeout (s : State) :
    s.sameBut (positionTimeout s) [.clock, .axes, .motion, .zone, .probes, .events] := by
  intro p hp
  unfold positionTimeout
  cases p <;> simp [State.sameIn] at hp ⊢ <;> (repeat' split) <;> simp

theorem sameBut_stopDecelerationEnd (s : State) :
    s.sameBut (stopDecelerationEnd s) [.axes, .motion, .zone, .link, .peers, .probes, .events] := by
  intro p hp
  unfold stopDecelerationEnd
  cases p <;> simp [State.sameIn] at hp ⊢ <;> (repeat' split) <;> simp

theorem sameBut_takeScaleFault (a : Axis) (s : State) :
    s.sameBut (takeScaleFault a s) [.axes, .motion, .zone, .link, .peers, .probes, .events] := by
  intro p hp
  unfold takeScaleFault
  cases p <;> simp [State.sameIn] at hp ⊢ <;> (repeat' split) <;> simp

theorem sameBut_takeScaleCount (a : Axis) (forward : Bool) (s : State) :
    s.sameBut (takeScaleCount a forward s) [.axes, .motion, .zone, .link, .peers, .probes, .events] := by
  unfold takeScaleCount
  refine State.sameBut_ite ?_ (sameBut_takeScaleFault a s)
  exact State.sameBut_mono (State.sameBut_setAxes _ _) (by simp)

theorem sameBut_takeReferenceMark (a : Axis) (s : State) :
    s.sameBut (takeReferenceMark a s) [.axes, .motion] := by
  intro p hp
  unfold takeReferenceMark
  cases p <;> simp [State.sameIn] at hp ⊢ <;> (repeat' split) <;> simp

theorem sameBut_endReference (s : State) :
    s.sameBut (endReference s) [.axes, .motion, .zone, .link, .events] := by
  intro p hp
  unfold endReference
  cases p <;> simp [State.sameIn] at hp ⊢ <;> (repeat' split) <;> simp

theorem sameBut_endReferenceStop (s : State) :
    s.sameBut (endReferenceStop s) [.axes, .motion] := by
  intro p hp
  unfold endReferenceStop
  cases p <;> simp [State.sameIn] at hp ⊢ <;> (repeat' split) <;> simp

theorem sameBut_takeTouch (c : V3 Int) (s : State) :
    s.sameBut (takeTouch c s) [.axes, .motion, .zone, .probes, .corr, .points, .events] := by
  intro p hp
  unfold takeTouch
  cases p <;> simp [State.sameIn] at hp ⊢ <;> (repeat' split) <;> simp

theorem sameBut_endCorrection (s : State) :
    s.sameBut (endCorrection s) [.axes, .motion, .probes, .corr, .points, .events] := by
  intro p hp
  unfold endCorrection
  cases p <;> simp [State.sameIn] at hp ⊢ <;> (repeat' split) <;> simp

theorem sameBut_startSending (s : State) :
    s.sameBut (startSending s) [.link] := by
  intro p hp
  unfold startSending
  cases p <;> simp [State.sameIn] at hp ⊢ <;> (repeat' split) <;> simp

theorem sameBut_loseArbitration (s : State) :
    s.sameBut (loseArbitration s) [.link] := by
  intro p hp
  unfold loseArbitration
  cases p <;> simp [State.sameIn] at hp ⊢ <;> (repeat' split) <;> simp

theorem sameBut_duplicateMismatch (s : State) :
    s.sameBut (duplicateMismatch s) [.axes, .motion, .zone, .link, .peers, .probes, .events] := by
  intro p hp
  unfold duplicateMismatch
  cases p <;> simp [State.sameIn] at hp ⊢ <;> (repeat' split) <;> simp

theorem sameBut_earlySpoil (own : Bool) (s : State) :
    s.sameBut (earlySpoil own s) [.axes, .motion, .zone, .link, .peers, .probes, .events] := by
  intro p hp
  unfold earlySpoil
  cases p <;> simp [State.sameIn] at hp ⊢ <;> (repeat' split) <;> simp

theorem sameBut_frameSpoiled (rx : Reception) (s : State) :
    s.sameBut (frameSpoiled rx s) [.axes, .motion, .zone, .link, .peers, .probes, .events] := by
  intro p hp
  unfold frameSpoiled
  cases p <;> simp [State.sameIn] at hp ⊢ <;> (repeat' split) <;> simp

theorem sameBut_duplicateFrame (k : FrameKind) (s : State) :
    s.sameBut (duplicateFrame k s) [.axes, .motion, .zone, .link, .peers, .probes, .events] := by
  intro p hp
  unfold duplicateFrame
  cases p <;> simp [State.sameIn] at hp ⊢ <;> (repeat' split) <;> simp

theorem sameBut_deliver (s : State) :
    s.sameBut (deliver s) [.link, .peers, .probes] := by
  intro p hp
  unfold deliver
  cases p <;> simp [State.sameIn] at hp ⊢ <;> (repeat' split) <;> simp

theorem sameBut_takeClaim (p : Station) (n : Byte) (cs : CellSet) (s : State) :
    s.sameBut (takeClaim p n cs s) [.axes, .motion, .zone, .link, .peers,
      .temps, .probes, .events] := by
  intro p hp
  unfold takeClaim
  cases p <;> simp [State.sameIn] at hp ⊢ <;> (repeat' split) <;> simp

theorem sameBut_endWindow (p : Station) (n : Byte) (s : State) :
    s.sameBut (endWindow p n s) [.clock, .axes, .motion, .zone, .link, .peers,
      .probes, .events] := by
  intro p hp
  unfold endWindow
  cases p <;> simp [State.sameIn] at hp ⊢ <;> (repeat' split) <;> simp

theorem sameBut_takeObject (sender target : Station) (n : Byte) (cs : CellSet) (s : State) :
    s.sameBut (takeObject sender target n cs s) [.axes, .motion, .zone, .link, .peers,
      .temps, .probes, .events] := by
  intro p hp
  unfold takeObject
  cases p <;> simp [State.sameIn] at hp ⊢ <;> (repeat' split) <;> simp

theorem sameBut_takeWait (p : Station) (cs : CellSet) (s : State) :
    s.sameBut (takeWait p cs s) [.zone, .link, .peers, .temps] := by
  intro p hp
  unfold takeWait
  cases p <;> simp [State.sameIn] at hp ⊢ <;> (repeat' split) <;> simp

theorem sameBut_retryRoom (s : State) :
    s.sameBut (retryRoom s) [.axes, .motion, .zone, .link, .peers, .probes, .events] := by
  intro p hp
  unfold retryRoom
  cases p <;> simp [State.sameIn] at hp ⊢ <;> (repeat' split) <;> simp

theorem sameBut_waitTimeout (s : State) :
    s.sameBut (waitTimeout s) [.clock, .zone, .events] := by
  intro p hp
  unfold waitTimeout
  cases p <;> simp [State.sameIn] at hp ⊢ <;> (repeat' split) <;> simp

theorem sameBut_overstay (c : Cell) (s : State) :
    s.sameBut (overstay c s) [.clock, .zone, .events] := by
  intro p hp
  unfold overstay
  cases p <;> simp [State.sameIn] at hp ⊢ <;> (repeat' split) <;> simp

theorem sameBut_takeRelease (p : Station) (cs : CellSet) (s : State) :
    s.sameBut (takeRelease p cs s) [.axes, .motion, .zone, .link, .peers,
      .temps, .probes, .events] := by
  intro p hp
  unfold takeRelease
  cases p <;> simp [State.sameIn] at hp ⊢ <;> (repeat' split) <;> simp

theorem sameBut_deferralExpiry (c : Cell) (s : State) :
    s.sameBut (deferralExpiry c s) [.clock, .axes, .motion, .zone, .link, .peers,
      .probes, .events] := by
  intro p hp
  unfold deferralExpiry
  cases p <;> simp [State.sameIn] at hp ⊢ <;> (repeat' split) <;> simp

theorem sameBut_takePresence (p : Station) (r : Report) (s : State) :
    s.sameBut (takePresence p r s) [.axes, .motion, .zone, .link, .peers,
      .temps, .probes, .events] := by
  intro p hp
  unfold takePresence
  cases p <;> simp [State.sameIn] at hp ⊢ <;> (repeat' split) <;> simp

theorem sameBut_losePeer (p : Station) (s : State) :
    s.sameBut (losePeer p s) [.clock, .axes, .motion, .zone, .link, .peers,
      .temps, .probes, .events] := by
  intro p hp
  unfold losePeer
  cases p <;> simp [State.sameIn] at hp ⊢ <;> (repeat' split) <;> simp

theorem sameBut_takeRackNote (p : Station) (k : SlotIx) (c : Ident) (s : State) :
    s.sameBut (takeRackNote p k c s) [.zone, .link, .peers, .temps, .probes, .events] := by
  intro p hp
  unfold takeRackNote
  cases p <;> simp [State.sameIn] at hp ⊢ <;> (repeat' split) <;> simp

theorem sameBut_takeSampleCall (p : Station) (v : Conversions) (order : List Chan) (s : State) :
    s.sameBut (takeSampleCall p v order s) [.zone, .link, .peers, .temps, .events] := by
  intro p hp
  unfold takeSampleCall
  cases p <;> simp [State.sameIn] at hp ⊢ <;> (repeat' split) <;> simp

theorem sameBut_endPresencePeriod (s : State) :
    s.sameBut (endPresencePeriod s) [.clock, .link, .peers, .events] := by
  intro p hp
  unfold endPresencePeriod
  cases p <;> simp [State.sameIn] at hp ⊢ <;> (repeat' split) <;> simp

theorem sameBut_endListening (s : State) :
    s.sameBut (endListening s) [.clock, .station, .axes, .motion, .zone, .link, .peers,
      .probes, .events] := by
  intro p hp
  unfold endListening
  cases p <;> simp [State.sameIn] at hp ⊢ <;> (repeat' split) <;> simp

theorem sameBut_seatTimeout (waiting leaving : Phase) (latchOpen : Bool) (s : State) :
    s.sameBut (seatTimeout waiting leaving latchOpen s) [.clock, .axes, .motion, .zone, .link, .peers,
      .probes, .events] := by
  intro p hp
  unfold seatTimeout
  cases p <;> simp [State.sameIn] at hp ⊢ <;> (repeat' split) <;> simp

theorem sameBut_takeAnswer (high low check : Byte) (s : State) :
    s.sameBut (takeAnswer high low check s) [.axes, .motion, .zone, .link, .peers, .probes, .events] := by
  intro p hp
  unfold takeAnswer
  cases p <;> simp [State.sameIn] at hp ⊢ <;> (repeat' split) <;> simp

theorem sameBut_attemptTimeout (s : State) :
    s.sameBut (attemptTimeout s) [.clock, .axes, .motion, .zone, .link, .peers,
      .probes, .events] := by
  intro p hp
  unfold attemptTimeout
  cases p <;> simp [State.sameIn] at hp ⊢ <;> (repeat' split) <;> simp

theorem sameBut_lineIdle (s : State) :
    s.sameBut (lineIdle s) [.link] := by
  intro p hp
  unfold lineIdle
  cases p <;> simp [State.sameIn] at hp ⊢

theorem sameBut_driverFault (s : State) :
    s.sameBut (driverFault s) [.axes, .motion, .zone, .link, .peers, .probes, .events] := by
  intro p hp
  unfold driverFault
  cases p <;> simp [State.sameIn] at hp ⊢ <;> (repeat' split) <;> simp

theorem sameBut_powerOn (p : Pins) (s : State) :
    s.sameBut ((State.powerOn p).setPending s.pending) (touchedBy (.powerOn p)) := by
  intro part hp
  cases part <;> simp [State.sameIn, touchedBy] at hp ⊢

/-- SAMPLE TIMER, before its meaning wraps it (R117). -/
def sampleTimer (v : Conversions) (order : List Chan) (s : State) : State :=
  sampleChannels v order ((s.reach s.temps.sampleDue).setTemps
    { s.temps with sampleDue := s.temps.sampleDue + 100 })

theorem exec_sampleTimer (v : Conversions) (order : List Chan) (s : State) :
    exec (.sampleTimer v order) s = .next (sampleTimer v order s) := rfl

theorem sameBut_sampleTimer (v : Conversions) (order : List Chan) (s : State) :
    s.sameBut (sampleTimer v order s) [.clock, .temps, .events] := by
  intro p hp
  unfold sampleTimer
  cases p <;> simp [State.sameIn] at hp ⊢

/-- Settles O2: each command's frame is that of the operation it is. -/
theorem everyCommandCompletesInItsParts : Obligations.EveryCommandCompletesInItsParts := by
  intro c s
  cases c with
  | powerOn _ => exact ⟨_, rfl, sameBut_powerOn _ _⟩
  | hostFrameCheckFailed _ _ => exact ⟨_, rfl, sameBut_checkFailed _ _ _⟩
  | replyShiftOut => exact ⟨_, rfl, sameBut_shiftOut _⟩
  | configure _ => exact ⟨_, rfl, sameBut_configure _ _⟩
  | start _ => exact ⟨_, rfl, sameBut_start _ _⟩
  | resetStation _ _ => exact ⟨_, rfl, sameBut_resetStation _ _ _⟩
  | resetLink _ => exact ⟨_, rfl, sameBut_resetLink _ _⟩
  | queueMove _ => exact ⟨_, rfl, sameBut_queueMove _ _⟩
  | stop _ => exact ⟨_, rfl, sameBut_stop _ _⟩
  | resume _ => exact ⟨_, rfl, sameBut_resume _ _⟩
  | flushMoves _ => exact ⟨_, rfl, sameBut_flushMoves _ _⟩
  | referenceAxis _ => exact ⟨_, rfl, sameBut_referenceAxis _ _⟩
  | clearFault _ => exact ⟨_, rfl, sameBut_clearFault _ _⟩
  | changeProbe _ => exact ⟨_, rfl, sameBut_changeProbe _ _⟩
  | abortChange _ => exact ⟨_, rfl, sameBut_abortCommand _ _⟩
  | identifyProbe _ => exact ⟨_, rfl, sameBut_identifyProbe _ _⟩
  | writeProbeSet _ => exact ⟨_, rfl, sameBut_writeProbeSet _ _⟩
  | deleteProbe _ => exact ⟨_, rfl, sameBut_deleteProbe _ _⟩
  | selectBank _ => exact ⟨_, rfl, sameBut_selectBank _ _⟩
  | setRackSlot _ => exact ⟨_, rfl, sameBut_setRackSlot _ _⟩
  | setFixedTemperature _ => exact ⟨_, rfl, sameBut_setFixedTemperature _ _⟩
  | clearFixedTemperature _ => exact ⟨_, rfl, sameBut_clearFixedTemperature _ _⟩
  | setPart _ => exact ⟨_, rfl, sameBut_setPart _ _⟩
  | callSample _ => exact ⟨_, rfl, sameBut_callSample _ _⟩
  | forgetPeer _ => exact ⟨_, rfl, sameBut_forgetPeer _ _⟩
  | readPoint _ => exact ⟨_, rfl, sameBut_readPoint _ _⟩
  | peekPoint _ => exact ⟨_, rfl, sameBut_peekPoint _ _⟩
  | flushPoints _ => exact ⟨_, rfl, sameBut_flushPoints _ _⟩
  | readStatus _ => exact ⟨_, rfl, sameBut_readStatus _ _⟩
  | readTemperatures _ => exact ⟨_, rfl, sameBut_readTemperatures _ _⟩
  | readZoneView _ => exact ⟨_, rfl, sameBut_readZoneView _ _⟩
  | readRackView _ => exact ⟨_, rfl, sameBut_readRackView _ _⟩
  | readProbe _ => exact ⟨_, rfl, sameBut_readProbe _ _⟩
  | readPeer _ => exact ⟨_, rfl, sameBut_readPeer _ _⟩
  | readEvents _ => exact ⟨_, rfl, sameBut_readEvents _ _⟩
  | enableEvents _ => exact ⟨_, rfl, sameBut_enableEvents _ _⟩
  | acknowledgeEvents _ => exact ⟨_, rfl, sameBut_acknowledgeEvents _ _⟩
  | releaseHoldEnd => exact ⟨_, rfl, sameBut_endReleaseHold _⟩
  | motionPeriod _ _ => exact ⟨_, rfl, sameBut_motionPeriod _ _ _⟩
  | segmentComplete => exact ⟨_, rfl, sameBut_completeSegment _⟩
  | positionTimeout => exact ⟨_, rfl, sameBut_positionTimeout _⟩
  | stopDecelerationEnd => exact ⟨_, rfl, sameBut_stopDecelerationEnd _⟩
  | scaleCount _ _ => exact ⟨_, rfl, sameBut_takeScaleCount _ _ _⟩
  | scaleFault _ => exact ⟨_, rfl, sameBut_takeScaleFault _ _⟩
  | referenceMark _ => exact ⟨_, rfl, sameBut_takeReferenceMark _ _⟩
  | referenceEnd => exact ⟨_, rfl, sameBut_endReference _⟩
  | referenceStopEnd => exact ⟨_, rfl, sameBut_endReferenceStop _⟩
  | touch _ => exact ⟨_, rfl, sameBut_takeTouch _ _⟩
  | correctionEnd => exact ⟨_, rfl, sameBut_endCorrection _⟩
  | frameSendStart => exact ⟨_, rfl, sameBut_startSending _⟩
  | arbitrationLost => exact ⟨_, rfl, sameBut_loseArbitration _⟩
  | duplicateStationMismatch => exact ⟨_, rfl, sameBut_duplicateMismatch _⟩
  | earlySpoil _ => exact ⟨_, rfl, sameBut_earlySpoil _ _⟩
  | frameSpoiled _ _ => exact ⟨_, rfl, sameBut_frameSpoiled _ _⟩
  | duplicateStationFrame _ => exact ⟨_, rfl, sameBut_duplicateFrame _ _⟩
  | frameDelivered => exact ⟨_, rfl, sameBut_deliver _⟩
  | claimAccepted _ _ _ => exact ⟨_, rfl, sameBut_takeClaim _ _ _ _⟩
  | settleWindowEnd _ _ => exact ⟨_, rfl, sameBut_endWindow _ _ _⟩
  | objectAccepted _ _ _ _ => exact ⟨_, rfl, sameBut_takeObject _ _ _ _ _⟩
  | waitAccepted _ _ => exact ⟨_, rfl, sameBut_takeWait _ _ _⟩
  | claimRetryRoom => exact ⟨_, rfl, sameBut_retryRoom _⟩
  | zoneWaitTimeout => exact ⟨_, rfl, sameBut_waitTimeout _⟩
  | zoneOverstay _ => exact ⟨_, rfl, sameBut_overstay _ _⟩
  | releaseAccepted _ _ => exact ⟨_, rfl, sameBut_takeRelease _ _ _⟩
  | deferralExpiry _ => exact ⟨_, rfl, sameBut_deferralExpiry _ _⟩
  | presenceAccepted _ _ => exact ⟨_, rfl, sameBut_takePresence _ _ _⟩
  | peerLost _ => exact ⟨_, rfl, sameBut_losePeer _ _⟩
  | rackNoteAccepted _ _ _ => exact ⟨_, rfl, sameBut_takeRackNote _ _ _ _⟩
  | sampleCallAccepted _ _ _ => exact ⟨_, rfl, sameBut_takeSampleCall _ _ _ _⟩
  | presencePeriod => exact ⟨_, rfl, sameBut_endPresencePeriod _⟩
  | listeningEnd => exact ⟨_, rfl, sameBut_endListening _⟩
  | sampleTimer _ _ => exact ⟨_, rfl, sameBut_sampleTimer _ _ _⟩
  | dropTimeout => exact ⟨_, rfl, sameBut_seatTimeout _ _ _ _⟩
  | pickTimeout => exact ⟨_, rfl, sameBut_seatTimeout _ _ _ _⟩
  | identAnswer _ _ _ => exact ⟨_, rfl, sameBut_takeAnswer _ _ _ _⟩
  | identAttemptTimeout => exact ⟨_, rfl, sameBut_attemptTimeout _⟩
  | lineIdle => exact ⟨_, rfl, sameBut_lineIdle _⟩
  | lineDriverFault => exact ⟨_, rfl, sameBut_driverFault _⟩

end Sys2Proof.Machine
end

section
/-! PROOFS. The frame of every shared operation inside the parts that it changes: the fields of those parts that
it leaves, beside the whole parts of Laws/Frames. Simp lemmas, in the order of the operations. -/

namespace Sys2Proof.Machine

@[simp] theorem State.setAxis_get (s : State) (a ax : Axis) (c : AxisChan) :
    (s.setAxis a c).axes.chan.get ax = if ax = a then c else s.axes.chan.get ax := by
  unfold State.setAxis
  split_ifs with h
  · rw [h]
    exact V3.get_set_same _ _ _
  · exact V3.get_set_other _ _ h

@[simp] theorem AxisChan.freeze_leaves (c : AxisChan) :
    c.freeze.scale = c.scale ∧ c.freeze.referenced = c.referenced ∧ c.freeze.lower = c.lower
      ∧ c.freeze.upper = c.upper ∧ c.freeze.ready = c.ready := by
  simp [AxisChan.freeze]

@[simp] theorem AxisChan.start_leaves (c : AxisChan) :
    c.start.scale = c.scale ∧ c.start.referenced = c.referenced ∧ c.start.lower = c.lower
      ∧ c.start.upper = c.upper ∧ c.start.ready = c.ready := by
  simp [AxisChan.start]

@[simp] theorem AxisChan.track_leaves (c : AxisChan) :
    c.track.scale = c.scale ∧ c.track.referenced = c.referenced ∧ c.track.mode = c.mode
      ∧ c.track.lower = c.lower ∧ c.track.upper = c.upper ∧ c.track.ready = c.ready
      ∧ c.track.enable = c.enable := by
  unfold AxisChan.track
  split <;> simp

@[simp] theorem State.answer_leaves (s : State) (code : Code) (data : List Byte) :
    (State.answer s code data).port.shiftOut = s.port.shiftOut := by
  simp [State.answer]

@[simp] theorem State.raise_leaves (s : State) (k : EventKind) (kept : Kept) :
    (State.raise s k kept).events.enable = s.events.enable
      ∧ (State.raise s k kept).events.releaseHold = s.events.releaseHold := by
  simp [State.raise]

@[simp] theorem raiseReady_leaves (s : State) :
    (raiseReady s).events.enable = s.events.enable
      ∧ (raiseReady s).events.releaseHold = s.events.releaseHold := by
  simp [raiseReady]

@[simp] theorem raisePointReady_leaves (n : BitVec 16) (s : State) :
    (raisePointReady n s).events.enable = s.events.enable
      ∧ (raisePointReady n s).events.releaseHold = s.events.releaseHold := by
  simp [raisePointReady]

@[simp] theorem raiseQueueHold_leaves (s : State) :
    (raiseQueueHold s).events.enable = s.events.enable
      ∧ (raiseQueueHold s).events.releaseHold = s.events.releaseHold := by
  simp [raiseQueueHold]

@[simp] theorem raiseOverrun_leaves (n : BitVec 16) (s : State) :
    (raiseOverrun n s).events.enable = s.events.enable
      ∧ (raiseOverrun n s).events.releaseHold = s.events.releaseHold := by
  simp [raiseOverrun]

@[simp] theorem raiseSegmentDone_leaves (t : Tag) (s : State) :
    (raiseSegmentDone t s).events.enable = s.events.enable
      ∧ (raiseSegmentDone t s).events.releaseHold = s.events.releaseHold := by
  simp [raiseSegmentDone]

@[simp] theorem raiseProbeRefused_leaves (r : RefuseReason) (t : Tag) (s : State) :
    (raiseProbeRefused r t s).events.enable = s.events.enable
      ∧ (raiseProbeRefused r t s).events.releaseHold = s.events.releaseHold := by
  simp [raiseProbeRefused]

@[simp] theorem raiseMotionFault_leaves (r : FaultReason) (t : Option Tag) (s : State) :
    (raiseMotionFault r t s).events.enable = s.events.enable
      ∧ (raiseMotionFault r t s).events.releaseHold = s.events.releaseHold := by
  simp [raiseMotionFault]

@[simp] theorem raiseZoneWait_leaves (cs : CellSet) (s : State) :
    (raiseZoneWait cs s).events.enable = s.events.enable
      ∧ (raiseZoneWait cs s).events.releaseHold = s.events.releaseHold := by
  simp [raiseZoneWait]

@[simp] theorem raiseZoneWaitTimeout_leaves (cs : CellSet) (s : State) :
    (raiseZoneWaitTimeout cs s).events.enable = s.events.enable
      ∧ (raiseZoneWaitTimeout cs s).events.releaseHold = s.events.releaseHold := by
  simp [raiseZoneWaitTimeout]

@[simp] theorem raiseZoneOverstay_leaves (c : Cell) (w : Station) (s : State) :
    (raiseZoneOverstay c w s).events.enable = s.events.enable
      ∧ (raiseZoneOverstay c w s).events.releaseHold = s.events.releaseHold := by
  simp [raiseZoneOverstay]

@[simp] theorem raiseZoneConflict_leaves (p : Station) (cs : CellSet) (s : State) :
    (raiseZoneConflict p cs s).events.enable = s.events.enable
      ∧ (raiseZoneConflict p cs s).events.releaseHold = s.events.releaseHold := by
  simp [raiseZoneConflict]

@[simp] theorem raiseChangeDone_leaves (t : Ident) (s : State) :
    (raiseChangeDone t s).events.enable = s.events.enable
      ∧ (raiseChangeDone t s).events.releaseHold = s.events.releaseHold := by
  simp [raiseChangeDone]

@[simp] theorem raiseChangeFailed_leaves (r : FailReason) (t : Ident) (s : State) :
    (raiseChangeFailed r t s).events.enable = s.events.enable
      ∧ (raiseChangeFailed r t s).events.releaseHold = s.events.releaseHold := by
  simp [raiseChangeFailed]

@[simp] theorem raiseRackConflict_leaves (k : SlotIx) (i : Ident) (s : State) :
    (raiseRackConflict k i s).events.enable = s.events.enable
      ∧ (raiseRackConflict k i s).events.releaseHold = s.events.releaseHold := by
  simp [raiseRackConflict]

@[simp] theorem raiseSeatedChange_leaves (level : Bool) (s : State) :
    (raiseSeatedChange level s).events.enable = s.events.enable
      ∧ (raiseSeatedChange level s).events.releaseHold = s.events.releaseHold := by
  simp [raiseSeatedChange]

@[simp] theorem raiseStrayTouch_leaves (s : State) :
    (raiseStrayTouch s).events.enable = s.events.enable
      ∧ (raiseStrayTouch s).events.releaseHold = s.events.releaseHold := by
  simp [raiseStrayTouch]

@[simp] theorem raiseSensorFault_leaves (c : Chan) (s : State) :
    (raiseSensorFault c s).events.enable = s.events.enable
      ∧ (raiseSensorFault c s).events.releaseHold = s.events.releaseHold := by
  simp [raiseSensorFault]

@[simp] theorem raisePeerLost_leaves (p : Station) (s : State) :
    (raisePeerLost p s).events.enable = s.events.enable
      ∧ (raisePeerLost p s).events.releaseHold = s.events.releaseHold := by
  simp [raisePeerLost]

@[simp] theorem raiseLinkFault_leaves (r : LinkReason) (k : Option FrameKind) (s : State) :
    (raiseLinkFault r k s).events.enable = s.events.enable
      ∧ (raiseLinkFault r k s).events.releaseHold = s.events.releaseHold := by
  simp [raiseLinkFault]

@[simp] theorem raisePortError_leaves (r : PortReason) (s : State) :
    (raisePortError r s).events.enable = s.events.enable
      ∧ (raisePortError r s).events.releaseHold = s.events.releaseHold := by
  simp [raisePortError]

@[simp] theorem State.setAxis_leaves (s : State) (a : Axis) (c : AxisChan) :
    (State.setAxis s a c).axes.retracted = s.axes.retracted := by
  simp [State.setAxis]

@[simp] theorem State.setModes_leaves (s : State) (m : Mode) :
    (State.setModes s m).axes.retracted = s.axes.retracted := by
  simp [State.setModes]

@[simp] theorem State.setModes_leaves_axis (s : State) (m : Mode) (ax : Axis) :
    ((State.setModes s m).axes.chan.get ax).scale = (s.axes.chan.get ax).scale
      ∧ ((State.setModes s m).axes.chan.get ax).referenced = (s.axes.chan.get ax).referenced
      ∧ ((State.setModes s m).axes.chan.get ax).setpoint = (s.axes.chan.get ax).setpoint
      ∧ ((State.setModes s m).axes.chan.get ax).lower = (s.axes.chan.get ax).lower
      ∧ ((State.setModes s m).axes.chan.get ax).upper = (s.axes.chan.get ax).upper
      ∧ ((State.setModes s m).axes.chan.get ax).ready = (s.axes.chan.get ax).ready
      ∧ ((State.setModes s m).axes.chan.get ax).enable = (s.axes.chan.get ax).enable := by
  simp [State.setModes]

@[simp] theorem State.sendSetpoints_leaves (s : State) (p : V3 Int) :
    (State.sendSetpoints s p).axes.retracted = s.axes.retracted := by
  simp [State.sendSetpoints]

@[simp] theorem State.sendSetpoints_leaves_axis (s : State) (p : V3 Int) (ax : Axis) :
    ((State.sendSetpoints s p).axes.chan.get ax).scale = (s.axes.chan.get ax).scale
      ∧ ((State.sendSetpoints s p).axes.chan.get ax).referenced = (s.axes.chan.get ax).referenced
      ∧ ((State.sendSetpoints s p).axes.chan.get ax).mode = (s.axes.chan.get ax).mode
      ∧ ((State.sendSetpoints s p).axes.chan.get ax).lower = (s.axes.chan.get ax).lower
      ∧ ((State.sendSetpoints s p).axes.chan.get ax).upper = (s.axes.chan.get ax).upper
      ∧ ((State.sendSetpoints s p).axes.chan.get ax).ready = (s.axes.chan.get ax).ready
      ∧ ((State.sendSetpoints s p).axes.chan.get ax).enable = (s.axes.chan.get ax).enable := by
  simp [State.sendSetpoints]

@[simp] theorem State.setCurrent_leaves (s : State) (g : Segment) :
    (State.setCurrent s g).motion.state = s.motion.state
      ∧ (State.setCurrent s g).motion.stopPending = s.motion.stopPending
      ∧ (State.setCurrent s g).motion.reference = s.motion.reference
      ∧ (State.setCurrent s g).motion.deferCurrent = s.motion.deferCurrent
      ∧ (State.setCurrent s g).motion.deferHandOver = s.motion.deferHandOver := by
  unfold State.setCurrent
  repeat' split
  all_goals simp

@[simp] theorem State.dropCurrent_leaves (s : State) :
    (State.dropCurrent s).motion.state = s.motion.state
      ∧ (State.dropCurrent s).motion.stopPending = s.motion.stopPending
      ∧ (State.dropCurrent s).motion.reference = s.motion.reference
      ∧ (State.dropCurrent s).motion.deferCurrent = s.motion.deferCurrent
      ∧ (State.dropCurrent s).motion.deferHandOver = s.motion.deferHandOver := by
  unfold State.dropCurrent
  split <;> simp

@[simp] theorem State.setMotionState_leaves (s : State) (m : MotionState) :
    (State.setMotionState s m).motion.queue = s.motion.queue
      ∧ (State.setMotionState s m).motion.internal = s.motion.internal
      ∧ (State.setMotionState s m).motion.stopPending = s.motion.stopPending
      ∧ (State.setMotionState s m).motion.reference = s.motion.reference
      ∧ (State.setMotionState s m).motion.deferCurrent = s.motion.deferCurrent
      ∧ (State.setMotionState s m).motion.deferHandOver = s.motion.deferHandOver := by
  simp [State.setMotionState]

@[simp] theorem settleBank_leaves (s : State) :
    (settleBank s).probes.library = s.probes.library ∧ (settleBank s).probes.current = s.probes.current
      ∧ (settleBank s).probes.slots = s.probes.slots ∧ (settleBank s).probes.seated = s.probes.seated
      ∧ (settleBank s).probes.latchOpen = s.probes.latchOpen ∧ (settleBank s).probes.read = s.probes.read
      ∧ (settleBank s).probes.change = s.probes.change ∧ (settleBank s).probes.latch = s.probes.latch := by
  unfold settleBank
  repeat' split
  all_goals simp

@[simp] theorem State.mapCells_leaves (s : State) (f : Cell → CellEntry → CellEntry) :
    (State.mapCells s f).zone.claim = s.zone.claim
      ∧ (State.mapCells s f).zone.nextNumber = s.zone.nextNumber
      ∧ (State.mapCells s f).zone.windows = s.zone.windows ∧ (State.mapCells s f).zone.kept = s.zone.kept
      ∧ (State.mapCells s f).zone.heldBack = s.zone.heldBack
      ∧ (State.mapCells s f).zone.retryAwaited = s.zone.retryAwaited := by
  simp [State.mapCells]

@[simp] theorem takeBack_leaves (p : Station) (n : Byte) (s : State) :
    (takeBack p n s).zone.claim = s.zone.claim ∧ (takeBack p n s).zone.nextNumber = s.zone.nextNumber
      ∧ (takeBack p n s).zone.windows = s.zone.windows ∧ (takeBack p n s).zone.kept = s.zone.kept
      ∧ (takeBack p n s).zone.heldBack = s.zone.heldBack
      ∧ (takeBack p n s).zone.retryAwaited = s.zone.retryAwaited := by
  simp [takeBack]

@[simp] theorem removeSending_leaves (s : State) :
    (removeSending s).link.state = s.link.state ∧ (removeSending s).link.run = s.link.run
      ∧ (removeSending s).link.waitIdle = s.link.waitIdle
      ∧ (removeSending s).link.listeningDue = s.link.listeningDue := by
  simp [removeSending]

@[simp] theorem offer_leaves (f : TxFrame) (s : State) :
    (offer f s).2.link.state = s.link.state ∧ (offer f s).2.link.run = s.link.run
      ∧ (offer f s).2.link.waitIdle = s.link.waitIdle ∧ (offer f s).2.link.lineOut = s.link.lineOut
      ∧ (offer f s).2.link.listeningDue = s.link.listeningDue
      ∧ (offer f s).2.events.enable = s.events.enable
      ∧ (offer f s).2.events.releaseHold = s.events.releaseHold := by
  unfold offer placeFrame
  dsimp only
  refine ⟨?_, ?_, ?_, ?_, ?_, ?_, ?_⟩ <;> (repeat' split) <;> simp

theorem offer_leaves_of {f : TxFrame} {s t : State} {o : Offer} (h : offer f s = (o, t)) :
    t.link.state = s.link.state ∧ t.link.run = s.link.run ∧ t.link.waitIdle = s.link.waitIdle
      ∧ t.link.lineOut = s.link.lineOut ∧ t.link.listeningDue = s.link.listeningDue
      ∧ t.events.enable = s.events.enable ∧ t.events.releaseHold = s.events.releaseHold := by
  have t_eq : t = (offer f s).2 := by rw [h]
  simp [t_eq]

@[simp] theorem backToPending_leaves (attempts : Nat) (s : State) :
    (backToPending attempts s).link.state = s.link.state ∧ (backToPending attempts s).link.run = s.link.run
      ∧ (backToPending attempts s).link.waitIdle = s.link.waitIdle
      ∧ (backToPending attempts s).link.listeningDue = s.link.listeningDue := by
  unfold backToPending
  split <;> simp

@[simp] theorem presenceLeft_leaves (s : State) :
    (presenceLeft s).peers.entries = s.peers.entries ∧ (presenceLeft s).peers.heldBack = s.peers.heldBack := by
  unfold presenceLeft
  split <;> simp

@[simp] theorem offerPresence_leaves (s : State) :
    (offerPresence s).link.state = s.link.state ∧ (offerPresence s).link.run = s.link.run
      ∧ (offerPresence s).link.waitIdle = s.link.waitIdle ∧ (offerPresence s).link.lineOut = s.link.lineOut
      ∧ (offerPresence s).link.listeningDue = s.link.listeningDue
      ∧ (offerPresence s).peers.entries = s.peers.entries
      ∧ (offerPresence s).events.enable = s.events.enable
      ∧ (offerPresence s).events.releaseHold = s.events.releaseHold := by
  unfold offerPresence
  repeat' split
  all_goals first
    | (simp; done)
    | (rename_i h; simp [offer_keeps_of h, offer_leaves_of h])

@[simp] theorem releaseReport_leaves (s : State) :
    (releaseReport s).link.state = s.link.state ∧ (releaseReport s).link.run = s.link.run
      ∧ (releaseReport s).link.waitIdle = s.link.waitIdle ∧ (releaseReport s).link.lineOut = s.link.lineOut
      ∧ (releaseReport s).link.listeningDue = s.link.listeningDue
      ∧ (releaseReport s).peers.entries = s.peers.entries
      ∧ (releaseReport s).events.enable = s.events.enable
      ∧ (releaseReport s).events.releaseHold = s.events.releaseHold := by
  unfold releaseReport
  split <;> simp

@[simp] theorem State.setSlot_leaves (s : State) (k : SlotIx) (v : Slot) :
    (State.setSlot s k v).probes.library = s.probes.library
      ∧ (State.setSlot s k v).probes.live = s.probes.live
      ∧ (State.setSlot s k v).probes.pendingBank = s.probes.pendingBank
      ∧ (State.setSlot s k v).probes.current = s.probes.current
      ∧ (State.setSlot s k v).probes.seated = s.probes.seated
      ∧ (State.setSlot s k v).probes.latchOpen = s.probes.latchOpen
      ∧ (State.setSlot s k v).probes.read = s.probes.read
      ∧ (State.setSlot s k v).probes.change = s.probes.change
      ∧ (State.setSlot s k v).probes.latch = s.probes.latch := by
  simp [State.setSlot]

@[simp] theorem markUnsent_leaves (k : SlotIx) (v : Bool) (s : State) :
    (markUnsent k v s).probes.library = s.probes.library ∧ (markUnsent k v s).probes.live = s.probes.live
      ∧ (markUnsent k v s).probes.pendingBank = s.probes.pendingBank
      ∧ (markUnsent k v s).probes.current = s.probes.current
      ∧ (markUnsent k v s).probes.seated = s.probes.seated
      ∧ (markUnsent k v s).probes.latchOpen = s.probes.latchOpen
      ∧ (markUnsent k v s).probes.read = s.probes.read ∧ (markUnsent k v s).probes.change = s.probes.change
      ∧ (markUnsent k v s).probes.latch = s.probes.latch := by
  simp [markUnsent]

@[simp] theorem offerNote_leaves (k : SlotIx) (content : Ident) (s : State) :
    (offerNote k content s).link.state = s.link.state ∧ (offerNote k content s).link.run = s.link.run
      ∧ (offerNote k content s).link.waitIdle = s.link.waitIdle
      ∧ (offerNote k content s).link.lineOut = s.link.lineOut
      ∧ (offerNote k content s).link.listeningDue = s.link.listeningDue
      ∧ (offerNote k content s).probes.library = s.probes.library
      ∧ (offerNote k content s).probes.live = s.probes.live
      ∧ (offerNote k content s).probes.pendingBank = s.probes.pendingBank
      ∧ (offerNote k content s).probes.current = s.probes.current
      ∧ (offerNote k content s).probes.seated = s.probes.seated
      ∧ (offerNote k content s).probes.latchOpen = s.probes.latchOpen
      ∧ (offerNote k content s).probes.read = s.probes.read
      ∧ (offerNote k content s).probes.change = s.probes.change
      ∧ (offerNote k content s).probes.latch = s.probes.latch
      ∧ (offerNote k content s).events.enable = s.events.enable
      ∧ (offerNote k content s).events.releaseHold = s.events.releaseHold := by
  unfold offerNote
  split <;> rename_i h <;> simp [offer_keeps_of h, offer_leaves_of h]

@[simp] theorem applyNote_leaves (k : SlotIx) (c : Ident) (src : NotedBy) (s : State) :
    (applyNote k c src s).probes.library = s.probes.library
      ∧ (applyNote k c src s).probes.live = s.probes.live
      ∧ (applyNote k c src s).probes.pendingBank = s.probes.pendingBank
      ∧ (applyNote k c src s).probes.current = s.probes.current
      ∧ (applyNote k c src s).probes.seated = s.probes.seated
      ∧ (applyNote k c src s).probes.latchOpen = s.probes.latchOpen
      ∧ (applyNote k c src s).probes.read = s.probes.read
      ∧ (applyNote k c src s).probes.change = s.probes.change
      ∧ (applyNote k c src s).probes.latch = s.probes.latch
      ∧ (applyNote k c src s).events.enable = s.events.enable
      ∧ (applyNote k c src s).events.releaseHold = s.events.releaseHold := by
  unfold applyNote
  split <;> simp

@[simp] theorem expelIdent_leaves (i : Ident) (s : State) :
    (expelIdent i s).link.state = s.link.state ∧ (expelIdent i s).link.run = s.link.run
      ∧ (expelIdent i s).link.waitIdle = s.link.waitIdle ∧ (expelIdent i s).link.lineOut = s.link.lineOut
      ∧ (expelIdent i s).link.listeningDue = s.link.listeningDue
      ∧ (expelIdent i s).probes.library = s.probes.library ∧ (expelIdent i s).probes.live = s.probes.live
      ∧ (expelIdent i s).probes.pendingBank = s.probes.pendingBank
      ∧ (expelIdent i s).probes.current = s.probes.current
      ∧ (expelIdent i s).probes.seated = s.probes.seated
      ∧ (expelIdent i s).probes.latchOpen = s.probes.latchOpen
      ∧ (expelIdent i s).probes.read = s.probes.read ∧ (expelIdent i s).probes.change = s.probes.change
      ∧ (expelIdent i s).probes.latch = s.probes.latch ∧ (expelIdent i s).events.enable = s.events.enable
      ∧ (expelIdent i s).events.releaseHold = s.events.releaseHold := by
  unfold expelIdent
  split
  · exact ⟨(foldl_keeps (fun u : State => u.link.state) _ (fun t x => by dsimp only; split <;> simp) _ _),
      (foldl_keeps (fun u : State => u.link.run) _ (fun t x => by dsimp only; split <;> simp) _ _),
      (foldl_keeps (fun u : State => u.link.waitIdle) _ (fun t x => by dsimp only; split <;> simp) _ _),
      (foldl_keeps (fun u : State => u.link.lineOut) _ (fun t x => by dsimp only; split <;> simp) _ _),
      (foldl_keeps (fun u : State => u.link.listeningDue) _ (fun t x => by dsimp only; split <;> simp) _ _),
      (foldl_keeps (fun u : State => u.probes.library) _ (fun t x => by dsimp only; split <;> simp) _ _),
      (foldl_keeps (fun u : State => u.probes.live) _ (fun t x => by dsimp only; split <;> simp) _ _),
      (foldl_keeps (fun u : State => u.probes.pendingBank) _ (fun t x => by dsimp only; split <;> simp) _ _),
      (foldl_keeps (fun u : State => u.probes.current) _ (fun t x => by dsimp only; split <;> simp) _ _),
      (foldl_keeps (fun u : State => u.probes.seated) _ (fun t x => by dsimp only; split <;> simp) _ _),
      (foldl_keeps (fun u : State => u.probes.latchOpen) _ (fun t x => by dsimp only; split <;> simp) _ _),
      (foldl_keeps (fun u : State => u.probes.read) _ (fun t x => by dsimp only; split <;> simp) _ _),
      (foldl_keeps (fun u : State => u.probes.change) _ (fun t x => by dsimp only; split <;> simp) _ _),
      (foldl_keeps (fun u : State => u.probes.latch) _ (fun t x => by dsimp only; split <;> simp) _ _),
      (foldl_keeps (fun u : State => u.events.enable) _ (fun t x => by dsimp only; split <;> simp) _ _),
      (foldl_keeps (fun u : State => u.events.releaseHold) _ (fun t x => by dsimp only; split <;> simp) _ _)⟩
  · simp

@[simp] theorem State.setCurrentProbe_leaves (s : State) (p : CurrentProbe) :
    (State.setCurrentProbe s p).probes.library = s.probes.library
      ∧ (State.setCurrentProbe s p).probes.live = s.probes.live
      ∧ (State.setCurrentProbe s p).probes.pendingBank = s.probes.pendingBank
      ∧ (State.setCurrentProbe s p).probes.slots = s.probes.slots
      ∧ (State.setCurrentProbe s p).probes.seated = s.probes.seated
      ∧ (State.setCurrentProbe s p).probes.latchOpen = s.probes.latchOpen
      ∧ (State.setCurrentProbe s p).probes.read = s.probes.read
      ∧ (State.setCurrentProbe s p).probes.change = s.probes.change
      ∧ (State.setCurrentProbe s p).probes.latch = s.probes.latch := by
  simp [State.setCurrentProbe]

@[simp] theorem failChange_leaves (s : State) :
    (failChange s).zone.cells = s.zone.cells ∧ (failChange s).zone.claim = s.zone.claim
      ∧ (failChange s).zone.nextNumber = s.zone.nextNumber ∧ (failChange s).zone.windows = s.zone.windows
      ∧ (failChange s).zone.kept = s.zone.kept ∧ (failChange s).zone.retryAwaited = s.zone.retryAwaited
      ∧ (failChange s).probes.library = s.probes.library ∧ (failChange s).probes.live = s.probes.live
      ∧ (failChange s).probes.pendingBank = s.probes.pendingBank
      ∧ (failChange s).probes.current = s.probes.current ∧ (failChange s).probes.slots = s.probes.slots
      ∧ (failChange s).probes.seated = s.probes.seated ∧ (failChange s).probes.latch = s.probes.latch
      ∧ (failChange s).events.enable = s.events.enable
      ∧ (failChange s).events.releaseHold = s.events.releaseHold := by
  unfold failChange
  split <;> simp

@[simp] theorem faultStop_leaves (r : FaultReason) (s : State) :
    (faultStop r s).axes.retracted = s.axes.retracted
      ∧ (faultStop r s).motion.deferCurrent = s.motion.deferCurrent
      ∧ (faultStop r s).motion.deferHandOver = s.motion.deferHandOver
      ∧ (faultStop r s).zone.cells = s.zone.cells ∧ (faultStop r s).zone.claim = s.zone.claim
      ∧ (faultStop r s).zone.nextNumber = s.zone.nextNumber ∧ (faultStop r s).zone.windows = s.zone.windows
      ∧ (faultStop r s).zone.kept = s.zone.kept ∧ (faultStop r s).zone.retryAwaited = s.zone.retryAwaited
      ∧ (faultStop r s).probes.library = s.probes.library
      ∧ (faultStop r s).probes.current = s.probes.current ∧ (faultStop r s).probes.slots = s.probes.slots
      ∧ (faultStop r s).probes.seated = s.probes.seated ∧ (faultStop r s).probes.latch = s.probes.latch
      ∧ (faultStop r s).events.enable = s.events.enable
      ∧ (faultStop r s).events.releaseHold = s.events.releaseHold := by
  unfold faultStop
  repeat' split
  all_goals simp

@[simp] theorem faultStop_leaves_axis (r : FaultReason) (s : State) (ax : Axis) :
    ((faultStop r s).axes.chan.get ax).scale = (s.axes.chan.get ax).scale
      ∧ ((faultStop r s).axes.chan.get ax).referenced = (s.axes.chan.get ax).referenced
      ∧ ((faultStop r s).axes.chan.get ax).lower = (s.axes.chan.get ax).lower
      ∧ ((faultStop r s).axes.chan.get ax).upper = (s.axes.chan.get ax).upper
      ∧ ((faultStop r s).axes.chan.get ax).ready = (s.axes.chan.get ax).ready := by
  unfold faultStop
  repeat' split
  all_goals simp

@[simp] theorem zoneConflict_leaves (p : Station) (cs : CellSet) (s : State) :
    (zoneConflict p cs s).axes.retracted = s.axes.retracted
      ∧ (zoneConflict p cs s).motion.deferCurrent = s.motion.deferCurrent
      ∧ (zoneConflict p cs s).motion.deferHandOver = s.motion.deferHandOver
      ∧ (zoneConflict p cs s).zone.cells = s.zone.cells ∧ (zoneConflict p cs s).zone.claim = s.zone.claim
      ∧ (zoneConflict p cs s).zone.nextNumber = s.zone.nextNumber
      ∧ (zoneConflict p cs s).zone.windows = s.zone.windows ∧ (zoneConflict p cs s).zone.kept = s.zone.kept
      ∧ (zoneConflict p cs s).zone.retryAwaited = s.zone.retryAwaited
      ∧ (zoneConflict p cs s).probes.library = s.probes.library
      ∧ (zoneConflict p cs s).probes.current = s.probes.current
      ∧ (zoneConflict p cs s).probes.slots = s.probes.slots
      ∧ (zoneConflict p cs s).probes.seated = s.probes.seated
      ∧ (zoneConflict p cs s).probes.latch = s.probes.latch
      ∧ (zoneConflict p cs s).events.enable = s.events.enable
      ∧ (zoneConflict p cs s).events.releaseHold = s.events.releaseHold := by
  simp [zoneConflict]

@[simp] theorem zoneConflict_leaves_axis (p : Station) (cs : CellSet) (s : State) (ax : Axis) :
    ((zoneConflict p cs s).axes.chan.get ax).scale = (s.axes.chan.get ax).scale
      ∧ ((zoneConflict p cs s).axes.chan.get ax).referenced = (s.axes.chan.get ax).referenced
      ∧ ((zoneConflict p cs s).axes.chan.get ax).lower = (s.axes.chan.get ax).lower
      ∧ ((zoneConflict p cs s).axes.chan.get ax).upper = (s.axes.chan.get ax).upper
      ∧ ((zoneConflict p cs s).axes.chan.get ax).ready = (s.axes.chan.get ax).ready := by
  simp [zoneConflict]

@[simp] theorem State.setClaim_leaves (s : State) (c : Option Claim) :
    (State.setClaim s c).zone.cells = s.zone.cells
      ∧ (State.setClaim s c).zone.nextNumber = s.zone.nextNumber
      ∧ (State.setClaim s c).zone.windows = s.zone.windows ∧ (State.setClaim s c).zone.kept = s.zone.kept
      ∧ (State.setClaim s c).zone.heldBack = s.zone.heldBack
      ∧ (State.setClaim s c).zone.retryAwaited = s.zone.retryAwaited := by
  simp [State.setClaim]

@[simp] theorem markTimeout_leaves (c : Claim) (s : State) :
    (markTimeout c s).zone.cells = s.zone.cells ∧ (markTimeout c s).zone.nextNumber = s.zone.nextNumber
      ∧ (markTimeout c s).zone.windows = s.zone.windows ∧ (markTimeout c s).zone.kept = s.zone.kept
      ∧ (markTimeout c s).zone.heldBack = s.zone.heldBack
      ∧ (markTimeout c s).zone.retryAwaited = s.zone.retryAwaited
      ∧ (markTimeout c s).events.enable = s.events.enable
      ∧ (markTimeout c s).events.releaseHold = s.events.releaseHold := by
  simp [markTimeout]

@[simp] theorem offerWait_leaves (cs : CellSet) (s : State) :
    (offerWait cs s).link.state = s.link.state ∧ (offerWait cs s).link.run = s.link.run
      ∧ (offerWait cs s).link.waitIdle = s.link.waitIdle ∧ (offerWait cs s).link.lineOut = s.link.lineOut
      ∧ (offerWait cs s).link.listeningDue = s.link.listeningDue
      ∧ (offerWait cs s).events.enable = s.events.enable
      ∧ (offerWait cs s).events.releaseHold = s.events.releaseHold := by
  unfold offerWait
  split <;> simp

@[simp] theorem takeBackClaim_leaves (c : Claim) (s : State) :
    (takeBackClaim c s).zone.claim = s.zone.claim ∧ (takeBackClaim c s).zone.nextNumber = s.zone.nextNumber
      ∧ (takeBackClaim c s).zone.windows = s.zone.windows ∧ (takeBackClaim c s).zone.kept = s.zone.kept
      ∧ (takeBackClaim c s).zone.heldBack = s.zone.heldBack
      ∧ (takeBackClaim c s).zone.retryAwaited = s.zone.retryAwaited := by
  unfold takeBackClaim
  split <;> simp

@[simp] theorem claimToWaiting_leaves (blocking : CellSet) (s : State) :
    (claimToWaiting blocking s).zone.nextNumber = s.zone.nextNumber
      ∧ (claimToWaiting blocking s).zone.windows = s.zone.windows
      ∧ (claimToWaiting blocking s).zone.kept = s.zone.kept
      ∧ (claimToWaiting blocking s).zone.heldBack = s.zone.heldBack
      ∧ (claimToWaiting blocking s).zone.retryAwaited = s.zone.retryAwaited
      ∧ (claimToWaiting blocking s).link.state = s.link.state
      ∧ (claimToWaiting blocking s).link.run = s.link.run
      ∧ (claimToWaiting blocking s).link.waitIdle = s.link.waitIdle
      ∧ (claimToWaiting blocking s).link.lineOut = s.link.lineOut
      ∧ (claimToWaiting blocking s).link.listeningDue = s.link.listeningDue
      ∧ (claimToWaiting blocking s).events.enable = s.events.enable
      ∧ (claimToWaiting blocking s).events.releaseHold = s.events.releaseHold := by
  unfold claimToWaiting
  dsimp only
  repeat' split
  all_goals simp

@[simp] theorem claimUndelivered_leaves (s : State) :
    (claimUndelivered s).zone.nextNumber = s.zone.nextNumber
      ∧ (claimUndelivered s).zone.windows = s.zone.windows ∧ (claimUndelivered s).zone.kept = s.zone.kept
      ∧ (claimUndelivered s).zone.heldBack = s.zone.heldBack
      ∧ (claimUndelivered s).link.state = s.link.state ∧ (claimUndelivered s).link.run = s.link.run
      ∧ (claimUndelivered s).link.waitIdle = s.link.waitIdle
      ∧ (claimUndelivered s).link.lineOut = s.link.lineOut
      ∧ (claimUndelivered s).link.listeningDue = s.link.listeningDue
      ∧ (claimUndelivered s).events.enable = s.events.enable
      ∧ (claimUndelivered s).events.releaseHold = s.events.releaseHold := by
  unfold claimUndelivered
  split <;> simp

@[simp] theorem sendClaim_leaves (c : Claim) (s : State) :
    (sendClaim c s).zone.windows = s.zone.windows ∧ (sendClaim c s).zone.kept = s.zone.kept
      ∧ (sendClaim c s).zone.heldBack = s.zone.heldBack ∧ (sendClaim c s).link.state = s.link.state
      ∧ (sendClaim c s).link.run = s.link.run ∧ (sendClaim c s).link.waitIdle = s.link.waitIdle
      ∧ (sendClaim c s).link.lineOut = s.link.lineOut
      ∧ (sendClaim c s).link.listeningDue = s.link.listeningDue
      ∧ (sendClaim c s).events.enable = s.events.enable
      ∧ (sendClaim c s).events.releaseHold = s.events.releaseHold := by
  unfold sendClaim
  dsimp only
  repeat' split
  all_goals first
    | (simp; done)
    | (rename_i h; simp [offer_keeps_of h, offer_leaves_of h])

@[simp] theorem requestCells_leaves (cs : CellSet) (s : State) :
    (requestCells cs s).zone.windows = s.zone.windows ∧ (requestCells cs s).link.state = s.link.state
      ∧ (requestCells cs s).link.run = s.link.run ∧ (requestCells cs s).link.waitIdle = s.link.waitIdle
      ∧ (requestCells cs s).link.lineOut = s.link.lineOut
      ∧ (requestCells cs s).link.listeningDue = s.link.listeningDue
      ∧ (requestCells cs s).events.enable = s.events.enable
      ∧ (requestCells cs s).events.releaseHold = s.events.releaseHold := by
  unfold requestCells
  repeat' split
  all_goals simp

@[simp] theorem retryCheck_leaves (s : State) :
    (retryCheck s).zone.windows = s.zone.windows ∧ (retryCheck s).zone.kept = s.zone.kept
      ∧ (retryCheck s).zone.heldBack = s.zone.heldBack ∧ (retryCheck s).link.state = s.link.state
      ∧ (retryCheck s).link.run = s.link.run ∧ (retryCheck s).link.waitIdle = s.link.waitIdle
      ∧ (retryCheck s).link.lineOut = s.link.lineOut
      ∧ (retryCheck s).link.listeningDue = s.link.listeningDue
      ∧ (retryCheck s).events.enable = s.events.enable
      ∧ (retryCheck s).events.releaseHold = s.events.releaseHold := by
  unfold retryCheck
  repeat' split
  all_goals simp

@[simp] theorem takeUpHeldBack_leaves (before : CellSet) (s : State) :
    (takeUpHeldBack before s).zone.windows = s.zone.windows
      ∧ (takeUpHeldBack before s).link.state = s.link.state
      ∧ (takeUpHeldBack before s).link.run = s.link.run
      ∧ (takeUpHeldBack before s).link.waitIdle = s.link.waitIdle
      ∧ (takeUpHeldBack before s).link.lineOut = s.link.lineOut
      ∧ (takeUpHeldBack before s).link.listeningDue = s.link.listeningDue
      ∧ (takeUpHeldBack before s).events.enable = s.events.enable
      ∧ (takeUpHeldBack before s).events.releaseHold = s.events.releaseHold := by
  unfold takeUpHeldBack
  repeat' split
  all_goals simp

@[simp] theorem deferralsEnded_leaves (before : CellSet) (s : State) :
    (deferralsEnded before s).zone.windows = s.zone.windows
      ∧ (deferralsEnded before s).link.state = s.link.state
      ∧ (deferralsEnded before s).link.run = s.link.run
      ∧ (deferralsEnded before s).link.waitIdle = s.link.waitIdle
      ∧ (deferralsEnded before s).link.lineOut = s.link.lineOut
      ∧ (deferralsEnded before s).link.listeningDue = s.link.listeningDue
      ∧ (deferralsEnded before s).events.enable = s.events.enable
      ∧ (deferralsEnded before s).events.releaseHold = s.events.releaseHold := by
  unfold deferralsEnded
  dsimp only
  repeat' split
  all_goals simp

@[simp] theorem withdrawClaim_leaves (s : State) :
    (withdrawClaim s).zone.cells = s.zone.cells ∧ (withdrawClaim s).zone.nextNumber = s.zone.nextNumber
      ∧ (withdrawClaim s).zone.windows = s.zone.windows ∧ (withdrawClaim s).zone.heldBack = s.zone.heldBack
      ∧ (withdrawClaim s).zone.retryAwaited = s.zone.retryAwaited
      ∧ (withdrawClaim s).link.state = s.link.state ∧ (withdrawClaim s).link.run = s.link.run
      ∧ (withdrawClaim s).link.waitIdle = s.link.waitIdle ∧ (withdrawClaim s).link.lineOut = s.link.lineOut
      ∧ (withdrawClaim s).link.listeningDue = s.link.listeningDue
      ∧ (withdrawClaim s).peers.entries = s.peers.entries
      ∧ (withdrawClaim s).events.enable = s.events.enable
      ∧ (withdrawClaim s).events.releaseHold = s.events.releaseHold := by
  simp [withdrawClaim]

@[simp] theorem currentChanged_leaves (s : State) :
    (currentChanged s).zone.cells = s.zone.cells ∧ (currentChanged s).zone.nextNumber = s.zone.nextNumber
      ∧ (currentChanged s).zone.windows = s.zone.windows
      ∧ (currentChanged s).zone.retryAwaited = s.zone.retryAwaited
      ∧ (currentChanged s).link.state = s.link.state ∧ (currentChanged s).link.run = s.link.run
      ∧ (currentChanged s).link.waitIdle = s.link.waitIdle
      ∧ (currentChanged s).link.lineOut = s.link.lineOut
      ∧ (currentChanged s).link.listeningDue = s.link.listeningDue
      ∧ (currentChanged s).peers.entries = s.peers.entries
      ∧ (currentChanged s).events.enable = s.events.enable
      ∧ (currentChanged s).events.releaseHold = s.events.releaseHold := by
  unfold currentChanged
  dsimp only
  repeat' split
  all_goals simp

@[simp] theorem handOver_leaves (keep : CellSet) (s : State) :
    (handOver keep s).zone.claim = s.zone.claim ∧ (handOver keep s).zone.nextNumber = s.zone.nextNumber
      ∧ (handOver keep s).zone.windows = s.zone.windows ∧ (handOver keep s).zone.kept = s.zone.kept
      ∧ (handOver keep s).zone.heldBack = s.zone.heldBack
      ∧ (handOver keep s).zone.retryAwaited = s.zone.retryAwaited
      ∧ (handOver keep s).link.state = s.link.state ∧ (handOver keep s).link.run = s.link.run
      ∧ (handOver keep s).link.waitIdle = s.link.waitIdle ∧ (handOver keep s).link.lineOut = s.link.lineOut
      ∧ (handOver keep s).link.listeningDue = s.link.listeningDue
      ∧ (handOver keep s).events.enable = s.events.enable
      ∧ (handOver keep s).events.releaseHold = s.events.releaseHold := by
  unfold handOver
  dsimp only
  repeat' split
  all_goals simp

@[simp] theorem forgetHolders_leaves (s : State) :
    (forgetHolders s).zone.claim = s.zone.claim ∧ (forgetHolders s).zone.nextNumber = s.zone.nextNumber
      ∧ (forgetHolders s).zone.windows = s.zone.windows ∧ (forgetHolders s).zone.kept = s.zone.kept
      ∧ (forgetHolders s).zone.heldBack = s.zone.heldBack
      ∧ (forgetHolders s).zone.retryAwaited = s.zone.retryAwaited := by
  simp [forgetHolders]

@[simp] theorem claimingToWaiting_leaves (s : State) :
    (claimingToWaiting s).zone.nextNumber = s.zone.nextNumber
      ∧ (claimingToWaiting s).zone.windows = s.zone.windows ∧ (claimingToWaiting s).zone.kept = s.zone.kept
      ∧ (claimingToWaiting s).zone.heldBack = s.zone.heldBack
      ∧ (claimingToWaiting s).zone.retryAwaited = s.zone.retryAwaited
      ∧ (claimingToWaiting s).link.state = s.link.state ∧ (claimingToWaiting s).link.run = s.link.run
      ∧ (claimingToWaiting s).link.waitIdle = s.link.waitIdle
      ∧ (claimingToWaiting s).link.lineOut = s.link.lineOut
      ∧ (claimingToWaiting s).link.listeningDue = s.link.listeningDue
      ∧ (claimingToWaiting s).events.enable = s.events.enable
      ∧ (claimingToWaiting s).events.releaseHold = s.events.releaseHold := by
  unfold claimingToWaiting
  repeat' split
  all_goals simp

@[simp] theorem enterDeaf_leaves (r : LinkReason) (k : Option FrameKind) (s : State) :
    (enterDeaf r k s).axes.retracted = s.axes.retracted
      ∧ (enterDeaf r k s).motion.deferCurrent = s.motion.deferCurrent
      ∧ (enterDeaf r k s).motion.deferHandOver = s.motion.deferHandOver
      ∧ (enterDeaf r k s).zone.nextNumber = s.zone.nextNumber
      ∧ (enterDeaf r k s).zone.windows = s.zone.windows ∧ (enterDeaf r k s).zone.kept = s.zone.kept
      ∧ (enterDeaf r k s).zone.retryAwaited = s.zone.retryAwaited ∧ (enterDeaf r k s).link.run = s.link.run
      ∧ (enterDeaf r k s).link.waitIdle = s.link.waitIdle ∧ (enterDeaf r k s).link.lineOut = s.link.lineOut
      ∧ (enterDeaf r k s).peers.entries = s.peers.entries
      ∧ (enterDeaf r k s).probes.library = s.probes.library
      ∧ (enterDeaf r k s).probes.current = s.probes.current
      ∧ (enterDeaf r k s).probes.slots = s.probes.slots ∧ (enterDeaf r k s).probes.seated = s.probes.seated
      ∧ (enterDeaf r k s).probes.latch = s.probes.latch ∧ (enterDeaf r k s).events.enable = s.events.enable
      ∧ (enterDeaf r k s).events.releaseHold = s.events.releaseHold := by
  unfold enterDeaf
  refine ⟨?_, ?_, ?_, ?_, ?_, ?_, ?_, ?_, ?_, ?_, ?_, ?_, ?_, ?_, ?_, ?_, ?_, ?_⟩
  · simp
    exact (foldl_keeps (fun u : State => u.axes.retracted) _ (fun t x => by simp) _ _).trans (by simp)
  · simp
    exact (foldl_keeps (fun u : State => u.motion.deferCurrent) _ (fun t x => by simp) _ _).trans (by simp)
  · simp
    exact (foldl_keeps (fun u : State => u.motion.deferHandOver) _ (fun t x => by simp) _ _).trans (by simp)
  · simp
    exact (foldl_keeps (fun u : State => u.zone.nextNumber) _ (fun t x => by simp) _ _).trans (by simp)
  · simp
    exact (foldl_keeps (fun u : State => u.zone.windows) _ (fun t x => by simp) _ _).trans (by simp)
  · simp
    exact (foldl_keeps (fun u : State => u.zone.kept) _ (fun t x => by simp) _ _).trans (by simp)
  · simp
    exact (foldl_keeps (fun u : State => u.zone.retryAwaited) _ (fun t x => by simp) _ _).trans (by simp)
  · simp
    exact (foldl_keeps (fun u : State => u.link.run) _ (fun t x => by simp) _ _).trans (by simp)
  · simp
    exact (foldl_keeps (fun u : State => u.link.waitIdle) _ (fun t x => by simp) _ _).trans (by simp)
  · simp
    exact (foldl_keeps (fun u : State => u.link.lineOut) _ (fun t x => by simp) _ _).trans (by simp)
  · simp
    exact (foldl_keeps (fun u : State => u.peers.entries) _ (fun t x => by simp) _ _).trans (by simp)
  · simp
    exact (foldl_keeps (fun u : State => u.probes.library) _ (fun t x => by simp) _ _).trans (by simp)
  · simp
    exact (foldl_keeps (fun u : State => u.probes.current) _ (fun t x => by simp) _ _).trans (by simp)
  · simp
    exact (foldl_keeps (fun u : State => u.probes.slots) _ (fun t x => by simp) _ _).trans (by simp)
  · simp
    exact (foldl_keeps (fun u : State => u.probes.seated) _ (fun t x => by simp) _ _).trans (by simp)
  · simp
    exact (foldl_keeps (fun u : State => u.probes.latch) _ (fun t x => by simp) _ _).trans (by simp)
  · simp
    exact (foldl_keeps (fun u : State => u.events.enable) _ (fun t x => by simp) _ _).trans (by simp)
  · simp
    exact (foldl_keeps (fun u : State => u.events.releaseHold) _ (fun t x => by simp) _ _).trans (by simp)

@[simp] theorem enterDeaf_leaves_axis (r : LinkReason) (k : Option FrameKind) (s : State) (ax : Axis) :
    ((enterDeaf r k s).axes.chan.get ax).scale = (s.axes.chan.get ax).scale
      ∧ ((enterDeaf r k s).axes.chan.get ax).referenced = (s.axes.chan.get ax).referenced
      ∧ ((enterDeaf r k s).axes.chan.get ax).lower = (s.axes.chan.get ax).lower
      ∧ ((enterDeaf r k s).axes.chan.get ax).upper = (s.axes.chan.get ax).upper
      ∧ ((enterDeaf r k s).axes.chan.get ax).ready = (s.axes.chan.get ax).ready := by
  unfold enterDeaf
  refine ⟨?_, ?_, ?_, ?_, ?_⟩
  · simp
    exact (foldl_keeps (fun u : State => u.axes.chan.get ax |>.scale) _ (fun t x => by simp) _ _).trans (by simp)
  · simp
    exact (foldl_keeps (fun u : State => u.axes.chan.get ax |>.referenced) _ (fun t x => by simp) _ _).trans (by simp)
  · simp
    exact (foldl_keeps (fun u : State => u.axes.chan.get ax |>.lower) _ (fun t x => by simp) _ _).trans (by simp)
  · simp
    exact (foldl_keeps (fun u : State => u.axes.chan.get ax |>.upper) _ (fun t x => by simp) _ _).trans (by simp)
  · simp
    exact (foldl_keeps (fun u : State => u.axes.chan.get ax |>.ready) _ (fun t x => by simp) _ _).trans (by simp)

@[simp] theorem ownerTold_leaves (f : TxFrame) (s : State) :
    (ownerTold f s).axes.retracted = s.axes.retracted
      ∧ (ownerTold f s).motion.deferCurrent = s.motion.deferCurrent
      ∧ (ownerTold f s).motion.deferHandOver = s.motion.deferHandOver
      ∧ (ownerTold f s).zone.nextNumber = s.zone.nextNumber ∧ (ownerTold f s).zone.windows = s.zone.windows
      ∧ (ownerTold f s).zone.kept = s.zone.kept ∧ (ownerTold f s).link.state = s.link.state
      ∧ (ownerTold f s).link.run = s.link.run ∧ (ownerTold f s).link.waitIdle = s.link.waitIdle
      ∧ (ownerTold f s).link.lineOut = s.link.lineOut
      ∧ (ownerTold f s).link.listeningDue = s.link.listeningDue
      ∧ (ownerTold f s).peers.entries = s.peers.entries ∧ (ownerTold f s).peers.heldBack = s.peers.heldBack
      ∧ (ownerTold f s).probes.library = s.probes.library
      ∧ (ownerTold f s).probes.current = s.probes.current ∧ (ownerTold f s).probes.seated = s.probes.seated
      ∧ (ownerTold f s).probes.latch = s.probes.latch ∧ (ownerTold f s).events.enable = s.events.enable
      ∧ (ownerTold f s).events.releaseHold = s.events.releaseHold := by
  unfold ownerTold
  repeat' split
  all_goals simp

@[simp] theorem ownerTold_leaves_axis (f : TxFrame) (s : State) (ax : Axis) :
    ((ownerTold f s).axes.chan.get ax).scale = (s.axes.chan.get ax).scale
      ∧ ((ownerTold f s).axes.chan.get ax).referenced = (s.axes.chan.get ax).referenced
      ∧ ((ownerTold f s).axes.chan.get ax).lower = (s.axes.chan.get ax).lower
      ∧ ((ownerTold f s).axes.chan.get ax).upper = (s.axes.chan.get ax).upper
      ∧ ((ownerTold f s).axes.chan.get ax).ready = (s.axes.chan.get ax).ready := by
  unfold ownerTold
  repeat' split
  all_goals simp

@[simp] theorem attemptSpoiled_leaves (s : State) :
    (attemptSpoiled s).axes.retracted = s.axes.retracted
      ∧ (attemptSpoiled s).motion.deferCurrent = s.motion.deferCurrent
      ∧ (attemptSpoiled s).motion.deferHandOver = s.motion.deferHandOver
      ∧ (attemptSpoiled s).zone.nextNumber = s.zone.nextNumber
      ∧ (attemptSpoiled s).zone.windows = s.zone.windows ∧ (attemptSpoiled s).zone.kept = s.zone.kept
      ∧ (attemptSpoiled s).link.state = s.link.state ∧ (attemptSpoiled s).link.run = s.link.run
      ∧ (attemptSpoiled s).link.waitIdle = s.link.waitIdle
      ∧ (attemptSpoiled s).link.listeningDue = s.link.listeningDue
      ∧ (attemptSpoiled s).peers.entries = s.peers.entries
      ∧ (attemptSpoiled s).peers.heldBack = s.peers.heldBack
      ∧ (attemptSpoiled s).probes.library = s.probes.library
      ∧ (attemptSpoiled s).probes.current = s.probes.current
      ∧ (attemptSpoiled s).probes.seated = s.probes.seated
      ∧ (attemptSpoiled s).probes.latch = s.probes.latch
      ∧ (attemptSpoiled s).events.enable = s.events.enable
      ∧ (attemptSpoiled s).events.releaseHold = s.events.releaseHold := by
  unfold attemptSpoiled
  repeat' split
  all_goals simp

@[simp] theorem attemptSpoiled_leaves_axis (s : State) (ax : Axis) :
    ((attemptSpoiled s).axes.chan.get ax).scale = (s.axes.chan.get ax).scale
      ∧ ((attemptSpoiled s).axes.chan.get ax).referenced = (s.axes.chan.get ax).referenced
      ∧ ((attemptSpoiled s).axes.chan.get ax).lower = (s.axes.chan.get ax).lower
      ∧ ((attemptSpoiled s).axes.chan.get ax).upper = (s.axes.chan.get ax).upper
      ∧ ((attemptSpoiled s).axes.chan.get ax).ready = (s.axes.chan.get ax).ready := by
  unfold attemptSpoiled
  repeat' split
  all_goals simp

@[simp] theorem countError_leaves (s : State) :
    (countError s).axes.retracted = s.axes.retracted
      ∧ (countError s).motion.deferCurrent = s.motion.deferCurrent
      ∧ (countError s).motion.deferHandOver = s.motion.deferHandOver
      ∧ (countError s).zone.nextNumber = s.zone.nextNumber ∧ (countError s).zone.windows = s.zone.windows
      ∧ (countError s).zone.kept = s.zone.kept ∧ (countError s).zone.retryAwaited = s.zone.retryAwaited
      ∧ (countError s).link.waitIdle = s.link.waitIdle ∧ (countError s).link.lineOut = s.link.lineOut
      ∧ (countError s).peers.entries = s.peers.entries ∧ (countError s).probes.library = s.probes.library
      ∧ (countError s).probes.current = s.probes.current ∧ (countError s).probes.slots = s.probes.slots
      ∧ (countError s).probes.seated = s.probes.seated ∧ (countError s).probes.latch = s.probes.latch
      ∧ (countError s).events.enable = s.events.enable
      ∧ (countError s).events.releaseHold = s.events.releaseHold := by
  unfold countError
  dsimp only
  repeat' split
  all_goals simp

@[simp] theorem countError_leaves_axis (s : State) (ax : Axis) :
    ((countError s).axes.chan.get ax).scale = (s.axes.chan.get ax).scale
      ∧ ((countError s).axes.chan.get ax).referenced = (s.axes.chan.get ax).referenced
      ∧ ((countError s).axes.chan.get ax).lower = (s.axes.chan.get ax).lower
      ∧ ((countError s).axes.chan.get ax).upper = (s.axes.chan.get ax).upper
      ∧ ((countError s).axes.chan.get ax).ready = (s.axes.chan.get ax).ready := by
  unfold countError
  dsimp only
  repeat' split
  all_goals simp

@[simp] theorem updateHold_leaves (before : Nat) (s : State) :
    (updateHold before s).points.records = s.points.records
      ∧ (updateHold before s).points.counter = s.points.counter
      ∧ (updateHold before s).points.suspect = s.points.suspect
      ∧ (updateHold before s).points.overrun = s.points.overrun
      ∧ (updateHold before s).events.enable = s.events.enable
      ∧ (updateHold before s).events.releaseHold = s.events.releaseHold := by
  unfold updateHold
  dsimp only
  repeat' split
  all_goals simp

@[simp] theorem takeWork_leaves (s : State) :
    (takeWork s).probes.library = s.probes.library ∧ (takeWork s).probes.live = s.probes.live
      ∧ (takeWork s).probes.pendingBank = s.probes.pendingBank
      ∧ (takeWork s).probes.current = s.probes.current ∧ (takeWork s).probes.slots = s.probes.slots
      ∧ (takeWork s).probes.seated = s.probes.seated ∧ (takeWork s).probes.latchOpen = s.probes.latchOpen
      ∧ (takeWork s).probes.read = s.probes.read ∧ (takeWork s).probes.change = s.probes.change := by
  unfold takeWork
  repeat' split
  all_goals simp

@[simp] theorem enterSettlingAt_leaves (n : Nat) (g : Segment) (s : State) :
    (enterSettlingAt n g s).motion.state = s.motion.state
      ∧ (enterSettlingAt n g s).motion.stopPending = s.motion.stopPending
      ∧ (enterSettlingAt n g s).motion.reference = s.motion.reference
      ∧ (enterSettlingAt n g s).motion.deferCurrent = s.motion.deferCurrent
      ∧ (enterSettlingAt n g s).motion.deferHandOver = s.motion.deferHandOver
      ∧ (enterSettlingAt n g s).probes.library = s.probes.library
      ∧ (enterSettlingAt n g s).probes.current = s.probes.current
      ∧ (enterSettlingAt n g s).probes.slots = s.probes.slots
      ∧ (enterSettlingAt n g s).probes.seated = s.probes.seated
      ∧ (enterSettlingAt n g s).probes.latchOpen = s.probes.latchOpen
      ∧ (enterSettlingAt n g s).probes.read = s.probes.read
      ∧ (enterSettlingAt n g s).probes.change = s.probes.change
      ∧ (enterSettlingAt n g s).probes.latch = s.probes.latch := by
  simp [enterSettlingAt]

@[simp] theorem enterSettling_leaves (g : Segment) (s : State) :
    (enterSettling g s).motion.state = s.motion.state
      ∧ (enterSettling g s).motion.stopPending = s.motion.stopPending
      ∧ (enterSettling g s).motion.reference = s.motion.reference
      ∧ (enterSettling g s).motion.deferCurrent = s.motion.deferCurrent
      ∧ (enterSettling g s).motion.deferHandOver = s.motion.deferHandOver
      ∧ (enterSettling g s).probes.library = s.probes.library
      ∧ (enterSettling g s).probes.current = s.probes.current
      ∧ (enterSettling g s).probes.slots = s.probes.slots
      ∧ (enterSettling g s).probes.seated = s.probes.seated
      ∧ (enterSettling g s).probes.latchOpen = s.probes.latchOpen
      ∧ (enterSettling g s).probes.read = s.probes.read
      ∧ (enterSettling g s).probes.change = s.probes.change
      ∧ (enterSettling g s).probes.latch = s.probes.latch := by
  simp [enterSettling]

@[simp] theorem startSegment_leaves (g : Segment) (s : State) :
    (startSegment g s).axes.retracted = s.axes.retracted
      ∧ (startSegment g s).motion.stopPending = s.motion.stopPending
      ∧ (startSegment g s).motion.reference = s.motion.reference
      ∧ (startSegment g s).motion.deferCurrent = s.motion.deferCurrent
      ∧ (startSegment g s).motion.deferHandOver = s.motion.deferHandOver
      ∧ (startSegment g s).probes.library = s.probes.library
      ∧ (startSegment g s).probes.current = s.probes.current
      ∧ (startSegment g s).probes.slots = s.probes.slots
      ∧ (startSegment g s).probes.seated = s.probes.seated
      ∧ (startSegment g s).probes.latchOpen = s.probes.latchOpen
      ∧ (startSegment g s).probes.read = s.probes.read ∧ (startSegment g s).probes.change = s.probes.change
      ∧ (startSegment g s).probes.latch = s.probes.latch := by
  unfold startSegment
  repeat' split
  all_goals simp

@[simp] theorem startSegment_leaves_axis (g : Segment) (s : State) (ax : Axis) :
    ((startSegment g s).axes.chan.get ax).scale = (s.axes.chan.get ax).scale
      ∧ ((startSegment g s).axes.chan.get ax).referenced = (s.axes.chan.get ax).referenced
      ∧ ((startSegment g s).axes.chan.get ax).setpoint = (s.axes.chan.get ax).setpoint
      ∧ ((startSegment g s).axes.chan.get ax).lower = (s.axes.chan.get ax).lower
      ∧ ((startSegment g s).axes.chan.get ax).upper = (s.axes.chan.get ax).upper
      ∧ ((startSegment g s).axes.chan.get ax).ready = (s.axes.chan.get ax).ready
      ∧ ((startSegment g s).axes.chan.get ax).enable = (s.axes.chan.get ax).enable := by
  unfold startSegment
  repeat' split
  all_goals simp

@[simp] theorem refuseNoProbe_leaves (g : Segment) (s : State) :
    (refuseNoProbe g s).motion.stopPending = s.motion.stopPending
      ∧ (refuseNoProbe g s).motion.reference = s.motion.reference
      ∧ (refuseNoProbe g s).motion.deferCurrent = s.motion.deferCurrent
      ∧ (refuseNoProbe g s).motion.deferHandOver = s.motion.deferHandOver
      ∧ (refuseNoProbe g s).events.enable = s.events.enable
      ∧ (refuseNoProbe g s).events.releaseHold = s.events.releaseHold := by
  simp [refuseNoProbe]

@[simp] theorem weigh_leaves (s : State) :
    (weigh s).axes.retracted = s.axes.retracted ∧ (weigh s).motion.stopPending = s.motion.stopPending
      ∧ (weigh s).motion.reference = s.motion.reference
      ∧ (weigh s).motion.deferCurrent = s.motion.deferCurrent
      ∧ (weigh s).motion.deferHandOver = s.motion.deferHandOver
      ∧ (weigh s).probes.library = s.probes.library ∧ (weigh s).probes.current = s.probes.current
      ∧ (weigh s).probes.slots = s.probes.slots ∧ (weigh s).probes.seated = s.probes.seated
      ∧ (weigh s).probes.latchOpen = s.probes.latchOpen ∧ (weigh s).probes.read = s.probes.read
      ∧ (weigh s).probes.change = s.probes.change ∧ (weigh s).probes.latch = s.probes.latch
      ∧ (weigh s).events.enable = s.events.enable ∧ (weigh s).events.releaseHold = s.events.releaseHold := by
  unfold weigh
  repeat' split
  all_goals simp

@[simp] theorem weigh_leaves_axis (s : State) (ax : Axis) :
    ((weigh s).axes.chan.get ax).scale = (s.axes.chan.get ax).scale
      ∧ ((weigh s).axes.chan.get ax).referenced = (s.axes.chan.get ax).referenced
      ∧ ((weigh s).axes.chan.get ax).setpoint = (s.axes.chan.get ax).setpoint
      ∧ ((weigh s).axes.chan.get ax).lower = (s.axes.chan.get ax).lower
      ∧ ((weigh s).axes.chan.get ax).upper = (s.axes.chan.get ax).upper
      ∧ ((weigh s).axes.chan.get ax).ready = (s.axes.chan.get ax).ready
      ∧ ((weigh s).axes.chan.get ax).enable = (s.axes.chan.get ax).enable := by
  unfold weigh
  repeat' split
  all_goals simp

@[simp] theorem holdChanged_leaves (before : Nat) (s : State) :
    (holdChanged before s).axes.retracted = s.axes.retracted
      ∧ (holdChanged before s).motion.stopPending = s.motion.stopPending
      ∧ (holdChanged before s).motion.reference = s.motion.reference
      ∧ (holdChanged before s).motion.deferCurrent = s.motion.deferCurrent
      ∧ (holdChanged before s).motion.deferHandOver = s.motion.deferHandOver
      ∧ (holdChanged before s).probes.library = s.probes.library
      ∧ (holdChanged before s).probes.current = s.probes.current
      ∧ (holdChanged before s).probes.slots = s.probes.slots
      ∧ (holdChanged before s).probes.seated = s.probes.seated
      ∧ (holdChanged before s).probes.latchOpen = s.probes.latchOpen
      ∧ (holdChanged before s).probes.read = s.probes.read
      ∧ (holdChanged before s).probes.change = s.probes.change
      ∧ (holdChanged before s).probes.latch = s.probes.latch
      ∧ (holdChanged before s).points.records = s.points.records
      ∧ (holdChanged before s).points.counter = s.points.counter
      ∧ (holdChanged before s).points.suspect = s.points.suspect
      ∧ (holdChanged before s).points.overrun = s.points.overrun
      ∧ (holdChanged before s).events.enable = s.events.enable
      ∧ (holdChanged before s).events.releaseHold = s.events.releaseHold := by
  unfold holdChanged
  dsimp only
  repeat' split
  all_goals simp

@[simp] theorem holdChanged_leaves_axis (before : Nat) (s : State) (ax : Axis) :
    ((holdChanged before s).axes.chan.get ax).scale = (s.axes.chan.get ax).scale
      ∧ ((holdChanged before s).axes.chan.get ax).referenced = (s.axes.chan.get ax).referenced
      ∧ ((holdChanged before s).axes.chan.get ax).setpoint = (s.axes.chan.get ax).setpoint
      ∧ ((holdChanged before s).axes.chan.get ax).lower = (s.axes.chan.get ax).lower
      ∧ ((holdChanged before s).axes.chan.get ax).upper = (s.axes.chan.get ax).upper
      ∧ ((holdChanged before s).axes.chan.get ax).ready = (s.axes.chan.get ax).ready
      ∧ ((holdChanged before s).axes.chan.get ax).enable = (s.axes.chan.get ax).enable := by
  unfold holdChanged
  dsimp only
  repeat' split
  all_goals simp

@[simp] theorem handOverIfEmpty_leaves (s : State) :
    (handOverIfEmpty s).motion.state = s.motion.state ∧ (handOverIfEmpty s).motion.queue = s.motion.queue
      ∧ (handOverIfEmpty s).motion.internal = s.motion.internal
      ∧ (handOverIfEmpty s).motion.stopPending = s.motion.stopPending
      ∧ (handOverIfEmpty s).motion.reference = s.motion.reference
      ∧ (handOverIfEmpty s).motion.deferCurrent = s.motion.deferCurrent
      ∧ (handOverIfEmpty s).zone.claim = s.zone.claim
      ∧ (handOverIfEmpty s).zone.nextNumber = s.zone.nextNumber
      ∧ (handOverIfEmpty s).zone.windows = s.zone.windows ∧ (handOverIfEmpty s).zone.kept = s.zone.kept
      ∧ (handOverIfEmpty s).zone.heldBack = s.zone.heldBack
      ∧ (handOverIfEmpty s).zone.retryAwaited = s.zone.retryAwaited
      ∧ (handOverIfEmpty s).link.state = s.link.state ∧ (handOverIfEmpty s).link.run = s.link.run
      ∧ (handOverIfEmpty s).link.waitIdle = s.link.waitIdle
      ∧ (handOverIfEmpty s).link.lineOut = s.link.lineOut
      ∧ (handOverIfEmpty s).link.listeningDue = s.link.listeningDue
      ∧ (handOverIfEmpty s).events.enable = s.events.enable
      ∧ (handOverIfEmpty s).events.releaseHold = s.events.releaseHold := by
  unfold handOverIfEmpty
  repeat' split
  all_goals simp

@[simp] theorem refuseZeroLength_leaves (g : Segment) (s : State) :
    (refuseZeroLength g s).motion.stopPending = s.motion.stopPending
      ∧ (refuseZeroLength g s).motion.reference = s.motion.reference
      ∧ (refuseZeroLength g s).motion.deferCurrent = s.motion.deferCurrent
      ∧ (refuseZeroLength g s).zone.nextNumber = s.zone.nextNumber
      ∧ (refuseZeroLength g s).zone.windows = s.zone.windows
      ∧ (refuseZeroLength g s).zone.retryAwaited = s.zone.retryAwaited
      ∧ (refuseZeroLength g s).link.state = s.link.state ∧ (refuseZeroLength g s).link.run = s.link.run
      ∧ (refuseZeroLength g s).link.waitIdle = s.link.waitIdle
      ∧ (refuseZeroLength g s).link.lineOut = s.link.lineOut
      ∧ (refuseZeroLength g s).link.listeningDue = s.link.listeningDue
      ∧ (refuseZeroLength g s).peers.entries = s.peers.entries
      ∧ (refuseZeroLength g s).events.enable = s.events.enable
      ∧ (refuseZeroLength g s).events.releaseHold = s.events.releaseHold := by
  simp [refuseZeroLength]

@[simp] theorem fixGeometry_leaves (g : Segment) (s : State) :
    (fixGeometry g s).axes.retracted = s.axes.retracted
      ∧ (fixGeometry g s).motion.stopPending = s.motion.stopPending
      ∧ (fixGeometry g s).motion.reference = s.motion.reference
      ∧ (fixGeometry g s).motion.deferCurrent = s.motion.deferCurrent
      ∧ (fixGeometry g s).zone.windows = s.zone.windows ∧ (fixGeometry g s).link.state = s.link.state
      ∧ (fixGeometry g s).link.run = s.link.run ∧ (fixGeometry g s).link.waitIdle = s.link.waitIdle
      ∧ (fixGeometry g s).link.lineOut = s.link.lineOut
      ∧ (fixGeometry g s).link.listeningDue = s.link.listeningDue
      ∧ (fixGeometry g s).peers.entries = s.peers.entries
      ∧ (fixGeometry g s).probes.library = s.probes.library
      ∧ (fixGeometry g s).probes.current = s.probes.current
      ∧ (fixGeometry g s).probes.slots = s.probes.slots ∧ (fixGeometry g s).probes.seated = s.probes.seated
      ∧ (fixGeometry g s).probes.latchOpen = s.probes.latchOpen
      ∧ (fixGeometry g s).probes.read = s.probes.read ∧ (fixGeometry g s).probes.change = s.probes.change
      ∧ (fixGeometry g s).probes.latch = s.probes.latch ∧ (fixGeometry g s).events.enable = s.events.enable
      ∧ (fixGeometry g s).events.releaseHold = s.events.releaseHold := by
  unfold fixGeometry
  dsimp only
  repeat' split
  all_goals simp

@[simp] theorem fixGeometry_leaves_axis (g : Segment) (s : State) (ax : Axis) :
    ((fixGeometry g s).axes.chan.get ax).scale = (s.axes.chan.get ax).scale
      ∧ ((fixGeometry g s).axes.chan.get ax).referenced = (s.axes.chan.get ax).referenced
      ∧ ((fixGeometry g s).axes.chan.get ax).setpoint = (s.axes.chan.get ax).setpoint
      ∧ ((fixGeometry g s).axes.chan.get ax).lower = (s.axes.chan.get ax).lower
      ∧ ((fixGeometry g s).axes.chan.get ax).upper = (s.axes.chan.get ax).upper
      ∧ ((fixGeometry g s).axes.chan.get ax).ready = (s.axes.chan.get ax).ready
      ∧ ((fixGeometry g s).axes.chan.get ax).enable = (s.axes.chan.get ax).enable := by
  unfold fixGeometry
  dsimp only
  repeat' split
  all_goals simp

@[simp] theorem becomeCurrent_leaves (s : State) :
    (becomeCurrent s).axes.retracted = s.axes.retracted
      ∧ (becomeCurrent s).motion.stopPending = s.motion.stopPending
      ∧ (becomeCurrent s).motion.reference = s.motion.reference
      ∧ (becomeCurrent s).zone.windows = s.zone.windows ∧ (becomeCurrent s).link.state = s.link.state
      ∧ (becomeCurrent s).link.run = s.link.run ∧ (becomeCurrent s).link.waitIdle = s.link.waitIdle
      ∧ (becomeCurrent s).link.lineOut = s.link.lineOut
      ∧ (becomeCurrent s).link.listeningDue = s.link.listeningDue
      ∧ (becomeCurrent s).peers.entries = s.peers.entries
      ∧ (becomeCurrent s).probes.library = s.probes.library
      ∧ (becomeCurrent s).probes.current = s.probes.current
      ∧ (becomeCurrent s).probes.slots = s.probes.slots ∧ (becomeCurrent s).probes.seated = s.probes.seated
      ∧ (becomeCurrent s).probes.latchOpen = s.probes.latchOpen
      ∧ (becomeCurrent s).probes.read = s.probes.read ∧ (becomeCurrent s).probes.change = s.probes.change
      ∧ (becomeCurrent s).probes.latch = s.probes.latch ∧ (becomeCurrent s).events.enable = s.events.enable
      ∧ (becomeCurrent s).events.releaseHold = s.events.releaseHold := by
  unfold becomeCurrent
  repeat' split
  all_goals simp

@[simp] theorem becomeCurrent_leaves_axis (s : State) (ax : Axis) :
    ((becomeCurrent s).axes.chan.get ax).scale = (s.axes.chan.get ax).scale
      ∧ ((becomeCurrent s).axes.chan.get ax).referenced = (s.axes.chan.get ax).referenced
      ∧ ((becomeCurrent s).axes.chan.get ax).setpoint = (s.axes.chan.get ax).setpoint
      ∧ ((becomeCurrent s).axes.chan.get ax).lower = (s.axes.chan.get ax).lower
      ∧ ((becomeCurrent s).axes.chan.get ax).upper = (s.axes.chan.get ax).upper
      ∧ ((becomeCurrent s).axes.chan.get ax).ready = (s.axes.chan.get ax).ready
      ∧ ((becomeCurrent s).axes.chan.get ax).enable = (s.axes.chan.get ax).enable := by
  unfold becomeCurrent
  repeat' split
  all_goals simp

@[simp] theorem dropOrphan_leaves (s : State) :
    (dropOrphan s).zone.cells = s.zone.cells ∧ (dropOrphan s).zone.nextNumber = s.zone.nextNumber
      ∧ (dropOrphan s).zone.windows = s.zone.windows ∧ (dropOrphan s).zone.heldBack = s.zone.heldBack
      ∧ (dropOrphan s).zone.retryAwaited = s.zone.retryAwaited ∧ (dropOrphan s).link.state = s.link.state
      ∧ (dropOrphan s).link.run = s.link.run ∧ (dropOrphan s).link.waitIdle = s.link.waitIdle
      ∧ (dropOrphan s).link.lineOut = s.link.lineOut
      ∧ (dropOrphan s).link.listeningDue = s.link.listeningDue
      ∧ (dropOrphan s).peers.entries = s.peers.entries ∧ (dropOrphan s).events.enable = s.events.enable
      ∧ (dropOrphan s).events.releaseHold = s.events.releaseHold := by
  unfold dropOrphan
  repeat' split
  all_goals simp

@[simp] theorem followHandOver_leaves (s : State) :
    (followHandOver s).motion.state = s.motion.state ∧ (followHandOver s).motion.queue = s.motion.queue
      ∧ (followHandOver s).motion.internal = s.motion.internal
      ∧ (followHandOver s).motion.stopPending = s.motion.stopPending
      ∧ (followHandOver s).motion.reference = s.motion.reference
      ∧ (followHandOver s).motion.deferCurrent = s.motion.deferCurrent
      ∧ (followHandOver s).zone.claim = s.zone.claim
      ∧ (followHandOver s).zone.nextNumber = s.zone.nextNumber
      ∧ (followHandOver s).zone.windows = s.zone.windows ∧ (followHandOver s).zone.kept = s.zone.kept
      ∧ (followHandOver s).zone.heldBack = s.zone.heldBack
      ∧ (followHandOver s).zone.retryAwaited = s.zone.retryAwaited
      ∧ (followHandOver s).link.state = s.link.state ∧ (followHandOver s).link.run = s.link.run
      ∧ (followHandOver s).link.waitIdle = s.link.waitIdle
      ∧ (followHandOver s).link.lineOut = s.link.lineOut
      ∧ (followHandOver s).link.listeningDue = s.link.listeningDue
      ∧ (followHandOver s).events.enable = s.events.enable
      ∧ (followHandOver s).events.releaseHold = s.events.releaseHold := by
  unfold followHandOver
  split <;> simp

@[simp] theorem followCurrent_leaves (s : State) :
    (followCurrent s).axes.retracted = s.axes.retracted
      ∧ (followCurrent s).motion.stopPending = s.motion.stopPending
      ∧ (followCurrent s).motion.reference = s.motion.reference
      ∧ (followCurrent s).zone.windows = s.zone.windows ∧ (followCurrent s).link.state = s.link.state
      ∧ (followCurrent s).link.run = s.link.run ∧ (followCurrent s).link.waitIdle = s.link.waitIdle
      ∧ (followCurrent s).link.lineOut = s.link.lineOut
      ∧ (followCurrent s).link.listeningDue = s.link.listeningDue
      ∧ (followCurrent s).peers.entries = s.peers.entries
      ∧ (followCurrent s).probes.library = s.probes.library
      ∧ (followCurrent s).probes.current = s.probes.current
      ∧ (followCurrent s).probes.slots = s.probes.slots ∧ (followCurrent s).probes.seated = s.probes.seated
      ∧ (followCurrent s).probes.latchOpen = s.probes.latchOpen
      ∧ (followCurrent s).probes.read = s.probes.read ∧ (followCurrent s).probes.change = s.probes.change
      ∧ (followCurrent s).probes.latch = s.probes.latch ∧ (followCurrent s).events.enable = s.events.enable
      ∧ (followCurrent s).events.releaseHold = s.events.releaseHold := by
  unfold followCurrent
  split <;> simp

@[simp] theorem followCurrent_leaves_axis (s : State) (ax : Axis) :
    ((followCurrent s).axes.chan.get ax).scale = (s.axes.chan.get ax).scale
      ∧ ((followCurrent s).axes.chan.get ax).referenced = (s.axes.chan.get ax).referenced
      ∧ ((followCurrent s).axes.chan.get ax).setpoint = (s.axes.chan.get ax).setpoint
      ∧ ((followCurrent s).axes.chan.get ax).lower = (s.axes.chan.get ax).lower
      ∧ ((followCurrent s).axes.chan.get ax).upper = (s.axes.chan.get ax).upper
      ∧ ((followCurrent s).axes.chan.get ax).ready = (s.axes.chan.get ax).ready
      ∧ ((followCurrent s).axes.chan.get ax).enable = (s.axes.chan.get ax).enable := by
  unfold followCurrent
  split <;> simp

@[simp] theorem followClaim_leaves (s : State) :
    (followClaim s).axes.retracted = s.axes.retracted
      ∧ (followClaim s).motion.stopPending = s.motion.stopPending
      ∧ (followClaim s).motion.reference = s.motion.reference
      ∧ (followClaim s).zone.windows = s.zone.windows ∧ (followClaim s).link.state = s.link.state
      ∧ (followClaim s).link.run = s.link.run ∧ (followClaim s).link.waitIdle = s.link.waitIdle
      ∧ (followClaim s).link.lineOut = s.link.lineOut
      ∧ (followClaim s).link.listeningDue = s.link.listeningDue
      ∧ (followClaim s).peers.entries = s.peers.entries ∧ (followClaim s).probes.library = s.probes.library
      ∧ (followClaim s).probes.current = s.probes.current ∧ (followClaim s).probes.slots = s.probes.slots
      ∧ (followClaim s).probes.seated = s.probes.seated
      ∧ (followClaim s).probes.latchOpen = s.probes.latchOpen ∧ (followClaim s).probes.read = s.probes.read
      ∧ (followClaim s).probes.change = s.probes.change ∧ (followClaim s).probes.latch = s.probes.latch
      ∧ (followClaim s).events.enable = s.events.enable
      ∧ (followClaim s).events.releaseHold = s.events.releaseHold := by
  simp [followClaim]

@[simp] theorem followClaim_leaves_axis (s : State) (ax : Axis) :
    ((followClaim s).axes.chan.get ax).scale = (s.axes.chan.get ax).scale
      ∧ ((followClaim s).axes.chan.get ax).referenced = (s.axes.chan.get ax).referenced
      ∧ ((followClaim s).axes.chan.get ax).setpoint = (s.axes.chan.get ax).setpoint
      ∧ ((followClaim s).axes.chan.get ax).lower = (s.axes.chan.get ax).lower
      ∧ ((followClaim s).axes.chan.get ax).upper = (s.axes.chan.get ax).upper
      ∧ ((followClaim s).axes.chan.get ax).ready = (s.axes.chan.get ax).ready
      ∧ ((followClaim s).axes.chan.get ax).enable = (s.axes.chan.get ax).enable := by
  simp [followClaim]

@[simp] theorem afterClaim_leaves (s : State) :
    (afterClaim s).axes.retracted = s.axes.retracted
      ∧ (afterClaim s).motion.stopPending = s.motion.stopPending
      ∧ (afterClaim s).motion.reference = s.motion.reference ∧ (afterClaim s).zone.windows = s.zone.windows
      ∧ (afterClaim s).link.state = s.link.state ∧ (afterClaim s).link.run = s.link.run
      ∧ (afterClaim s).link.waitIdle = s.link.waitIdle ∧ (afterClaim s).link.lineOut = s.link.lineOut
      ∧ (afterClaim s).link.listeningDue = s.link.listeningDue
      ∧ (afterClaim s).peers.entries = s.peers.entries ∧ (afterClaim s).probes.library = s.probes.library
      ∧ (afterClaim s).probes.current = s.probes.current ∧ (afterClaim s).probes.slots = s.probes.slots
      ∧ (afterClaim s).probes.seated = s.probes.seated
      ∧ (afterClaim s).probes.latchOpen = s.probes.latchOpen ∧ (afterClaim s).probes.read = s.probes.read
      ∧ (afterClaim s).probes.change = s.probes.change ∧ (afterClaim s).probes.latch = s.probes.latch
      ∧ (afterClaim s).events.enable = s.events.enable
      ∧ (afterClaim s).events.releaseHold = s.events.releaseHold := by
  simp [afterClaim]

@[simp] theorem afterClaim_leaves_axis (s : State) (ax : Axis) :
    ((afterClaim s).axes.chan.get ax).scale = (s.axes.chan.get ax).scale
      ∧ ((afterClaim s).axes.chan.get ax).referenced = (s.axes.chan.get ax).referenced
      ∧ ((afterClaim s).axes.chan.get ax).setpoint = (s.axes.chan.get ax).setpoint
      ∧ ((afterClaim s).axes.chan.get ax).lower = (s.axes.chan.get ax).lower
      ∧ ((afterClaim s).axes.chan.get ax).upper = (s.axes.chan.get ax).upper
      ∧ ((afterClaim s).axes.chan.get ax).ready = (s.axes.chan.get ax).ready
      ∧ ((afterClaim s).axes.chan.get ax).enable = (s.axes.chan.get ax).enable := by
  simp [afterClaim]

@[simp] theorem handInternal_leaves (kind : SegKind) (target : V3 Int) (s : State) :
    (handInternal kind target s).axes.retracted = s.axes.retracted
      ∧ (handInternal kind target s).motion.stopPending = s.motion.stopPending
      ∧ (handInternal kind target s).motion.reference = s.motion.reference
      ∧ (handInternal kind target s).zone.windows = s.zone.windows
      ∧ (handInternal kind target s).link.state = s.link.state
      ∧ (handInternal kind target s).link.run = s.link.run
      ∧ (handInternal kind target s).link.waitIdle = s.link.waitIdle
      ∧ (handInternal kind target s).link.lineOut = s.link.lineOut
      ∧ (handInternal kind target s).link.listeningDue = s.link.listeningDue
      ∧ (handInternal kind target s).peers.entries = s.peers.entries
      ∧ (handInternal kind target s).probes.library = s.probes.library
      ∧ (handInternal kind target s).probes.current = s.probes.current
      ∧ (handInternal kind target s).probes.slots = s.probes.slots
      ∧ (handInternal kind target s).probes.seated = s.probes.seated
      ∧ (handInternal kind target s).probes.latchOpen = s.probes.latchOpen
      ∧ (handInternal kind target s).probes.read = s.probes.read
      ∧ (handInternal kind target s).probes.change = s.probes.change
      ∧ (handInternal kind target s).probes.latch = s.probes.latch
      ∧ (handInternal kind target s).events.enable = s.events.enable
      ∧ (handInternal kind target s).events.releaseHold = s.events.releaseHold := by
  simp [handInternal]

@[simp] theorem handInternal_leaves_axis (kind : SegKind) (target : V3 Int) (s : State) (ax : Axis) :
    ((handInternal kind target s).axes.chan.get ax).scale = (s.axes.chan.get ax).scale
      ∧ ((handInternal kind target s).axes.chan.get ax).referenced = (s.axes.chan.get ax).referenced
      ∧ ((handInternal kind target s).axes.chan.get ax).setpoint = (s.axes.chan.get ax).setpoint
      ∧ ((handInternal kind target s).axes.chan.get ax).lower = (s.axes.chan.get ax).lower
      ∧ ((handInternal kind target s).axes.chan.get ax).upper = (s.axes.chan.get ax).upper
      ∧ ((handInternal kind target s).axes.chan.get ax).ready = (s.axes.chan.get ax).ready
      ∧ ((handInternal kind target s).axes.chan.get ax).enable = (s.axes.chan.get ax).enable := by
  simp [handInternal]

@[simp] theorem State.setChange_leaves (s : State) (c : Option Change) :
    (State.setChange s c).probes.library = s.probes.library
      ∧ (State.setChange s c).probes.live = s.probes.live
      ∧ (State.setChange s c).probes.pendingBank = s.probes.pendingBank
      ∧ (State.setChange s c).probes.current = s.probes.current
      ∧ (State.setChange s c).probes.slots = s.probes.slots
      ∧ (State.setChange s c).probes.seated = s.probes.seated
      ∧ (State.setChange s c).probes.latchOpen = s.probes.latchOpen
      ∧ (State.setChange s c).probes.read = s.probes.read
      ∧ (State.setChange s c).probes.latch = s.probes.latch := by
  simp [State.setChange]

@[simp] theorem beginTravel_leaves (ph : Phase) (ch : Change) (s : State) :
    (beginTravel ph ch s).axes.retracted = s.axes.retracted
      ∧ (beginTravel ph ch s).motion.stopPending = s.motion.stopPending
      ∧ (beginTravel ph ch s).motion.reference = s.motion.reference
      ∧ (beginTravel ph ch s).zone.windows = s.zone.windows
      ∧ (beginTravel ph ch s).link.state = s.link.state ∧ (beginTravel ph ch s).link.run = s.link.run
      ∧ (beginTravel ph ch s).link.waitIdle = s.link.waitIdle
      ∧ (beginTravel ph ch s).link.lineOut = s.link.lineOut
      ∧ (beginTravel ph ch s).link.listeningDue = s.link.listeningDue
      ∧ (beginTravel ph ch s).peers.entries = s.peers.entries
      ∧ (beginTravel ph ch s).probes.library = s.probes.library
      ∧ (beginTravel ph ch s).probes.current = s.probes.current
      ∧ (beginTravel ph ch s).probes.slots = s.probes.slots
      ∧ (beginTravel ph ch s).probes.seated = s.probes.seated
      ∧ (beginTravel ph ch s).probes.latchOpen = s.probes.latchOpen
      ∧ (beginTravel ph ch s).probes.read = s.probes.read
      ∧ (beginTravel ph ch s).probes.latch = s.probes.latch
      ∧ (beginTravel ph ch s).events.enable = s.events.enable
      ∧ (beginTravel ph ch s).events.releaseHold = s.events.releaseHold := by
  simp [beginTravel]

@[simp] theorem beginTravel_leaves_axis (ph : Phase) (ch : Change) (s : State) (ax : Axis) :
    ((beginTravel ph ch s).axes.chan.get ax).scale = (s.axes.chan.get ax).scale
      ∧ ((beginTravel ph ch s).axes.chan.get ax).referenced = (s.axes.chan.get ax).referenced
      ∧ ((beginTravel ph ch s).axes.chan.get ax).setpoint = (s.axes.chan.get ax).setpoint
      ∧ ((beginTravel ph ch s).axes.chan.get ax).lower = (s.axes.chan.get ax).lower
      ∧ ((beginTravel ph ch s).axes.chan.get ax).upper = (s.axes.chan.get ax).upper
      ∧ ((beginTravel ph ch s).axes.chan.get ax).ready = (s.axes.chan.get ax).ready
      ∧ ((beginTravel ph ch s).axes.chan.get ax).enable = (s.axes.chan.get ax).enable := by
  simp [beginTravel]

@[simp] theorem beginLeaving_leaves (ph : Phase) (ch : Change) (s : State) :
    (beginLeaving ph ch s).axes.retracted = s.axes.retracted
      ∧ (beginLeaving ph ch s).motion.stopPending = s.motion.stopPending
      ∧ (beginLeaving ph ch s).motion.reference = s.motion.reference
      ∧ (beginLeaving ph ch s).zone.windows = s.zone.windows
      ∧ (beginLeaving ph ch s).link.state = s.link.state ∧ (beginLeaving ph ch s).link.run = s.link.run
      ∧ (beginLeaving ph ch s).link.waitIdle = s.link.waitIdle
      ∧ (beginLeaving ph ch s).link.lineOut = s.link.lineOut
      ∧ (beginLeaving ph ch s).link.listeningDue = s.link.listeningDue
      ∧ (beginLeaving ph ch s).peers.entries = s.peers.entries
      ∧ (beginLeaving ph ch s).probes.library = s.probes.library
      ∧ (beginLeaving ph ch s).probes.current = s.probes.current
      ∧ (beginLeaving ph ch s).probes.slots = s.probes.slots
      ∧ (beginLeaving ph ch s).probes.seated = s.probes.seated
      ∧ (beginLeaving ph ch s).probes.latchOpen = s.probes.latchOpen
      ∧ (beginLeaving ph ch s).probes.read = s.probes.read
      ∧ (beginLeaving ph ch s).probes.latch = s.probes.latch
      ∧ (beginLeaving ph ch s).events.enable = s.events.enable
      ∧ (beginLeaving ph ch s).events.releaseHold = s.events.releaseHold := by
  simp [beginLeaving]

@[simp] theorem beginLeaving_leaves_axis (ph : Phase) (ch : Change) (s : State) (ax : Axis) :
    ((beginLeaving ph ch s).axes.chan.get ax).scale = (s.axes.chan.get ax).scale
      ∧ ((beginLeaving ph ch s).axes.chan.get ax).referenced = (s.axes.chan.get ax).referenced
      ∧ ((beginLeaving ph ch s).axes.chan.get ax).setpoint = (s.axes.chan.get ax).setpoint
      ∧ ((beginLeaving ph ch s).axes.chan.get ax).lower = (s.axes.chan.get ax).lower
      ∧ ((beginLeaving ph ch s).axes.chan.get ax).upper = (s.axes.chan.get ax).upper
      ∧ ((beginLeaving ph ch s).axes.chan.get ax).ready = (s.axes.chan.get ax).ready
      ∧ ((beginLeaving ph ch s).axes.chan.get ax).enable = (s.axes.chan.get ax).enable := by
  simp [beginLeaving]

@[simp] theorem beginDropping_leaves (ch : Change) (s : State) :
    (beginDropping ch s).probes.library = s.probes.library
      ∧ (beginDropping ch s).probes.live = s.probes.live
      ∧ (beginDropping ch s).probes.pendingBank = s.probes.pendingBank
      ∧ (beginDropping ch s).probes.current = s.probes.current
      ∧ (beginDropping ch s).probes.slots = s.probes.slots
      ∧ (beginDropping ch s).probes.seated = s.probes.seated
      ∧ (beginDropping ch s).probes.read = s.probes.read
      ∧ (beginDropping ch s).probes.latch = s.probes.latch := by
  simp [beginDropping]

@[simp] theorem beginPicking_leaves (ch : Change) (s : State) :
    (beginPicking ch s).probes.library = s.probes.library ∧ (beginPicking ch s).probes.live = s.probes.live
      ∧ (beginPicking ch s).probes.pendingBank = s.probes.pendingBank
      ∧ (beginPicking ch s).probes.current = s.probes.current
      ∧ (beginPicking ch s).probes.slots = s.probes.slots
      ∧ (beginPicking ch s).probes.seated = s.probes.seated
      ∧ (beginPicking ch s).probes.read = s.probes.read ∧ (beginPicking ch s).probes.latch = s.probes.latch := by
  simp [beginPicking]

@[simp] theorem endChange_leaves (ch : Change) (s : State) :
    (endChange ch s).axes.retracted = s.axes.retracted
      ∧ (endChange ch s).motion.reference = s.motion.reference
      ∧ (endChange ch s).zone.windows = s.zone.windows ∧ (endChange ch s).link.state = s.link.state
      ∧ (endChange ch s).link.run = s.link.run ∧ (endChange ch s).link.waitIdle = s.link.waitIdle
      ∧ (endChange ch s).link.lineOut = s.link.lineOut
      ∧ (endChange ch s).link.listeningDue = s.link.listeningDue
      ∧ (endChange ch s).peers.entries = s.peers.entries
      ∧ (endChange ch s).probes.library = s.probes.library
      ∧ (endChange ch s).probes.current = s.probes.current ∧ (endChange ch s).probes.slots = s.probes.slots
      ∧ (endChange ch s).probes.seated = s.probes.seated
      ∧ (endChange ch s).probes.latchOpen = s.probes.latchOpen
      ∧ (endChange ch s).probes.read = s.probes.read ∧ (endChange ch s).probes.latch = s.probes.latch
      ∧ (endChange ch s).events.enable = s.events.enable
      ∧ (endChange ch s).events.releaseHold = s.events.releaseHold := by
  unfold endChange
  split <;> simp

@[simp] theorem endChange_leaves_axis (ch : Change) (s : State) (ax : Axis) :
    ((endChange ch s).axes.chan.get ax).scale = (s.axes.chan.get ax).scale
      ∧ ((endChange ch s).axes.chan.get ax).referenced = (s.axes.chan.get ax).referenced
      ∧ ((endChange ch s).axes.chan.get ax).setpoint = (s.axes.chan.get ax).setpoint
      ∧ ((endChange ch s).axes.chan.get ax).lower = (s.axes.chan.get ax).lower
      ∧ ((endChange ch s).axes.chan.get ax).upper = (s.axes.chan.get ax).upper
      ∧ ((endChange ch s).axes.chan.get ax).ready = (s.axes.chan.get ax).ready
      ∧ ((endChange ch s).axes.chan.get ax).enable = (s.axes.chan.get ax).enable := by
  unfold endChange
  split <;> simp

@[simp] theorem answerPart_leaves (part : Nat) (content : List Byte) (s : State) :
    (answerPart part content s).port.shiftOut = s.port.shiftOut := by
  unfold answerPart
  split <;> simp

@[simp] theorem takeSamples_leaves (v : Conversions) (s : State) :
    (takeSamples v s).temps.quantities = s.temps.quantities ∧ (takeSamples v s).temps.datum = s.temps.datum
      ∧ (takeSamples v s).temps.partCoeff = s.temps.partCoeff
      ∧ (takeSamples v s).temps.sampleDue = s.temps.sampleDue := by
  simp [takeSamples]

@[simp] theorem raiseFailures_leaves (before : Vec 8 Channel) (order : List Chan) (s : State) :
    (raiseFailures before order s).events.enable = s.events.enable
      ∧ (raiseFailures before order s).events.releaseHold = s.events.releaseHold := by
  unfold raiseFailures
  exact ⟨(foldl_keeps (fun u : State => u.events.enable) _ (fun t x => by (repeat' split) <;> simp) _ _),
    (foldl_keeps (fun u : State => u.events.releaseHold) _ (fun t x => by (repeat' split) <;> simp) _ _)⟩

@[simp] theorem evaluate_leaves (s : State) :
    (evaluate s).temps.channels = s.temps.channels ∧ (evaluate s).temps.datum = s.temps.datum
      ∧ (evaluate s).temps.partCoeff = s.temps.partCoeff ∧ (evaluate s).temps.sampleDue = s.temps.sampleDue := by
  simp [evaluate]

@[simp] theorem sampleChannels_leaves (v : Conversions) (order : List Chan) (s : State) :
    (sampleChannels v order s).temps.datum = s.temps.datum
      ∧ (sampleChannels v order s).temps.partCoeff = s.temps.partCoeff
      ∧ (sampleChannels v order s).temps.sampleDue = s.temps.sampleDue
      ∧ (sampleChannels v order s).events.enable = s.events.enable
      ∧ (sampleChannels v order s).events.releaseHold = s.events.releaseHold := by
  simp [sampleChannels]

@[simp] theorem dropAssembly_leaves (s : State) :
    (dropAssembly s).station.number = s.station.number ∧ (dropAssembly s).station.state = s.station.state
      ∧ (dropAssembly s).station.config = s.station.config := by
  simp [dropAssembly]

@[simp] theorem answerNumbered_leaves (code : Code) (data : List Byte) (s : State) :
    (answerNumbered code data s).port.shiftOut = s.port.shiftOut := by
  simp [answerNumbered]

@[simp] theorem addPart_leaves (content : List Byte) (next : Nat) (s : State) :
    (addPart content next s).station.number = s.station.number
      ∧ (addPart content next s).station.state = s.station.state
      ∧ (addPart content next s).station.config = s.station.config
      ∧ (addPart content next s).port.shiftOut = s.port.shiftOut := by
  simp [addPart]

@[simp] theorem acceptBlock_leaves (b : List Byte) (s : State) :
    (acceptBlock b s).station.number = s.station.number ∧ (acceptBlock b s).station.state = s.station.state
      ∧ (acceptBlock b s).temps.datum = s.temps.datum
      ∧ (acceptBlock b s).temps.partCoeff = s.temps.partCoeff
      ∧ (acceptBlock b s).temps.sampleDue = s.temps.sampleDue
      ∧ (acceptBlock b s).port.shiftOut = s.port.shiftOut := by
  simp [acceptBlock]

@[simp] theorem checkBlock_leaves (b : List Byte) (s : State) :
    (checkBlock b s).station.number = s.station.number ∧ (checkBlock b s).station.state = s.station.state
      ∧ (checkBlock b s).temps.datum = s.temps.datum ∧ (checkBlock b s).temps.partCoeff = s.temps.partCoeff
      ∧ (checkBlock b s).temps.sampleDue = s.temps.sampleDue
      ∧ (checkBlock b s).port.shiftOut = s.port.shiftOut := by
  unfold checkBlock
  repeat' split
  all_goals simp

@[simp] theorem takePart_leaves (data : List Byte) (s : State) :
    (takePart data s).station.number = s.station.number ∧ (takePart data s).station.state = s.station.state
      ∧ (takePart data s).temps.datum = s.temps.datum
      ∧ (takePart data s).temps.partCoeff = s.temps.partCoeff
      ∧ (takePart data s).temps.sampleDue = s.temps.sampleDue
      ∧ (takePart data s).port.shiftOut = s.port.shiftOut := by
  unfold takePart
  dsimp only
  repeat' split
  all_goals simp

@[simp] theorem startUp_leaves (s : State) :
    (startUp s).station.number = s.station.number ∧ (startUp s).station.config = s.station.config
      ∧ (startUp s).axes.retracted = s.axes.retracted ∧ (startUp s).zone.claim = s.zone.claim
      ∧ (startUp s).zone.nextNumber = s.zone.nextNumber ∧ (startUp s).zone.windows = s.zone.windows
      ∧ (startUp s).zone.kept = s.zone.kept ∧ (startUp s).zone.heldBack = s.zone.heldBack
      ∧ (startUp s).zone.retryAwaited = s.zone.retryAwaited ∧ (startUp s).peers.entries = s.peers.entries
      ∧ (startUp s).probes.library = s.probes.library ∧ (startUp s).probes.live = s.probes.live
      ∧ (startUp s).probes.pendingBank = s.probes.pendingBank
      ∧ (startUp s).probes.current = s.probes.current ∧ (startUp s).probes.slots = s.probes.slots
      ∧ (startUp s).probes.seated = s.probes.seated ∧ (startUp s).probes.latchOpen = s.probes.latchOpen
      ∧ (startUp s).probes.read = s.probes.read ∧ (startUp s).probes.latch = s.probes.latch
      ∧ (startUp s).port.shiftOut = s.port.shiftOut ∧ (startUp s).events.enable = s.events.enable
      ∧ (startUp s).events.releaseHold = s.events.releaseHold := by
  simp [startUp]

@[simp] theorem startUp_leaves_axis (s : State) (ax : Axis) :
    ((startUp s).axes.chan.get ax).scale = (s.axes.chan.get ax).scale
      ∧ ((startUp s).axes.chan.get ax).referenced = (s.axes.chan.get ax).referenced
      ∧ ((startUp s).axes.chan.get ax).lower = (s.axes.chan.get ax).lower
      ∧ ((startUp s).axes.chan.get ax).upper = (s.axes.chan.get ax).upper
      ∧ ((startUp s).axes.chan.get ax).ready = (s.axes.chan.get ax).ready := by
  simp [startUp]

@[simp] theorem removeUnstarted_leaves (s : State) :
    (removeUnstarted s).motion.state = s.motion.state
      ∧ (removeUnstarted s).motion.internal = s.motion.internal
      ∧ (removeUnstarted s).motion.stopPending = s.motion.stopPending
      ∧ (removeUnstarted s).motion.reference = s.motion.reference
      ∧ (removeUnstarted s).motion.deferCurrent = s.motion.deferCurrent
      ∧ (removeUnstarted s).motion.deferHandOver = s.motion.deferHandOver
      ∧ (removeUnstarted s).zone.cells = s.zone.cells
      ∧ (removeUnstarted s).zone.nextNumber = s.zone.nextNumber
      ∧ (removeUnstarted s).zone.windows = s.zone.windows
      ∧ (removeUnstarted s).zone.retryAwaited = s.zone.retryAwaited
      ∧ (removeUnstarted s).link.state = s.link.state ∧ (removeUnstarted s).link.run = s.link.run
      ∧ (removeUnstarted s).link.waitIdle = s.link.waitIdle
      ∧ (removeUnstarted s).link.lineOut = s.link.lineOut
      ∧ (removeUnstarted s).link.listeningDue = s.link.listeningDue
      ∧ (removeUnstarted s).peers.entries = s.peers.entries
      ∧ (removeUnstarted s).events.enable = s.events.enable
      ∧ (removeUnstarted s).events.releaseHold = s.events.releaseHold := by
  unfold removeUnstarted
  split <;> simp

@[simp] theorem beginReference_leaves (a : Axis) (s : State) :
    (beginReference a s).axes.retracted = s.axes.retracted
      ∧ (beginReference a s).motion.queue = s.motion.queue
      ∧ (beginReference a s).motion.internal = s.motion.internal
      ∧ (beginReference a s).motion.stopPending = s.motion.stopPending
      ∧ (beginReference a s).motion.deferCurrent = s.motion.deferCurrent
      ∧ (beginReference a s).motion.deferHandOver = s.motion.deferHandOver := by
  simp [beginReference]

@[simp] theorem beginReference_leaves_axis (a : Axis) (s : State) (ax : Axis) :
    ((beginReference a s).axes.chan.get ax).scale = (s.axes.chan.get ax).scale
      ∧ ((beginReference a s).axes.chan.get ax).setpoint = (s.axes.chan.get ax).setpoint
      ∧ ((beginReference a s).axes.chan.get ax).lower = (s.axes.chan.get ax).lower
      ∧ ((beginReference a s).axes.chan.get ax).upper = (s.axes.chan.get ax).upper
      ∧ ((beginReference a s).axes.chan.get ax).ready = (s.axes.chan.get ax).ready
      ∧ ((beginReference a s).axes.chan.get ax).enable = (s.axes.chan.get ax).enable := by
  unfold beginReference
  by_cases h : ax = a <;> simp [State.axis, h]

@[simp] theorem leaveReference_leaves (r : RefRun) (referenced : Bool) (m : MotionState) (s : State) :
    (leaveReference r referenced m s).axes.retracted = s.axes.retracted
      ∧ (leaveReference r referenced m s).motion.queue = s.motion.queue
      ∧ (leaveReference r referenced m s).motion.internal = s.motion.internal
      ∧ (leaveReference r referenced m s).motion.stopPending = s.motion.stopPending
      ∧ (leaveReference r referenced m s).motion.deferCurrent = s.motion.deferCurrent
      ∧ (leaveReference r referenced m s).motion.deferHandOver = s.motion.deferHandOver := by
  simp [leaveReference]

@[simp] theorem leaveReference_leaves_axis (r : RefRun) (referenced : Bool) (m : MotionState) (s : State)
    (ax : Axis) :
    ((leaveReference r referenced m s).axes.chan.get ax).scale = (s.axes.chan.get ax).scale
      ∧ ((leaveReference r referenced m s).axes.chan.get ax).setpoint = (s.axes.chan.get ax).setpoint
      ∧ ((leaveReference r referenced m s).axes.chan.get ax).lower = (s.axes.chan.get ax).lower
      ∧ ((leaveReference r referenced m s).axes.chan.get ax).upper = (s.axes.chan.get ax).upper
      ∧ ((leaveReference r referenced m s).axes.chan.get ax).ready = (s.axes.chan.get ax).ready
      ∧ ((leaveReference r referenced m s).axes.chan.get ax).enable = (s.axes.chan.get ax).enable := by
  unfold leaveReference
  by_cases h : ax = r.axis <;> simp [State.axis, h]

@[simp] theorem endDeceleration_leaves (s : State) :
    (endDeceleration s).axes.retracted = s.axes.retracted
      ∧ (endDeceleration s).motion.reference = s.motion.reference
      ∧ (endDeceleration s).zone.windows = s.zone.windows ∧ (endDeceleration s).link.state = s.link.state
      ∧ (endDeceleration s).link.run = s.link.run ∧ (endDeceleration s).link.waitIdle = s.link.waitIdle
      ∧ (endDeceleration s).link.lineOut = s.link.lineOut
      ∧ (endDeceleration s).link.listeningDue = s.link.listeningDue
      ∧ (endDeceleration s).peers.entries = s.peers.entries
      ∧ (endDeceleration s).probes.library = s.probes.library
      ∧ (endDeceleration s).probes.current = s.probes.current
      ∧ (endDeceleration s).probes.slots = s.probes.slots
      ∧ (endDeceleration s).probes.seated = s.probes.seated
      ∧ (endDeceleration s).probes.latchOpen = s.probes.latchOpen
      ∧ (endDeceleration s).probes.read = s.probes.read ∧ (endDeceleration s).probes.latch = s.probes.latch
      ∧ (endDeceleration s).events.enable = s.events.enable
      ∧ (endDeceleration s).events.releaseHold = s.events.releaseHold := by
  unfold endDeceleration
  repeat' split
  all_goals simp

@[simp] theorem endDeceleration_leaves_axis (s : State) (ax : Axis) :
    ((endDeceleration s).axes.chan.get ax).scale = (s.axes.chan.get ax).scale
      ∧ ((endDeceleration s).axes.chan.get ax).referenced = (s.axes.chan.get ax).referenced
      ∧ ((endDeceleration s).axes.chan.get ax).setpoint = (s.axes.chan.get ax).setpoint
      ∧ ((endDeceleration s).axes.chan.get ax).lower = (s.axes.chan.get ax).lower
      ∧ ((endDeceleration s).axes.chan.get ax).upper = (s.axes.chan.get ax).upper
      ∧ ((endDeceleration s).axes.chan.get ax).ready = (s.axes.chan.get ax).ready
      ∧ ((endDeceleration s).axes.chan.get ax).enable = (s.axes.chan.get ax).enable := by
  unfold endDeceleration
  repeat' split
  all_goals simp

@[simp] theorem decelerate_leaves (g : Segment) (s : State) :
    (decelerate g s).axes.retracted = s.axes.retracted
      ∧ (decelerate g s).motion.reference = s.motion.reference
      ∧ (decelerate g s).zone.windows = s.zone.windows ∧ (decelerate g s).link.state = s.link.state
      ∧ (decelerate g s).link.run = s.link.run ∧ (decelerate g s).link.waitIdle = s.link.waitIdle
      ∧ (decelerate g s).link.lineOut = s.link.lineOut
      ∧ (decelerate g s).link.listeningDue = s.link.listeningDue
      ∧ (decelerate g s).peers.entries = s.peers.entries
      ∧ (decelerate g s).probes.library = s.probes.library
      ∧ (decelerate g s).probes.current = s.probes.current ∧ (decelerate g s).probes.slots = s.probes.slots
      ∧ (decelerate g s).probes.seated = s.probes.seated
      ∧ (decelerate g s).probes.latchOpen = s.probes.latchOpen
      ∧ (decelerate g s).probes.read = s.probes.read ∧ (decelerate g s).probes.latch = s.probes.latch
      ∧ (decelerate g s).events.enable = s.events.enable
      ∧ (decelerate g s).events.releaseHold = s.events.releaseHold := by
  unfold decelerate
  repeat' split
  all_goals simp

@[simp] theorem decelerate_leaves_axis (g : Segment) (s : State) (ax : Axis) :
    ((decelerate g s).axes.chan.get ax).scale = (s.axes.chan.get ax).scale
      ∧ ((decelerate g s).axes.chan.get ax).referenced = (s.axes.chan.get ax).referenced
      ∧ ((decelerate g s).axes.chan.get ax).setpoint = (s.axes.chan.get ax).setpoint
      ∧ ((decelerate g s).axes.chan.get ax).lower = (s.axes.chan.get ax).lower
      ∧ ((decelerate g s).axes.chan.get ax).upper = (s.axes.chan.get ax).upper
      ∧ ((decelerate g s).axes.chan.get ax).ready = (s.axes.chan.get ax).ready
      ∧ ((decelerate g s).axes.chan.get ax).enable = (s.axes.chan.get ax).enable := by
  unfold decelerate
  repeat' split
  all_goals simp

@[simp] theorem beginRead_leaves (forChange : Bool) (s : State) :
    (beginRead forChange s).probes.library = s.probes.library
      ∧ (beginRead forChange s).probes.live = s.probes.live
      ∧ (beginRead forChange s).probes.pendingBank = s.probes.pendingBank
      ∧ (beginRead forChange s).probes.current = s.probes.current
      ∧ (beginRead forChange s).probes.slots = s.probes.slots
      ∧ (beginRead forChange s).probes.seated = s.probes.seated
      ∧ (beginRead forChange s).probes.latchOpen = s.probes.latchOpen
      ∧ (beginRead forChange s).probes.change = s.probes.change
      ∧ (beginRead forChange s).probes.latch = s.probes.latch := by
  simp [beginRead]

@[simp] theorem endRead_leaves (result : Option Ident) (s : State) :
    (endRead result s).axes.retracted = s.axes.retracted
      ∧ (endRead result s).motion.stopPending = s.motion.stopPending
      ∧ (endRead result s).motion.reference = s.motion.reference
      ∧ (endRead result s).zone.windows = s.zone.windows ∧ (endRead result s).link.state = s.link.state
      ∧ (endRead result s).link.run = s.link.run ∧ (endRead result s).link.waitIdle = s.link.waitIdle
      ∧ (endRead result s).link.lineOut = s.link.lineOut
      ∧ (endRead result s).link.listeningDue = s.link.listeningDue
      ∧ (endRead result s).peers.entries = s.peers.entries
      ∧ (endRead result s).probes.library = s.probes.library
      ∧ (endRead result s).probes.seated = s.probes.seated
      ∧ (endRead result s).probes.latchOpen = s.probes.latchOpen
      ∧ (endRead result s).probes.latch = s.probes.latch
      ∧ (endRead result s).events.enable = s.events.enable
      ∧ (endRead result s).events.releaseHold = s.events.releaseHold := by
  unfold endRead
  dsimp only
  repeat' split
  all_goals simp

@[simp] theorem endRead_leaves_axis (result : Option Ident) (s : State) (ax : Axis) :
    ((endRead result s).axes.chan.get ax).scale = (s.axes.chan.get ax).scale
      ∧ ((endRead result s).axes.chan.get ax).referenced = (s.axes.chan.get ax).referenced
      ∧ ((endRead result s).axes.chan.get ax).setpoint = (s.axes.chan.get ax).setpoint
      ∧ ((endRead result s).axes.chan.get ax).lower = (s.axes.chan.get ax).lower
      ∧ ((endRead result s).axes.chan.get ax).upper = (s.axes.chan.get ax).upper
      ∧ ((endRead result s).axes.chan.get ax).ready = (s.axes.chan.get ax).ready
      ∧ ((endRead result s).axes.chan.get ax).enable = (s.axes.chan.get ax).enable := by
  unfold endRead
  dsimp only
  repeat' split
  all_goals simp

@[simp] theorem failAttempt_leaves (s : State) :
    (failAttempt s).axes.retracted = s.axes.retracted
      ∧ (failAttempt s).motion.stopPending = s.motion.stopPending
      ∧ (failAttempt s).motion.reference = s.motion.reference
      ∧ (failAttempt s).zone.windows = s.zone.windows ∧ (failAttempt s).link.state = s.link.state
      ∧ (failAttempt s).link.run = s.link.run ∧ (failAttempt s).link.waitIdle = s.link.waitIdle
      ∧ (failAttempt s).link.lineOut = s.link.lineOut
      ∧ (failAttempt s).link.listeningDue = s.link.listeningDue
      ∧ (failAttempt s).peers.entries = s.peers.entries ∧ (failAttempt s).probes.library = s.probes.library
      ∧ (failAttempt s).probes.seated = s.probes.seated
      ∧ (failAttempt s).probes.latchOpen = s.probes.latchOpen
      ∧ (failAttempt s).probes.latch = s.probes.latch ∧ (failAttempt s).events.enable = s.events.enable
      ∧ (failAttempt s).events.releaseHold = s.events.releaseHold := by
  unfold failAttempt
  repeat' split
  all_goals simp

@[simp] theorem failAttempt_leaves_axis (s : State) (ax : Axis) :
    ((failAttempt s).axes.chan.get ax).scale = (s.axes.chan.get ax).scale
      ∧ ((failAttempt s).axes.chan.get ax).referenced = (s.axes.chan.get ax).referenced
      ∧ ((failAttempt s).axes.chan.get ax).setpoint = (s.axes.chan.get ax).setpoint
      ∧ ((failAttempt s).axes.chan.get ax).lower = (s.axes.chan.get ax).lower
      ∧ ((failAttempt s).axes.chan.get ax).upper = (s.axes.chan.get ax).upper
      ∧ ((failAttempt s).axes.chan.get ax).ready = (s.axes.chan.get ax).ready
      ∧ ((failAttempt s).axes.chan.get ax).enable = (s.axes.chan.get ax).enable := by
  unfold failAttempt
  repeat' split
  all_goals simp

@[simp] theorem beginChange_leaves (ch : Change) (s : State) :
    (beginChange ch s).axes.retracted = s.axes.retracted
      ∧ (beginChange ch s).motion.stopPending = s.motion.stopPending
      ∧ (beginChange ch s).motion.reference = s.motion.reference
      ∧ (beginChange ch s).zone.windows = s.zone.windows ∧ (beginChange ch s).link.state = s.link.state
      ∧ (beginChange ch s).link.run = s.link.run ∧ (beginChange ch s).link.waitIdle = s.link.waitIdle
      ∧ (beginChange ch s).link.lineOut = s.link.lineOut
      ∧ (beginChange ch s).link.listeningDue = s.link.listeningDue
      ∧ (beginChange ch s).peers.entries = s.peers.entries
      ∧ (beginChange ch s).probes.library = s.probes.library
      ∧ (beginChange ch s).probes.current = s.probes.current
      ∧ (beginChange ch s).probes.slots = s.probes.slots
      ∧ (beginChange ch s).probes.seated = s.probes.seated
      ∧ (beginChange ch s).probes.latchOpen = s.probes.latchOpen
      ∧ (beginChange ch s).probes.read = s.probes.read ∧ (beginChange ch s).probes.latch = s.probes.latch
      ∧ (beginChange ch s).events.enable = s.events.enable
      ∧ (beginChange ch s).events.releaseHold = s.events.releaseHold := by
  simp [beginChange]

@[simp] theorem beginChange_leaves_axis (ch : Change) (s : State) (ax : Axis) :
    ((beginChange ch s).axes.chan.get ax).scale = (s.axes.chan.get ax).scale
      ∧ ((beginChange ch s).axes.chan.get ax).referenced = (s.axes.chan.get ax).referenced
      ∧ ((beginChange ch s).axes.chan.get ax).setpoint = (s.axes.chan.get ax).setpoint
      ∧ ((beginChange ch s).axes.chan.get ax).lower = (s.axes.chan.get ax).lower
      ∧ ((beginChange ch s).axes.chan.get ax).upper = (s.axes.chan.get ax).upper
      ∧ ((beginChange ch s).axes.chan.get ax).ready = (s.axes.chan.get ax).ready
      ∧ ((beginChange ch s).axes.chan.get ax).enable = (s.axes.chan.get ax).enable := by
  simp [beginChange]

@[simp] theorem abortTravel_leaves (ch : Change) (s : State) :
    (abortTravel ch s).axes.retracted = s.axes.retracted
      ∧ (abortTravel ch s).motion.reference = s.motion.reference
      ∧ (abortTravel ch s).zone.windows = s.zone.windows ∧ (abortTravel ch s).link.state = s.link.state
      ∧ (abortTravel ch s).link.run = s.link.run ∧ (abortTravel ch s).link.waitIdle = s.link.waitIdle
      ∧ (abortTravel ch s).link.lineOut = s.link.lineOut
      ∧ (abortTravel ch s).link.listeningDue = s.link.listeningDue
      ∧ (abortTravel ch s).peers.entries = s.peers.entries
      ∧ (abortTravel ch s).probes.library = s.probes.library
      ∧ (abortTravel ch s).probes.current = s.probes.current
      ∧ (abortTravel ch s).probes.slots = s.probes.slots
      ∧ (abortTravel ch s).probes.seated = s.probes.seated
      ∧ (abortTravel ch s).probes.latchOpen = s.probes.latchOpen
      ∧ (abortTravel ch s).probes.read = s.probes.read ∧ (abortTravel ch s).probes.latch = s.probes.latch
      ∧ (abortTravel ch s).events.enable = s.events.enable
      ∧ (abortTravel ch s).events.releaseHold = s.events.releaseHold := by
  unfold abortTravel
  dsimp only
  repeat' split
  all_goals simp

@[simp] theorem abortTravel_leaves_axis (ch : Change) (s : State) (ax : Axis) :
    ((abortTravel ch s).axes.chan.get ax).scale = (s.axes.chan.get ax).scale
      ∧ ((abortTravel ch s).axes.chan.get ax).referenced = (s.axes.chan.get ax).referenced
      ∧ ((abortTravel ch s).axes.chan.get ax).setpoint = (s.axes.chan.get ax).setpoint
      ∧ ((abortTravel ch s).axes.chan.get ax).lower = (s.axes.chan.get ax).lower
      ∧ ((abortTravel ch s).axes.chan.get ax).upper = (s.axes.chan.get ax).upper
      ∧ ((abortTravel ch s).axes.chan.get ax).ready = (s.axes.chan.get ax).ready
      ∧ ((abortTravel ch s).axes.chan.get ax).enable = (s.axes.chan.get ax).enable := by
  unfold abortTravel
  dsimp only
  repeat' split
  all_goals simp

@[simp] theorem abortChange_leaves (s : State) :
    (abortChange s).1.axes.retracted = s.axes.retracted
      ∧ (abortChange s).1.motion.reference = s.motion.reference
      ∧ (abortChange s).1.zone.windows = s.zone.windows ∧ (abortChange s).1.link.state = s.link.state
      ∧ (abortChange s).1.link.run = s.link.run ∧ (abortChange s).1.link.waitIdle = s.link.waitIdle
      ∧ (abortChange s).1.link.lineOut = s.link.lineOut
      ∧ (abortChange s).1.link.listeningDue = s.link.listeningDue
      ∧ (abortChange s).1.peers.entries = s.peers.entries
      ∧ (abortChange s).1.probes.library = s.probes.library
      ∧ (abortChange s).1.probes.current = s.probes.current
      ∧ (abortChange s).1.probes.slots = s.probes.slots ∧ (abortChange s).1.probes.seated = s.probes.seated
      ∧ (abortChange s).1.probes.latchOpen = s.probes.latchOpen
      ∧ (abortChange s).1.probes.read = s.probes.read ∧ (abortChange s).1.probes.latch = s.probes.latch
      ∧ (abortChange s).1.events.enable = s.events.enable
      ∧ (abortChange s).1.events.releaseHold = s.events.releaseHold := by
  unfold abortChange
  repeat' split
  all_goals simp

@[simp] theorem abortChange_leaves_axis (s : State) (ax : Axis) :
    ((abortChange s).1.axes.chan.get ax).scale = (s.axes.chan.get ax).scale
      ∧ ((abortChange s).1.axes.chan.get ax).referenced = (s.axes.chan.get ax).referenced
      ∧ ((abortChange s).1.axes.chan.get ax).setpoint = (s.axes.chan.get ax).setpoint
      ∧ ((abortChange s).1.axes.chan.get ax).lower = (s.axes.chan.get ax).lower
      ∧ ((abortChange s).1.axes.chan.get ax).upper = (s.axes.chan.get ax).upper
      ∧ ((abortChange s).1.axes.chan.get ax).ready = (s.axes.chan.get ax).ready
      ∧ ((abortChange s).1.axes.chan.get ax).enable = (s.axes.chan.get ax).enable := by
  unfold abortChange
  repeat' split
  all_goals simp

@[simp] theorem completeDrop_leaves (ch : Change) (s : State) :
    (completeDrop ch s).axes.retracted = s.axes.retracted
      ∧ (completeDrop ch s).motion.stopPending = s.motion.stopPending
      ∧ (completeDrop ch s).motion.reference = s.motion.reference
      ∧ (completeDrop ch s).zone.windows = s.zone.windows ∧ (completeDrop ch s).link.state = s.link.state
      ∧ (completeDrop ch s).link.run = s.link.run ∧ (completeDrop ch s).link.waitIdle = s.link.waitIdle
      ∧ (completeDrop ch s).link.lineOut = s.link.lineOut
      ∧ (completeDrop ch s).link.listeningDue = s.link.listeningDue
      ∧ (completeDrop ch s).peers.entries = s.peers.entries
      ∧ (completeDrop ch s).probes.library = s.probes.library
      ∧ (completeDrop ch s).probes.seated = s.probes.seated
      ∧ (completeDrop ch s).probes.latchOpen = s.probes.latchOpen
      ∧ (completeDrop ch s).probes.read = s.probes.read ∧ (completeDrop ch s).probes.latch = s.probes.latch
      ∧ (completeDrop ch s).events.enable = s.events.enable
      ∧ (completeDrop ch s).events.releaseHold = s.events.releaseHold := by
  unfold completeDrop
  split <;> simp

@[simp] theorem completeDrop_leaves_axis (ch : Change) (s : State) (ax : Axis) :
    ((completeDrop ch s).axes.chan.get ax).scale = (s.axes.chan.get ax).scale
      ∧ ((completeDrop ch s).axes.chan.get ax).referenced = (s.axes.chan.get ax).referenced
      ∧ ((completeDrop ch s).axes.chan.get ax).setpoint = (s.axes.chan.get ax).setpoint
      ∧ ((completeDrop ch s).axes.chan.get ax).lower = (s.axes.chan.get ax).lower
      ∧ ((completeDrop ch s).axes.chan.get ax).upper = (s.axes.chan.get ax).upper
      ∧ ((completeDrop ch s).axes.chan.get ax).ready = (s.axes.chan.get ax).ready
      ∧ ((completeDrop ch s).axes.chan.get ax).enable = (s.axes.chan.get ax).enable := by
  unfold completeDrop
  split <;> simp

@[simp] theorem completePick_leaves (ch : Change) (s : State) :
    (completePick ch s).link.state = s.link.state ∧ (completePick ch s).link.run = s.link.run
      ∧ (completePick ch s).link.waitIdle = s.link.waitIdle
      ∧ (completePick ch s).link.lineOut = s.link.lineOut
      ∧ (completePick ch s).link.listeningDue = s.link.listeningDue
      ∧ (completePick ch s).probes.library = s.probes.library
      ∧ (completePick ch s).probes.live = s.probes.live
      ∧ (completePick ch s).probes.pendingBank = s.probes.pendingBank
      ∧ (completePick ch s).probes.seated = s.probes.seated
      ∧ (completePick ch s).probes.latchOpen = s.probes.latchOpen
      ∧ (completePick ch s).probes.latch = s.probes.latch
      ∧ (completePick ch s).events.enable = s.events.enable
      ∧ (completePick ch s).events.releaseHold = s.events.releaseHold := by
  unfold completePick
  split <;> simp

@[simp] theorem appendMove_leaves (g : Segment) (s : State) :
    (appendMove g s).axes.retracted = s.axes.retracted
      ∧ (appendMove g s).motion.stopPending = s.motion.stopPending
      ∧ (appendMove g s).motion.reference = s.motion.reference
      ∧ (appendMove g s).zone.windows = s.zone.windows ∧ (appendMove g s).link.state = s.link.state
      ∧ (appendMove g s).link.run = s.link.run ∧ (appendMove g s).link.waitIdle = s.link.waitIdle
      ∧ (appendMove g s).link.lineOut = s.link.lineOut
      ∧ (appendMove g s).link.listeningDue = s.link.listeningDue
      ∧ (appendMove g s).peers.entries = s.peers.entries
      ∧ (appendMove g s).probes.library = s.probes.library
      ∧ (appendMove g s).probes.current = s.probes.current ∧ (appendMove g s).probes.slots = s.probes.slots
      ∧ (appendMove g s).probes.seated = s.probes.seated
      ∧ (appendMove g s).probes.latchOpen = s.probes.latchOpen
      ∧ (appendMove g s).probes.read = s.probes.read ∧ (appendMove g s).probes.change = s.probes.change
      ∧ (appendMove g s).probes.latch = s.probes.latch ∧ (appendMove g s).events.enable = s.events.enable
      ∧ (appendMove g s).events.releaseHold = s.events.releaseHold := by
  unfold appendMove
  split <;> simp

@[simp] theorem appendMove_leaves_axis (g : Segment) (s : State) (ax : Axis) :
    ((appendMove g s).axes.chan.get ax).scale = (s.axes.chan.get ax).scale
      ∧ ((appendMove g s).axes.chan.get ax).referenced = (s.axes.chan.get ax).referenced
      ∧ ((appendMove g s).axes.chan.get ax).setpoint = (s.axes.chan.get ax).setpoint
      ∧ ((appendMove g s).axes.chan.get ax).lower = (s.axes.chan.get ax).lower
      ∧ ((appendMove g s).axes.chan.get ax).upper = (s.axes.chan.get ax).upper
      ∧ ((appendMove g s).axes.chan.get ax).ready = (s.axes.chan.get ax).ready
      ∧ ((appendMove g s).axes.chan.get ax).enable = (s.axes.chan.get ax).enable := by
  unfold appendMove
  split <;> simp

@[simp] theorem stopSegment_leaves (g : Segment) (s : State) :
    (stopSegment g s).axes.retracted = s.axes.retracted
      ∧ (stopSegment g s).motion.reference = s.motion.reference
      ∧ (stopSegment g s).zone.windows = s.zone.windows ∧ (stopSegment g s).link.state = s.link.state
      ∧ (stopSegment g s).link.run = s.link.run ∧ (stopSegment g s).link.waitIdle = s.link.waitIdle
      ∧ (stopSegment g s).link.lineOut = s.link.lineOut
      ∧ (stopSegment g s).link.listeningDue = s.link.listeningDue
      ∧ (stopSegment g s).peers.entries = s.peers.entries
      ∧ (stopSegment g s).probes.library = s.probes.library
      ∧ (stopSegment g s).probes.current = s.probes.current
      ∧ (stopSegment g s).probes.slots = s.probes.slots ∧ (stopSegment g s).probes.seated = s.probes.seated
      ∧ (stopSegment g s).probes.latchOpen = s.probes.latchOpen
      ∧ (stopSegment g s).probes.read = s.probes.read ∧ (stopSegment g s).probes.latch = s.probes.latch
      ∧ (stopSegment g s).events.enable = s.events.enable
      ∧ (stopSegment g s).events.releaseHold = s.events.releaseHold := by
  unfold stopSegment
  split <;> simp

@[simp] theorem stopSegment_leaves_axis (g : Segment) (s : State) (ax : Axis) :
    ((stopSegment g s).axes.chan.get ax).scale = (s.axes.chan.get ax).scale
      ∧ ((stopSegment g s).axes.chan.get ax).referenced = (s.axes.chan.get ax).referenced
      ∧ ((stopSegment g s).axes.chan.get ax).setpoint = (s.axes.chan.get ax).setpoint
      ∧ ((stopSegment g s).axes.chan.get ax).lower = (s.axes.chan.get ax).lower
      ∧ ((stopSegment g s).axes.chan.get ax).upper = (s.axes.chan.get ax).upper
      ∧ ((stopSegment g s).axes.chan.get ax).ready = (s.axes.chan.get ax).ready
      ∧ ((stopSegment g s).axes.chan.get ax).enable = (s.axes.chan.get ax).enable := by
  unfold stopSegment
  split <;> simp

@[simp] theorem stopEffect_leaves (s : State) :
    (stopEffect s).axes.retracted = s.axes.retracted ∧ (stopEffect s).zone.windows = s.zone.windows
      ∧ (stopEffect s).link.state = s.link.state ∧ (stopEffect s).link.run = s.link.run
      ∧ (stopEffect s).link.waitIdle = s.link.waitIdle ∧ (stopEffect s).link.lineOut = s.link.lineOut
      ∧ (stopEffect s).link.listeningDue = s.link.listeningDue
      ∧ (stopEffect s).peers.entries = s.peers.entries ∧ (stopEffect s).probes.library = s.probes.library
      ∧ (stopEffect s).probes.current = s.probes.current ∧ (stopEffect s).probes.slots = s.probes.slots
      ∧ (stopEffect s).probes.seated = s.probes.seated
      ∧ (stopEffect s).probes.latchOpen = s.probes.latchOpen ∧ (stopEffect s).probes.read = s.probes.read
      ∧ (stopEffect s).probes.latch = s.probes.latch ∧ (stopEffect s).events.enable = s.events.enable
      ∧ (stopEffect s).events.releaseHold = s.events.releaseHold := by
  unfold stopEffect
  repeat' split
  all_goals simp

@[simp] theorem stopEffect_leaves_axis (s : State) (ax : Axis) :
    ((stopEffect s).axes.chan.get ax).scale = (s.axes.chan.get ax).scale
      ∧ ((stopEffect s).axes.chan.get ax).referenced = (s.axes.chan.get ax).referenced
      ∧ ((stopEffect s).axes.chan.get ax).setpoint = (s.axes.chan.get ax).setpoint
      ∧ ((stopEffect s).axes.chan.get ax).lower = (s.axes.chan.get ax).lower
      ∧ ((stopEffect s).axes.chan.get ax).upper = (s.axes.chan.get ax).upper
      ∧ ((stopEffect s).axes.chan.get ax).ready = (s.axes.chan.get ax).ready
      ∧ ((stopEffect s).axes.chan.get ax).enable = (s.axes.chan.get ax).enable := by
  unfold stopEffect
  repeat' split
  all_goals simp

@[simp] theorem shedAbortedClaim_leaves (s : State) :
    (shedAbortedClaim s).zone.cells = s.zone.cells
      ∧ (shedAbortedClaim s).zone.nextNumber = s.zone.nextNumber
      ∧ (shedAbortedClaim s).zone.windows = s.zone.windows
      ∧ (shedAbortedClaim s).zone.retryAwaited = s.zone.retryAwaited
      ∧ (shedAbortedClaim s).link.state = s.link.state ∧ (shedAbortedClaim s).link.run = s.link.run
      ∧ (shedAbortedClaim s).link.waitIdle = s.link.waitIdle
      ∧ (shedAbortedClaim s).link.lineOut = s.link.lineOut
      ∧ (shedAbortedClaim s).link.listeningDue = s.link.listeningDue
      ∧ (shedAbortedClaim s).peers.entries = s.peers.entries
      ∧ (shedAbortedClaim s).events.enable = s.events.enable
      ∧ (shedAbortedClaim s).events.releaseHold = s.events.releaseHold := by
  unfold shedAbortedClaim
  dsimp only
  repeat' split
  all_goals simp

@[simp] theorem requestNoContact_leaves (g : Segment) (s : State) :
    (requestNoContact g s).axes.retracted = s.axes.retracted
      ∧ (requestNoContact g s).motion.stopPending = s.motion.stopPending
      ∧ (requestNoContact g s).motion.reference = s.motion.reference
      ∧ (requestNoContact g s).motion.deferCurrent = s.motion.deferCurrent
      ∧ (requestNoContact g s).motion.deferHandOver = s.motion.deferHandOver
      ∧ (requestNoContact g s).probes.library = s.probes.library
      ∧ (requestNoContact g s).probes.current = s.probes.current
      ∧ (requestNoContact g s).probes.slots = s.probes.slots
      ∧ (requestNoContact g s).probes.seated = s.probes.seated
      ∧ (requestNoContact g s).probes.latchOpen = s.probes.latchOpen
      ∧ (requestNoContact g s).probes.read = s.probes.read
      ∧ (requestNoContact g s).probes.change = s.probes.change
      ∧ (requestNoContact g s).points.records = s.points.records
      ∧ (requestNoContact g s).points.counter = s.points.counter
      ∧ (requestNoContact g s).points.suspect = s.points.suspect
      ∧ (requestNoContact g s).points.overrun = s.points.overrun
      ∧ (requestNoContact g s).events.enable = s.events.enable
      ∧ (requestNoContact g s).events.releaseHold = s.events.releaseHold := by
  unfold requestNoContact
  split <;> simp

@[simp] theorem requestNoContact_leaves_axis (g : Segment) (s : State) (ax : Axis) :
    ((requestNoContact g s).axes.chan.get ax).scale = (s.axes.chan.get ax).scale
      ∧ ((requestNoContact g s).axes.chan.get ax).referenced = (s.axes.chan.get ax).referenced
      ∧ ((requestNoContact g s).axes.chan.get ax).setpoint = (s.axes.chan.get ax).setpoint
      ∧ ((requestNoContact g s).axes.chan.get ax).lower = (s.axes.chan.get ax).lower
      ∧ ((requestNoContact g s).axes.chan.get ax).upper = (s.axes.chan.get ax).upper
      ∧ ((requestNoContact g s).axes.chan.get ax).ready = (s.axes.chan.get ax).ready
      ∧ ((requestNoContact g s).axes.chan.get ax).enable = (s.axes.chan.get ax).enable := by
  unfold requestNoContact
  split <;> simp

@[simp] theorem completeHost_leaves (g : Segment) (s : State) :
    (completeHost g s).axes.retracted = s.axes.retracted
      ∧ (completeHost g s).motion.reference = s.motion.reference
      ∧ (completeHost g s).zone.windows = s.zone.windows ∧ (completeHost g s).link.state = s.link.state
      ∧ (completeHost g s).link.run = s.link.run ∧ (completeHost g s).link.waitIdle = s.link.waitIdle
      ∧ (completeHost g s).link.lineOut = s.link.lineOut
      ∧ (completeHost g s).link.listeningDue = s.link.listeningDue
      ∧ (completeHost g s).peers.entries = s.peers.entries
      ∧ (completeHost g s).probes.library = s.probes.library
      ∧ (completeHost g s).probes.current = s.probes.current
      ∧ (completeHost g s).probes.slots = s.probes.slots
      ∧ (completeHost g s).probes.seated = s.probes.seated
      ∧ (completeHost g s).probes.latchOpen = s.probes.latchOpen
      ∧ (completeHost g s).probes.read = s.probes.read ∧ (completeHost g s).probes.change = s.probes.change
      ∧ (completeHost g s).points.records = s.points.records
      ∧ (completeHost g s).points.counter = s.points.counter
      ∧ (completeHost g s).points.suspect = s.points.suspect
      ∧ (completeHost g s).points.overrun = s.points.overrun
      ∧ (completeHost g s).events.enable = s.events.enable
      ∧ (completeHost g s).events.releaseHold = s.events.releaseHold := by
  unfold completeHost
  repeat' split
  all_goals simp

@[simp] theorem completeHost_leaves_axis (g : Segment) (s : State) (ax : Axis) :
    ((completeHost g s).axes.chan.get ax).scale = (s.axes.chan.get ax).scale
      ∧ ((completeHost g s).axes.chan.get ax).referenced = (s.axes.chan.get ax).referenced
      ∧ ((completeHost g s).axes.chan.get ax).setpoint = (s.axes.chan.get ax).setpoint
      ∧ ((completeHost g s).axes.chan.get ax).lower = (s.axes.chan.get ax).lower
      ∧ ((completeHost g s).axes.chan.get ax).upper = (s.axes.chan.get ax).upper
      ∧ ((completeHost g s).axes.chan.get ax).ready = (s.axes.chan.get ax).ready
      ∧ ((completeHost g s).axes.chan.get ax).enable = (s.axes.chan.get ax).enable := by
  unfold completeHost
  repeat' split
  all_goals simp

@[simp] theorem continueTravel_leaves (ch : Change) (s : State) :
    (continueTravel ch s).axes.retracted = s.axes.retracted
      ∧ (continueTravel ch s).motion.stopPending = s.motion.stopPending
      ∧ (continueTravel ch s).motion.reference = s.motion.reference
      ∧ (continueTravel ch s).zone.windows = s.zone.windows
      ∧ (continueTravel ch s).link.state = s.link.state ∧ (continueTravel ch s).link.run = s.link.run
      ∧ (continueTravel ch s).link.waitIdle = s.link.waitIdle
      ∧ (continueTravel ch s).link.lineOut = s.link.lineOut
      ∧ (continueTravel ch s).link.listeningDue = s.link.listeningDue
      ∧ (continueTravel ch s).peers.entries = s.peers.entries
      ∧ (continueTravel ch s).probes.library = s.probes.library
      ∧ (continueTravel ch s).probes.current = s.probes.current
      ∧ (continueTravel ch s).probes.slots = s.probes.slots
      ∧ (continueTravel ch s).probes.seated = s.probes.seated
      ∧ (continueTravel ch s).probes.latchOpen = s.probes.latchOpen
      ∧ (continueTravel ch s).probes.read = s.probes.read
      ∧ (continueTravel ch s).probes.change = s.probes.change
      ∧ (continueTravel ch s).probes.latch = s.probes.latch
      ∧ (continueTravel ch s).events.enable = s.events.enable
      ∧ (continueTravel ch s).events.releaseHold = s.events.releaseHold := by
  simp [continueTravel]

@[simp] theorem continueTravel_leaves_axis (ch : Change) (s : State) (ax : Axis) :
    ((continueTravel ch s).axes.chan.get ax).scale = (s.axes.chan.get ax).scale
      ∧ ((continueTravel ch s).axes.chan.get ax).referenced = (s.axes.chan.get ax).referenced
      ∧ ((continueTravel ch s).axes.chan.get ax).setpoint = (s.axes.chan.get ax).setpoint
      ∧ ((continueTravel ch s).axes.chan.get ax).lower = (s.axes.chan.get ax).lower
      ∧ ((continueTravel ch s).axes.chan.get ax).upper = (s.axes.chan.get ax).upper
      ∧ ((continueTravel ch s).axes.chan.get ax).ready = (s.axes.chan.get ax).ready
      ∧ ((continueTravel ch s).axes.chan.get ax).enable = (s.axes.chan.get ax).enable := by
  simp [continueTravel]

@[simp] theorem endPhase_leaves (ch : Change) (s : State) :
    (endPhase ch s).axes.retracted = s.axes.retracted
      ∧ (endPhase ch s).motion.reference = s.motion.reference
      ∧ (endPhase ch s).zone.windows = s.zone.windows ∧ (endPhase ch s).link.state = s.link.state
      ∧ (endPhase ch s).link.run = s.link.run ∧ (endPhase ch s).link.waitIdle = s.link.waitIdle
      ∧ (endPhase ch s).link.lineOut = s.link.lineOut
      ∧ (endPhase ch s).link.listeningDue = s.link.listeningDue
      ∧ (endPhase ch s).peers.entries = s.peers.entries ∧ (endPhase ch s).probes.library = s.probes.library
      ∧ (endPhase ch s).probes.current = s.probes.current ∧ (endPhase ch s).probes.slots = s.probes.slots
      ∧ (endPhase ch s).probes.seated = s.probes.seated ∧ (endPhase ch s).probes.read = s.probes.read
      ∧ (endPhase ch s).probes.latch = s.probes.latch ∧ (endPhase ch s).events.enable = s.events.enable
      ∧ (endPhase ch s).events.releaseHold = s.events.releaseHold := by
  unfold endPhase
  repeat' split
  all_goals simp

@[simp] theorem endPhase_leaves_axis (ch : Change) (s : State) (ax : Axis) :
    ((endPhase ch s).axes.chan.get ax).scale = (s.axes.chan.get ax).scale
      ∧ ((endPhase ch s).axes.chan.get ax).referenced = (s.axes.chan.get ax).referenced
      ∧ ((endPhase ch s).axes.chan.get ax).setpoint = (s.axes.chan.get ax).setpoint
      ∧ ((endPhase ch s).axes.chan.get ax).lower = (s.axes.chan.get ax).lower
      ∧ ((endPhase ch s).axes.chan.get ax).upper = (s.axes.chan.get ax).upper
      ∧ ((endPhase ch s).axes.chan.get ax).ready = (s.axes.chan.get ax).ready
      ∧ ((endPhase ch s).axes.chan.get ax).enable = (s.axes.chan.get ax).enable := by
  unfold endPhase
  repeat' split
  all_goals simp

@[simp] theorem completeInternal_leaves (g : Segment) (ch : Change) (s : State) :
    (completeInternal g ch s).axes.retracted = s.axes.retracted
      ∧ (completeInternal g ch s).motion.reference = s.motion.reference
      ∧ (completeInternal g ch s).zone.windows = s.zone.windows
      ∧ (completeInternal g ch s).link.state = s.link.state
      ∧ (completeInternal g ch s).link.run = s.link.run
      ∧ (completeInternal g ch s).link.waitIdle = s.link.waitIdle
      ∧ (completeInternal g ch s).link.lineOut = s.link.lineOut
      ∧ (completeInternal g ch s).link.listeningDue = s.link.listeningDue
      ∧ (completeInternal g ch s).peers.entries = s.peers.entries
      ∧ (completeInternal g ch s).probes.library = s.probes.library
      ∧ (completeInternal g ch s).probes.current = s.probes.current
      ∧ (completeInternal g ch s).probes.slots = s.probes.slots
      ∧ (completeInternal g ch s).probes.seated = s.probes.seated
      ∧ (completeInternal g ch s).probes.read = s.probes.read
      ∧ (completeInternal g ch s).probes.latch = s.probes.latch
      ∧ (completeInternal g ch s).events.enable = s.events.enable
      ∧ (completeInternal g ch s).events.releaseHold = s.events.releaseHold := by
  unfold completeInternal
  repeat' split
  all_goals simp

@[simp] theorem completeInternal_leaves_axis (g : Segment) (ch : Change) (s : State) (ax : Axis) :
    ((completeInternal g ch s).axes.chan.get ax).scale = (s.axes.chan.get ax).scale
      ∧ ((completeInternal g ch s).axes.chan.get ax).referenced = (s.axes.chan.get ax).referenced
      ∧ ((completeInternal g ch s).axes.chan.get ax).setpoint = (s.axes.chan.get ax).setpoint
      ∧ ((completeInternal g ch s).axes.chan.get ax).lower = (s.axes.chan.get ax).lower
      ∧ ((completeInternal g ch s).axes.chan.get ax).upper = (s.axes.chan.get ax).upper
      ∧ ((completeInternal g ch s).axes.chan.get ax).ready = (s.axes.chan.get ax).ready
      ∧ ((completeInternal g ch s).axes.chan.get ax).enable = (s.axes.chan.get ax).enable := by
  unfold completeInternal
  repeat' split
  all_goals simp

@[simp] theorem latchTouch_leaves (g : Segment) (c : V3 Int) (s : State) :
    (latchTouch g c s).axes.retracted = s.axes.retracted
      ∧ (latchTouch g c s).motion.reference = s.motion.reference
      ∧ (latchTouch g c s).motion.deferCurrent = s.motion.deferCurrent
      ∧ (latchTouch g c s).motion.deferHandOver = s.motion.deferHandOver
      ∧ (latchTouch g c s).probes.current = s.probes.current
      ∧ (latchTouch g c s).probes.slots = s.probes.slots
      ∧ (latchTouch g c s).probes.seated = s.probes.seated
      ∧ (latchTouch g c s).probes.latchOpen = s.probes.latchOpen
      ∧ (latchTouch g c s).probes.read = s.probes.read ∧ (latchTouch g c s).probes.change = s.probes.change
      ∧ (latchTouch g c s).points.records = s.points.records
      ∧ (latchTouch g c s).points.counter = s.points.counter
      ∧ (latchTouch g c s).points.suspect = s.points.suspect
      ∧ (latchTouch g c s).points.overrun = s.points.overrun
      ∧ (latchTouch g c s).events.enable = s.events.enable
      ∧ (latchTouch g c s).events.releaseHold = s.events.releaseHold := by
  unfold latchTouch
  repeat' split
  all_goals simp

@[simp] theorem latchTouch_leaves_axis (g : Segment) (c : V3 Int) (s : State) (ax : Axis) :
    ((latchTouch g c s).axes.chan.get ax).scale = (s.axes.chan.get ax).scale
      ∧ ((latchTouch g c s).axes.chan.get ax).referenced = (s.axes.chan.get ax).referenced
      ∧ ((latchTouch g c s).axes.chan.get ax).setpoint = (s.axes.chan.get ax).setpoint
      ∧ ((latchTouch g c s).axes.chan.get ax).lower = (s.axes.chan.get ax).lower
      ∧ ((latchTouch g c s).axes.chan.get ax).upper = (s.axes.chan.get ax).upper
      ∧ ((latchTouch g c s).axes.chan.get ax).ready = (s.axes.chan.get ax).ready
      ∧ ((latchTouch g c s).axes.chan.get ax).enable = (s.axes.chan.get ax).enable := by
  unfold latchTouch
  repeat' split
  all_goals simp

@[simp] theorem advanceReference_leaves (s : State) :
    (advanceReference s).axes.retracted = s.axes.retracted
      ∧ (advanceReference s).motion.state = s.motion.state
      ∧ (advanceReference s).motion.queue = s.motion.queue
      ∧ (advanceReference s).motion.internal = s.motion.internal
      ∧ (advanceReference s).motion.stopPending = s.motion.stopPending
      ∧ (advanceReference s).motion.deferCurrent = s.motion.deferCurrent
      ∧ (advanceReference s).motion.deferHandOver = s.motion.deferHandOver := by
  unfold advanceReference
  split <;> simp

@[simp] theorem advanceReference_leaves_axis (s : State) (ax : Axis) :
    ((advanceReference s).axes.chan.get ax).scale = (s.axes.chan.get ax).scale
      ∧ ((advanceReference s).axes.chan.get ax).referenced = (s.axes.chan.get ax).referenced
      ∧ ((advanceReference s).axes.chan.get ax).mode = (s.axes.chan.get ax).mode
      ∧ ((advanceReference s).axes.chan.get ax).lower = (s.axes.chan.get ax).lower
      ∧ ((advanceReference s).axes.chan.get ax).upper = (s.axes.chan.get ax).upper
      ∧ ((advanceReference s).axes.chan.get ax).ready = (s.axes.chan.get ax).ready
      ∧ ((advanceReference s).axes.chan.get ax).enable = (s.axes.chan.get ax).enable := by
  unfold advanceReference
  split
  · refine ⟨?_, ?_, ?_, ?_, ?_, ?_, ?_⟩ <;> (simp [State.axis]; try (split_ifs with h <;> simp [h]))
  · simp

@[simp] theorem runPeriod_leaves (g : Segment) (s : State) :
    (runPeriod g s).axes.retracted = s.axes.retracted ∧ (runPeriod g s).motion.state = s.motion.state
      ∧ (runPeriod g s).motion.stopPending = s.motion.stopPending
      ∧ (runPeriod g s).motion.reference = s.motion.reference
      ∧ (runPeriod g s).motion.deferCurrent = s.motion.deferCurrent
      ∧ (runPeriod g s).motion.deferHandOver = s.motion.deferHandOver
      ∧ (runPeriod g s).probes.library = s.probes.library
      ∧ (runPeriod g s).probes.current = s.probes.current ∧ (runPeriod g s).probes.slots = s.probes.slots
      ∧ (runPeriod g s).probes.seated = s.probes.seated
      ∧ (runPeriod g s).probes.latchOpen = s.probes.latchOpen ∧ (runPeriod g s).probes.read = s.probes.read
      ∧ (runPeriod g s).probes.change = s.probes.change ∧ (runPeriod g s).probes.latch = s.probes.latch := by
  unfold runPeriod
  dsimp only
  repeat' split
  all_goals simp

@[simp] theorem runPeriod_leaves_axis (g : Segment) (s : State) (ax : Axis) :
    ((runPeriod g s).axes.chan.get ax).scale = (s.axes.chan.get ax).scale
      ∧ ((runPeriod g s).axes.chan.get ax).referenced = (s.axes.chan.get ax).referenced
      ∧ ((runPeriod g s).axes.chan.get ax).mode = (s.axes.chan.get ax).mode
      ∧ ((runPeriod g s).axes.chan.get ax).lower = (s.axes.chan.get ax).lower
      ∧ ((runPeriod g s).axes.chan.get ax).upper = (s.axes.chan.get ax).upper
      ∧ ((runPeriod g s).axes.chan.get ax).ready = (s.axes.chan.get ax).ready
      ∧ ((runPeriod g s).axes.chan.get ax).enable = (s.axes.chan.get ax).enable := by
  unfold runPeriod
  dsimp only
  repeat' split
  all_goals simp

@[simp] theorem stopPeriod_leaves (g : Segment) (v : Nat) (s : State) :
    (stopPeriod g v s).axes.retracted = s.axes.retracted ∧ (stopPeriod g v s).motion.state = s.motion.state
      ∧ (stopPeriod g v s).motion.stopPending = s.motion.stopPending
      ∧ (stopPeriod g v s).motion.reference = s.motion.reference
      ∧ (stopPeriod g v s).motion.deferCurrent = s.motion.deferCurrent
      ∧ (stopPeriod g v s).motion.deferHandOver = s.motion.deferHandOver := by
  unfold stopPeriod
  dsimp only
  repeat' split
  all_goals simp

@[simp] theorem stopPeriod_leaves_axis (g : Segment) (v : Nat) (s : State) (ax : Axis) :
    ((stopPeriod g v s).axes.chan.get ax).scale = (s.axes.chan.get ax).scale
      ∧ ((stopPeriod g v s).axes.chan.get ax).referenced = (s.axes.chan.get ax).referenced
      ∧ ((stopPeriod g v s).axes.chan.get ax).mode = (s.axes.chan.get ax).mode
      ∧ ((stopPeriod g v s).axes.chan.get ax).lower = (s.axes.chan.get ax).lower
      ∧ ((stopPeriod g v s).axes.chan.get ax).upper = (s.axes.chan.get ax).upper
      ∧ ((stopPeriod g v s).axes.chan.get ax).ready = (s.axes.chan.get ax).ready
      ∧ ((stopPeriod g v s).axes.chan.get ax).enable = (s.axes.chan.get ax).enable := by
  unfold stopPeriod
  dsimp only
  repeat' split
  all_goals simp

@[simp] theorem backOffPeriod_leaves (g : Segment) (s : State) :
    (backOffPeriod g s).axes.retracted = s.axes.retracted
      ∧ (backOffPeriod g s).motion.state = s.motion.state
      ∧ (backOffPeriod g s).motion.stopPending = s.motion.stopPending
      ∧ (backOffPeriod g s).motion.reference = s.motion.reference
      ∧ (backOffPeriod g s).motion.deferCurrent = s.motion.deferCurrent
      ∧ (backOffPeriod g s).motion.deferHandOver = s.motion.deferHandOver
      ∧ (backOffPeriod g s).probes.library = s.probes.library
      ∧ (backOffPeriod g s).probes.current = s.probes.current
      ∧ (backOffPeriod g s).probes.slots = s.probes.slots
      ∧ (backOffPeriod g s).probes.seated = s.probes.seated
      ∧ (backOffPeriod g s).probes.latchOpen = s.probes.latchOpen
      ∧ (backOffPeriod g s).probes.read = s.probes.read
      ∧ (backOffPeriod g s).probes.change = s.probes.change
      ∧ (backOffPeriod g s).probes.latch = s.probes.latch := by
  unfold backOffPeriod
  dsimp only
  repeat' split
  all_goals simp

@[simp] theorem backOffPeriod_leaves_axis (g : Segment) (s : State) (ax : Axis) :
    ((backOffPeriod g s).axes.chan.get ax).scale = (s.axes.chan.get ax).scale
      ∧ ((backOffPeriod g s).axes.chan.get ax).referenced = (s.axes.chan.get ax).referenced
      ∧ ((backOffPeriod g s).axes.chan.get ax).mode = (s.axes.chan.get ax).mode
      ∧ ((backOffPeriod g s).axes.chan.get ax).lower = (s.axes.chan.get ax).lower
      ∧ ((backOffPeriod g s).axes.chan.get ax).upper = (s.axes.chan.get ax).upper
      ∧ ((backOffPeriod g s).axes.chan.get ax).ready = (s.axes.chan.get ax).ready
      ∧ ((backOffPeriod g s).axes.chan.get ax).enable = (s.axes.chan.get ax).enable := by
  unfold backOffPeriod
  dsimp only
  repeat' split
  all_goals simp

@[simp] theorem touchedPeriod_leaves (g : Segment) (s : State) :
    (touchedPeriod g s).axes.retracted = s.axes.retracted
      ∧ (touchedPeriod g s).motion.state = s.motion.state
      ∧ (touchedPeriod g s).motion.stopPending = s.motion.stopPending
      ∧ (touchedPeriod g s).motion.reference = s.motion.reference
      ∧ (touchedPeriod g s).motion.deferCurrent = s.motion.deferCurrent
      ∧ (touchedPeriod g s).motion.deferHandOver = s.motion.deferHandOver
      ∧ (touchedPeriod g s).probes.library = s.probes.library
      ∧ (touchedPeriod g s).probes.current = s.probes.current
      ∧ (touchedPeriod g s).probes.slots = s.probes.slots
      ∧ (touchedPeriod g s).probes.seated = s.probes.seated
      ∧ (touchedPeriod g s).probes.latchOpen = s.probes.latchOpen
      ∧ (touchedPeriod g s).probes.read = s.probes.read
      ∧ (touchedPeriod g s).probes.change = s.probes.change
      ∧ (touchedPeriod g s).probes.latch = s.probes.latch := by
  unfold touchedPeriod
  repeat' split
  all_goals simp

@[simp] theorem touchedPeriod_leaves_axis (g : Segment) (s : State) (ax : Axis) :
    ((touchedPeriod g s).axes.chan.get ax).scale = (s.axes.chan.get ax).scale
      ∧ ((touchedPeriod g s).axes.chan.get ax).referenced = (s.axes.chan.get ax).referenced
      ∧ ((touchedPeriod g s).axes.chan.get ax).mode = (s.axes.chan.get ax).mode
      ∧ ((touchedPeriod g s).axes.chan.get ax).lower = (s.axes.chan.get ax).lower
      ∧ ((touchedPeriod g s).axes.chan.get ax).upper = (s.axes.chan.get ax).upper
      ∧ ((touchedPeriod g s).axes.chan.get ax).ready = (s.axes.chan.get ax).ready
      ∧ ((touchedPeriod g s).axes.chan.get ax).enable = (s.axes.chan.get ax).enable := by
  unfold touchedPeriod
  repeat' split
  all_goals simp

@[simp] theorem advanceSegment_leaves (s : State) :
    (advanceSegment s).axes.retracted = s.axes.retracted ∧ (advanceSegment s).motion.state = s.motion.state
      ∧ (advanceSegment s).motion.stopPending = s.motion.stopPending
      ∧ (advanceSegment s).motion.reference = s.motion.reference
      ∧ (advanceSegment s).motion.deferCurrent = s.motion.deferCurrent
      ∧ (advanceSegment s).motion.deferHandOver = s.motion.deferHandOver
      ∧ (advanceSegment s).probes.library = s.probes.library
      ∧ (advanceSegment s).probes.current = s.probes.current
      ∧ (advanceSegment s).probes.slots = s.probes.slots
      ∧ (advanceSegment s).probes.seated = s.probes.seated
      ∧ (advanceSegment s).probes.latchOpen = s.probes.latchOpen
      ∧ (advanceSegment s).probes.read = s.probes.read ∧ (advanceSegment s).probes.change = s.probes.change
      ∧ (advanceSegment s).probes.latch = s.probes.latch := by
  unfold advanceSegment
  repeat' split
  all_goals simp

@[simp] theorem advanceSegment_leaves_axis (s : State) (ax : Axis) :
    ((advanceSegment s).axes.chan.get ax).scale = (s.axes.chan.get ax).scale
      ∧ ((advanceSegment s).axes.chan.get ax).referenced = (s.axes.chan.get ax).referenced
      ∧ ((advanceSegment s).axes.chan.get ax).mode = (s.axes.chan.get ax).mode
      ∧ ((advanceSegment s).axes.chan.get ax).lower = (s.axes.chan.get ax).lower
      ∧ ((advanceSegment s).axes.chan.get ax).upper = (s.axes.chan.get ax).upper
      ∧ ((advanceSegment s).axes.chan.get ax).ready = (s.axes.chan.get ax).ready
      ∧ ((advanceSegment s).axes.chan.get ax).enable = (s.axes.chan.get ax).enable := by
  unfold advanceSegment
  repeat' split
  all_goals simp

@[simp] theorem advance_leaves (s : State) :
    (advance s).axes.retracted = s.axes.retracted ∧ (advance s).motion.state = s.motion.state
      ∧ (advance s).motion.stopPending = s.motion.stopPending
      ∧ (advance s).motion.deferCurrent = s.motion.deferCurrent
      ∧ (advance s).motion.deferHandOver = s.motion.deferHandOver
      ∧ (advance s).probes.library = s.probes.library ∧ (advance s).probes.current = s.probes.current
      ∧ (advance s).probes.slots = s.probes.slots ∧ (advance s).probes.seated = s.probes.seated
      ∧ (advance s).probes.latchOpen = s.probes.latchOpen ∧ (advance s).probes.read = s.probes.read
      ∧ (advance s).probes.change = s.probes.change ∧ (advance s).probes.latch = s.probes.latch := by
  simp [advance]

@[simp] theorem advance_leaves_axis (s : State) (ax : Axis) :
    ((advance s).axes.chan.get ax).scale = (s.axes.chan.get ax).scale
      ∧ ((advance s).axes.chan.get ax).referenced = (s.axes.chan.get ax).referenced
      ∧ ((advance s).axes.chan.get ax).mode = (s.axes.chan.get ax).mode
      ∧ ((advance s).axes.chan.get ax).lower = (s.axes.chan.get ax).lower
      ∧ ((advance s).axes.chan.get ax).upper = (s.axes.chan.get ax).upper
      ∧ ((advance s).axes.chan.get ax).ready = (s.axes.chan.get ax).ready
      ∧ ((advance s).axes.chan.get ax).enable = (s.axes.chan.get ax).enable := by
  simp [advance]

@[simp] theorem sampleLevels_leaves_axis (v : Samples) (s : State) (ax : Axis) :
    ((sampleLevels v s).axes.chan.get ax).scale = (s.axes.chan.get ax).scale
      ∧ ((sampleLevels v s).axes.chan.get ax).referenced = (s.axes.chan.get ax).referenced
      ∧ ((sampleLevels v s).axes.chan.get ax).mode = (s.axes.chan.get ax).mode
      ∧ ((sampleLevels v s).axes.chan.get ax).setpoint = (s.axes.chan.get ax).setpoint
      ∧ ((sampleLevels v s).axes.chan.get ax).enable = (s.axes.chan.get ax).enable := by
  cases ax <;> simp [sampleLevels, V3.get]

@[simp] theorem enableOff_leaves (a : Axis) (s : State) :
    (enableOff a s).axes.retracted = s.axes.retracted := by
  simp [enableOff]

@[simp] theorem enableOff_leaves_axis (a : Axis) (s : State) (ax : Axis) :
    ((enableOff a s).axes.chan.get ax).scale = (s.axes.chan.get ax).scale
      ∧ ((enableOff a s).axes.chan.get ax).referenced = (s.axes.chan.get ax).referenced
      ∧ ((enableOff a s).axes.chan.get ax).mode = (s.axes.chan.get ax).mode
      ∧ ((enableOff a s).axes.chan.get ax).setpoint = (s.axes.chan.get ax).setpoint
      ∧ ((enableOff a s).axes.chan.get ax).lower = (s.axes.chan.get ax).lower
      ∧ ((enableOff a s).axes.chan.get ax).upper = (s.axes.chan.get ax).upper
      ∧ ((enableOff a s).axes.chan.get ax).ready = (s.axes.chan.get ax).ready := by
  unfold enableOff
  by_cases h : ax = a <;> simp [State.axis, h]

@[simp] theorem watchLevel_leaves (r : FaultReason) (a : Axis) (bad : Bool) (s : State) :
    (watchLevel r a bad s).axes.retracted = s.axes.retracted
      ∧ (watchLevel r a bad s).motion.deferCurrent = s.motion.deferCurrent
      ∧ (watchLevel r a bad s).motion.deferHandOver = s.motion.deferHandOver
      ∧ (watchLevel r a bad s).zone.cells = s.zone.cells ∧ (watchLevel r a bad s).zone.claim = s.zone.claim
      ∧ (watchLevel r a bad s).zone.nextNumber = s.zone.nextNumber
      ∧ (watchLevel r a bad s).zone.windows = s.zone.windows
      ∧ (watchLevel r a bad s).zone.kept = s.zone.kept
      ∧ (watchLevel r a bad s).zone.retryAwaited = s.zone.retryAwaited
      ∧ (watchLevel r a bad s).probes.library = s.probes.library
      ∧ (watchLevel r a bad s).probes.current = s.probes.current
      ∧ (watchLevel r a bad s).probes.slots = s.probes.slots
      ∧ (watchLevel r a bad s).probes.seated = s.probes.seated
      ∧ (watchLevel r a bad s).probes.latch = s.probes.latch
      ∧ (watchLevel r a bad s).events.enable = s.events.enable
      ∧ (watchLevel r a bad s).events.releaseHold = s.events.releaseHold := by
  unfold watchLevel
  repeat' split
  all_goals simp

@[simp] theorem watchLevel_leaves_axis (r : FaultReason) (a : Axis) (bad : Bool) (s : State) (ax : Axis) :
    ((watchLevel r a bad s).axes.chan.get ax).scale = (s.axes.chan.get ax).scale
      ∧ ((watchLevel r a bad s).axes.chan.get ax).referenced = (s.axes.chan.get ax).referenced
      ∧ ((watchLevel r a bad s).axes.chan.get ax).lower = (s.axes.chan.get ax).lower
      ∧ ((watchLevel r a bad s).axes.chan.get ax).upper = (s.axes.chan.get ax).upper
      ∧ ((watchLevel r a bad s).axes.chan.get ax).ready = (s.axes.chan.get ax).ready := by
  unfold watchLevel
  repeat' split
  all_goals simp

@[simp] theorem watchFollowing_leaves (a : Axis) (s : State) :
    (watchFollowing a s).axes.retracted = s.axes.retracted
      ∧ (watchFollowing a s).motion.deferCurrent = s.motion.deferCurrent
      ∧ (watchFollowing a s).motion.deferHandOver = s.motion.deferHandOver
      ∧ (watchFollowing a s).zone.cells = s.zone.cells ∧ (watchFollowing a s).zone.claim = s.zone.claim
      ∧ (watchFollowing a s).zone.nextNumber = s.zone.nextNumber
      ∧ (watchFollowing a s).zone.windows = s.zone.windows ∧ (watchFollowing a s).zone.kept = s.zone.kept
      ∧ (watchFollowing a s).zone.retryAwaited = s.zone.retryAwaited
      ∧ (watchFollowing a s).probes.library = s.probes.library
      ∧ (watchFollowing a s).probes.current = s.probes.current
      ∧ (watchFollowing a s).probes.slots = s.probes.slots
      ∧ (watchFollowing a s).probes.seated = s.probes.seated
      ∧ (watchFollowing a s).probes.latch = s.probes.latch
      ∧ (watchFollowing a s).events.enable = s.events.enable
      ∧ (watchFollowing a s).events.releaseHold = s.events.releaseHold := by
  unfold watchFollowing
  repeat' split
  all_goals simp

@[simp] theorem watchFollowing_leaves_axis (a : Axis) (s : State) (ax : Axis) :
    ((watchFollowing a s).axes.chan.get ax).scale = (s.axes.chan.get ax).scale
      ∧ ((watchFollowing a s).axes.chan.get ax).referenced = (s.axes.chan.get ax).referenced
      ∧ ((watchFollowing a s).axes.chan.get ax).lower = (s.axes.chan.get ax).lower
      ∧ ((watchFollowing a s).axes.chan.get ax).upper = (s.axes.chan.get ax).upper
      ∧ ((watchFollowing a s).axes.chan.get ax).ready = (s.axes.chan.get ax).ready := by
  unfold watchFollowing
  repeat' split
  all_goals simp

@[simp] theorem noteSeated_leaves (level : Bool) (s : State) :
    (noteSeated level s).probes.library = s.probes.library
      ∧ (noteSeated level s).probes.live = s.probes.live
      ∧ (noteSeated level s).probes.pendingBank = s.probes.pendingBank
      ∧ (noteSeated level s).probes.current = s.probes.current
      ∧ (noteSeated level s).probes.slots = s.probes.slots
      ∧ (noteSeated level s).probes.latchOpen = s.probes.latchOpen
      ∧ (noteSeated level s).probes.change = s.probes.change
      ∧ (noteSeated level s).probes.latch = s.probes.latch := by
  simp [noteSeated]

@[simp] theorem seatedOutside_leaves (level : Bool) (s : State) :
    (seatedOutside level s).axes.retracted = s.axes.retracted
      ∧ (seatedOutside level s).motion.deferCurrent = s.motion.deferCurrent
      ∧ (seatedOutside level s).motion.deferHandOver = s.motion.deferHandOver
      ∧ (seatedOutside level s).zone.cells = s.zone.cells
      ∧ (seatedOutside level s).zone.claim = s.zone.claim
      ∧ (seatedOutside level s).zone.nextNumber = s.zone.nextNumber
      ∧ (seatedOutside level s).zone.windows = s.zone.windows
      ∧ (seatedOutside level s).zone.kept = s.zone.kept
      ∧ (seatedOutside level s).zone.retryAwaited = s.zone.retryAwaited
      ∧ (seatedOutside level s).probes.library = s.probes.library
      ∧ (seatedOutside level s).probes.slots = s.probes.slots
      ∧ (seatedOutside level s).probes.seated = s.probes.seated
      ∧ (seatedOutside level s).probes.latch = s.probes.latch
      ∧ (seatedOutside level s).events.enable = s.events.enable
      ∧ (seatedOutside level s).events.releaseHold = s.events.releaseHold := by
  unfold seatedOutside
  split <;> simp

@[simp] theorem seatedOutside_leaves_axis (level : Bool) (s : State) (ax : Axis) :
    ((seatedOutside level s).axes.chan.get ax).scale = (s.axes.chan.get ax).scale
      ∧ ((seatedOutside level s).axes.chan.get ax).referenced = (s.axes.chan.get ax).referenced
      ∧ ((seatedOutside level s).axes.chan.get ax).lower = (s.axes.chan.get ax).lower
      ∧ ((seatedOutside level s).axes.chan.get ax).upper = (s.axes.chan.get ax).upper
      ∧ ((seatedOutside level s).axes.chan.get ax).ready = (s.axes.chan.get ax).ready := by
  unfold seatedOutside
  split <;> simp

@[simp] theorem seatedInChange_leaves (ch : Change) (level : Bool) (s : State) :
    (seatedInChange ch level s).axes.retracted = s.axes.retracted
      ∧ (seatedInChange ch level s).zone.windows = s.zone.windows
      ∧ (seatedInChange ch level s).link.state = s.link.state
      ∧ (seatedInChange ch level s).link.run = s.link.run
      ∧ (seatedInChange ch level s).link.waitIdle = s.link.waitIdle
      ∧ (seatedInChange ch level s).link.lineOut = s.link.lineOut
      ∧ (seatedInChange ch level s).link.listeningDue = s.link.listeningDue
      ∧ (seatedInChange ch level s).peers.entries = s.peers.entries
      ∧ (seatedInChange ch level s).probes.library = s.probes.library
      ∧ (seatedInChange ch level s).probes.seated = s.probes.seated
      ∧ (seatedInChange ch level s).probes.latch = s.probes.latch
      ∧ (seatedInChange ch level s).events.enable = s.events.enable
      ∧ (seatedInChange ch level s).events.releaseHold = s.events.releaseHold := by
  unfold seatedInChange
  split <;> simp

@[simp] theorem seatedInChange_leaves_axis (ch : Change) (level : Bool) (s : State) (ax : Axis) :
    ((seatedInChange ch level s).axes.chan.get ax).scale = (s.axes.chan.get ax).scale
      ∧ ((seatedInChange ch level s).axes.chan.get ax).referenced = (s.axes.chan.get ax).referenced
      ∧ ((seatedInChange ch level s).axes.chan.get ax).lower = (s.axes.chan.get ax).lower
      ∧ ((seatedInChange ch level s).axes.chan.get ax).upper = (s.axes.chan.get ax).upper
      ∧ ((seatedInChange ch level s).axes.chan.get ax).ready = (s.axes.chan.get ax).ready := by
  unfold seatedInChange
  split <;> simp

@[simp] theorem watchSeated_leaves (level : Bool) (s : State) :
    (watchSeated level s).axes.retracted = s.axes.retracted
      ∧ (watchSeated level s).zone.windows = s.zone.windows
      ∧ (watchSeated level s).link.state = s.link.state ∧ (watchSeated level s).link.run = s.link.run
      ∧ (watchSeated level s).link.waitIdle = s.link.waitIdle
      ∧ (watchSeated level s).link.lineOut = s.link.lineOut
      ∧ (watchSeated level s).link.listeningDue = s.link.listeningDue
      ∧ (watchSeated level s).peers.entries = s.peers.entries
      ∧ (watchSeated level s).probes.library = s.probes.library
      ∧ (watchSeated level s).probes.latch = s.probes.latch
      ∧ (watchSeated level s).events.enable = s.events.enable
      ∧ (watchSeated level s).events.releaseHold = s.events.releaseHold := by
  unfold watchSeated
  dsimp only
  repeat' split
  all_goals simp

@[simp] theorem watchSeated_leaves_axis (level : Bool) (s : State) (ax : Axis) :
    ((watchSeated level s).axes.chan.get ax).scale = (s.axes.chan.get ax).scale
      ∧ ((watchSeated level s).axes.chan.get ax).referenced = (s.axes.chan.get ax).referenced
      ∧ ((watchSeated level s).axes.chan.get ax).lower = (s.axes.chan.get ax).lower
      ∧ ((watchSeated level s).axes.chan.get ax).upper = (s.axes.chan.get ax).upper
      ∧ ((watchSeated level s).axes.chan.get ax).ready = (s.axes.chan.get ax).ready := by
  unfold watchSeated
  dsimp only
  repeat' split
  all_goals simp

@[simp] theorem watch_leaves (v : Samples) (w : Watch) (s : State) :
    (watch v w s).axes.retracted = s.axes.retracted ∧ (watch v w s).zone.windows = s.zone.windows
      ∧ (watch v w s).link.state = s.link.state ∧ (watch v w s).link.run = s.link.run
      ∧ (watch v w s).link.waitIdle = s.link.waitIdle ∧ (watch v w s).link.lineOut = s.link.lineOut
      ∧ (watch v w s).link.listeningDue = s.link.listeningDue
      ∧ (watch v w s).peers.entries = s.peers.entries ∧ (watch v w s).probes.library = s.probes.library
      ∧ (watch v w s).probes.latch = s.probes.latch ∧ (watch v w s).events.enable = s.events.enable
      ∧ (watch v w s).events.releaseHold = s.events.releaseHold := by
  unfold watch
  split <;> simp

@[simp] theorem watch_leaves_axis (v : Samples) (w : Watch) (s : State) (ax : Axis) :
    ((watch v w s).axes.chan.get ax).scale = (s.axes.chan.get ax).scale
      ∧ ((watch v w s).axes.chan.get ax).referenced = (s.axes.chan.get ax).referenced
      ∧ ((watch v w s).axes.chan.get ax).lower = (s.axes.chan.get ax).lower
      ∧ ((watch v w s).axes.chan.get ax).upper = (s.axes.chan.get ax).upper
      ∧ ((watch v w s).axes.chan.get ax).ready = (s.axes.chan.get ax).ready := by
  unfold watch
  split <;> simp

@[simp] theorem arrive_leaves (r : RawRecord) (s : State) :
    (arrive r s).events.enable = s.events.enable ∧ (arrive r s).events.releaseHold = s.events.releaseHold := by
  unfold arrive
  split <;> simp

@[simp] theorem State.setPeer_leaves (s : State) (p : Station) (e : Option Peer) :
    (State.setPeer s p e).peers.presenceDue = s.peers.presenceDue
      ∧ (State.setPeer s p e).peers.heldBack = s.peers.heldBack := by
  simp [State.setPeer]

@[simp] theorem clearLostMarks_leaves (p : Station) (s : State) :
    (clearLostMarks p s).zone.claim = s.zone.claim
      ∧ (clearLostMarks p s).zone.nextNumber = s.zone.nextNumber
      ∧ (clearLostMarks p s).zone.windows = s.zone.windows ∧ (clearLostMarks p s).zone.kept = s.zone.kept
      ∧ (clearLostMarks p s).zone.heldBack = s.zone.heldBack
      ∧ (clearLostMarks p s).zone.retryAwaited = s.zone.retryAwaited := by
  simp [clearLostMarks]

@[simp] theorem hear_leaves (p : Station) (s : State) :
    (hear p s).zone.claim = s.zone.claim ∧ (hear p s).zone.nextNumber = s.zone.nextNumber
      ∧ (hear p s).zone.windows = s.zone.windows ∧ (hear p s).zone.kept = s.zone.kept
      ∧ (hear p s).zone.heldBack = s.zone.heldBack ∧ (hear p s).zone.retryAwaited = s.zone.retryAwaited
      ∧ (hear p s).link.state = s.link.state ∧ (hear p s).link.list = s.link.list
      ∧ (hear p s).link.waitIdle = s.link.waitIdle ∧ (hear p s).link.lineOut = s.link.lineOut
      ∧ (hear p s).link.listeningDue = s.link.listeningDue
      ∧ (hear p s).peers.presenceDue = s.peers.presenceDue ∧ (hear p s).peers.heldBack = s.peers.heldBack
      ∧ (hear p s).temps.channels = s.temps.channels ∧ (hear p s).temps.datum = s.temps.datum
      ∧ (hear p s).temps.partCoeff = s.temps.partCoeff ∧ (hear p s).temps.sampleDue = s.temps.sampleDue := by
  unfold hear
  dsimp only
  repeat' split
  all_goals simp

@[simp] theorem dropOwed_leaves (p : Station) (s : State) :
    (dropOwed p s).zone.claim = s.zone.claim ∧ (dropOwed p s).zone.nextNumber = s.zone.nextNumber
      ∧ (dropOwed p s).zone.windows = s.zone.windows ∧ (dropOwed p s).zone.kept = s.zone.kept
      ∧ (dropOwed p s).zone.heldBack = s.zone.heldBack
      ∧ (dropOwed p s).zone.retryAwaited = s.zone.retryAwaited := by
  simp [dropOwed]

@[simp] theorem dropDeferrals_leaves (p : Station) (s : State) :
    (dropDeferrals p s).zone.claim = s.zone.claim ∧ (dropDeferrals p s).zone.nextNumber = s.zone.nextNumber
      ∧ (dropDeferrals p s).zone.windows = s.zone.windows ∧ (dropDeferrals p s).zone.kept = s.zone.kept
      ∧ (dropDeferrals p s).zone.heldBack = s.zone.heldBack
      ∧ (dropDeferrals p s).zone.retryAwaited = s.zone.retryAwaited := by
  simp [dropDeferrals]

@[simp] theorem dropClaims_leaves (p : Station) (s : State) :
    (dropClaims p s).zone.claim = s.zone.claim ∧ (dropClaims p s).zone.nextNumber = s.zone.nextNumber
      ∧ (dropClaims p s).zone.windows = s.zone.windows ∧ (dropClaims p s).zone.kept = s.zone.kept
      ∧ (dropClaims p s).zone.heldBack = s.zone.heldBack
      ∧ (dropClaims p s).zone.retryAwaited = s.zone.retryAwaited := by
  simp [dropClaims]

@[simp] theorem markLost_leaves (p : Station) (s : State) :
    (markLost p s).zone.claim = s.zone.claim ∧ (markLost p s).zone.nextNumber = s.zone.nextNumber
      ∧ (markLost p s).zone.windows = s.zone.windows ∧ (markLost p s).zone.kept = s.zone.kept
      ∧ (markLost p s).zone.heldBack = s.zone.heldBack
      ∧ (markLost p s).zone.retryAwaited = s.zone.retryAwaited := by
  simp [markLost]

@[simp] theorem freeCellsOf_leaves (p : Station) (s : State) :
    (freeCellsOf p s).zone.claim = s.zone.claim ∧ (freeCellsOf p s).zone.nextNumber = s.zone.nextNumber
      ∧ (freeCellsOf p s).zone.windows = s.zone.windows ∧ (freeCellsOf p s).zone.kept = s.zone.kept
      ∧ (freeCellsOf p s).zone.heldBack = s.zone.heldBack
      ∧ (freeCellsOf p s).zone.retryAwaited = s.zone.retryAwaited := by
  simp [freeCellsOf]

@[simp] theorem peerGone_leaves (p : Station) (s : State) :
    (peerGone p s).axes.retracted = s.axes.retracted
      ∧ (peerGone p s).motion.stopPending = s.motion.stopPending
      ∧ (peerGone p s).motion.reference = s.motion.reference ∧ (peerGone p s).zone.windows = s.zone.windows
      ∧ (peerGone p s).link.state = s.link.state ∧ (peerGone p s).link.run = s.link.run
      ∧ (peerGone p s).link.waitIdle = s.link.waitIdle ∧ (peerGone p s).link.lineOut = s.link.lineOut
      ∧ (peerGone p s).link.listeningDue = s.link.listeningDue
      ∧ (peerGone p s).peers.entries = s.peers.entries ∧ (peerGone p s).probes.library = s.probes.library
      ∧ (peerGone p s).probes.current = s.probes.current ∧ (peerGone p s).probes.slots = s.probes.slots
      ∧ (peerGone p s).probes.seated = s.probes.seated
      ∧ (peerGone p s).probes.latchOpen = s.probes.latchOpen ∧ (peerGone p s).probes.read = s.probes.read
      ∧ (peerGone p s).probes.change = s.probes.change ∧ (peerGone p s).probes.latch = s.probes.latch
      ∧ (peerGone p s).events.enable = s.events.enable
      ∧ (peerGone p s).events.releaseHold = s.events.releaseHold := by
  unfold peerGone
  dsimp only
  split <;> simp

@[simp] theorem peerGone_leaves_axis (p : Station) (s : State) (ax : Axis) :
    ((peerGone p s).axes.chan.get ax).scale = (s.axes.chan.get ax).scale
      ∧ ((peerGone p s).axes.chan.get ax).referenced = (s.axes.chan.get ax).referenced
      ∧ ((peerGone p s).axes.chan.get ax).setpoint = (s.axes.chan.get ax).setpoint
      ∧ ((peerGone p s).axes.chan.get ax).lower = (s.axes.chan.get ax).lower
      ∧ ((peerGone p s).axes.chan.get ax).upper = (s.axes.chan.get ax).upper
      ∧ ((peerGone p s).axes.chan.get ax).ready = (s.axes.chan.get ax).ready
      ∧ ((peerGone p s).axes.chan.get ax).enable = (s.axes.chan.get ax).enable := by
  unfold peerGone
  dsimp only
  split <;> simp

@[simp] theorem takeClaims_leaves (cs : CellSet) (s : State) :
    (takeClaims cs s).zone.nextNumber = s.zone.nextNumber ∧ (takeClaims cs s).zone.windows = s.zone.windows
      ∧ (takeClaims cs s).zone.kept = s.zone.kept ∧ (takeClaims cs s).zone.heldBack = s.zone.heldBack
      ∧ (takeClaims cs s).zone.retryAwaited = s.zone.retryAwaited
      ∧ (takeClaims cs s).link.state = s.link.state ∧ (takeClaims cs s).link.run = s.link.run
      ∧ (takeClaims cs s).link.waitIdle = s.link.waitIdle ∧ (takeClaims cs s).link.lineOut = s.link.lineOut
      ∧ (takeClaims cs s).link.listeningDue = s.link.listeningDue
      ∧ (takeClaims cs s).events.enable = s.events.enable
      ∧ (takeClaims cs s).events.releaseHold = s.events.releaseHold := by
  unfold takeClaims
  exact ⟨(foldl_keeps (fun u : State => u.zone.nextNumber) _ (fun t x => by (repeat' split) <;> simp) _ _),
    (foldl_keeps (fun u : State => u.zone.windows) _ (fun t x => by (repeat' split) <;> simp) _ _),
    (foldl_keeps (fun u : State => u.zone.kept) _ (fun t x => by (repeat' split) <;> simp) _ _),
    (foldl_keeps (fun u : State => u.zone.heldBack) _ (fun t x => by (repeat' split) <;> simp) _ _),
    (foldl_keeps (fun u : State => u.zone.retryAwaited) _ (fun t x => by (repeat' split) <;> simp) _ _),
    (foldl_keeps (fun u : State => u.link.state) _ (fun t x => by (repeat' split) <;> simp) _ _),
    (foldl_keeps (fun u : State => u.link.run) _ (fun t x => by (repeat' split) <;> simp) _ _),
    (foldl_keeps (fun u : State => u.link.waitIdle) _ (fun t x => by (repeat' split) <;> simp) _ _),
    (foldl_keeps (fun u : State => u.link.lineOut) _ (fun t x => by (repeat' split) <;> simp) _ _),
    (foldl_keeps (fun u : State => u.link.listeningDue) _ (fun t x => by (repeat' split) <;> simp) _ _),
    (foldl_keeps (fun u : State => u.events.enable) _ (fun t x => by (repeat' split) <;> simp) _ _),
    (foldl_keeps (fun u : State => u.events.releaseHold) _ (fun t x => by (repeat' split) <;> simp) _ _)⟩

@[simp] theorem setHolder_leaves (p : Station) (cs : CellSet) (s : State) :
    (setHolder p cs s).zone.claim = s.zone.claim ∧ (setHolder p cs s).zone.nextNumber = s.zone.nextNumber
      ∧ (setHolder p cs s).zone.windows = s.zone.windows ∧ (setHolder p cs s).zone.kept = s.zone.kept
      ∧ (setHolder p cs s).zone.heldBack = s.zone.heldBack
      ∧ (setHolder p cs s).zone.retryAwaited = s.zone.retryAwaited := by
  simp [setHolder]

@[simp] theorem endOwings_leaves (p : Station) (waiting : CellSet) (s : State) :
    (endOwings p waiting s).zone.claim = s.zone.claim
      ∧ (endOwings p waiting s).zone.nextNumber = s.zone.nextNumber
      ∧ (endOwings p waiting s).zone.windows = s.zone.windows
      ∧ (endOwings p waiting s).zone.kept = s.zone.kept
      ∧ (endOwings p waiting s).zone.heldBack = s.zone.heldBack
      ∧ (endOwings p waiting s).zone.retryAwaited = s.zone.retryAwaited := by
  simp [endOwings]

@[simp] theorem meetConflict_leaves (p : Station) (cs : CellSet) (s : State) :
    (meetConflict p cs s).axes.retracted = s.axes.retracted
      ∧ (meetConflict p cs s).motion.deferCurrent = s.motion.deferCurrent
      ∧ (meetConflict p cs s).motion.deferHandOver = s.motion.deferHandOver
      ∧ (meetConflict p cs s).zone.cells = s.zone.cells ∧ (meetConflict p cs s).zone.claim = s.zone.claim
      ∧ (meetConflict p cs s).zone.nextNumber = s.zone.nextNumber
      ∧ (meetConflict p cs s).zone.windows = s.zone.windows ∧ (meetConflict p cs s).zone.kept = s.zone.kept
      ∧ (meetConflict p cs s).zone.retryAwaited = s.zone.retryAwaited
      ∧ (meetConflict p cs s).probes.library = s.probes.library
      ∧ (meetConflict p cs s).probes.current = s.probes.current
      ∧ (meetConflict p cs s).probes.slots = s.probes.slots
      ∧ (meetConflict p cs s).probes.seated = s.probes.seated
      ∧ (meetConflict p cs s).probes.latch = s.probes.latch
      ∧ (meetConflict p cs s).events.enable = s.events.enable
      ∧ (meetConflict p cs s).events.releaseHold = s.events.releaseHold := by
  unfold meetConflict
  split <;> simp

@[simp] theorem meetConflict_leaves_axis (p : Station) (cs : CellSet) (s : State) (ax : Axis) :
    ((meetConflict p cs s).axes.chan.get ax).scale = (s.axes.chan.get ax).scale
      ∧ ((meetConflict p cs s).axes.chan.get ax).referenced = (s.axes.chan.get ax).referenced
      ∧ ((meetConflict p cs s).axes.chan.get ax).lower = (s.axes.chan.get ax).lower
      ∧ ((meetConflict p cs s).axes.chan.get ax).upper = (s.axes.chan.get ax).upper
      ∧ ((meetConflict p cs s).axes.chan.get ax).ready = (s.axes.chan.get ax).ready := by
  unfold meetConflict
  split <;> simp

@[simp] theorem applyReport_leaves (p : Station) (r : Report) (s : State) :
    (applyReport p r s).axes.retracted = s.axes.retracted
      ∧ (applyReport p r s).zone.windows = s.zone.windows ∧ (applyReport p r s).link.state = s.link.state
      ∧ (applyReport p r s).link.run = s.link.run ∧ (applyReport p r s).link.waitIdle = s.link.waitIdle
      ∧ (applyReport p r s).link.lineOut = s.link.lineOut
      ∧ (applyReport p r s).link.listeningDue = s.link.listeningDue
      ∧ (applyReport p r s).peers.entries = s.peers.entries
      ∧ (applyReport p r s).probes.library = s.probes.library
      ∧ (applyReport p r s).probes.current = s.probes.current
      ∧ (applyReport p r s).probes.slots = s.probes.slots
      ∧ (applyReport p r s).probes.seated = s.probes.seated
      ∧ (applyReport p r s).probes.latch = s.probes.latch
      ∧ (applyReport p r s).events.enable = s.events.enable
      ∧ (applyReport p r s).events.releaseHold = s.events.releaseHold := by
  unfold applyReport
  dsimp only
  repeat' split
  all_goals simp

@[simp] theorem applyReport_leaves_axis (p : Station) (r : Report) (s : State) (ax : Axis) :
    ((applyReport p r s).axes.chan.get ax).scale = (s.axes.chan.get ax).scale
      ∧ ((applyReport p r s).axes.chan.get ax).referenced = (s.axes.chan.get ax).referenced
      ∧ ((applyReport p r s).axes.chan.get ax).lower = (s.axes.chan.get ax).lower
      ∧ ((applyReport p r s).axes.chan.get ax).upper = (s.axes.chan.get ax).upper
      ∧ ((applyReport p r s).axes.chan.get ax).ready = (s.axes.chan.get ax).ready := by
  unfold applyReport
  dsimp only
  repeat' split
  all_goals simp

@[simp] theorem recordReport_leaves (p : Station) (r : Report) (s : State) :
    (recordReport p r s).peers.presenceDue = s.peers.presenceDue
      ∧ (recordReport p r s).peers.heldBack = s.peers.heldBack := by
  unfold recordReport
  split <;> simp

@[simp] theorem claimCells_leaves (p : Station) (n : Byte) (cs : CellSet) (s : State) :
    (claimCells p n cs s).zone.claim = s.zone.claim
      ∧ (claimCells p n cs s).zone.nextNumber = s.zone.nextNumber
      ∧ (claimCells p n cs s).zone.windows = s.zone.windows ∧ (claimCells p n cs s).zone.kept = s.zone.kept
      ∧ (claimCells p n cs s).zone.heldBack = s.zone.heldBack
      ∧ (claimCells p n cs s).zone.retryAwaited = s.zone.retryAwaited := by
  unfold claimCells
  split <;> simp

@[simp] theorem openWindow_leaves (p : Station) (n : Byte) (s : State) :
    (openWindow p n s).zone.cells = s.zone.cells ∧ (openWindow p n s).zone.claim = s.zone.claim
      ∧ (openWindow p n s).zone.nextNumber = s.zone.nextNumber ∧ (openWindow p n s).zone.kept = s.zone.kept
      ∧ (openWindow p n s).zone.heldBack = s.zone.heldBack
      ∧ (openWindow p n s).zone.retryAwaited = s.zone.retryAwaited := by
  simp [openWindow]

@[simp] theorem holdReport_leaves (s : State) :
    (holdReport s).link.state = s.link.state ∧ (holdReport s).link.run = s.link.run
      ∧ (holdReport s).link.waitIdle = s.link.waitIdle ∧ (holdReport s).link.lineOut = s.link.lineOut
      ∧ (holdReport s).link.listeningDue = s.link.listeningDue
      ∧ (holdReport s).peers.entries = s.peers.entries := by
  unfold holdReport
  split <;> simp

@[simp] theorem judgeOwnClaim_leaves (n : Byte) (cs : CellSet) (s : State) :
    (judgeOwnClaim n cs s).zone.nextNumber = s.zone.nextNumber
      ∧ (judgeOwnClaim n cs s).zone.kept = s.zone.kept
      ∧ (judgeOwnClaim n cs s).zone.heldBack = s.zone.heldBack
      ∧ (judgeOwnClaim n cs s).zone.retryAwaited = s.zone.retryAwaited
      ∧ (judgeOwnClaim n cs s).link.state = s.link.state ∧ (judgeOwnClaim n cs s).link.run = s.link.run
      ∧ (judgeOwnClaim n cs s).link.waitIdle = s.link.waitIdle
      ∧ (judgeOwnClaim n cs s).link.lineOut = s.link.lineOut
      ∧ (judgeOwnClaim n cs s).link.listeningDue = s.link.listeningDue
      ∧ (judgeOwnClaim n cs s).peers.entries = s.peers.entries
      ∧ (judgeOwnClaim n cs s).events.enable = s.events.enable
      ∧ (judgeOwnClaim n cs s).events.releaseHold = s.events.releaseHold := by
  unfold judgeOwnClaim
  dsimp only
  repeat' split
  all_goals simp

@[simp] theorem sendObject_leaves (p : Station) (n : Byte) (overlap : CellSet) (s : State) :
    (sendObject p n overlap s).axes.retracted = s.axes.retracted
      ∧ (sendObject p n overlap s).motion.deferCurrent = s.motion.deferCurrent
      ∧ (sendObject p n overlap s).motion.deferHandOver = s.motion.deferHandOver
      ∧ (sendObject p n overlap s).zone.cells = s.zone.cells
      ∧ (sendObject p n overlap s).zone.claim = s.zone.claim
      ∧ (sendObject p n overlap s).zone.nextNumber = s.zone.nextNumber
      ∧ (sendObject p n overlap s).zone.windows = s.zone.windows
      ∧ (sendObject p n overlap s).zone.kept = s.zone.kept
      ∧ (sendObject p n overlap s).zone.retryAwaited = s.zone.retryAwaited
      ∧ (sendObject p n overlap s).link.state = s.link.state
      ∧ (sendObject p n overlap s).link.run = s.link.run
      ∧ (sendObject p n overlap s).link.waitIdle = s.link.waitIdle
      ∧ (sendObject p n overlap s).link.lineOut = s.link.lineOut
      ∧ (sendObject p n overlap s).link.listeningDue = s.link.listeningDue
      ∧ (sendObject p n overlap s).probes.library = s.probes.library
      ∧ (sendObject p n overlap s).probes.current = s.probes.current
      ∧ (sendObject p n overlap s).probes.slots = s.probes.slots
      ∧ (sendObject p n overlap s).probes.seated = s.probes.seated
      ∧ (sendObject p n overlap s).probes.latch = s.probes.latch
      ∧ (sendObject p n overlap s).events.enable = s.events.enable
      ∧ (sendObject p n overlap s).events.releaseHold = s.events.releaseHold := by
  unfold sendObject
  repeat' split
  all_goals first
    | (simp; done)
    | (rename_i h; simp [offer_keeps_of h, offer_leaves_of h])

@[simp] theorem sendObject_leaves_axis (p : Station) (n : Byte) (overlap : CellSet) (s : State)
    (ax : Axis) :
    ((sendObject p n overlap s).axes.chan.get ax).scale = (s.axes.chan.get ax).scale
      ∧ ((sendObject p n overlap s).axes.chan.get ax).referenced = (s.axes.chan.get ax).referenced
      ∧ ((sendObject p n overlap s).axes.chan.get ax).lower = (s.axes.chan.get ax).lower
      ∧ ((sendObject p n overlap s).axes.chan.get ax).upper = (s.axes.chan.get ax).upper
      ∧ ((sendObject p n overlap s).axes.chan.get ax).ready = (s.axes.chan.get ax).ready := by
  unfold sendObject
  repeat' split
  all_goals first
    | (simp; done)
    | (rename_i h; simp [offer_keeps_of h, offer_leaves_of h])

@[simp] theorem endDeferrals_leaves (p : Station) (cs : CellSet) (s : State) :
    (endDeferrals p cs s).zone.claim = s.zone.claim
      ∧ (endDeferrals p cs s).zone.nextNumber = s.zone.nextNumber
      ∧ (endDeferrals p cs s).zone.windows = s.zone.windows ∧ (endDeferrals p cs s).zone.kept = s.zone.kept
      ∧ (endDeferrals p cs s).zone.heldBack = s.zone.heldBack
      ∧ (endDeferrals p cs s).zone.retryAwaited = s.zone.retryAwaited := by
  simp [endDeferrals]

@[simp] theorem judgePeerClaim_leaves (p : Station) (n : Byte) (cs : CellSet) (s : State) :
    (judgePeerClaim p n cs s).axes.retracted = s.axes.retracted
      ∧ (judgePeerClaim p n cs s).motion.deferCurrent = s.motion.deferCurrent
      ∧ (judgePeerClaim p n cs s).motion.deferHandOver = s.motion.deferHandOver
      ∧ (judgePeerClaim p n cs s).link.state = s.link.state
      ∧ (judgePeerClaim p n cs s).link.run = s.link.run
      ∧ (judgePeerClaim p n cs s).link.waitIdle = s.link.waitIdle
      ∧ (judgePeerClaim p n cs s).link.lineOut = s.link.lineOut
      ∧ (judgePeerClaim p n cs s).link.listeningDue = s.link.listeningDue
      ∧ (judgePeerClaim p n cs s).probes.library = s.probes.library
      ∧ (judgePeerClaim p n cs s).probes.current = s.probes.current
      ∧ (judgePeerClaim p n cs s).probes.slots = s.probes.slots
      ∧ (judgePeerClaim p n cs s).probes.seated = s.probes.seated
      ∧ (judgePeerClaim p n cs s).probes.latch = s.probes.latch
      ∧ (judgePeerClaim p n cs s).events.enable = s.events.enable
      ∧ (judgePeerClaim p n cs s).events.releaseHold = s.events.releaseHold := by
  unfold judgePeerClaim
  dsimp only
  repeat' split
  all_goals simp

@[simp] theorem judgePeerClaim_leaves_axis (p : Station) (n : Byte) (cs : CellSet) (s : State) (ax : Axis) :
    ((judgePeerClaim p n cs s).axes.chan.get ax).scale = (s.axes.chan.get ax).scale
      ∧ ((judgePeerClaim p n cs s).axes.chan.get ax).referenced = (s.axes.chan.get ax).referenced
      ∧ ((judgePeerClaim p n cs s).axes.chan.get ax).lower = (s.axes.chan.get ax).lower
      ∧ ((judgePeerClaim p n cs s).axes.chan.get ax).upper = (s.axes.chan.get ax).upper
      ∧ ((judgePeerClaim p n cs s).axes.chan.get ax).ready = (s.axes.chan.get ax).ready := by
  unfold judgePeerClaim
  dsimp only
  repeat' split
  all_goals simp

@[simp] theorem closeWindow_leaves (p : Station) (n : Byte) (s : State) :
    (closeWindow p n s).zone.cells = s.zone.cells ∧ (closeWindow p n s).zone.claim = s.zone.claim
      ∧ (closeWindow p n s).zone.nextNumber = s.zone.nextNumber
      ∧ (closeWindow p n s).zone.kept = s.zone.kept ∧ (closeWindow p n s).zone.heldBack = s.zone.heldBack
      ∧ (closeWindow p n s).zone.retryAwaited = s.zone.retryAwaited := by
  simp [closeWindow]

@[simp] theorem grantCells_leaves (p : Station) (n : Byte) (s : State) :
    (grantCells p n s).zone.claim = s.zone.claim ∧ (grantCells p n s).zone.nextNumber = s.zone.nextNumber
      ∧ (grantCells p n s).zone.windows = s.zone.windows ∧ (grantCells p n s).zone.kept = s.zone.kept
      ∧ (grantCells p n s).zone.heldBack = s.zone.heldBack
      ∧ (grantCells p n s).zone.retryAwaited = s.zone.retryAwaited := by
  simp [grantCells]

@[simp] theorem joinGranted_leaves (s : State) :
    (joinGranted s).zone.claim = s.zone.claim ∧ (joinGranted s).zone.nextNumber = s.zone.nextNumber
      ∧ (joinGranted s).zone.windows = s.zone.windows ∧ (joinGranted s).zone.kept = s.zone.kept
      ∧ (joinGranted s).zone.heldBack = s.zone.heldBack
      ∧ (joinGranted s).zone.retryAwaited = s.zone.retryAwaited ∧ (joinGranted s).link.state = s.link.state
      ∧ (joinGranted s).link.run = s.link.run ∧ (joinGranted s).link.waitIdle = s.link.waitIdle
      ∧ (joinGranted s).link.lineOut = s.link.lineOut
      ∧ (joinGranted s).link.listeningDue = s.link.listeningDue
      ∧ (joinGranted s).events.enable = s.events.enable
      ∧ (joinGranted s).events.releaseHold = s.events.releaseHold := by
  unfold joinGranted
  split <;> simp

@[simp] theorem takeUpKept_leaves (s : State) :
    (takeUpKept s).zone.windows = s.zone.windows ∧ (takeUpKept s).link.state = s.link.state
      ∧ (takeUpKept s).link.run = s.link.run ∧ (takeUpKept s).link.waitIdle = s.link.waitIdle
      ∧ (takeUpKept s).link.lineOut = s.link.lineOut
      ∧ (takeUpKept s).link.listeningDue = s.link.listeningDue
      ∧ (takeUpKept s).events.enable = s.events.enable
      ∧ (takeUpKept s).events.releaseHold = s.events.releaseHold := by
  unfold takeUpKept
  split <;> simp

@[simp] theorem grantClaim_leaves (c : Claim) (s : State) :
    (grantClaim c s).axes.retracted = s.axes.retracted
      ∧ (grantClaim c s).motion.stopPending = s.motion.stopPending
      ∧ (grantClaim c s).motion.reference = s.motion.reference
      ∧ (grantClaim c s).motion.deferCurrent = s.motion.deferCurrent
      ∧ (grantClaim c s).motion.deferHandOver = s.motion.deferHandOver
      ∧ (grantClaim c s).zone.windows = s.zone.windows ∧ (grantClaim c s).link.state = s.link.state
      ∧ (grantClaim c s).link.run = s.link.run ∧ (grantClaim c s).link.waitIdle = s.link.waitIdle
      ∧ (grantClaim c s).link.lineOut = s.link.lineOut
      ∧ (grantClaim c s).link.listeningDue = s.link.listeningDue
      ∧ (grantClaim c s).probes.library = s.probes.library
      ∧ (grantClaim c s).probes.current = s.probes.current ∧ (grantClaim c s).probes.slots = s.probes.slots
      ∧ (grantClaim c s).probes.seated = s.probes.seated
      ∧ (grantClaim c s).probes.latchOpen = s.probes.latchOpen
      ∧ (grantClaim c s).probes.read = s.probes.read ∧ (grantClaim c s).probes.change = s.probes.change
      ∧ (grantClaim c s).probes.latch = s.probes.latch ∧ (grantClaim c s).events.enable = s.events.enable
      ∧ (grantClaim c s).events.releaseHold = s.events.releaseHold := by
  unfold grantClaim
  split <;> simp

@[simp] theorem grantClaim_leaves_axis (c : Claim) (s : State) (ax : Axis) :
    ((grantClaim c s).axes.chan.get ax).scale = (s.axes.chan.get ax).scale
      ∧ ((grantClaim c s).axes.chan.get ax).referenced = (s.axes.chan.get ax).referenced
      ∧ ((grantClaim c s).axes.chan.get ax).setpoint = (s.axes.chan.get ax).setpoint
      ∧ ((grantClaim c s).axes.chan.get ax).lower = (s.axes.chan.get ax).lower
      ∧ ((grantClaim c s).axes.chan.get ax).upper = (s.axes.chan.get ax).upper
      ∧ ((grantClaim c s).axes.chan.get ax).ready = (s.axes.chan.get ax).ready
      ∧ ((grantClaim c s).axes.chan.get ax).enable = (s.axes.chan.get ax).enable := by
  unfold grantClaim
  split <;> simp

@[simp] theorem settle_leaves (p : Station) (n : Byte) (s : State) :
    (settle p n s).axes.retracted = s.axes.retracted
      ∧ (settle p n s).motion.stopPending = s.motion.stopPending
      ∧ (settle p n s).motion.reference = s.motion.reference
      ∧ (settle p n s).motion.deferCurrent = s.motion.deferCurrent
      ∧ (settle p n s).motion.deferHandOver = s.motion.deferHandOver
      ∧ (settle p n s).link.state = s.link.state ∧ (settle p n s).link.run = s.link.run
      ∧ (settle p n s).link.waitIdle = s.link.waitIdle ∧ (settle p n s).link.lineOut = s.link.lineOut
      ∧ (settle p n s).link.listeningDue = s.link.listeningDue
      ∧ (settle p n s).probes.library = s.probes.library ∧ (settle p n s).probes.current = s.probes.current
      ∧ (settle p n s).probes.slots = s.probes.slots ∧ (settle p n s).probes.seated = s.probes.seated
      ∧ (settle p n s).probes.latchOpen = s.probes.latchOpen ∧ (settle p n s).probes.read = s.probes.read
      ∧ (settle p n s).probes.change = s.probes.change ∧ (settle p n s).probes.latch = s.probes.latch
      ∧ (settle p n s).events.enable = s.events.enable
      ∧ (settle p n s).events.releaseHold = s.events.releaseHold := by
  unfold settle
  dsimp only
  repeat' split
  all_goals simp

@[simp] theorem settle_leaves_axis (p : Station) (n : Byte) (s : State) (ax : Axis) :
    ((settle p n s).axes.chan.get ax).scale = (s.axes.chan.get ax).scale
      ∧ ((settle p n s).axes.chan.get ax).referenced = (s.axes.chan.get ax).referenced
      ∧ ((settle p n s).axes.chan.get ax).setpoint = (s.axes.chan.get ax).setpoint
      ∧ ((settle p n s).axes.chan.get ax).lower = (s.axes.chan.get ax).lower
      ∧ ((settle p n s).axes.chan.get ax).upper = (s.axes.chan.get ax).upper
      ∧ ((settle p n s).axes.chan.get ax).ready = (s.axes.chan.get ax).ready
      ∧ ((settle p n s).axes.chan.get ax).enable = (s.axes.chan.get ax).enable := by
  unfold settle
  dsimp only
  repeat' split
  all_goals simp

@[simp] theorem objectClaim_leaves (n : Byte) (cs : CellSet) (s : State) :
    (objectClaim n cs s).zone.nextNumber = s.zone.nextNumber
      ∧ (objectClaim n cs s).zone.windows = s.zone.windows ∧ (objectClaim n cs s).zone.kept = s.zone.kept
      ∧ (objectClaim n cs s).zone.heldBack = s.zone.heldBack
      ∧ (objectClaim n cs s).zone.retryAwaited = s.zone.retryAwaited
      ∧ (objectClaim n cs s).link.state = s.link.state ∧ (objectClaim n cs s).link.run = s.link.run
      ∧ (objectClaim n cs s).link.waitIdle = s.link.waitIdle
      ∧ (objectClaim n cs s).link.lineOut = s.link.lineOut
      ∧ (objectClaim n cs s).link.listeningDue = s.link.listeningDue
      ∧ (objectClaim n cs s).events.enable = s.events.enable
      ∧ (objectClaim n cs s).events.releaseHold = s.events.releaseHold := by
  unfold objectClaim
  repeat' split
  all_goals simp

@[simp] theorem objectInTime_leaves (target : Station) (n : Byte) (cs : CellSet) (s : State) :
    (objectInTime target n cs s).zone.nextNumber = s.zone.nextNumber
      ∧ (objectInTime target n cs s).zone.windows = s.zone.windows
      ∧ (objectInTime target n cs s).zone.kept = s.zone.kept
      ∧ (objectInTime target n cs s).zone.heldBack = s.zone.heldBack
      ∧ (objectInTime target n cs s).zone.retryAwaited = s.zone.retryAwaited
      ∧ (objectInTime target n cs s).link.state = s.link.state
      ∧ (objectInTime target n cs s).link.run = s.link.run
      ∧ (objectInTime target n cs s).link.waitIdle = s.link.waitIdle
      ∧ (objectInTime target n cs s).link.lineOut = s.link.lineOut
      ∧ (objectInTime target n cs s).link.listeningDue = s.link.listeningDue
      ∧ (objectInTime target n cs s).events.enable = s.events.enable
      ∧ (objectInTime target n cs s).events.releaseHold = s.events.releaseHold := by
  unfold objectInTime
  split <;> simp

@[simp] theorem objectLate_leaves (sender target : Station) (cs : CellSet) (s : State) :
    (objectLate sender target cs s).axes.retracted = s.axes.retracted
      ∧ (objectLate sender target cs s).motion.deferCurrent = s.motion.deferCurrent
      ∧ (objectLate sender target cs s).motion.deferHandOver = s.motion.deferHandOver
      ∧ (objectLate sender target cs s).zone.cells = s.zone.cells
      ∧ (objectLate sender target cs s).zone.claim = s.zone.claim
      ∧ (objectLate sender target cs s).zone.nextNumber = s.zone.nextNumber
      ∧ (objectLate sender target cs s).zone.windows = s.zone.windows
      ∧ (objectLate sender target cs s).zone.kept = s.zone.kept
      ∧ (objectLate sender target cs s).zone.retryAwaited = s.zone.retryAwaited
      ∧ (objectLate sender target cs s).probes.library = s.probes.library
      ∧ (objectLate sender target cs s).probes.current = s.probes.current
      ∧ (objectLate sender target cs s).probes.slots = s.probes.slots
      ∧ (objectLate sender target cs s).probes.seated = s.probes.seated
      ∧ (objectLate sender target cs s).probes.latch = s.probes.latch
      ∧ (objectLate sender target cs s).events.enable = s.events.enable
      ∧ (objectLate sender target cs s).events.releaseHold = s.events.releaseHold := by
  unfold objectLate
  repeat' split
  all_goals simp

@[simp] theorem objectLate_leaves_axis (sender target : Station) (cs : CellSet) (s : State) (ax : Axis) :
    ((objectLate sender target cs s).axes.chan.get ax).scale = (s.axes.chan.get ax).scale
      ∧ ((objectLate sender target cs s).axes.chan.get ax).referenced = (s.axes.chan.get ax).referenced
      ∧ ((objectLate sender target cs s).axes.chan.get ax).lower = (s.axes.chan.get ax).lower
      ∧ ((objectLate sender target cs s).axes.chan.get ax).upper = (s.axes.chan.get ax).upper
      ∧ ((objectLate sender target cs s).axes.chan.get ax).ready = (s.axes.chan.get ax).ready := by
  unfold objectLate
  repeat' split
  all_goals simp

@[simp] theorem freeReleased_leaves (p : Station) (cs : CellSet) (s : State) :
    (freeReleased p cs s).zone.claim = s.zone.claim
      ∧ (freeReleased p cs s).zone.nextNumber = s.zone.nextNumber
      ∧ (freeReleased p cs s).zone.windows = s.zone.windows ∧ (freeReleased p cs s).zone.kept = s.zone.kept
      ∧ (freeReleased p cs s).zone.heldBack = s.zone.heldBack
      ∧ (freeReleased p cs s).zone.retryAwaited = s.zone.retryAwaited := by
  simp [freeReleased]

@[simp] theorem awaitIdle_leaves (s : State) :
    (awaitIdle s).link.state = s.link.state ∧ (awaitIdle s).link.list = s.link.list
      ∧ (awaitIdle s).link.run = s.link.run ∧ (awaitIdle s).link.lineOut = s.link.lineOut
      ∧ (awaitIdle s).link.listeningDue = s.link.listeningDue := by
  simp [awaitIdle]

@[simp] theorem duplicateFound_leaves (k : FrameKind) (s : State) :
    (duplicateFound k s).axes.retracted = s.axes.retracted
      ∧ (duplicateFound k s).zone.windows = s.zone.windows ∧ (duplicateFound k s).link.run = s.link.run
      ∧ (duplicateFound k s).link.waitIdle = s.link.waitIdle
      ∧ (duplicateFound k s).link.lineOut = s.link.lineOut
      ∧ (duplicateFound k s).peers.entries = s.peers.entries
      ∧ (duplicateFound k s).probes.library = s.probes.library
      ∧ (duplicateFound k s).probes.current = s.probes.current
      ∧ (duplicateFound k s).probes.slots = s.probes.slots
      ∧ (duplicateFound k s).probes.seated = s.probes.seated
      ∧ (duplicateFound k s).probes.latch = s.probes.latch
      ∧ (duplicateFound k s).events.enable = s.events.enable
      ∧ (duplicateFound k s).events.releaseHold = s.events.releaseHold := by
  simp [duplicateFound]

@[simp] theorem duplicateFound_leaves_axis (k : FrameKind) (s : State) (ax : Axis) :
    ((duplicateFound k s).axes.chan.get ax).scale = (s.axes.chan.get ax).scale
      ∧ ((duplicateFound k s).axes.chan.get ax).referenced = (s.axes.chan.get ax).referenced
      ∧ ((duplicateFound k s).axes.chan.get ax).lower = (s.axes.chan.get ax).lower
      ∧ ((duplicateFound k s).axes.chan.get ax).upper = (s.axes.chan.get ax).upper
      ∧ ((duplicateFound k s).axes.chan.get ax).ready = (s.axes.chan.get ax).ready := by
  simp [duplicateFound]

@[simp] theorem toldDelivered_leaves (f : TxFrame) (s : State) :
    (toldDelivered f s).peers.entries = s.peers.entries
      ∧ (toldDelivered f s).peers.heldBack = s.peers.heldBack
      ∧ (toldDelivered f s).probes.library = s.probes.library
      ∧ (toldDelivered f s).probes.live = s.probes.live
      ∧ (toldDelivered f s).probes.pendingBank = s.probes.pendingBank
      ∧ (toldDelivered f s).probes.current = s.probes.current
      ∧ (toldDelivered f s).probes.seated = s.probes.seated
      ∧ (toldDelivered f s).probes.latchOpen = s.probes.latchOpen
      ∧ (toldDelivered f s).probes.read = s.probes.read
      ∧ (toldDelivered f s).probes.change = s.probes.change
      ∧ (toldDelivered f s).probes.latch = s.probes.latch := by
  unfold toldDelivered
  split <;> simp

@[simp] theorem claimAfterReset_leaves (s : State) :
    (claimAfterReset s).zone.cells = s.zone.cells ∧ (claimAfterReset s).zone.nextNumber = s.zone.nextNumber
      ∧ (claimAfterReset s).zone.windows = s.zone.windows ∧ (claimAfterReset s).zone.kept = s.zone.kept
      ∧ (claimAfterReset s).zone.heldBack = s.zone.heldBack
      ∧ (claimAfterReset s).zone.retryAwaited = s.zone.retryAwaited := by
  unfold claimAfterReset
  repeat' split
  all_goals simp

@[simp] theorem dropWindows_leaves (s : State) :
    (dropWindows s).zone.claim = s.zone.claim ∧ (dropWindows s).zone.nextNumber = s.zone.nextNumber
      ∧ (dropWindows s).zone.kept = s.zone.kept ∧ (dropWindows s).zone.heldBack = s.zone.heldBack
      ∧ (dropWindows s).zone.retryAwaited = s.zone.retryAwaited := by
  simp [dropWindows]

@[simp] theorem restartLink_leaves (s : State) :
    (restartLink s).probes.library = s.probes.library ∧ (restartLink s).probes.live = s.probes.live
      ∧ (restartLink s).probes.pendingBank = s.probes.pendingBank
      ∧ (restartLink s).probes.current = s.probes.current ∧ (restartLink s).probes.seated = s.probes.seated
      ∧ (restartLink s).probes.latchOpen = s.probes.latchOpen ∧ (restartLink s).probes.read = s.probes.read
      ∧ (restartLink s).probes.change = s.probes.change ∧ (restartLink s).probes.latch = s.probes.latch := by
  unfold restartLink
  exact ⟨(by simpa using (foldl_keeps (fun u : State => u.probes.library) _ (fun t x => by simp) _ _)),
    (by simpa using (foldl_keeps (fun u : State => u.probes.live) _ (fun t x => by simp) _ _)),
    (by simpa using (foldl_keeps (fun u : State => u.probes.pendingBank) _ (fun t x => by simp) _ _)),
    (by simpa using (foldl_keeps (fun u : State => u.probes.current) _ (fun t x => by simp) _ _)),
    (by simpa using (foldl_keeps (fun u : State => u.probes.seated) _ (fun t x => by simp) _ _)),
    (by simpa using (foldl_keeps (fun u : State => u.probes.latchOpen) _ (fun t x => by simp) _ _)),
    (by simpa using (foldl_keeps (fun u : State => u.probes.read) _ (fun t x => by simp) _ _)),
    (by simpa using (foldl_keeps (fun u : State => u.probes.change) _ (fun t x => by simp) _ _)),
    (by simpa using (foldl_keeps (fun u : State => u.probes.latch) _ (fun t x => by simp) _ _))⟩

@[simp] theorem resetLinkEffect_leaves (s : State) :
    (resetLinkEffect s).axes.retracted = s.axes.retracted
      ∧ (resetLinkEffect s).motion.state = s.motion.state
      ∧ (resetLinkEffect s).motion.queue = s.motion.queue
      ∧ (resetLinkEffect s).motion.internal = s.motion.internal
      ∧ (resetLinkEffect s).motion.stopPending = s.motion.stopPending
      ∧ (resetLinkEffect s).motion.reference = s.motion.reference
      ∧ (resetLinkEffect s).motion.deferCurrent = s.motion.deferCurrent
      ∧ (resetLinkEffect s).motion.deferHandOver = s.motion.deferHandOver
      ∧ (resetLinkEffect s).temps.channels = s.temps.channels
      ∧ (resetLinkEffect s).temps.datum = s.temps.datum
      ∧ (resetLinkEffect s).temps.partCoeff = s.temps.partCoeff
      ∧ (resetLinkEffect s).temps.sampleDue = s.temps.sampleDue
      ∧ (resetLinkEffect s).probes.library = s.probes.library
      ∧ (resetLinkEffect s).probes.live = s.probes.live
      ∧ (resetLinkEffect s).probes.pendingBank = s.probes.pendingBank
      ∧ (resetLinkEffect s).probes.current = s.probes.current
      ∧ (resetLinkEffect s).probes.seated = s.probes.seated
      ∧ (resetLinkEffect s).probes.latchOpen = s.probes.latchOpen
      ∧ (resetLinkEffect s).probes.read = s.probes.read
      ∧ (resetLinkEffect s).probes.change = s.probes.change
      ∧ (resetLinkEffect s).probes.latch = s.probes.latch
      ∧ (resetLinkEffect s).events.enable = s.events.enable
      ∧ (resetLinkEffect s).events.releaseHold = s.events.releaseHold := by
  simp [resetLinkEffect]

@[simp] theorem resetLinkEffect_leaves_axis (s : State) (ax : Axis) :
    ((resetLinkEffect s).axes.chan.get ax).scale = (s.axes.chan.get ax).scale
      ∧ ((resetLinkEffect s).axes.chan.get ax).referenced = (s.axes.chan.get ax).referenced
      ∧ ((resetLinkEffect s).axes.chan.get ax).mode = (s.axes.chan.get ax).mode
      ∧ ((resetLinkEffect s).axes.chan.get ax).setpoint = (s.axes.chan.get ax).setpoint
      ∧ ((resetLinkEffect s).axes.chan.get ax).lower = (s.axes.chan.get ax).lower
      ∧ ((resetLinkEffect s).axes.chan.get ax).upper = (s.axes.chan.get ax).upper
      ∧ ((resetLinkEffect s).axes.chan.get ax).ready = (s.axes.chan.get ax).ready
      ∧ ((resetLinkEffect s).axes.chan.get ax).enable = (s.axes.chan.get ax).enable := by
  simp [resetLinkEffect]

@[simp] theorem settleView_leaves (s : State) :
    (settleView s).zone.claim = s.zone.claim ∧ (settleView s).zone.nextNumber = s.zone.nextNumber
      ∧ (settleView s).zone.windows = s.zone.windows ∧ (settleView s).zone.kept = s.zone.kept
      ∧ (settleView s).zone.heldBack = s.zone.heldBack
      ∧ (settleView s).zone.retryAwaited = s.zone.retryAwaited := by
  simp [settleView]

@[simp] theorem settleConflicts_leaves (s : State) :
    (settleConflicts s).axes.retracted = s.axes.retracted
      ∧ (settleConflicts s).motion.deferCurrent = s.motion.deferCurrent
      ∧ (settleConflicts s).motion.deferHandOver = s.motion.deferHandOver
      ∧ (settleConflicts s).zone.cells = s.zone.cells ∧ (settleConflicts s).zone.claim = s.zone.claim
      ∧ (settleConflicts s).zone.nextNumber = s.zone.nextNumber
      ∧ (settleConflicts s).zone.windows = s.zone.windows ∧ (settleConflicts s).zone.kept = s.zone.kept
      ∧ (settleConflicts s).zone.retryAwaited = s.zone.retryAwaited
      ∧ (settleConflicts s).probes.library = s.probes.library
      ∧ (settleConflicts s).probes.current = s.probes.current
      ∧ (settleConflicts s).probes.slots = s.probes.slots
      ∧ (settleConflicts s).probes.seated = s.probes.seated
      ∧ (settleConflicts s).probes.latch = s.probes.latch
      ∧ (settleConflicts s).events.enable = s.events.enable
      ∧ (settleConflicts s).events.releaseHold = s.events.releaseHold := by
  unfold settleConflicts
  exact ⟨(foldl_keeps (fun u : State => u.axes.retracted) _ (fun t x => by (repeat' split) <;> simp) _ _),
    (foldl_keeps (fun u : State => u.motion.deferCurrent) _ (fun t x => by (repeat' split) <;> simp) _ _),
    (foldl_keeps (fun u : State => u.motion.deferHandOver) _ (fun t x => by (repeat' split) <;> simp) _ _),
    (foldl_keeps (fun u : State => u.zone.cells) _ (fun t x => by (repeat' split) <;> simp) _ _),
    (foldl_keeps (fun u : State => u.zone.claim) _ (fun t x => by (repeat' split) <;> simp) _ _),
    (foldl_keeps (fun u : State => u.zone.nextNumber) _ (fun t x => by (repeat' split) <;> simp) _ _),
    (foldl_keeps (fun u : State => u.zone.windows) _ (fun t x => by (repeat' split) <;> simp) _ _),
    (foldl_keeps (fun u : State => u.zone.kept) _ (fun t x => by (repeat' split) <;> simp) _ _),
    (foldl_keeps (fun u : State => u.zone.retryAwaited) _ (fun t x => by (repeat' split) <;> simp) _ _),
    (foldl_keeps (fun u : State => u.probes.library) _ (fun t x => by (repeat' split) <;> simp) _ _),
    (foldl_keeps (fun u : State => u.probes.current) _ (fun t x => by (repeat' split) <;> simp) _ _),
    (foldl_keeps (fun u : State => u.probes.slots) _ (fun t x => by (repeat' split) <;> simp) _ _),
    (foldl_keeps (fun u : State => u.probes.seated) _ (fun t x => by (repeat' split) <;> simp) _ _),
    (foldl_keeps (fun u : State => u.probes.latch) _ (fun t x => by (repeat' split) <;> simp) _ _),
    (foldl_keeps (fun u : State => u.events.enable) _ (fun t x => by (repeat' split) <;> simp) _ _),
    (foldl_keeps (fun u : State => u.events.releaseHold) _ (fun t x => by (repeat' split) <;> simp) _ _)⟩

@[simp] theorem settleConflicts_leaves_axis (s : State) (ax : Axis) :
    ((settleConflicts s).axes.chan.get ax).scale = (s.axes.chan.get ax).scale
      ∧ ((settleConflicts s).axes.chan.get ax).referenced = (s.axes.chan.get ax).referenced
      ∧ ((settleConflicts s).axes.chan.get ax).lower = (s.axes.chan.get ax).lower
      ∧ ((settleConflicts s).axes.chan.get ax).upper = (s.axes.chan.get ax).upper
      ∧ ((settleConflicts s).axes.chan.get ax).ready = (s.axes.chan.get ax).ready := by
  unfold settleConflicts
  exact ⟨(foldl_keeps (fun u : State => u.axes.chan.get ax |>.scale) _ (fun t x => by (repeat' split) <;> simp) _ _),
    (foldl_keeps (fun u : State => u.axes.chan.get ax |>.referenced) _ (fun t x => by (repeat' split) <;> simp) _ _),
    (foldl_keeps (fun u : State => u.axes.chan.get ax |>.lower) _ (fun t x => by (repeat' split) <;> simp) _ _),
    (foldl_keeps (fun u : State => u.axes.chan.get ax |>.upper) _ (fun t x => by (repeat' split) <;> simp) _ _),
    (foldl_keeps (fun u : State => u.axes.chan.get ax |>.ready) _ (fun t x => by (repeat' split) <;> simp) _ _)⟩

@[simp] theorem joinClaim_leaves (s : State) :
    (joinClaim s).zone.windows = s.zone.windows ∧ (joinClaim s).zone.kept = s.zone.kept
      ∧ (joinClaim s).zone.heldBack = s.zone.heldBack ∧ (joinClaim s).link.state = s.link.state
      ∧ (joinClaim s).link.run = s.link.run ∧ (joinClaim s).link.waitIdle = s.link.waitIdle
      ∧ (joinClaim s).link.lineOut = s.link.lineOut ∧ (joinClaim s).link.listeningDue = s.link.listeningDue
      ∧ (joinClaim s).events.enable = s.events.enable
      ∧ (joinClaim s).events.releaseHold = s.events.releaseHold := by
  unfold joinClaim
  dsimp only
  repeat' split
  all_goals simp

@[simp] theorem weighClaim_leaves (s : State) :
    (weighClaim s).zone.windows = s.zone.windows ∧ (weighClaim s).zone.kept = s.zone.kept
      ∧ (weighClaim s).zone.heldBack = s.zone.heldBack ∧ (weighClaim s).link.state = s.link.state
      ∧ (weighClaim s).link.run = s.link.run ∧ (weighClaim s).link.waitIdle = s.link.waitIdle
      ∧ (weighClaim s).link.lineOut = s.link.lineOut
      ∧ (weighClaim s).link.listeningDue = s.link.listeningDue
      ∧ (weighClaim s).events.enable = s.events.enable
      ∧ (weighClaim s).events.releaseHold = s.events.releaseHold := by
  unfold weighClaim
  repeat' split
  all_goals simp

@[simp] theorem becomeActive_leaves (s : State) :
    (becomeActive s).station.number = s.station.number ∧ (becomeActive s).station.config = s.station.config
      ∧ (becomeActive s).station.assembly = s.station.assembly
      ∧ (becomeActive s).events.enable = s.events.enable
      ∧ (becomeActive s).events.releaseHold = s.events.releaseHold := by
  unfold becomeActive
  split <;> simp

@[simp] theorem createEntry_leaves (i : Ident) (bank : Bank) (q : QualSet) (s : State) :
    (createEntry i bank q s).link.state = s.link.state ∧ (createEntry i bank q s).link.run = s.link.run
      ∧ (createEntry i bank q s).link.waitIdle = s.link.waitIdle
      ∧ (createEntry i bank q s).link.lineOut = s.link.lineOut
      ∧ (createEntry i bank q s).link.listeningDue = s.link.listeningDue
      ∧ (createEntry i bank q s).probes.live = s.probes.live
      ∧ (createEntry i bank q s).probes.pendingBank = s.probes.pendingBank
      ∧ (createEntry i bank q s).probes.seated = s.probes.seated
      ∧ (createEntry i bank q s).probes.latchOpen = s.probes.latchOpen
      ∧ (createEntry i bank q s).probes.read = s.probes.read
      ∧ (createEntry i bank q s).probes.change = s.probes.change
      ∧ (createEntry i bank q s).probes.latch = s.probes.latch
      ∧ (createEntry i bank q s).events.enable = s.events.enable
      ∧ (createEntry i bank q s).events.releaseHold = s.events.releaseHold := by
  unfold createEntry
  dsimp only
  repeat' split
  all_goals simp

@[simp] theorem rewriteEntry_leaves (e : LibEntry) (bank : Bank) (q : QualSet) (s : State) :
    (rewriteEntry e bank q s).probes.live = s.probes.live
      ∧ (rewriteEntry e bank q s).probes.pendingBank = s.probes.pendingBank
      ∧ (rewriteEntry e bank q s).probes.current = s.probes.current
      ∧ (rewriteEntry e bank q s).probes.slots = s.probes.slots
      ∧ (rewriteEntry e bank q s).probes.seated = s.probes.seated
      ∧ (rewriteEntry e bank q s).probes.latchOpen = s.probes.latchOpen
      ∧ (rewriteEntry e bank q s).probes.read = s.probes.read
      ∧ (rewriteEntry e bank q s).probes.change = s.probes.change
      ∧ (rewriteEntry e bank q s).probes.latch = s.probes.latch := by
  simp [rewriteEntry]

@[simp] theorem failFrame_leaves (r : PortReason) (s : State) :
    (failFrame r s).port.shiftOut = s.port.shiftOut ∧ (failFrame r s).events.enable = s.events.enable
      ∧ (failFrame r s).events.releaseHold = s.events.releaseHold := by
  simp [failFrame]

end Sys2Proof.Machine
end

section
/-! PROOFS. The frame of every command as simp lemmas: the parts that it leaves, and inside the parts that it changes
the fields that it leaves. -/

namespace Sys2Proof.Machine

/-! ## The parts -/

@[simp] theorem checkFailed_keeps (bytes : List Byte) (midByte : Bool) (s : State) :
    (checkFailed bytes midByte s).pending = s.pending ∧ (checkFailed bytes midByte s).clock = s.clock
      ∧ (checkFailed bytes midByte s).station = s.station ∧ (checkFailed bytes midByte s).axes = s.axes
      ∧ (checkFailed bytes midByte s).motion = s.motion ∧ (checkFailed bytes midByte s).zone = s.zone
      ∧ (checkFailed bytes midByte s).link = s.link ∧ (checkFailed bytes midByte s).peers = s.peers
      ∧ (checkFailed bytes midByte s).temps = s.temps ∧ (checkFailed bytes midByte s).probes = s.probes
      ∧ (checkFailed bytes midByte s).corr = s.corr ∧ (checkFailed bytes midByte s).points = s.points := by
  have h := sameBut_checkFailed bytes midByte s
  exact ⟨h .pending (by decide), h .clock (by decide), h .station (by decide), h .axes (by decide),
    h .motion (by decide), h .zone (by decide), h .link (by decide), h .peers (by decide),
    h .temps (by decide), h .probes (by decide), h .corr (by decide), h .points (by decide)⟩

@[simp] theorem shiftOut_keeps (s : State) :
    (shiftOut s).pending = s.pending ∧ (shiftOut s).clock = s.clock ∧ (shiftOut s).station = s.station
      ∧ (shiftOut s).axes = s.axes ∧ (shiftOut s).motion = s.motion ∧ (shiftOut s).zone = s.zone
      ∧ (shiftOut s).link = s.link ∧ (shiftOut s).peers = s.peers ∧ (shiftOut s).temps = s.temps
      ∧ (shiftOut s).probes = s.probes ∧ (shiftOut s).corr = s.corr ∧ (shiftOut s).points = s.points
      ∧ (shiftOut s).events = s.events := by
  have h := sameBut_shiftOut s
  exact ⟨h .pending (by decide), h .clock (by decide), h .station (by decide), h .axes (by decide),
    h .motion (by decide), h .zone (by decide), h .link (by decide), h .peers (by decide),
    h .temps (by decide), h .probes (by decide), h .corr (by decide), h .points (by decide),
    h .events (by decide)⟩

@[simp] theorem configure_keeps (data : List Byte) (s : State) :
    (configure data s).pending = s.pending ∧ (configure data s).clock = s.clock
      ∧ (configure data s).axes = s.axes ∧ (configure data s).motion = s.motion
      ∧ (configure data s).zone = s.zone ∧ (configure data s).link = s.link
      ∧ (configure data s).peers = s.peers ∧ (configure data s).probes = s.probes
      ∧ (configure data s).corr = s.corr ∧ (configure data s).points = s.points
      ∧ (configure data s).events = s.events := by
  have h := sameBut_configure data s
  exact ⟨h .pending (by decide), h .clock (by decide), h .axes (by decide), h .motion (by decide),
    h .zone (by decide), h .link (by decide), h .peers (by decide), h .probes (by decide),
    h .corr (by decide), h .points (by decide), h .events (by decide)⟩

@[simp] theorem start_keeps (data : List Byte) (s : State) :
    (start data s).pending = s.pending ∧ (start data s).clock = s.clock ∧ (start data s).temps = s.temps
      ∧ (start data s).corr = s.corr ∧ (start data s).points = s.points := by
  have h := sameBut_start data s
  exact ⟨h .pending (by decide), h .clock (by decide), h .temps (by decide), h .corr (by decide),
    h .points (by decide)⟩

@[simp] theorem resetStation_keeps (data : List Byte) (p : Pins) (s : State) :
    (resetStation data p s).pending = s.pending := by
  have h := sameBut_resetStation data p s
  exact h .pending (by decide)

@[simp] theorem resetLink_keeps (data : List Byte) (s : State) :
    (resetLink data s).pending = s.pending ∧ (resetLink data s).clock = s.clock
      ∧ (resetLink data s).station = s.station ∧ (resetLink data s).axes = s.axes
      ∧ (resetLink data s).motion = s.motion ∧ (resetLink data s).corr = s.corr
      ∧ (resetLink data s).points = s.points ∧ (resetLink data s).events = s.events := by
  have h := sameBut_resetLink data s
  exact ⟨h .pending (by decide), h .clock (by decide), h .station (by decide), h .axes (by decide),
    h .motion (by decide), h .corr (by decide), h .points (by decide), h .events (by decide)⟩

@[simp] theorem queueMove_keeps (data : List Byte) (s : State) :
    (queueMove data s).pending = s.pending ∧ (queueMove data s).clock = s.clock
      ∧ (queueMove data s).station = s.station ∧ (queueMove data s).temps = s.temps
      ∧ (queueMove data s).corr = s.corr ∧ (queueMove data s).points = s.points := by
  have h := sameBut_queueMove data s
  exact ⟨h .pending (by decide), h .clock (by decide), h .station (by decide), h .temps (by decide),
    h .corr (by decide), h .points (by decide)⟩

@[simp] theorem stop_keeps (data : List Byte) (s : State) :
    (stop data s).pending = s.pending ∧ (stop data s).clock = s.clock ∧ (stop data s).station = s.station
      ∧ (stop data s).temps = s.temps ∧ (stop data s).corr = s.corr ∧ (stop data s).points = s.points := by
  have h := sameBut_stop data s
  exact ⟨h .pending (by decide), h .clock (by decide), h .station (by decide), h .temps (by decide),
    h .corr (by decide), h .points (by decide)⟩

@[simp] theorem resume_keeps (data : List Byte) (s : State) :
    (resume data s).pending = s.pending ∧ (resume data s).clock = s.clock
      ∧ (resume data s).station = s.station ∧ (resume data s).temps = s.temps
      ∧ (resume data s).corr = s.corr ∧ (resume data s).points = s.points := by
  have h := sameBut_resume data s
  exact ⟨h .pending (by decide), h .clock (by decide), h .station (by decide), h .temps (by decide),
    h .corr (by decide), h .points (by decide)⟩

@[simp] theorem flushMoves_keeps (data : List Byte) (s : State) :
    (flushMoves data s).pending = s.pending ∧ (flushMoves data s).clock = s.clock
      ∧ (flushMoves data s).station = s.station ∧ (flushMoves data s).axes = s.axes
      ∧ (flushMoves data s).temps = s.temps ∧ (flushMoves data s).probes = s.probes
      ∧ (flushMoves data s).corr = s.corr ∧ (flushMoves data s).points = s.points := by
  have h := sameBut_flushMoves data s
  exact ⟨h .pending (by decide), h .clock (by decide), h .station (by decide), h .axes (by decide),
    h .temps (by decide), h .probes (by decide), h .corr (by decide), h .points (by decide)⟩

@[simp] theorem referenceAxis_keeps (data : List Byte) (s : State) :
    (referenceAxis data s).pending = s.pending ∧ (referenceAxis data s).clock = s.clock
      ∧ (referenceAxis data s).station = s.station ∧ (referenceAxis data s).zone = s.zone
      ∧ (referenceAxis data s).link = s.link ∧ (referenceAxis data s).peers = s.peers
      ∧ (referenceAxis data s).temps = s.temps ∧ (referenceAxis data s).probes = s.probes
      ∧ (referenceAxis data s).corr = s.corr ∧ (referenceAxis data s).points = s.points
      ∧ (referenceAxis data s).events = s.events := by
  have h := sameBut_referenceAxis data s
  exact ⟨h .pending (by decide), h .clock (by decide), h .station (by decide), h .zone (by decide),
    h .link (by decide), h .peers (by decide), h .temps (by decide), h .probes (by decide),
    h .corr (by decide), h .points (by decide), h .events (by decide)⟩

@[simp] theorem clearFault_keeps (data : List Byte) (s : State) :
    (clearFault data s).pending = s.pending ∧ (clearFault data s).clock = s.clock
      ∧ (clearFault data s).station = s.station ∧ (clearFault data s).zone = s.zone
      ∧ (clearFault data s).link = s.link ∧ (clearFault data s).peers = s.peers
      ∧ (clearFault data s).temps = s.temps ∧ (clearFault data s).probes = s.probes
      ∧ (clearFault data s).corr = s.corr ∧ (clearFault data s).points = s.points
      ∧ (clearFault data s).events = s.events := by
  have h := sameBut_clearFault data s
  exact ⟨h .pending (by decide), h .clock (by decide), h .station (by decide), h .zone (by decide),
    h .link (by decide), h .peers (by decide), h .temps (by decide), h .probes (by decide),
    h .corr (by decide), h .points (by decide), h .events (by decide)⟩

@[simp] theorem changeProbe_keeps (data : List Byte) (s : State) :
    (changeProbe data s).pending = s.pending ∧ (changeProbe data s).clock = s.clock
      ∧ (changeProbe data s).station = s.station ∧ (changeProbe data s).temps = s.temps
      ∧ (changeProbe data s).corr = s.corr ∧ (changeProbe data s).points = s.points := by
  have h := sameBut_changeProbe data s
  exact ⟨h .pending (by decide), h .clock (by decide), h .station (by decide), h .temps (by decide),
    h .corr (by decide), h .points (by decide)⟩

@[simp] theorem abortCommand_keeps (data : List Byte) (s : State) :
    (abortCommand data s).pending = s.pending ∧ (abortCommand data s).clock = s.clock
      ∧ (abortCommand data s).station = s.station ∧ (abortCommand data s).temps = s.temps
      ∧ (abortCommand data s).corr = s.corr ∧ (abortCommand data s).points = s.points := by
  have h := sameBut_abortCommand data s
  exact ⟨h .pending (by decide), h .clock (by decide), h .station (by decide), h .temps (by decide),
    h .corr (by decide), h .points (by decide)⟩

@[simp] theorem identifyProbe_keeps (data : List Byte) (s : State) :
    (identifyProbe data s).pending = s.pending ∧ (identifyProbe data s).clock = s.clock
      ∧ (identifyProbe data s).station = s.station ∧ (identifyProbe data s).axes = s.axes
      ∧ (identifyProbe data s).motion = s.motion ∧ (identifyProbe data s).zone = s.zone
      ∧ (identifyProbe data s).link = s.link ∧ (identifyProbe data s).peers = s.peers
      ∧ (identifyProbe data s).temps = s.temps ∧ (identifyProbe data s).corr = s.corr
      ∧ (identifyProbe data s).points = s.points ∧ (identifyProbe data s).events = s.events := by
  have h := sameBut_identifyProbe data s
  exact ⟨h .pending (by decide), h .clock (by decide), h .station (by decide), h .axes (by decide),
    h .motion (by decide), h .zone (by decide), h .link (by decide), h .peers (by decide),
    h .temps (by decide), h .corr (by decide), h .points (by decide), h .events (by decide)⟩

@[simp] theorem writeProbeSet_keeps (data : List Byte) (s : State) :
    (writeProbeSet data s).pending = s.pending ∧ (writeProbeSet data s).clock = s.clock
      ∧ (writeProbeSet data s).station = s.station ∧ (writeProbeSet data s).axes = s.axes
      ∧ (writeProbeSet data s).motion = s.motion ∧ (writeProbeSet data s).zone = s.zone
      ∧ (writeProbeSet data s).peers = s.peers ∧ (writeProbeSet data s).temps = s.temps
      ∧ (writeProbeSet data s).corr = s.corr ∧ (writeProbeSet data s).points = s.points := by
  have h := sameBut_writeProbeSet data s
  exact ⟨h .pending (by decide), h .clock (by decide), h .station (by decide), h .axes (by decide),
    h .motion (by decide), h .zone (by decide), h .peers (by decide), h .temps (by decide),
    h .corr (by decide), h .points (by decide)⟩

@[simp] theorem deleteProbe_keeps (data : List Byte) (s : State) :
    (deleteProbe data s).pending = s.pending ∧ (deleteProbe data s).clock = s.clock
      ∧ (deleteProbe data s).station = s.station ∧ (deleteProbe data s).axes = s.axes
      ∧ (deleteProbe data s).motion = s.motion ∧ (deleteProbe data s).zone = s.zone
      ∧ (deleteProbe data s).link = s.link ∧ (deleteProbe data s).peers = s.peers
      ∧ (deleteProbe data s).temps = s.temps ∧ (deleteProbe data s).corr = s.corr
      ∧ (deleteProbe data s).points = s.points ∧ (deleteProbe data s).events = s.events := by
  have h := sameBut_deleteProbe data s
  exact ⟨h .pending (by decide), h .clock (by decide), h .station (by decide), h .axes (by decide),
    h .motion (by decide), h .zone (by decide), h .link (by decide), h .peers (by decide),
    h .temps (by decide), h .corr (by decide), h .points (by decide), h .events (by decide)⟩

@[simp] theorem selectBank_keeps (data : List Byte) (s : State) :
    (selectBank data s).pending = s.pending ∧ (selectBank data s).clock = s.clock
      ∧ (selectBank data s).station = s.station ∧ (selectBank data s).axes = s.axes
      ∧ (selectBank data s).motion = s.motion ∧ (selectBank data s).zone = s.zone
      ∧ (selectBank data s).link = s.link ∧ (selectBank data s).peers = s.peers
      ∧ (selectBank data s).temps = s.temps ∧ (selectBank data s).corr = s.corr
      ∧ (selectBank data s).points = s.points ∧ (selectBank data s).events = s.events := by
  have h := sameBut_selectBank data s
  exact ⟨h .pending (by decide), h .clock (by decide), h .station (by decide), h .axes (by decide),
    h .motion (by decide), h .zone (by decide), h .link (by decide), h .peers (by decide),
    h .temps (by decide), h .corr (by decide), h .points (by decide), h .events (by decide)⟩

@[simp] theorem setRackSlot_keeps (data : List Byte) (s : State) :
    (setRackSlot data s).pending = s.pending ∧ (setRackSlot data s).clock = s.clock
      ∧ (setRackSlot data s).station = s.station ∧ (setRackSlot data s).axes = s.axes
      ∧ (setRackSlot data s).motion = s.motion ∧ (setRackSlot data s).zone = s.zone
      ∧ (setRackSlot data s).peers = s.peers ∧ (setRackSlot data s).temps = s.temps
      ∧ (setRackSlot data s).corr = s.corr ∧ (setRackSlot data s).points = s.points := by
  have h := sameBut_setRackSlot data s
  exact ⟨h .pending (by decide), h .clock (by decide), h .station (by decide), h .axes (by decide),
    h .motion (by decide), h .zone (by decide), h .peers (by decide), h .temps (by decide),
    h .corr (by decide), h .points (by decide)⟩

@[simp] theorem setFixedTemperature_keeps (data : List Byte) (s : State) :
    (setFixedTemperature data s).pending = s.pending ∧ (setFixedTemperature data s).clock = s.clock
      ∧ (setFixedTemperature data s).station = s.station ∧ (setFixedTemperature data s).axes = s.axes
      ∧ (setFixedTemperature data s).motion = s.motion ∧ (setFixedTemperature data s).zone = s.zone
      ∧ (setFixedTemperature data s).link = s.link ∧ (setFixedTemperature data s).peers = s.peers
      ∧ (setFixedTemperature data s).probes = s.probes ∧ (setFixedTemperature data s).corr = s.corr
      ∧ (setFixedTemperature data s).points = s.points ∧ (setFixedTemperature data s).events = s.events := by
  have h := sameBut_setFixedTemperature data s
  exact ⟨h .pending (by decide), h .clock (by decide), h .station (by decide), h .axes (by decide),
    h .motion (by decide), h .zone (by decide), h .link (by decide), h .peers (by decide),
    h .probes (by decide), h .corr (by decide), h .points (by decide), h .events (by decide)⟩

@[simp] theorem clearFixedTemperature_keeps (data : List Byte) (s : State) :
    (clearFixedTemperature data s).pending = s.pending ∧ (clearFixedTemperature data s).clock = s.clock
      ∧ (clearFixedTemperature data s).station = s.station ∧ (clearFixedTemperature data s).axes = s.axes
      ∧ (clearFixedTemperature data s).motion = s.motion ∧ (clearFixedTemperature data s).zone = s.zone
      ∧ (clearFixedTemperature data s).link = s.link ∧ (clearFixedTemperature data s).peers = s.peers
      ∧ (clearFixedTemperature data s).probes = s.probes ∧ (clearFixedTemperature data s).corr = s.corr
      ∧ (clearFixedTemperature data s).points = s.points ∧ (clearFixedTemperature data s).events = s.events := by
  have h := sameBut_clearFixedTemperature data s
  exact ⟨h .pending (by decide), h .clock (by decide), h .station (by decide), h .axes (by decide),
    h .motion (by decide), h .zone (by decide), h .link (by decide), h .peers (by decide),
    h .probes (by decide), h .corr (by decide), h .points (by decide), h .events (by decide)⟩

@[simp] theorem setPart_keeps (data : List Byte) (s : State) :
    (setPart data s).pending = s.pending ∧ (setPart data s).clock = s.clock
      ∧ (setPart data s).station = s.station ∧ (setPart data s).axes = s.axes
      ∧ (setPart data s).motion = s.motion ∧ (setPart data s).zone = s.zone ∧ (setPart data s).link = s.link
      ∧ (setPart data s).peers = s.peers ∧ (setPart data s).probes = s.probes
      ∧ (setPart data s).corr = s.corr ∧ (setPart data s).points = s.points
      ∧ (setPart data s).events = s.events := by
  have h := sameBut_setPart data s
  exact ⟨h .pending (by decide), h .clock (by decide), h .station (by decide), h .axes (by decide),
    h .motion (by decide), h .zone (by decide), h .link (by decide), h .peers (by decide),
    h .probes (by decide), h .corr (by decide), h .points (by decide), h .events (by decide)⟩

@[simp] theorem callSample_keeps (data : List Byte) (s : State) :
    (callSample data s).pending = s.pending ∧ (callSample data s).clock = s.clock
      ∧ (callSample data s).station = s.station ∧ (callSample data s).axes = s.axes
      ∧ (callSample data s).motion = s.motion ∧ (callSample data s).zone = s.zone
      ∧ (callSample data s).peers = s.peers ∧ (callSample data s).temps = s.temps
      ∧ (callSample data s).probes = s.probes ∧ (callSample data s).corr = s.corr
      ∧ (callSample data s).points = s.points := by
  have h := sameBut_callSample data s
  exact ⟨h .pending (by decide), h .clock (by decide), h .station (by decide), h .axes (by decide),
    h .motion (by decide), h .zone (by decide), h .peers (by decide), h .temps (by decide),
    h .probes (by decide), h .corr (by decide), h .points (by decide)⟩

@[simp] theorem forgetPeer_keeps (data : List Byte) (s : State) :
    (forgetPeer data s).pending = s.pending ∧ (forgetPeer data s).clock = s.clock
      ∧ (forgetPeer data s).station = s.station ∧ (forgetPeer data s).corr = s.corr
      ∧ (forgetPeer data s).points = s.points := by
  have h := sameBut_forgetPeer data s
  exact ⟨h .pending (by decide), h .clock (by decide), h .station (by decide), h .corr (by decide),
    h .points (by decide)⟩

@[simp] theorem readPoint_keeps (data : List Byte) (s : State) :
    (readPoint data s).pending = s.pending ∧ (readPoint data s).clock = s.clock
      ∧ (readPoint data s).station = s.station ∧ (readPoint data s).zone = s.zone
      ∧ (readPoint data s).link = s.link ∧ (readPoint data s).peers = s.peers
      ∧ (readPoint data s).temps = s.temps ∧ (readPoint data s).corr = s.corr := by
  have h := sameBut_readPoint data s
  exact ⟨h .pending (by decide), h .clock (by decide), h .station (by decide), h .zone (by decide),
    h .link (by decide), h .peers (by decide), h .temps (by decide), h .corr (by decide)⟩

@[simp] theorem peekPoint_keeps (data : List Byte) (s : State) :
    (peekPoint data s).pending = s.pending ∧ (peekPoint data s).clock = s.clock
      ∧ (peekPoint data s).station = s.station ∧ (peekPoint data s).axes = s.axes
      ∧ (peekPoint data s).motion = s.motion ∧ (peekPoint data s).zone = s.zone
      ∧ (peekPoint data s).link = s.link ∧ (peekPoint data s).peers = s.peers
      ∧ (peekPoint data s).temps = s.temps ∧ (peekPoint data s).probes = s.probes
      ∧ (peekPoint data s).corr = s.corr ∧ (peekPoint data s).points = s.points
      ∧ (peekPoint data s).events = s.events := by
  have h := sameBut_peekPoint data s
  exact ⟨h .pending (by decide), h .clock (by decide), h .station (by decide), h .axes (by decide),
    h .motion (by decide), h .zone (by decide), h .link (by decide), h .peers (by decide),
    h .temps (by decide), h .probes (by decide), h .corr (by decide), h .points (by decide),
    h .events (by decide)⟩

@[simp] theorem flushPoints_keeps (data : List Byte) (s : State) :
    (flushPoints data s).pending = s.pending ∧ (flushPoints data s).clock = s.clock
      ∧ (flushPoints data s).station = s.station ∧ (flushPoints data s).zone = s.zone
      ∧ (flushPoints data s).link = s.link ∧ (flushPoints data s).peers = s.peers
      ∧ (flushPoints data s).temps = s.temps ∧ (flushPoints data s).corr = s.corr := by
  have h := sameBut_flushPoints data s
  exact ⟨h .pending (by decide), h .clock (by decide), h .station (by decide), h .zone (by decide),
    h .link (by decide), h .peers (by decide), h .temps (by decide), h .corr (by decide)⟩

@[simp] theorem readStatus_keeps (data : List Byte) (s : State) :
    (readStatus data s).pending = s.pending ∧ (readStatus data s).clock = s.clock
      ∧ (readStatus data s).station = s.station ∧ (readStatus data s).axes = s.axes
      ∧ (readStatus data s).motion = s.motion ∧ (readStatus data s).zone = s.zone
      ∧ (readStatus data s).link = s.link ∧ (readStatus data s).peers = s.peers
      ∧ (readStatus data s).temps = s.temps ∧ (readStatus data s).probes = s.probes
      ∧ (readStatus data s).corr = s.corr ∧ (readStatus data s).points = s.points
      ∧ (readStatus data s).events = s.events := by
  have h := sameBut_readStatus data s
  exact ⟨h .pending (by decide), h .clock (by decide), h .station (by decide), h .axes (by decide),
    h .motion (by decide), h .zone (by decide), h .link (by decide), h .peers (by decide),
    h .temps (by decide), h .probes (by decide), h .corr (by decide), h .points (by decide),
    h .events (by decide)⟩

@[simp] theorem readTemperatures_keeps (data : List Byte) (s : State) :
    (readTemperatures data s).pending = s.pending ∧ (readTemperatures data s).clock = s.clock
      ∧ (readTemperatures data s).station = s.station ∧ (readTemperatures data s).axes = s.axes
      ∧ (readTemperatures data s).motion = s.motion ∧ (readTemperatures data s).zone = s.zone
      ∧ (readTemperatures data s).link = s.link ∧ (readTemperatures data s).peers = s.peers
      ∧ (readTemperatures data s).temps = s.temps ∧ (readTemperatures data s).probes = s.probes
      ∧ (readTemperatures data s).corr = s.corr ∧ (readTemperatures data s).points = s.points
      ∧ (readTemperatures data s).events = s.events := by
  have h := sameBut_readTemperatures data s
  exact ⟨h .pending (by decide), h .clock (by decide), h .station (by decide), h .axes (by decide),
    h .motion (by decide), h .zone (by decide), h .link (by decide), h .peers (by decide),
    h .temps (by decide), h .probes (by decide), h .corr (by decide), h .points (by decide),
    h .events (by decide)⟩

@[simp] theorem readZoneView_keeps (data : List Byte) (s : State) :
    (readZoneView data s).pending = s.pending ∧ (readZoneView data s).clock = s.clock
      ∧ (readZoneView data s).station = s.station ∧ (readZoneView data s).axes = s.axes
      ∧ (readZoneView data s).motion = s.motion ∧ (readZoneView data s).zone = s.zone
      ∧ (readZoneView data s).link = s.link ∧ (readZoneView data s).peers = s.peers
      ∧ (readZoneView data s).temps = s.temps ∧ (readZoneView data s).probes = s.probes
      ∧ (readZoneView data s).corr = s.corr ∧ (readZoneView data s).points = s.points
      ∧ (readZoneView data s).events = s.events := by
  have h := sameBut_readZoneView data s
  exact ⟨h .pending (by decide), h .clock (by decide), h .station (by decide), h .axes (by decide),
    h .motion (by decide), h .zone (by decide), h .link (by decide), h .peers (by decide),
    h .temps (by decide), h .probes (by decide), h .corr (by decide), h .points (by decide),
    h .events (by decide)⟩

@[simp] theorem readRackView_keeps (data : List Byte) (s : State) :
    (readRackView data s).pending = s.pending ∧ (readRackView data s).clock = s.clock
      ∧ (readRackView data s).station = s.station ∧ (readRackView data s).axes = s.axes
      ∧ (readRackView data s).motion = s.motion ∧ (readRackView data s).zone = s.zone
      ∧ (readRackView data s).link = s.link ∧ (readRackView data s).peers = s.peers
      ∧ (readRackView data s).temps = s.temps ∧ (readRackView data s).probes = s.probes
      ∧ (readRackView data s).corr = s.corr ∧ (readRackView data s).points = s.points
      ∧ (readRackView data s).events = s.events := by
  have h := sameBut_readRackView data s
  exact ⟨h .pending (by decide), h .clock (by decide), h .station (by decide), h .axes (by decide),
    h .motion (by decide), h .zone (by decide), h .link (by decide), h .peers (by decide),
    h .temps (by decide), h .probes (by decide), h .corr (by decide), h .points (by decide),
    h .events (by decide)⟩

@[simp] theorem readProbe_keeps (data : List Byte) (s : State) :
    (readProbe data s).pending = s.pending ∧ (readProbe data s).clock = s.clock
      ∧ (readProbe data s).station = s.station ∧ (readProbe data s).axes = s.axes
      ∧ (readProbe data s).motion = s.motion ∧ (readProbe data s).zone = s.zone
      ∧ (readProbe data s).link = s.link ∧ (readProbe data s).peers = s.peers
      ∧ (readProbe data s).temps = s.temps ∧ (readProbe data s).probes = s.probes
      ∧ (readProbe data s).corr = s.corr ∧ (readProbe data s).points = s.points
      ∧ (readProbe data s).events = s.events := by
  have h := sameBut_readProbe data s
  exact ⟨h .pending (by decide), h .clock (by decide), h .station (by decide), h .axes (by decide),
    h .motion (by decide), h .zone (by decide), h .link (by decide), h .peers (by decide),
    h .temps (by decide), h .probes (by decide), h .corr (by decide), h .points (by decide),
    h .events (by decide)⟩

@[simp] theorem readPeer_keeps (data : List Byte) (s : State) :
    (readPeer data s).pending = s.pending ∧ (readPeer data s).clock = s.clock
      ∧ (readPeer data s).station = s.station ∧ (readPeer data s).axes = s.axes
      ∧ (readPeer data s).motion = s.motion ∧ (readPeer data s).zone = s.zone
      ∧ (readPeer data s).link = s.link ∧ (readPeer data s).peers = s.peers
      ∧ (readPeer data s).temps = s.temps ∧ (readPeer data s).probes = s.probes
      ∧ (readPeer data s).corr = s.corr ∧ (readPeer data s).points = s.points
      ∧ (readPeer data s).events = s.events := by
  have h := sameBut_readPeer data s
  exact ⟨h .pending (by decide), h .clock (by decide), h .station (by decide), h .axes (by decide),
    h .motion (by decide), h .zone (by decide), h .link (by decide), h .peers (by decide),
    h .temps (by decide), h .probes (by decide), h .corr (by decide), h .points (by decide),
    h .events (by decide)⟩

@[simp] theorem readEvents_keeps (data : List Byte) (s : State) :
    (readEvents data s).pending = s.pending ∧ (readEvents data s).clock = s.clock
      ∧ (readEvents data s).station = s.station ∧ (readEvents data s).axes = s.axes
      ∧ (readEvents data s).motion = s.motion ∧ (readEvents data s).zone = s.zone
      ∧ (readEvents data s).link = s.link ∧ (readEvents data s).peers = s.peers
      ∧ (readEvents data s).temps = s.temps ∧ (readEvents data s).probes = s.probes
      ∧ (readEvents data s).corr = s.corr ∧ (readEvents data s).points = s.points
      ∧ (readEvents data s).events = s.events := by
  have h := sameBut_readEvents data s
  exact ⟨h .pending (by decide), h .clock (by decide), h .station (by decide), h .axes (by decide),
    h .motion (by decide), h .zone (by decide), h .link (by decide), h .peers (by decide),
    h .temps (by decide), h .probes (by decide), h .corr (by decide), h .points (by decide),
    h .events (by decide)⟩

@[simp] theorem enableEvents_keeps (data : List Byte) (s : State) :
    (enableEvents data s).pending = s.pending ∧ (enableEvents data s).clock = s.clock
      ∧ (enableEvents data s).station = s.station ∧ (enableEvents data s).axes = s.axes
      ∧ (enableEvents data s).motion = s.motion ∧ (enableEvents data s).zone = s.zone
      ∧ (enableEvents data s).link = s.link ∧ (enableEvents data s).peers = s.peers
      ∧ (enableEvents data s).temps = s.temps ∧ (enableEvents data s).probes = s.probes
      ∧ (enableEvents data s).corr = s.corr ∧ (enableEvents data s).points = s.points := by
  have h := sameBut_enableEvents data s
  exact ⟨h .pending (by decide), h .clock (by decide), h .station (by decide), h .axes (by decide),
    h .motion (by decide), h .zone (by decide), h .link (by decide), h .peers (by decide),
    h .temps (by decide), h .probes (by decide), h .corr (by decide), h .points (by decide)⟩

@[simp] theorem acknowledgeEvents_keeps (data : List Byte) (s : State) :
    (acknowledgeEvents data s).pending = s.pending ∧ (acknowledgeEvents data s).clock = s.clock
      ∧ (acknowledgeEvents data s).station = s.station ∧ (acknowledgeEvents data s).axes = s.axes
      ∧ (acknowledgeEvents data s).motion = s.motion ∧ (acknowledgeEvents data s).zone = s.zone
      ∧ (acknowledgeEvents data s).link = s.link ∧ (acknowledgeEvents data s).peers = s.peers
      ∧ (acknowledgeEvents data s).temps = s.temps ∧ (acknowledgeEvents data s).probes = s.probes
      ∧ (acknowledgeEvents data s).corr = s.corr ∧ (acknowledgeEvents data s).points = s.points := by
  have h := sameBut_acknowledgeEvents data s
  exact ⟨h .pending (by decide), h .clock (by decide), h .station (by decide), h .axes (by decide),
    h .motion (by decide), h .zone (by decide), h .link (by decide), h .peers (by decide),
    h .temps (by decide), h .probes (by decide), h .corr (by decide), h .points (by decide)⟩

@[simp] theorem endReleaseHold_keeps (s : State) :
    (endReleaseHold s).pending = s.pending ∧ (endReleaseHold s).clock = s.clock
      ∧ (endReleaseHold s).station = s.station ∧ (endReleaseHold s).axes = s.axes
      ∧ (endReleaseHold s).motion = s.motion ∧ (endReleaseHold s).zone = s.zone
      ∧ (endReleaseHold s).link = s.link ∧ (endReleaseHold s).peers = s.peers
      ∧ (endReleaseHold s).temps = s.temps ∧ (endReleaseHold s).probes = s.probes
      ∧ (endReleaseHold s).corr = s.corr ∧ (endReleaseHold s).points = s.points
      ∧ (endReleaseHold s).port = s.port := by
  have h := sameBut_endReleaseHold s
  exact ⟨h .pending (by decide), h .clock (by decide), h .station (by decide), h .axes (by decide),
    h .motion (by decide), h .zone (by decide), h .link (by decide), h .peers (by decide),
    h .temps (by decide), h .probes (by decide), h .corr (by decide), h .points (by decide),
    h .port (by decide)⟩

@[simp] theorem motionPeriod_keeps (v : Samples) (order : List Watch) (s : State) :
    (motionPeriod v order s).pending = s.pending ∧ (motionPeriod v order s).station = s.station
      ∧ (motionPeriod v order s).temps = s.temps ∧ (motionPeriod v order s).corr = s.corr
      ∧ (motionPeriod v order s).points = s.points ∧ (motionPeriod v order s).port = s.port := by
  have h := sameBut_motionPeriod v order s
  exact ⟨h .pending (by decide), h .station (by decide), h .temps (by decide), h .corr (by decide),
    h .points (by decide), h .port (by decide)⟩

@[simp] theorem completeSegment_keeps (s : State) :
    (completeSegment s).pending = s.pending ∧ (completeSegment s).clock = s.clock
      ∧ (completeSegment s).station = s.station ∧ (completeSegment s).temps = s.temps
      ∧ (completeSegment s).port = s.port := by
  have h := sameBut_completeSegment s
  exact ⟨h .pending (by decide), h .clock (by decide), h .station (by decide), h .temps (by decide),
    h .port (by decide)⟩

@[simp] theorem positionTimeout_keeps (s : State) :
    (positionTimeout s).pending = s.pending ∧ (positionTimeout s).station = s.station
      ∧ (positionTimeout s).link = s.link ∧ (positionTimeout s).peers = s.peers
      ∧ (positionTimeout s).temps = s.temps ∧ (positionTimeout s).corr = s.corr
      ∧ (positionTimeout s).points = s.points ∧ (positionTimeout s).port = s.port := by
  have h := sameBut_positionTimeout s
  exact ⟨h .pending (by decide), h .station (by decide), h .link (by decide), h .peers (by decide),
    h .temps (by decide), h .corr (by decide), h .points (by decide), h .port (by decide)⟩

@[simp] theorem stopDecelerationEnd_keeps (s : State) :
    (stopDecelerationEnd s).pending = s.pending ∧ (stopDecelerationEnd s).clock = s.clock
      ∧ (stopDecelerationEnd s).station = s.station ∧ (stopDecelerationEnd s).temps = s.temps
      ∧ (stopDecelerationEnd s).corr = s.corr ∧ (stopDecelerationEnd s).points = s.points
      ∧ (stopDecelerationEnd s).port = s.port := by
  have h := sameBut_stopDecelerationEnd s
  exact ⟨h .pending (by decide), h .clock (by decide), h .station (by decide), h .temps (by decide),
    h .corr (by decide), h .points (by decide), h .port (by decide)⟩

@[simp] theorem takeScaleFault_keeps (a : Axis) (s : State) :
    (takeScaleFault a s).pending = s.pending ∧ (takeScaleFault a s).clock = s.clock
      ∧ (takeScaleFault a s).station = s.station ∧ (takeScaleFault a s).temps = s.temps
      ∧ (takeScaleFault a s).corr = s.corr ∧ (takeScaleFault a s).points = s.points
      ∧ (takeScaleFault a s).port = s.port := by
  have h := sameBut_takeScaleFault a s
  exact ⟨h .pending (by decide), h .clock (by decide), h .station (by decide), h .temps (by decide),
    h .corr (by decide), h .points (by decide), h .port (by decide)⟩

@[simp] theorem takeReferenceMark_keeps (a : Axis) (s : State) :
    (takeReferenceMark a s).pending = s.pending ∧ (takeReferenceMark a s).clock = s.clock
      ∧ (takeReferenceMark a s).station = s.station ∧ (takeReferenceMark a s).zone = s.zone
      ∧ (takeReferenceMark a s).link = s.link ∧ (takeReferenceMark a s).peers = s.peers
      ∧ (takeReferenceMark a s).temps = s.temps ∧ (takeReferenceMark a s).probes = s.probes
      ∧ (takeReferenceMark a s).corr = s.corr ∧ (takeReferenceMark a s).points = s.points
      ∧ (takeReferenceMark a s).port = s.port ∧ (takeReferenceMark a s).events = s.events := by
  have h := sameBut_takeReferenceMark a s
  exact ⟨h .pending (by decide), h .clock (by decide), h .station (by decide), h .zone (by decide),
    h .link (by decide), h .peers (by decide), h .temps (by decide), h .probes (by decide),
    h .corr (by decide), h .points (by decide), h .port (by decide), h .events (by decide)⟩

@[simp] theorem endReference_keeps (s : State) :
    (endReference s).pending = s.pending ∧ (endReference s).clock = s.clock
      ∧ (endReference s).station = s.station ∧ (endReference s).peers = s.peers
      ∧ (endReference s).temps = s.temps ∧ (endReference s).probes = s.probes
      ∧ (endReference s).corr = s.corr ∧ (endReference s).points = s.points ∧ (endReference s).port = s.port := by
  have h := sameBut_endReference s
  exact ⟨h .pending (by decide), h .clock (by decide), h .station (by decide), h .peers (by decide),
    h .temps (by decide), h .probes (by decide), h .corr (by decide), h .points (by decide),
    h .port (by decide)⟩

@[simp] theorem endReferenceStop_keeps (s : State) :
    (endReferenceStop s).pending = s.pending ∧ (endReferenceStop s).clock = s.clock
      ∧ (endReferenceStop s).station = s.station ∧ (endReferenceStop s).zone = s.zone
      ∧ (endReferenceStop s).link = s.link ∧ (endReferenceStop s).peers = s.peers
      ∧ (endReferenceStop s).temps = s.temps ∧ (endReferenceStop s).probes = s.probes
      ∧ (endReferenceStop s).corr = s.corr ∧ (endReferenceStop s).points = s.points
      ∧ (endReferenceStop s).port = s.port ∧ (endReferenceStop s).events = s.events := by
  have h := sameBut_endReferenceStop s
  exact ⟨h .pending (by decide), h .clock (by decide), h .station (by decide), h .zone (by decide),
    h .link (by decide), h .peers (by decide), h .temps (by decide), h .probes (by decide),
    h .corr (by decide), h .points (by decide), h .port (by decide), h .events (by decide)⟩

@[simp] theorem takeTouch_keeps (c : V3 Int) (s : State) :
    (takeTouch c s).pending = s.pending ∧ (takeTouch c s).clock = s.clock
      ∧ (takeTouch c s).station = s.station ∧ (takeTouch c s).link = s.link
      ∧ (takeTouch c s).peers = s.peers ∧ (takeTouch c s).temps = s.temps ∧ (takeTouch c s).port = s.port := by
  have h := sameBut_takeTouch c s
  exact ⟨h .pending (by decide), h .clock (by decide), h .station (by decide), h .link (by decide),
    h .peers (by decide), h .temps (by decide), h .port (by decide)⟩

@[simp] theorem endCorrection_keeps (s : State) :
    (endCorrection s).pending = s.pending ∧ (endCorrection s).clock = s.clock
      ∧ (endCorrection s).station = s.station ∧ (endCorrection s).zone = s.zone
      ∧ (endCorrection s).link = s.link ∧ (endCorrection s).peers = s.peers
      ∧ (endCorrection s).temps = s.temps ∧ (endCorrection s).port = s.port := by
  have h := sameBut_endCorrection s
  exact ⟨h .pending (by decide), h .clock (by decide), h .station (by decide), h .zone (by decide),
    h .link (by decide), h .peers (by decide), h .temps (by decide), h .port (by decide)⟩

@[simp] theorem startSending_keeps (s : State) :
    (startSending s).pending = s.pending ∧ (startSending s).clock = s.clock
      ∧ (startSending s).station = s.station ∧ (startSending s).axes = s.axes
      ∧ (startSending s).motion = s.motion ∧ (startSending s).zone = s.zone
      ∧ (startSending s).peers = s.peers ∧ (startSending s).temps = s.temps
      ∧ (startSending s).probes = s.probes ∧ (startSending s).corr = s.corr
      ∧ (startSending s).points = s.points ∧ (startSending s).port = s.port
      ∧ (startSending s).events = s.events := by
  have h := sameBut_startSending s
  exact ⟨h .pending (by decide), h .clock (by decide), h .station (by decide), h .axes (by decide),
    h .motion (by decide), h .zone (by decide), h .peers (by decide), h .temps (by decide),
    h .probes (by decide), h .corr (by decide), h .points (by decide), h .port (by decide),
    h .events (by decide)⟩

@[simp] theorem loseArbitration_keeps (s : State) :
    (loseArbitration s).pending = s.pending ∧ (loseArbitration s).clock = s.clock
      ∧ (loseArbitration s).station = s.station ∧ (loseArbitration s).axes = s.axes
      ∧ (loseArbitration s).motion = s.motion ∧ (loseArbitration s).zone = s.zone
      ∧ (loseArbitration s).peers = s.peers ∧ (loseArbitration s).temps = s.temps
      ∧ (loseArbitration s).probes = s.probes ∧ (loseArbitration s).corr = s.corr
      ∧ (loseArbitration s).points = s.points ∧ (loseArbitration s).port = s.port
      ∧ (loseArbitration s).events = s.events := by
  have h := sameBut_loseArbitration s
  exact ⟨h .pending (by decide), h .clock (by decide), h .station (by decide), h .axes (by decide),
    h .motion (by decide), h .zone (by decide), h .peers (by decide), h .temps (by decide),
    h .probes (by decide), h .corr (by decide), h .points (by decide), h .port (by decide),
    h .events (by decide)⟩

@[simp] theorem duplicateMismatch_keeps (s : State) :
    (duplicateMismatch s).pending = s.pending ∧ (duplicateMismatch s).clock = s.clock
      ∧ (duplicateMismatch s).station = s.station ∧ (duplicateMismatch s).temps = s.temps
      ∧ (duplicateMismatch s).corr = s.corr ∧ (duplicateMismatch s).points = s.points
      ∧ (duplicateMismatch s).port = s.port := by
  have h := sameBut_duplicateMismatch s
  exact ⟨h .pending (by decide), h .clock (by decide), h .station (by decide), h .temps (by decide),
    h .corr (by decide), h .points (by decide), h .port (by decide)⟩

@[simp] theorem earlySpoil_keeps (own : Bool) (s : State) :
    (earlySpoil own s).pending = s.pending ∧ (earlySpoil own s).clock = s.clock
      ∧ (earlySpoil own s).station = s.station ∧ (earlySpoil own s).temps = s.temps
      ∧ (earlySpoil own s).corr = s.corr ∧ (earlySpoil own s).points = s.points
      ∧ (earlySpoil own s).port = s.port := by
  have h := sameBut_earlySpoil own s
  exact ⟨h .pending (by decide), h .clock (by decide), h .station (by decide), h .temps (by decide),
    h .corr (by decide), h .points (by decide), h .port (by decide)⟩

@[simp] theorem frameSpoiled_keeps (rx : Reception) (s : State) :
    (frameSpoiled rx s).pending = s.pending ∧ (frameSpoiled rx s).clock = s.clock
      ∧ (frameSpoiled rx s).station = s.station ∧ (frameSpoiled rx s).temps = s.temps
      ∧ (frameSpoiled rx s).corr = s.corr ∧ (frameSpoiled rx s).points = s.points
      ∧ (frameSpoiled rx s).port = s.port := by
  have h := sameBut_frameSpoiled rx s
  exact ⟨h .pending (by decide), h .clock (by decide), h .station (by decide), h .temps (by decide),
    h .corr (by decide), h .points (by decide), h .port (by decide)⟩

@[simp] theorem duplicateFrame_keeps (k : FrameKind) (s : State) :
    (duplicateFrame k s).pending = s.pending ∧ (duplicateFrame k s).clock = s.clock
      ∧ (duplicateFrame k s).station = s.station ∧ (duplicateFrame k s).temps = s.temps
      ∧ (duplicateFrame k s).corr = s.corr ∧ (duplicateFrame k s).points = s.points
      ∧ (duplicateFrame k s).port = s.port := by
  have h := sameBut_duplicateFrame k s
  exact ⟨h .pending (by decide), h .clock (by decide), h .station (by decide), h .temps (by decide),
    h .corr (by decide), h .points (by decide), h .port (by decide)⟩

@[simp] theorem deliver_keeps (s : State) :
    (deliver s).pending = s.pending ∧ (deliver s).clock = s.clock ∧ (deliver s).station = s.station
      ∧ (deliver s).axes = s.axes ∧ (deliver s).motion = s.motion ∧ (deliver s).zone = s.zone
      ∧ (deliver s).temps = s.temps ∧ (deliver s).corr = s.corr ∧ (deliver s).points = s.points
      ∧ (deliver s).port = s.port ∧ (deliver s).events = s.events := by
  have h := sameBut_deliver s
  exact ⟨h .pending (by decide), h .clock (by decide), h .station (by decide), h .axes (by decide),
    h .motion (by decide), h .zone (by decide), h .temps (by decide), h .corr (by decide),
    h .points (by decide), h .port (by decide), h .events (by decide)⟩

@[simp] theorem takeClaim_keeps (p : Station) (n : Byte) (cs : CellSet) (s : State) :
    (takeClaim p n cs s).pending = s.pending ∧ (takeClaim p n cs s).clock = s.clock
      ∧ (takeClaim p n cs s).station = s.station ∧ (takeClaim p n cs s).corr = s.corr
      ∧ (takeClaim p n cs s).points = s.points ∧ (takeClaim p n cs s).port = s.port := by
  have h := sameBut_takeClaim p n cs s
  exact ⟨h .pending (by decide), h .clock (by decide), h .station (by decide), h .corr (by decide),
    h .points (by decide), h .port (by decide)⟩

@[simp] theorem endWindow_keeps (p : Station) (n : Byte) (s : State) :
    (endWindow p n s).pending = s.pending ∧ (endWindow p n s).station = s.station
      ∧ (endWindow p n s).temps = s.temps ∧ (endWindow p n s).corr = s.corr
      ∧ (endWindow p n s).points = s.points ∧ (endWindow p n s).port = s.port := by
  have h := sameBut_endWindow p n s
  exact ⟨h .pending (by decide), h .station (by decide), h .temps (by decide), h .corr (by decide),
    h .points (by decide), h .port (by decide)⟩

@[simp] theorem takeObject_keeps (sender target : Station) (n : Byte) (cs : CellSet) (s : State) :
    (takeObject sender target n cs s).pending = s.pending
      ∧ (takeObject sender target n cs s).clock = s.clock
      ∧ (takeObject sender target n cs s).station = s.station
      ∧ (takeObject sender target n cs s).corr = s.corr
      ∧ (takeObject sender target n cs s).points = s.points
      ∧ (takeObject sender target n cs s).port = s.port := by
  have h := sameBut_takeObject sender target n cs s
  exact ⟨h .pending (by decide), h .clock (by decide), h .station (by decide), h .corr (by decide),
    h .points (by decide), h .port (by decide)⟩

@[simp] theorem takeWait_keeps (p : Station) (cs : CellSet) (s : State) :
    (takeWait p cs s).pending = s.pending ∧ (takeWait p cs s).clock = s.clock
      ∧ (takeWait p cs s).station = s.station ∧ (takeWait p cs s).axes = s.axes
      ∧ (takeWait p cs s).motion = s.motion ∧ (takeWait p cs s).probes = s.probes
      ∧ (takeWait p cs s).corr = s.corr ∧ (takeWait p cs s).points = s.points
      ∧ (takeWait p cs s).port = s.port ∧ (takeWait p cs s).events = s.events := by
  have h := sameBut_takeWait p cs s
  exact ⟨h .pending (by decide), h .clock (by decide), h .station (by decide), h .axes (by decide),
    h .motion (by decide), h .probes (by decide), h .corr (by decide), h .points (by decide),
    h .port (by decide), h .events (by decide)⟩

@[simp] theorem retryRoom_keeps (s : State) :
    (retryRoom s).pending = s.pending ∧ (retryRoom s).clock = s.clock ∧ (retryRoom s).station = s.station
      ∧ (retryRoom s).temps = s.temps ∧ (retryRoom s).corr = s.corr ∧ (retryRoom s).points = s.points
      ∧ (retryRoom s).port = s.port := by
  have h := sameBut_retryRoom s
  exact ⟨h .pending (by decide), h .clock (by decide), h .station (by decide), h .temps (by decide),
    h .corr (by decide), h .points (by decide), h .port (by decide)⟩

@[simp] theorem waitTimeout_keeps (s : State) :
    (waitTimeout s).pending = s.pending ∧ (waitTimeout s).station = s.station
      ∧ (waitTimeout s).axes = s.axes ∧ (waitTimeout s).motion = s.motion ∧ (waitTimeout s).link = s.link
      ∧ (waitTimeout s).peers = s.peers ∧ (waitTimeout s).temps = s.temps
      ∧ (waitTimeout s).probes = s.probes ∧ (waitTimeout s).corr = s.corr
      ∧ (waitTimeout s).points = s.points ∧ (waitTimeout s).port = s.port := by
  have h := sameBut_waitTimeout s
  exact ⟨h .pending (by decide), h .station (by decide), h .axes (by decide), h .motion (by decide),
    h .link (by decide), h .peers (by decide), h .temps (by decide), h .probes (by decide),
    h .corr (by decide), h .points (by decide), h .port (by decide)⟩

@[simp] theorem overstay_keeps (c : Cell) (s : State) :
    (overstay c s).pending = s.pending ∧ (overstay c s).station = s.station ∧ (overstay c s).axes = s.axes
      ∧ (overstay c s).motion = s.motion ∧ (overstay c s).link = s.link ∧ (overstay c s).peers = s.peers
      ∧ (overstay c s).temps = s.temps ∧ (overstay c s).probes = s.probes ∧ (overstay c s).corr = s.corr
      ∧ (overstay c s).points = s.points ∧ (overstay c s).port = s.port := by
  have h := sameBut_overstay c s
  exact ⟨h .pending (by decide), h .station (by decide), h .axes (by decide), h .motion (by decide),
    h .link (by decide), h .peers (by decide), h .temps (by decide), h .probes (by decide),
    h .corr (by decide), h .points (by decide), h .port (by decide)⟩

@[simp] theorem takeRelease_keeps (p : Station) (cs : CellSet) (s : State) :
    (takeRelease p cs s).pending = s.pending ∧ (takeRelease p cs s).clock = s.clock
      ∧ (takeRelease p cs s).station = s.station ∧ (takeRelease p cs s).corr = s.corr
      ∧ (takeRelease p cs s).points = s.points ∧ (takeRelease p cs s).port = s.port := by
  have h := sameBut_takeRelease p cs s
  exact ⟨h .pending (by decide), h .clock (by decide), h .station (by decide), h .corr (by decide),
    h .points (by decide), h .port (by decide)⟩

@[simp] theorem deferralExpiry_keeps (c : Cell) (s : State) :
    (deferralExpiry c s).pending = s.pending ∧ (deferralExpiry c s).station = s.station
      ∧ (deferralExpiry c s).temps = s.temps ∧ (deferralExpiry c s).corr = s.corr
      ∧ (deferralExpiry c s).points = s.points ∧ (deferralExpiry c s).port = s.port := by
  have h := sameBut_deferralExpiry c s
  exact ⟨h .pending (by decide), h .station (by decide), h .temps (by decide), h .corr (by decide),
    h .points (by decide), h .port (by decide)⟩

@[simp] theorem takePresence_keeps (p : Station) (r : Report) (s : State) :
    (takePresence p r s).pending = s.pending ∧ (takePresence p r s).clock = s.clock
      ∧ (takePresence p r s).station = s.station ∧ (takePresence p r s).corr = s.corr
      ∧ (takePresence p r s).points = s.points ∧ (takePresence p r s).port = s.port := by
  have h := sameBut_takePresence p r s
  exact ⟨h .pending (by decide), h .clock (by decide), h .station (by decide), h .corr (by decide),
    h .points (by decide), h .port (by decide)⟩

@[simp] theorem losePeer_keeps (p : Station) (s : State) :
    (losePeer p s).pending = s.pending ∧ (losePeer p s).station = s.station ∧ (losePeer p s).corr = s.corr
      ∧ (losePeer p s).points = s.points ∧ (losePeer p s).port = s.port := by
  have h := sameBut_losePeer p s
  exact ⟨h .pending (by decide), h .station (by decide), h .corr (by decide), h .points (by decide),
    h .port (by decide)⟩

@[simp] theorem takeRackNote_keeps (p : Station) (k : SlotIx) (c : Ident) (s : State) :
    (takeRackNote p k c s).pending = s.pending ∧ (takeRackNote p k c s).clock = s.clock
      ∧ (takeRackNote p k c s).station = s.station ∧ (takeRackNote p k c s).axes = s.axes
      ∧ (takeRackNote p k c s).motion = s.motion ∧ (takeRackNote p k c s).corr = s.corr
      ∧ (takeRackNote p k c s).points = s.points ∧ (takeRackNote p k c s).port = s.port := by
  have h := sameBut_takeRackNote p k c s
  exact ⟨h .pending (by decide), h .clock (by decide), h .station (by decide), h .axes (by decide),
    h .motion (by decide), h .corr (by decide), h .points (by decide), h .port (by decide)⟩

@[simp] theorem takeSampleCall_keeps (p : Station) (v : Conversions) (order : List Chan) (s : State) :
    (takeSampleCall p v order s).pending = s.pending ∧ (takeSampleCall p v order s).clock = s.clock
      ∧ (takeSampleCall p v order s).station = s.station ∧ (takeSampleCall p v order s).axes = s.axes
      ∧ (takeSampleCall p v order s).motion = s.motion ∧ (takeSampleCall p v order s).probes = s.probes
      ∧ (takeSampleCall p v order s).corr = s.corr ∧ (takeSampleCall p v order s).points = s.points
      ∧ (takeSampleCall p v order s).port = s.port := by
  have h := sameBut_takeSampleCall p v order s
  exact ⟨h .pending (by decide), h .clock (by decide), h .station (by decide), h .axes (by decide),
    h .motion (by decide), h .probes (by decide), h .corr (by decide), h .points (by decide),
    h .port (by decide)⟩

@[simp] theorem endPresencePeriod_keeps (s : State) :
    (endPresencePeriod s).pending = s.pending ∧ (endPresencePeriod s).station = s.station
      ∧ (endPresencePeriod s).axes = s.axes ∧ (endPresencePeriod s).motion = s.motion
      ∧ (endPresencePeriod s).zone = s.zone ∧ (endPresencePeriod s).temps = s.temps
      ∧ (endPresencePeriod s).probes = s.probes ∧ (endPresencePeriod s).corr = s.corr
      ∧ (endPresencePeriod s).points = s.points ∧ (endPresencePeriod s).port = s.port := by
  have h := sameBut_endPresencePeriod s
  exact ⟨h .pending (by decide), h .station (by decide), h .axes (by decide), h .motion (by decide),
    h .zone (by decide), h .temps (by decide), h .probes (by decide), h .corr (by decide),
    h .points (by decide), h .port (by decide)⟩

@[simp] theorem endListening_keeps (s : State) :
    (endListening s).pending = s.pending ∧ (endListening s).temps = s.temps ∧ (endListening s).corr = s.corr
      ∧ (endListening s).points = s.points ∧ (endListening s).port = s.port := by
  have h := sameBut_endListening s
  exact ⟨h .pending (by decide), h .temps (by decide), h .corr (by decide), h .points (by decide),
    h .port (by decide)⟩

@[simp] theorem seatTimeout_keeps (waiting leaving : Phase) (latchOpen : Bool) (s : State) :
    (seatTimeout waiting leaving latchOpen s).pending = s.pending
      ∧ (seatTimeout waiting leaving latchOpen s).station = s.station
      ∧ (seatTimeout waiting leaving latchOpen s).temps = s.temps
      ∧ (seatTimeout waiting leaving latchOpen s).corr = s.corr
      ∧ (seatTimeout waiting leaving latchOpen s).points = s.points
      ∧ (seatTimeout waiting leaving latchOpen s).port = s.port := by
  have h := sameBut_seatTimeout waiting leaving latchOpen s
  exact ⟨h .pending (by decide), h .station (by decide), h .temps (by decide), h .corr (by decide),
    h .points (by decide), h .port (by decide)⟩

@[simp] theorem takeAnswer_keeps (high low check : Byte) (s : State) :
    (takeAnswer high low check s).pending = s.pending ∧ (takeAnswer high low check s).clock = s.clock
      ∧ (takeAnswer high low check s).station = s.station ∧ (takeAnswer high low check s).temps = s.temps
      ∧ (takeAnswer high low check s).corr = s.corr ∧ (takeAnswer high low check s).points = s.points
      ∧ (takeAnswer high low check s).port = s.port := by
  have h := sameBut_takeAnswer high low check s
  exact ⟨h .pending (by decide), h .clock (by decide), h .station (by decide), h .temps (by decide),
    h .corr (by decide), h .points (by decide), h .port (by decide)⟩

@[simp] theorem attemptTimeout_keeps (s : State) :
    (attemptTimeout s).pending = s.pending ∧ (attemptTimeout s).station = s.station
      ∧ (attemptTimeout s).temps = s.temps ∧ (attemptTimeout s).corr = s.corr
      ∧ (attemptTimeout s).points = s.points ∧ (attemptTimeout s).port = s.port := by
  have h := sameBut_attemptTimeout s
  exact ⟨h .pending (by decide), h .station (by decide), h .temps (by decide), h .corr (by decide),
    h .points (by decide), h .port (by decide)⟩

@[simp] theorem lineIdle_keeps (s : State) :
    (lineIdle s).pending = s.pending ∧ (lineIdle s).clock = s.clock ∧ (lineIdle s).station = s.station
      ∧ (lineIdle s).axes = s.axes ∧ (lineIdle s).motion = s.motion ∧ (lineIdle s).zone = s.zone
      ∧ (lineIdle s).peers = s.peers ∧ (lineIdle s).temps = s.temps ∧ (lineIdle s).probes = s.probes
      ∧ (lineIdle s).corr = s.corr ∧ (lineIdle s).points = s.points ∧ (lineIdle s).port = s.port
      ∧ (lineIdle s).events = s.events := by
  have h := sameBut_lineIdle s
  exact ⟨h .pending (by decide), h .clock (by decide), h .station (by decide), h .axes (by decide),
    h .motion (by decide), h .zone (by decide), h .peers (by decide), h .temps (by decide),
    h .probes (by decide), h .corr (by decide), h .points (by decide), h .port (by decide),
    h .events (by decide)⟩

@[simp] theorem driverFault_keeps (s : State) :
    (driverFault s).pending = s.pending ∧ (driverFault s).clock = s.clock
      ∧ (driverFault s).station = s.station ∧ (driverFault s).temps = s.temps
      ∧ (driverFault s).corr = s.corr ∧ (driverFault s).points = s.points ∧ (driverFault s).port = s.port := by
  have h := sameBut_driverFault s
  exact ⟨h .pending (by decide), h .clock (by decide), h .station (by decide), h .temps (by decide),
    h .corr (by decide), h .points (by decide), h .port (by decide)⟩

@[simp] theorem takeScaleCount_keeps (a : Axis) (forward : Bool) (s : State) :
    (takeScaleCount a forward s).pending = s.pending ∧ (takeScaleCount a forward s).clock = s.clock
      ∧ (takeScaleCount a forward s).station = s.station ∧ (takeScaleCount a forward s).temps = s.temps
      ∧ (takeScaleCount a forward s).corr = s.corr ∧ (takeScaleCount a forward s).points = s.points
      ∧ (takeScaleCount a forward s).port = s.port := by
  have h := sameBut_takeScaleCount a forward s
  exact ⟨h .pending (by decide), h .clock (by decide), h .station (by decide), h .temps (by decide),
    h .corr (by decide), h .points (by decide), h .port (by decide)⟩

@[simp] theorem sampleTimer_keeps (v : Conversions) (order : List Chan) (s : State) :
    (sampleTimer v order s).pending = s.pending ∧ (sampleTimer v order s).station = s.station
      ∧ (sampleTimer v order s).axes = s.axes ∧ (sampleTimer v order s).motion = s.motion
      ∧ (sampleTimer v order s).zone = s.zone ∧ (sampleTimer v order s).link = s.link
      ∧ (sampleTimer v order s).peers = s.peers ∧ (sampleTimer v order s).probes = s.probes
      ∧ (sampleTimer v order s).corr = s.corr ∧ (sampleTimer v order s).points = s.points
      ∧ (sampleTimer v order s).port = s.port := by
  simp [sampleTimer]

/-! ## The fields -/

@[simp] theorem checkFailed_leaves (bytes : List Byte) (midByte : Bool) (s : State) :
    (checkFailed bytes midByte s).port.shiftOut = s.port.shiftOut
      ∧ (checkFailed bytes midByte s).events.enable = s.events.enable
      ∧ (checkFailed bytes midByte s).events.releaseHold = s.events.releaseHold := by
  unfold checkFailed
  refine ⟨?_, ?_, ?_⟩ <;> (repeat' split) <;> simp

@[simp] theorem shiftOut_leaves (s : State) :
    (shiftOut s).port.reply = s.port.reply := by
  unfold shiftOut
  (repeat' split) <;> simp

@[simp] theorem configure_leaves (data : List Byte) (s : State) :
    (configure data s).station.number = s.station.number
      ∧ (configure data s).station.state = s.station.state ∧ (configure data s).temps.datum = s.temps.datum
      ∧ (configure data s).temps.partCoeff = s.temps.partCoeff
      ∧ (configure data s).temps.sampleDue = s.temps.sampleDue
      ∧ (configure data s).port.shiftOut = s.port.shiftOut := by
  unfold configure
  refine ⟨?_, ?_, ?_, ?_, ?_, ?_⟩ <;> (repeat' split) <;> simp

@[simp] theorem start_leaves (data : List Byte) (s : State) :
    (start data s).station.number = s.station.number ∧ (start data s).station.config = s.station.config
      ∧ (start data s).axes.retracted = s.axes.retracted ∧ (start data s).zone.claim = s.zone.claim
      ∧ (start data s).zone.nextNumber = s.zone.nextNumber ∧ (start data s).zone.windows = s.zone.windows
      ∧ (start data s).zone.kept = s.zone.kept ∧ (start data s).zone.heldBack = s.zone.heldBack
      ∧ (start data s).zone.retryAwaited = s.zone.retryAwaited
      ∧ (start data s).peers.entries = s.peers.entries ∧ (start data s).probes.library = s.probes.library
      ∧ (start data s).probes.live = s.probes.live
      ∧ (start data s).probes.pendingBank = s.probes.pendingBank
      ∧ (start data s).probes.current = s.probes.current ∧ (start data s).probes.slots = s.probes.slots
      ∧ (start data s).probes.seated = s.probes.seated
      ∧ (start data s).probes.latchOpen = s.probes.latchOpen ∧ (start data s).probes.read = s.probes.read
      ∧ (start data s).probes.latch = s.probes.latch ∧ (start data s).port.shiftOut = s.port.shiftOut
      ∧ (start data s).events.enable = s.events.enable
      ∧ (start data s).events.releaseHold = s.events.releaseHold := by
  unfold start
  refine ⟨?_, ?_, ?_, ?_, ?_, ?_, ?_, ?_, ?_, ?_, ?_, ?_, ?_, ?_, ?_, ?_, ?_, ?_, ?_, ?_, ?_, ?_⟩ <;> (repeat' split) <;> simp

@[simp] theorem start_leaves_axis (data : List Byte) (s : State) (ax : Axis) :
    ((start data s).axes.chan.get ax).scale = (s.axes.chan.get ax).scale
      ∧ ((start data s).axes.chan.get ax).referenced = (s.axes.chan.get ax).referenced
      ∧ ((start data s).axes.chan.get ax).lower = (s.axes.chan.get ax).lower
      ∧ ((start data s).axes.chan.get ax).upper = (s.axes.chan.get ax).upper
      ∧ ((start data s).axes.chan.get ax).ready = (s.axes.chan.get ax).ready := by
  unfold start
  refine ⟨?_, ?_, ?_, ?_, ?_⟩ <;> (repeat' split) <;> simp

@[simp] theorem resetLink_leaves (data : List Byte) (s : State) :
    (resetLink data s).temps.channels = s.temps.channels ∧ (resetLink data s).temps.datum = s.temps.datum
      ∧ (resetLink data s).temps.partCoeff = s.temps.partCoeff
      ∧ (resetLink data s).temps.sampleDue = s.temps.sampleDue
      ∧ (resetLink data s).probes.library = s.probes.library
      ∧ (resetLink data s).probes.live = s.probes.live
      ∧ (resetLink data s).probes.pendingBank = s.probes.pendingBank
      ∧ (resetLink data s).probes.current = s.probes.current
      ∧ (resetLink data s).probes.seated = s.probes.seated
      ∧ (resetLink data s).probes.latchOpen = s.probes.latchOpen
      ∧ (resetLink data s).probes.read = s.probes.read ∧ (resetLink data s).probes.change = s.probes.change
      ∧ (resetLink data s).probes.latch = s.probes.latch
      ∧ (resetLink data s).port.shiftOut = s.port.shiftOut := by
  unfold resetLink withLength resetLinkEffect
  refine ⟨?_, ?_, ?_, ?_, ?_, ?_, ?_, ?_, ?_, ?_, ?_, ?_, ?_, ?_⟩ <;> (repeat' split) <;> simp

@[simp] theorem queueMove_leaves (data : List Byte) (s : State) :
    (queueMove data s).axes.retracted = s.axes.retracted
      ∧ (queueMove data s).motion.stopPending = s.motion.stopPending
      ∧ (queueMove data s).motion.reference = s.motion.reference
      ∧ (queueMove data s).zone.windows = s.zone.windows ∧ (queueMove data s).link.state = s.link.state
      ∧ (queueMove data s).link.run = s.link.run ∧ (queueMove data s).link.waitIdle = s.link.waitIdle
      ∧ (queueMove data s).link.lineOut = s.link.lineOut
      ∧ (queueMove data s).link.listeningDue = s.link.listeningDue
      ∧ (queueMove data s).peers.entries = s.peers.entries
      ∧ (queueMove data s).probes.library = s.probes.library
      ∧ (queueMove data s).probes.current = s.probes.current
      ∧ (queueMove data s).probes.slots = s.probes.slots
      ∧ (queueMove data s).probes.seated = s.probes.seated
      ∧ (queueMove data s).probes.latchOpen = s.probes.latchOpen
      ∧ (queueMove data s).probes.read = s.probes.read ∧ (queueMove data s).probes.change = s.probes.change
      ∧ (queueMove data s).probes.latch = s.probes.latch
      ∧ (queueMove data s).port.shiftOut = s.port.shiftOut
      ∧ (queueMove data s).events.enable = s.events.enable
      ∧ (queueMove data s).events.releaseHold = s.events.releaseHold := by
  unfold queueMove withLength
  dsimp only
  refine ⟨?_, ?_, ?_, ?_, ?_, ?_, ?_, ?_, ?_, ?_, ?_, ?_, ?_, ?_, ?_, ?_, ?_, ?_, ?_, ?_, ?_⟩ <;> (repeat' split) <;> simp

@[simp] theorem queueMove_leaves_axis (data : List Byte) (s : State) (ax : Axis) :
    ((queueMove data s).axes.chan.get ax).scale = (s.axes.chan.get ax).scale
      ∧ ((queueMove data s).axes.chan.get ax).referenced = (s.axes.chan.get ax).referenced
      ∧ ((queueMove data s).axes.chan.get ax).setpoint = (s.axes.chan.get ax).setpoint
      ∧ ((queueMove data s).axes.chan.get ax).lower = (s.axes.chan.get ax).lower
      ∧ ((queueMove data s).axes.chan.get ax).upper = (s.axes.chan.get ax).upper
      ∧ ((queueMove data s).axes.chan.get ax).ready = (s.axes.chan.get ax).ready
      ∧ ((queueMove data s).axes.chan.get ax).enable = (s.axes.chan.get ax).enable := by
  unfold queueMove withLength
  dsimp only
  refine ⟨?_, ?_, ?_, ?_, ?_, ?_, ?_⟩ <;> (repeat' split) <;> simp

@[simp] theorem stop_leaves (data : List Byte) (s : State) :
    (stop data s).axes.retracted = s.axes.retracted ∧ (stop data s).zone.windows = s.zone.windows
      ∧ (stop data s).link.state = s.link.state ∧ (stop data s).link.run = s.link.run
      ∧ (stop data s).link.waitIdle = s.link.waitIdle ∧ (stop data s).link.lineOut = s.link.lineOut
      ∧ (stop data s).link.listeningDue = s.link.listeningDue
      ∧ (stop data s).peers.entries = s.peers.entries ∧ (stop data s).probes.library = s.probes.library
      ∧ (stop data s).probes.current = s.probes.current ∧ (stop data s).probes.slots = s.probes.slots
      ∧ (stop data s).probes.seated = s.probes.seated ∧ (stop data s).probes.latchOpen = s.probes.latchOpen
      ∧ (stop data s).probes.read = s.probes.read ∧ (stop data s).probes.latch = s.probes.latch
      ∧ (stop data s).port.shiftOut = s.port.shiftOut ∧ (stop data s).events.enable = s.events.enable
      ∧ (stop data s).events.releaseHold = s.events.releaseHold := by
  unfold stop withLength
  refine ⟨?_, ?_, ?_, ?_, ?_, ?_, ?_, ?_, ?_, ?_, ?_, ?_, ?_, ?_, ?_, ?_, ?_, ?_⟩ <;> (repeat' split) <;> simp

@[simp] theorem stop_leaves_axis (data : List Byte) (s : State) (ax : Axis) :
    ((stop data s).axes.chan.get ax).scale = (s.axes.chan.get ax).scale
      ∧ ((stop data s).axes.chan.get ax).referenced = (s.axes.chan.get ax).referenced
      ∧ ((stop data s).axes.chan.get ax).setpoint = (s.axes.chan.get ax).setpoint
      ∧ ((stop data s).axes.chan.get ax).lower = (s.axes.chan.get ax).lower
      ∧ ((stop data s).axes.chan.get ax).upper = (s.axes.chan.get ax).upper
      ∧ ((stop data s).axes.chan.get ax).ready = (s.axes.chan.get ax).ready
      ∧ ((stop data s).axes.chan.get ax).enable = (s.axes.chan.get ax).enable := by
  unfold stop withLength
  refine ⟨?_, ?_, ?_, ?_, ?_, ?_, ?_⟩ <;> (repeat' split) <;> simp

@[simp] theorem resume_leaves (data : List Byte) (s : State) :
    (resume data s).axes.retracted = s.axes.retracted
      ∧ (resume data s).motion.stopPending = s.motion.stopPending
      ∧ (resume data s).motion.reference = s.motion.reference
      ∧ (resume data s).zone.windows = s.zone.windows ∧ (resume data s).link.state = s.link.state
      ∧ (resume data s).link.run = s.link.run ∧ (resume data s).link.waitIdle = s.link.waitIdle
      ∧ (resume data s).link.lineOut = s.link.lineOut
      ∧ (resume data s).link.listeningDue = s.link.listeningDue
      ∧ (resume data s).peers.entries = s.peers.entries ∧ (resume data s).probes.library = s.probes.library
      ∧ (resume data s).probes.current = s.probes.current ∧ (resume data s).probes.slots = s.probes.slots
      ∧ (resume data s).probes.seated = s.probes.seated
      ∧ (resume data s).probes.latchOpen = s.probes.latchOpen ∧ (resume data s).probes.read = s.probes.read
      ∧ (resume data s).probes.change = s.probes.change ∧ (resume data s).probes.latch = s.probes.latch
      ∧ (resume data s).port.shiftOut = s.port.shiftOut ∧ (resume data s).events.enable = s.events.enable
      ∧ (resume data s).events.releaseHold = s.events.releaseHold := by
  unfold resume withLength
  refine ⟨?_, ?_, ?_, ?_, ?_, ?_, ?_, ?_, ?_, ?_, ?_, ?_, ?_, ?_, ?_, ?_, ?_, ?_, ?_, ?_, ?_⟩ <;> (repeat' split) <;> simp

@[simp] theorem resume_leaves_axis (data : List Byte) (s : State) (ax : Axis) :
    ((resume data s).axes.chan.get ax).scale = (s.axes.chan.get ax).scale
      ∧ ((resume data s).axes.chan.get ax).referenced = (s.axes.chan.get ax).referenced
      ∧ ((resume data s).axes.chan.get ax).setpoint = (s.axes.chan.get ax).setpoint
      ∧ ((resume data s).axes.chan.get ax).lower = (s.axes.chan.get ax).lower
      ∧ ((resume data s).axes.chan.get ax).upper = (s.axes.chan.get ax).upper
      ∧ ((resume data s).axes.chan.get ax).ready = (s.axes.chan.get ax).ready
      ∧ ((resume data s).axes.chan.get ax).enable = (s.axes.chan.get ax).enable := by
  unfold resume withLength
  refine ⟨?_, ?_, ?_, ?_, ?_, ?_, ?_⟩ <;> (repeat' split) <;> simp

@[simp] theorem flushMoves_leaves (data : List Byte) (s : State) :
    (flushMoves data s).motion.state = s.motion.state
      ∧ (flushMoves data s).motion.internal = s.motion.internal
      ∧ (flushMoves data s).motion.stopPending = s.motion.stopPending
      ∧ (flushMoves data s).motion.reference = s.motion.reference
      ∧ (flushMoves data s).motion.deferCurrent = s.motion.deferCurrent
      ∧ (flushMoves data s).zone.nextNumber = s.zone.nextNumber
      ∧ (flushMoves data s).zone.windows = s.zone.windows
      ∧ (flushMoves data s).zone.retryAwaited = s.zone.retryAwaited
      ∧ (flushMoves data s).link.state = s.link.state ∧ (flushMoves data s).link.run = s.link.run
      ∧ (flushMoves data s).link.waitIdle = s.link.waitIdle
      ∧ (flushMoves data s).link.lineOut = s.link.lineOut
      ∧ (flushMoves data s).link.listeningDue = s.link.listeningDue
      ∧ (flushMoves data s).peers.entries = s.peers.entries
      ∧ (flushMoves data s).port.shiftOut = s.port.shiftOut
      ∧ (flushMoves data s).events.enable = s.events.enable
      ∧ (flushMoves data s).events.releaseHold = s.events.releaseHold := by
  unfold flushMoves withLength
  dsimp only
  refine ⟨?_, ?_, ?_, ?_, ?_, ?_, ?_, ?_, ?_, ?_, ?_, ?_, ?_, ?_, ?_, ?_, ?_⟩ <;> (repeat' split) <;> simp

@[simp] theorem referenceAxis_leaves (data : List Byte) (s : State) :
    (referenceAxis data s).axes.retracted = s.axes.retracted
      ∧ (referenceAxis data s).motion.queue = s.motion.queue
      ∧ (referenceAxis data s).motion.internal = s.motion.internal
      ∧ (referenceAxis data s).motion.stopPending = s.motion.stopPending
      ∧ (referenceAxis data s).motion.deferCurrent = s.motion.deferCurrent
      ∧ (referenceAxis data s).motion.deferHandOver = s.motion.deferHandOver
      ∧ (referenceAxis data s).port.shiftOut = s.port.shiftOut := by
  unfold referenceAxis withLength
  refine ⟨?_, ?_, ?_, ?_, ?_, ?_, ?_⟩ <;> (repeat' split) <;> simp

@[simp] theorem referenceAxis_leaves_axis (data : List Byte) (s : State) (ax : Axis) :
    ((referenceAxis data s).axes.chan.get ax).scale = (s.axes.chan.get ax).scale
      ∧ ((referenceAxis data s).axes.chan.get ax).setpoint = (s.axes.chan.get ax).setpoint
      ∧ ((referenceAxis data s).axes.chan.get ax).lower = (s.axes.chan.get ax).lower
      ∧ ((referenceAxis data s).axes.chan.get ax).upper = (s.axes.chan.get ax).upper
      ∧ ((referenceAxis data s).axes.chan.get ax).ready = (s.axes.chan.get ax).ready
      ∧ ((referenceAxis data s).axes.chan.get ax).enable = (s.axes.chan.get ax).enable := by
  unfold referenceAxis withLength
  refine ⟨?_, ?_, ?_, ?_, ?_, ?_⟩ <;> (repeat' split) <;> simp

@[simp] theorem clearFault_leaves (data : List Byte) (s : State) :
    (clearFault data s).axes.retracted = s.axes.retracted
      ∧ (clearFault data s).motion.queue = s.motion.queue
      ∧ (clearFault data s).motion.internal = s.motion.internal
      ∧ (clearFault data s).motion.stopPending = s.motion.stopPending
      ∧ (clearFault data s).motion.reference = s.motion.reference
      ∧ (clearFault data s).motion.deferCurrent = s.motion.deferCurrent
      ∧ (clearFault data s).motion.deferHandOver = s.motion.deferHandOver
      ∧ (clearFault data s).port.shiftOut = s.port.shiftOut := by
  unfold clearFault withLength
  dsimp only
  refine ⟨?_, ?_, ?_, ?_, ?_, ?_, ?_, ?_⟩ <;> (repeat' split) <;> simp

@[simp] theorem clearFault_leaves_axis (data : List Byte) (s : State) (ax : Axis) :
    ((clearFault data s).axes.chan.get ax).scale = (s.axes.chan.get ax).scale
      ∧ ((clearFault data s).axes.chan.get ax).referenced = (s.axes.chan.get ax).referenced
      ∧ ((clearFault data s).axes.chan.get ax).lower = (s.axes.chan.get ax).lower
      ∧ ((clearFault data s).axes.chan.get ax).upper = (s.axes.chan.get ax).upper
      ∧ ((clearFault data s).axes.chan.get ax).ready = (s.axes.chan.get ax).ready := by
  unfold clearFault withLength
  dsimp only
  refine ⟨?_, ?_, ?_, ?_, ?_⟩ <;> (repeat' split) <;> simp

@[simp] theorem changeProbe_leaves (data : List Byte) (s : State) :
    (changeProbe data s).axes.retracted = s.axes.retracted
      ∧ (changeProbe data s).motion.stopPending = s.motion.stopPending
      ∧ (changeProbe data s).motion.reference = s.motion.reference
      ∧ (changeProbe data s).zone.windows = s.zone.windows ∧ (changeProbe data s).link.state = s.link.state
      ∧ (changeProbe data s).link.run = s.link.run ∧ (changeProbe data s).link.waitIdle = s.link.waitIdle
      ∧ (changeProbe data s).link.lineOut = s.link.lineOut
      ∧ (changeProbe data s).link.listeningDue = s.link.listeningDue
      ∧ (changeProbe data s).peers.entries = s.peers.entries
      ∧ (changeProbe data s).probes.library = s.probes.library
      ∧ (changeProbe data s).probes.current = s.probes.current
      ∧ (changeProbe data s).probes.slots = s.probes.slots
      ∧ (changeProbe data s).probes.seated = s.probes.seated
      ∧ (changeProbe data s).probes.latchOpen = s.probes.latchOpen
      ∧ (changeProbe data s).probes.read = s.probes.read
      ∧ (changeProbe data s).probes.latch = s.probes.latch
      ∧ (changeProbe data s).port.shiftOut = s.port.shiftOut
      ∧ (changeProbe data s).events.enable = s.events.enable
      ∧ (changeProbe data s).events.releaseHold = s.events.releaseHold := by
  unfold changeProbe withLength
  dsimp only
  refine ⟨?_, ?_, ?_, ?_, ?_, ?_, ?_, ?_, ?_, ?_, ?_, ?_, ?_, ?_, ?_, ?_, ?_, ?_, ?_, ?_⟩ <;> (repeat' split) <;> simp

@[simp] theorem changeProbe_leaves_axis (data : List Byte) (s : State) (ax : Axis) :
    ((changeProbe data s).axes.chan.get ax).scale = (s.axes.chan.get ax).scale
      ∧ ((changeProbe data s).axes.chan.get ax).referenced = (s.axes.chan.get ax).referenced
      ∧ ((changeProbe data s).axes.chan.get ax).setpoint = (s.axes.chan.get ax).setpoint
      ∧ ((changeProbe data s).axes.chan.get ax).lower = (s.axes.chan.get ax).lower
      ∧ ((changeProbe data s).axes.chan.get ax).upper = (s.axes.chan.get ax).upper
      ∧ ((changeProbe data s).axes.chan.get ax).ready = (s.axes.chan.get ax).ready
      ∧ ((changeProbe data s).axes.chan.get ax).enable = (s.axes.chan.get ax).enable := by
  unfold changeProbe withLength
  dsimp only
  refine ⟨?_, ?_, ?_, ?_, ?_, ?_, ?_⟩ <;> (repeat' split) <;> simp

@[simp] theorem abortCommand_leaves (data : List Byte) (s : State) :
    (abortCommand data s).axes.retracted = s.axes.retracted
      ∧ (abortCommand data s).motion.reference = s.motion.reference
      ∧ (abortCommand data s).zone.windows = s.zone.windows
      ∧ (abortCommand data s).link.state = s.link.state ∧ (abortCommand data s).link.run = s.link.run
      ∧ (abortCommand data s).link.waitIdle = s.link.waitIdle
      ∧ (abortCommand data s).link.lineOut = s.link.lineOut
      ∧ (abortCommand data s).link.listeningDue = s.link.listeningDue
      ∧ (abortCommand data s).peers.entries = s.peers.entries
      ∧ (abortCommand data s).probes.library = s.probes.library
      ∧ (abortCommand data s).probes.current = s.probes.current
      ∧ (abortCommand data s).probes.slots = s.probes.slots
      ∧ (abortCommand data s).probes.seated = s.probes.seated
      ∧ (abortCommand data s).probes.latchOpen = s.probes.latchOpen
      ∧ (abortCommand data s).probes.read = s.probes.read
      ∧ (abortCommand data s).probes.latch = s.probes.latch
      ∧ (abortCommand data s).port.shiftOut = s.port.shiftOut
      ∧ (abortCommand data s).events.enable = s.events.enable
      ∧ (abortCommand data s).events.releaseHold = s.events.releaseHold := by
  unfold abortCommand withLength
  refine ⟨?_, ?_, ?_, ?_, ?_, ?_, ?_, ?_, ?_, ?_, ?_, ?_, ?_, ?_, ?_, ?_, ?_, ?_, ?_⟩ <;> (repeat' split) <;> simp

@[simp] theorem abortCommand_leaves_axis (data : List Byte) (s : State) (ax : Axis) :
    ((abortCommand data s).axes.chan.get ax).scale = (s.axes.chan.get ax).scale
      ∧ ((abortCommand data s).axes.chan.get ax).referenced = (s.axes.chan.get ax).referenced
      ∧ ((abortCommand data s).axes.chan.get ax).setpoint = (s.axes.chan.get ax).setpoint
      ∧ ((abortCommand data s).axes.chan.get ax).lower = (s.axes.chan.get ax).lower
      ∧ ((abortCommand data s).axes.chan.get ax).upper = (s.axes.chan.get ax).upper
      ∧ ((abortCommand data s).axes.chan.get ax).ready = (s.axes.chan.get ax).ready
      ∧ ((abortCommand data s).axes.chan.get ax).enable = (s.axes.chan.get ax).enable := by
  unfold abortCommand withLength
  refine ⟨?_, ?_, ?_, ?_, ?_, ?_, ?_⟩ <;> (repeat' split) <;> simp

@[simp] theorem identifyProbe_leaves (data : List Byte) (s : State) :
    (identifyProbe data s).probes.library = s.probes.library
      ∧ (identifyProbe data s).probes.live = s.probes.live
      ∧ (identifyProbe data s).probes.pendingBank = s.probes.pendingBank
      ∧ (identifyProbe data s).probes.slots = s.probes.slots
      ∧ (identifyProbe data s).probes.seated = s.probes.seated
      ∧ (identifyProbe data s).probes.latchOpen = s.probes.latchOpen
      ∧ (identifyProbe data s).probes.change = s.probes.change
      ∧ (identifyProbe data s).probes.latch = s.probes.latch
      ∧ (identifyProbe data s).port.shiftOut = s.port.shiftOut := by
  unfold identifyProbe withLength
  refine ⟨?_, ?_, ?_, ?_, ?_, ?_, ?_, ?_, ?_⟩ <;> (repeat' split) <;> simp

@[simp] theorem writeProbeSet_leaves (data : List Byte) (s : State) :
    (writeProbeSet data s).link.state = s.link.state ∧ (writeProbeSet data s).link.run = s.link.run
      ∧ (writeProbeSet data s).link.waitIdle = s.link.waitIdle
      ∧ (writeProbeSet data s).link.lineOut = s.link.lineOut
      ∧ (writeProbeSet data s).link.listeningDue = s.link.listeningDue
      ∧ (writeProbeSet data s).probes.live = s.probes.live
      ∧ (writeProbeSet data s).probes.pendingBank = s.probes.pendingBank
      ∧ (writeProbeSet data s).probes.seated = s.probes.seated
      ∧ (writeProbeSet data s).probes.latchOpen = s.probes.latchOpen
      ∧ (writeProbeSet data s).probes.read = s.probes.read
      ∧ (writeProbeSet data s).probes.change = s.probes.change
      ∧ (writeProbeSet data s).probes.latch = s.probes.latch
      ∧ (writeProbeSet data s).port.shiftOut = s.port.shiftOut
      ∧ (writeProbeSet data s).events.enable = s.events.enable
      ∧ (writeProbeSet data s).events.releaseHold = s.events.releaseHold := by
  unfold writeProbeSet withLength
  dsimp only
  refine ⟨?_, ?_, ?_, ?_, ?_, ?_, ?_, ?_, ?_, ?_, ?_, ?_, ?_, ?_, ?_⟩ <;> (repeat' split) <;> simp

@[simp] theorem deleteProbe_leaves (data : List Byte) (s : State) :
    (deleteProbe data s).probes.live = s.probes.live
      ∧ (deleteProbe data s).probes.pendingBank = s.probes.pendingBank
      ∧ (deleteProbe data s).probes.current = s.probes.current
      ∧ (deleteProbe data s).probes.slots = s.probes.slots
      ∧ (deleteProbe data s).probes.seated = s.probes.seated
      ∧ (deleteProbe data s).probes.latchOpen = s.probes.latchOpen
      ∧ (deleteProbe data s).probes.read = s.probes.read
      ∧ (deleteProbe data s).probes.change = s.probes.change
      ∧ (deleteProbe data s).probes.latch = s.probes.latch
      ∧ (deleteProbe data s).port.shiftOut = s.port.shiftOut := by
  unfold deleteProbe withLength
  dsimp only
  refine ⟨?_, ?_, ?_, ?_, ?_, ?_, ?_, ?_, ?_, ?_⟩ <;> (repeat' split) <;> simp

@[simp] theorem selectBank_leaves (data : List Byte) (s : State) :
    (selectBank data s).probes.library = s.probes.library
      ∧ (selectBank data s).probes.current = s.probes.current
      ∧ (selectBank data s).probes.slots = s.probes.slots
      ∧ (selectBank data s).probes.seated = s.probes.seated
      ∧ (selectBank data s).probes.latchOpen = s.probes.latchOpen
      ∧ (selectBank data s).probes.read = s.probes.read
      ∧ (selectBank data s).probes.change = s.probes.change
      ∧ (selectBank data s).probes.latch = s.probes.latch
      ∧ (selectBank data s).port.shiftOut = s.port.shiftOut := by
  unfold selectBank withLength
  dsimp only
  refine ⟨?_, ?_, ?_, ?_, ?_, ?_, ?_, ?_, ?_⟩ <;> (repeat' split) <;> simp

@[simp] theorem setRackSlot_leaves (data : List Byte) (s : State) :
    (setRackSlot data s).link.state = s.link.state ∧ (setRackSlot data s).link.run = s.link.run
      ∧ (setRackSlot data s).link.waitIdle = s.link.waitIdle
      ∧ (setRackSlot data s).link.lineOut = s.link.lineOut
      ∧ (setRackSlot data s).link.listeningDue = s.link.listeningDue
      ∧ (setRackSlot data s).probes.library = s.probes.library
      ∧ (setRackSlot data s).probes.live = s.probes.live
      ∧ (setRackSlot data s).probes.pendingBank = s.probes.pendingBank
      ∧ (setRackSlot data s).probes.current = s.probes.current
      ∧ (setRackSlot data s).probes.seated = s.probes.seated
      ∧ (setRackSlot data s).probes.latchOpen = s.probes.latchOpen
      ∧ (setRackSlot data s).probes.read = s.probes.read
      ∧ (setRackSlot data s).probes.change = s.probes.change
      ∧ (setRackSlot data s).probes.latch = s.probes.latch
      ∧ (setRackSlot data s).port.shiftOut = s.port.shiftOut
      ∧ (setRackSlot data s).events.enable = s.events.enable
      ∧ (setRackSlot data s).events.releaseHold = s.events.releaseHold := by
  unfold setRackSlot withLength
  dsimp only
  refine ⟨?_, ?_, ?_, ?_, ?_, ?_, ?_, ?_, ?_, ?_, ?_, ?_, ?_, ?_, ?_, ?_, ?_⟩ <;> (repeat' split) <;> simp

@[simp] theorem setFixedTemperature_leaves (data : List Byte) (s : State) :
    (setFixedTemperature data s).temps.channels = s.temps.channels
      ∧ (setFixedTemperature data s).temps.datum = s.temps.datum
      ∧ (setFixedTemperature data s).temps.partCoeff = s.temps.partCoeff
      ∧ (setFixedTemperature data s).temps.sampleDue = s.temps.sampleDue
      ∧ (setFixedTemperature data s).port.shiftOut = s.port.shiftOut := by
  unfold setFixedTemperature withLength
  dsimp only
  refine ⟨?_, ?_, ?_, ?_, ?_⟩ <;> (repeat' split) <;> simp

@[simp] theorem clearFixedTemperature_leaves (data : List Byte) (s : State) :
    (clearFixedTemperature data s).temps.channels = s.temps.channels
      ∧ (clearFixedTemperature data s).temps.datum = s.temps.datum
      ∧ (clearFixedTemperature data s).temps.partCoeff = s.temps.partCoeff
      ∧ (clearFixedTemperature data s).temps.sampleDue = s.temps.sampleDue
      ∧ (clearFixedTemperature data s).port.shiftOut = s.port.shiftOut := by
  unfold clearFixedTemperature withLength
  dsimp only
  refine ⟨?_, ?_, ?_, ?_, ?_⟩ <;> (repeat' split) <;> simp

@[simp] theorem setPart_leaves (data : List Byte) (s : State) :
    (setPart data s).temps.channels = s.temps.channels
      ∧ (setPart data s).temps.quantities = s.temps.quantities
      ∧ (setPart data s).temps.sampleDue = s.temps.sampleDue
      ∧ (setPart data s).port.shiftOut = s.port.shiftOut := by
  unfold setPart withLength
  dsimp only
  refine ⟨?_, ?_, ?_, ?_⟩ <;> (repeat' split) <;> simp

@[simp] theorem callSample_leaves (data : List Byte) (s : State) :
    (callSample data s).link.state = s.link.state ∧ (callSample data s).link.run = s.link.run
      ∧ (callSample data s).link.waitIdle = s.link.waitIdle
      ∧ (callSample data s).link.lineOut = s.link.lineOut
      ∧ (callSample data s).link.listeningDue = s.link.listeningDue
      ∧ (callSample data s).port.shiftOut = s.port.shiftOut
      ∧ (callSample data s).events.enable = s.events.enable
      ∧ (callSample data s).events.releaseHold = s.events.releaseHold := by
  unfold callSample withLength
  repeat' split
  all_goals first
    | (simp; done)
    | (rename_i h; simp [offer_keeps_of h, offer_leaves_of h])

@[simp] theorem forgetPeer_leaves (data : List Byte) (s : State) :
    (forgetPeer data s).axes.retracted = s.axes.retracted
      ∧ (forgetPeer data s).motion.stopPending = s.motion.stopPending
      ∧ (forgetPeer data s).motion.reference = s.motion.reference
      ∧ (forgetPeer data s).zone.windows = s.zone.windows ∧ (forgetPeer data s).link.state = s.link.state
      ∧ (forgetPeer data s).link.run = s.link.run ∧ (forgetPeer data s).link.waitIdle = s.link.waitIdle
      ∧ (forgetPeer data s).link.lineOut = s.link.lineOut
      ∧ (forgetPeer data s).link.listeningDue = s.link.listeningDue
      ∧ (forgetPeer data s).temps.channels = s.temps.channels
      ∧ (forgetPeer data s).temps.datum = s.temps.datum
      ∧ (forgetPeer data s).temps.partCoeff = s.temps.partCoeff
      ∧ (forgetPeer data s).temps.sampleDue = s.temps.sampleDue
      ∧ (forgetPeer data s).probes.library = s.probes.library
      ∧ (forgetPeer data s).probes.current = s.probes.current
      ∧ (forgetPeer data s).probes.slots = s.probes.slots
      ∧ (forgetPeer data s).probes.seated = s.probes.seated
      ∧ (forgetPeer data s).probes.latchOpen = s.probes.latchOpen
      ∧ (forgetPeer data s).probes.read = s.probes.read
      ∧ (forgetPeer data s).probes.change = s.probes.change
      ∧ (forgetPeer data s).probes.latch = s.probes.latch
      ∧ (forgetPeer data s).port.shiftOut = s.port.shiftOut
      ∧ (forgetPeer data s).events.enable = s.events.enable
      ∧ (forgetPeer data s).events.releaseHold = s.events.releaseHold := by
  unfold forgetPeer withLength
  refine ⟨?_, ?_, ?_, ?_, ?_, ?_, ?_, ?_, ?_, ?_, ?_, ?_, ?_, ?_, ?_, ?_, ?_, ?_, ?_, ?_, ?_, ?_, ?_, ?_⟩ <;> (repeat' split) <;> simp

@[simp] theorem forgetPeer_leaves_axis (data : List Byte) (s : State) (ax : Axis) :
    ((forgetPeer data s).axes.chan.get ax).scale = (s.axes.chan.get ax).scale
      ∧ ((forgetPeer data s).axes.chan.get ax).referenced = (s.axes.chan.get ax).referenced
      ∧ ((forgetPeer data s).axes.chan.get ax).setpoint = (s.axes.chan.get ax).setpoint
      ∧ ((forgetPeer data s).axes.chan.get ax).lower = (s.axes.chan.get ax).lower
      ∧ ((forgetPeer data s).axes.chan.get ax).upper = (s.axes.chan.get ax).upper
      ∧ ((forgetPeer data s).axes.chan.get ax).ready = (s.axes.chan.get ax).ready
      ∧ ((forgetPeer data s).axes.chan.get ax).enable = (s.axes.chan.get ax).enable := by
  unfold forgetPeer withLength
  refine ⟨?_, ?_, ?_, ?_, ?_, ?_, ?_⟩ <;> (repeat' split) <;> simp

@[simp] theorem readPoint_leaves (data : List Byte) (s : State) :
    (readPoint data s).axes.retracted = s.axes.retracted
      ∧ (readPoint data s).motion.stopPending = s.motion.stopPending
      ∧ (readPoint data s).motion.reference = s.motion.reference
      ∧ (readPoint data s).motion.deferCurrent = s.motion.deferCurrent
      ∧ (readPoint data s).motion.deferHandOver = s.motion.deferHandOver
      ∧ (readPoint data s).probes.library = s.probes.library
      ∧ (readPoint data s).probes.current = s.probes.current
      ∧ (readPoint data s).probes.slots = s.probes.slots
      ∧ (readPoint data s).probes.seated = s.probes.seated
      ∧ (readPoint data s).probes.latchOpen = s.probes.latchOpen
      ∧ (readPoint data s).probes.read = s.probes.read ∧ (readPoint data s).probes.change = s.probes.change
      ∧ (readPoint data s).probes.latch = s.probes.latch
      ∧ (readPoint data s).port.shiftOut = s.port.shiftOut
      ∧ (readPoint data s).events.enable = s.events.enable
      ∧ (readPoint data s).events.releaseHold = s.events.releaseHold := by
  unfold readPoint withLength
  refine ⟨?_, ?_, ?_, ?_, ?_, ?_, ?_, ?_, ?_, ?_, ?_, ?_, ?_, ?_, ?_, ?_⟩ <;> (repeat' split) <;> simp

@[simp] theorem readPoint_leaves_axis (data : List Byte) (s : State) (ax : Axis) :
    ((readPoint data s).axes.chan.get ax).scale = (s.axes.chan.get ax).scale
      ∧ ((readPoint data s).axes.chan.get ax).referenced = (s.axes.chan.get ax).referenced
      ∧ ((readPoint data s).axes.chan.get ax).setpoint = (s.axes.chan.get ax).setpoint
      ∧ ((readPoint data s).axes.chan.get ax).lower = (s.axes.chan.get ax).lower
      ∧ ((readPoint data s).axes.chan.get ax).upper = (s.axes.chan.get ax).upper
      ∧ ((readPoint data s).axes.chan.get ax).ready = (s.axes.chan.get ax).ready
      ∧ ((readPoint data s).axes.chan.get ax).enable = (s.axes.chan.get ax).enable := by
  unfold readPoint withLength
  refine ⟨?_, ?_, ?_, ?_, ?_, ?_, ?_⟩ <;> (repeat' split) <;> simp

@[simp] theorem peekPoint_leaves (data : List Byte) (s : State) :
    (peekPoint data s).port.shiftOut = s.port.shiftOut := by
  unfold peekPoint withLength
  (repeat' split) <;> simp

@[simp] theorem flushPoints_leaves (data : List Byte) (s : State) :
    (flushPoints data s).axes.retracted = s.axes.retracted
      ∧ (flushPoints data s).motion.stopPending = s.motion.stopPending
      ∧ (flushPoints data s).motion.reference = s.motion.reference
      ∧ (flushPoints data s).motion.deferCurrent = s.motion.deferCurrent
      ∧ (flushPoints data s).motion.deferHandOver = s.motion.deferHandOver
      ∧ (flushPoints data s).probes.library = s.probes.library
      ∧ (flushPoints data s).probes.current = s.probes.current
      ∧ (flushPoints data s).probes.slots = s.probes.slots
      ∧ (flushPoints data s).probes.seated = s.probes.seated
      ∧ (flushPoints data s).probes.latchOpen = s.probes.latchOpen
      ∧ (flushPoints data s).probes.read = s.probes.read
      ∧ (flushPoints data s).probes.change = s.probes.change
      ∧ (flushPoints data s).probes.latch = s.probes.latch
      ∧ (flushPoints data s).port.shiftOut = s.port.shiftOut
      ∧ (flushPoints data s).events.enable = s.events.enable
      ∧ (flushPoints data s).events.releaseHold = s.events.releaseHold := by
  unfold flushPoints withLength
  refine ⟨?_, ?_, ?_, ?_, ?_, ?_, ?_, ?_, ?_, ?_, ?_, ?_, ?_, ?_, ?_, ?_⟩ <;> (repeat' split) <;> simp

@[simp] theorem flushPoints_leaves_axis (data : List Byte) (s : State) (ax : Axis) :
    ((flushPoints data s).axes.chan.get ax).scale = (s.axes.chan.get ax).scale
      ∧ ((flushPoints data s).axes.chan.get ax).referenced = (s.axes.chan.get ax).referenced
      ∧ ((flushPoints data s).axes.chan.get ax).setpoint = (s.axes.chan.get ax).setpoint
      ∧ ((flushPoints data s).axes.chan.get ax).lower = (s.axes.chan.get ax).lower
      ∧ ((flushPoints data s).axes.chan.get ax).upper = (s.axes.chan.get ax).upper
      ∧ ((flushPoints data s).axes.chan.get ax).ready = (s.axes.chan.get ax).ready
      ∧ ((flushPoints data s).axes.chan.get ax).enable = (s.axes.chan.get ax).enable := by
  unfold flushPoints withLength
  refine ⟨?_, ?_, ?_, ?_, ?_, ?_, ?_⟩ <;> (repeat' split) <;> simp

@[simp] theorem readStatus_leaves (data : List Byte) (s : State) :
    (readStatus data s).port.shiftOut = s.port.shiftOut := by
  unfold readStatus withLength
  (repeat' split) <;> simp

@[simp] theorem readTemperatures_leaves (data : List Byte) (s : State) :
    (readTemperatures data s).port.shiftOut = s.port.shiftOut := by
  unfold readTemperatures withLength
  (repeat' split) <;> simp

@[simp] theorem readZoneView_leaves (data : List Byte) (s : State) :
    (readZoneView data s).port.shiftOut = s.port.shiftOut := by
  unfold readZoneView withLength
  (repeat' split) <;> simp

@[simp] theorem readRackView_leaves (data : List Byte) (s : State) :
    (readRackView data s).port.shiftOut = s.port.shiftOut := by
  unfold readRackView withLength
  (repeat' split) <;> simp

@[simp] theorem readProbe_leaves (data : List Byte) (s : State) :
    (readProbe data s).port.shiftOut = s.port.shiftOut := by
  unfold readProbe withLength
  dsimp only
  (repeat' split) <;> simp

@[simp] theorem readPeer_leaves (data : List Byte) (s : State) :
    (readPeer data s).port.shiftOut = s.port.shiftOut := by
  unfold readPeer withLength
  (repeat' split) <;> simp

@[simp] theorem readEvents_leaves (data : List Byte) (s : State) :
    (readEvents data s).port.shiftOut = s.port.shiftOut := by
  unfold readEvents withLength
  (repeat' split) <;> simp

@[simp] theorem enableEvents_leaves (data : List Byte) (s : State) :
    (enableEvents data s).port.shiftOut = s.port.shiftOut
      ∧ (enableEvents data s).events.releaseHold = s.events.releaseHold := by
  unfold enableEvents withLength
  refine ⟨?_, ?_⟩ <;> (repeat' split) <;> simp

@[simp] theorem acknowledgeEvents_leaves (data : List Byte) (s : State) :
    (acknowledgeEvents data s).port.shiftOut = s.port.shiftOut
      ∧ (acknowledgeEvents data s).events.enable = s.events.enable := by
  unfold acknowledgeEvents withLength
  dsimp only
  refine ⟨?_, ?_⟩ <;> (repeat' split) <;> simp

@[simp] theorem endReleaseHold_leaves (s : State) :
    (endReleaseHold s).events.enable = s.events.enable := by
  unfold endReleaseHold
  (repeat' split) <;> simp

@[simp] theorem motionPeriod_leaves (v : Samples) (order : List Watch) (s : State) :
    (motionPeriod v order s).zone.windows = s.zone.windows
      ∧ (motionPeriod v order s).link.state = s.link.state ∧ (motionPeriod v order s).link.run = s.link.run
      ∧ (motionPeriod v order s).link.waitIdle = s.link.waitIdle
      ∧ (motionPeriod v order s).link.lineOut = s.link.lineOut
      ∧ (motionPeriod v order s).link.listeningDue = s.link.listeningDue
      ∧ (motionPeriod v order s).peers.entries = s.peers.entries
      ∧ (motionPeriod v order s).probes.library = s.probes.library
      ∧ (motionPeriod v order s).probes.latch = s.probes.latch
      ∧ (motionPeriod v order s).events.enable = s.events.enable
      ∧ (motionPeriod v order s).events.releaseHold = s.events.releaseHold := by
  unfold motionPeriod
  refine ⟨?_, ?_, ?_, ?_, ?_, ?_, ?_, ?_, ?_, ?_, ?_⟩
  · simp
    exact (foldl_keeps (fun u : State => u.zone.windows) _ (fun t x => by simp) _ _).trans (by simp)
  · simp
    exact (foldl_keeps (fun u : State => u.link.state) _ (fun t x => by simp) _ _).trans (by simp)
  · simp
    exact (foldl_keeps (fun u : State => u.link.run) _ (fun t x => by simp) _ _).trans (by simp)
  · simp
    exact (foldl_keeps (fun u : State => u.link.waitIdle) _ (fun t x => by simp) _ _).trans (by simp)
  · simp
    exact (foldl_keeps (fun u : State => u.link.lineOut) _ (fun t x => by simp) _ _).trans (by simp)
  · simp
    exact (foldl_keeps (fun u : State => u.link.listeningDue) _ (fun t x => by simp) _ _).trans (by simp)
  · simp
    exact (foldl_keeps (fun u : State => u.peers.entries) _ (fun t x => by simp) _ _).trans (by simp)
  · simp
    exact (foldl_keeps (fun u : State => u.probes.library) _ (fun t x => by simp) _ _).trans (by simp)
  · simp
    exact (foldl_keeps (fun u : State => u.probes.latch) _ (fun t x => by simp) _ _).trans (by simp)
  · simp
    exact (foldl_keeps (fun u : State => u.events.enable) _ (fun t x => by simp) _ _).trans (by simp)
  · simp
    exact (foldl_keeps (fun u : State => u.events.releaseHold) _ (fun t x => by simp) _ _).trans (by simp)

@[simp] theorem motionPeriod_leaves_axis (v : Samples) (order : List Watch) (s : State) (ax : Axis) :
    ((motionPeriod v order s).axes.chan.get ax).scale = (s.axes.chan.get ax).scale
      ∧ ((motionPeriod v order s).axes.chan.get ax).referenced = (s.axes.chan.get ax).referenced := by
  unfold motionPeriod
  refine ⟨?_, ?_⟩
  · simp
    exact (foldl_keeps (fun u : State => u.axes.chan.get ax |>.scale) _ (fun t x => by simp) _ _).trans (by simp)
  · simp
    exact (foldl_keeps (fun u : State => u.axes.chan.get ax |>.referenced) _ (fun t x => by simp) _ _).trans (by simp)

@[simp] theorem completeSegment_leaves (s : State) :
    (completeSegment s).axes.retracted = s.axes.retracted
      ∧ (completeSegment s).motion.reference = s.motion.reference
      ∧ (completeSegment s).zone.windows = s.zone.windows ∧ (completeSegment s).link.state = s.link.state
      ∧ (completeSegment s).link.run = s.link.run ∧ (completeSegment s).link.waitIdle = s.link.waitIdle
      ∧ (completeSegment s).link.lineOut = s.link.lineOut
      ∧ (completeSegment s).link.listeningDue = s.link.listeningDue
      ∧ (completeSegment s).peers.entries = s.peers.entries
      ∧ (completeSegment s).probes.library = s.probes.library
      ∧ (completeSegment s).probes.current = s.probes.current
      ∧ (completeSegment s).probes.slots = s.probes.slots
      ∧ (completeSegment s).probes.seated = s.probes.seated
      ∧ (completeSegment s).probes.read = s.probes.read
      ∧ (completeSegment s).points.records = s.points.records
      ∧ (completeSegment s).points.counter = s.points.counter
      ∧ (completeSegment s).points.suspect = s.points.suspect
      ∧ (completeSegment s).points.overrun = s.points.overrun
      ∧ (completeSegment s).events.enable = s.events.enable
      ∧ (completeSegment s).events.releaseHold = s.events.releaseHold := by
  unfold completeSegment
  refine ⟨?_, ?_, ?_, ?_, ?_, ?_, ?_, ?_, ?_, ?_, ?_, ?_, ?_, ?_, ?_, ?_, ?_, ?_, ?_, ?_⟩ <;> (repeat' split) <;> simp

@[simp] theorem completeSegment_leaves_axis (s : State) (ax : Axis) :
    ((completeSegment s).axes.chan.get ax).scale = (s.axes.chan.get ax).scale
      ∧ ((completeSegment s).axes.chan.get ax).referenced = (s.axes.chan.get ax).referenced
      ∧ ((completeSegment s).axes.chan.get ax).setpoint = (s.axes.chan.get ax).setpoint
      ∧ ((completeSegment s).axes.chan.get ax).lower = (s.axes.chan.get ax).lower
      ∧ ((completeSegment s).axes.chan.get ax).upper = (s.axes.chan.get ax).upper
      ∧ ((completeSegment s).axes.chan.get ax).ready = (s.axes.chan.get ax).ready
      ∧ ((completeSegment s).axes.chan.get ax).enable = (s.axes.chan.get ax).enable := by
  unfold completeSegment
  refine ⟨?_, ?_, ?_, ?_, ?_, ?_, ?_⟩ <;> (repeat' split) <;> simp

@[simp] theorem positionTimeout_leaves (s : State) :
    (positionTimeout s).axes.retracted = s.axes.retracted
      ∧ (positionTimeout s).motion.deferCurrent = s.motion.deferCurrent
      ∧ (positionTimeout s).motion.deferHandOver = s.motion.deferHandOver
      ∧ (positionTimeout s).zone.cells = s.zone.cells ∧ (positionTimeout s).zone.claim = s.zone.claim
      ∧ (positionTimeout s).zone.nextNumber = s.zone.nextNumber
      ∧ (positionTimeout s).zone.windows = s.zone.windows ∧ (positionTimeout s).zone.kept = s.zone.kept
      ∧ (positionTimeout s).zone.retryAwaited = s.zone.retryAwaited
      ∧ (positionTimeout s).probes.library = s.probes.library
      ∧ (positionTimeout s).probes.current = s.probes.current
      ∧ (positionTimeout s).probes.slots = s.probes.slots
      ∧ (positionTimeout s).probes.seated = s.probes.seated
      ∧ (positionTimeout s).probes.latch = s.probes.latch
      ∧ (positionTimeout s).events.enable = s.events.enable
      ∧ (positionTimeout s).events.releaseHold = s.events.releaseHold := by
  unfold positionTimeout
  refine ⟨?_, ?_, ?_, ?_, ?_, ?_, ?_, ?_, ?_, ?_, ?_, ?_, ?_, ?_, ?_, ?_⟩ <;> (repeat' split) <;> simp

@[simp] theorem positionTimeout_leaves_axis (s : State) (ax : Axis) :
    ((positionTimeout s).axes.chan.get ax).scale = (s.axes.chan.get ax).scale
      ∧ ((positionTimeout s).axes.chan.get ax).referenced = (s.axes.chan.get ax).referenced
      ∧ ((positionTimeout s).axes.chan.get ax).lower = (s.axes.chan.get ax).lower
      ∧ ((positionTimeout s).axes.chan.get ax).upper = (s.axes.chan.get ax).upper
      ∧ ((positionTimeout s).axes.chan.get ax).ready = (s.axes.chan.get ax).ready := by
  unfold positionTimeout
  refine ⟨?_, ?_, ?_, ?_, ?_⟩ <;> (repeat' split) <;> simp

@[simp] theorem stopDecelerationEnd_leaves (s : State) :
    (stopDecelerationEnd s).axes.retracted = s.axes.retracted
      ∧ (stopDecelerationEnd s).motion.reference = s.motion.reference
      ∧ (stopDecelerationEnd s).zone.windows = s.zone.windows
      ∧ (stopDecelerationEnd s).link.state = s.link.state ∧ (stopDecelerationEnd s).link.run = s.link.run
      ∧ (stopDecelerationEnd s).link.waitIdle = s.link.waitIdle
      ∧ (stopDecelerationEnd s).link.lineOut = s.link.lineOut
      ∧ (stopDecelerationEnd s).link.listeningDue = s.link.listeningDue
      ∧ (stopDecelerationEnd s).peers.entries = s.peers.entries
      ∧ (stopDecelerationEnd s).probes.library = s.probes.library
      ∧ (stopDecelerationEnd s).probes.current = s.probes.current
      ∧ (stopDecelerationEnd s).probes.slots = s.probes.slots
      ∧ (stopDecelerationEnd s).probes.seated = s.probes.seated
      ∧ (stopDecelerationEnd s).probes.latchOpen = s.probes.latchOpen
      ∧ (stopDecelerationEnd s).probes.read = s.probes.read
      ∧ (stopDecelerationEnd s).probes.latch = s.probes.latch
      ∧ (stopDecelerationEnd s).events.enable = s.events.enable
      ∧ (stopDecelerationEnd s).events.releaseHold = s.events.releaseHold := by
  unfold stopDecelerationEnd
  refine ⟨?_, ?_, ?_, ?_, ?_, ?_, ?_, ?_, ?_, ?_, ?_, ?_, ?_, ?_, ?_, ?_, ?_, ?_⟩ <;> (repeat' split) <;> simp

@[simp] theorem stopDecelerationEnd_leaves_axis (s : State) (ax : Axis) :
    ((stopDecelerationEnd s).axes.chan.get ax).scale = (s.axes.chan.get ax).scale
      ∧ ((stopDecelerationEnd s).axes.chan.get ax).referenced = (s.axes.chan.get ax).referenced
      ∧ ((stopDecelerationEnd s).axes.chan.get ax).setpoint = (s.axes.chan.get ax).setpoint
      ∧ ((stopDecelerationEnd s).axes.chan.get ax).lower = (s.axes.chan.get ax).lower
      ∧ ((stopDecelerationEnd s).axes.chan.get ax).upper = (s.axes.chan.get ax).upper
      ∧ ((stopDecelerationEnd s).axes.chan.get ax).ready = (s.axes.chan.get ax).ready
      ∧ ((stopDecelerationEnd s).axes.chan.get ax).enable = (s.axes.chan.get ax).enable := by
  unfold stopDecelerationEnd
  refine ⟨?_, ?_, ?_, ?_, ?_, ?_, ?_⟩ <;> (repeat' split) <;> simp

@[simp] theorem takeScaleFault_leaves (a : Axis) (s : State) :
    (takeScaleFault a s).axes.retracted = s.axes.retracted
      ∧ (takeScaleFault a s).motion.deferCurrent = s.motion.deferCurrent
      ∧ (takeScaleFault a s).motion.deferHandOver = s.motion.deferHandOver
      ∧ (takeScaleFault a s).zone.cells = s.zone.cells
      ∧ (takeScaleFault a s).zone.nextNumber = s.zone.nextNumber
      ∧ (takeScaleFault a s).zone.windows = s.zone.windows
      ∧ (takeScaleFault a s).zone.retryAwaited = s.zone.retryAwaited
      ∧ (takeScaleFault a s).link.state = s.link.state ∧ (takeScaleFault a s).link.run = s.link.run
      ∧ (takeScaleFault a s).link.waitIdle = s.link.waitIdle
      ∧ (takeScaleFault a s).link.lineOut = s.link.lineOut
      ∧ (takeScaleFault a s).link.listeningDue = s.link.listeningDue
      ∧ (takeScaleFault a s).peers.entries = s.peers.entries
      ∧ (takeScaleFault a s).probes.library = s.probes.library
      ∧ (takeScaleFault a s).probes.current = s.probes.current
      ∧ (takeScaleFault a s).probes.slots = s.probes.slots
      ∧ (takeScaleFault a s).probes.seated = s.probes.seated
      ∧ (takeScaleFault a s).probes.latch = s.probes.latch
      ∧ (takeScaleFault a s).events.enable = s.events.enable
      ∧ (takeScaleFault a s).events.releaseHold = s.events.releaseHold := by
  unfold takeScaleFault
  dsimp only
  refine ⟨?_, ?_, ?_, ?_, ?_, ?_, ?_, ?_, ?_, ?_, ?_, ?_, ?_, ?_, ?_, ?_, ?_, ?_, ?_, ?_⟩ <;> (repeat' split) <;> simp

@[simp] theorem takeScaleFault_leaves_axis (a : Axis) (s : State) (ax : Axis) :
    ((takeScaleFault a s).axes.chan.get ax).scale = (s.axes.chan.get ax).scale
      ∧ ((takeScaleFault a s).axes.chan.get ax).lower = (s.axes.chan.get ax).lower
      ∧ ((takeScaleFault a s).axes.chan.get ax).upper = (s.axes.chan.get ax).upper
      ∧ ((takeScaleFault a s).axes.chan.get ax).ready = (s.axes.chan.get ax).ready := by
  unfold takeScaleFault
  dsimp only
  by_cases h : ax = a <;> refine ⟨?_, ?_, ?_, ?_⟩ <;> (repeat' split) <;> simp [State.axis, h]

@[simp] theorem takeReferenceMark_leaves (a : Axis) (s : State) :
    (takeReferenceMark a s).axes.retracted = s.axes.retracted
      ∧ (takeReferenceMark a s).motion.state = s.motion.state
      ∧ (takeReferenceMark a s).motion.queue = s.motion.queue
      ∧ (takeReferenceMark a s).motion.internal = s.motion.internal
      ∧ (takeReferenceMark a s).motion.stopPending = s.motion.stopPending
      ∧ (takeReferenceMark a s).motion.deferCurrent = s.motion.deferCurrent
      ∧ (takeReferenceMark a s).motion.deferHandOver = s.motion.deferHandOver := by
  unfold takeReferenceMark
  dsimp only
  refine ⟨?_, ?_, ?_, ?_, ?_, ?_, ?_⟩ <;> (repeat' split) <;> simp

@[simp] theorem takeReferenceMark_leaves_axis (a : Axis) (s : State) (ax : Axis) :
    ((takeReferenceMark a s).axes.chan.get ax).referenced = (s.axes.chan.get ax).referenced
      ∧ ((takeReferenceMark a s).axes.chan.get ax).mode = (s.axes.chan.get ax).mode
      ∧ ((takeReferenceMark a s).axes.chan.get ax).lower = (s.axes.chan.get ax).lower
      ∧ ((takeReferenceMark a s).axes.chan.get ax).upper = (s.axes.chan.get ax).upper
      ∧ ((takeReferenceMark a s).axes.chan.get ax).ready = (s.axes.chan.get ax).ready
      ∧ ((takeReferenceMark a s).axes.chan.get ax).enable = (s.axes.chan.get ax).enable := by
  unfold takeReferenceMark
  repeat' split
  all_goals by_cases h : ax = a <;> simp [State.axis, h]

@[simp] theorem endReference_leaves (s : State) :
    (endReference s).axes.retracted = s.axes.retracted ∧ (endReference s).motion.queue = s.motion.queue
      ∧ (endReference s).motion.internal = s.motion.internal
      ∧ (endReference s).motion.stopPending = s.motion.stopPending
      ∧ (endReference s).motion.deferCurrent = s.motion.deferCurrent
      ∧ (endReference s).zone.claim = s.zone.claim ∧ (endReference s).zone.nextNumber = s.zone.nextNumber
      ∧ (endReference s).zone.windows = s.zone.windows ∧ (endReference s).zone.kept = s.zone.kept
      ∧ (endReference s).zone.heldBack = s.zone.heldBack
      ∧ (endReference s).zone.retryAwaited = s.zone.retryAwaited
      ∧ (endReference s).link.state = s.link.state ∧ (endReference s).link.run = s.link.run
      ∧ (endReference s).link.waitIdle = s.link.waitIdle ∧ (endReference s).link.lineOut = s.link.lineOut
      ∧ (endReference s).link.listeningDue = s.link.listeningDue
      ∧ (endReference s).events.enable = s.events.enable
      ∧ (endReference s).events.releaseHold = s.events.releaseHold := by
  unfold endReference
  refine ⟨?_, ?_, ?_, ?_, ?_, ?_, ?_, ?_, ?_, ?_, ?_, ?_, ?_, ?_, ?_, ?_, ?_, ?_⟩ <;> (repeat' split) <;> simp

@[simp] theorem endReference_leaves_axis (s : State) (ax : Axis) :
    ((endReference s).axes.chan.get ax).scale = (s.axes.chan.get ax).scale
      ∧ ((endReference s).axes.chan.get ax).setpoint = (s.axes.chan.get ax).setpoint
      ∧ ((endReference s).axes.chan.get ax).lower = (s.axes.chan.get ax).lower
      ∧ ((endReference s).axes.chan.get ax).upper = (s.axes.chan.get ax).upper
      ∧ ((endReference s).axes.chan.get ax).ready = (s.axes.chan.get ax).ready
      ∧ ((endReference s).axes.chan.get ax).enable = (s.axes.chan.get ax).enable := by
  unfold endReference
  refine ⟨?_, ?_, ?_, ?_, ?_, ?_⟩ <;> (repeat' split) <;> simp

@[simp] theorem endReferenceStop_leaves (s : State) :
    (endReferenceStop s).axes.retracted = s.axes.retracted
      ∧ (endReferenceStop s).motion.queue = s.motion.queue
      ∧ (endReferenceStop s).motion.internal = s.motion.internal
      ∧ (endReferenceStop s).motion.stopPending = s.motion.stopPending
      ∧ (endReferenceStop s).motion.deferCurrent = s.motion.deferCurrent
      ∧ (endReferenceStop s).motion.deferHandOver = s.motion.deferHandOver := by
  unfold endReferenceStop
  refine ⟨?_, ?_, ?_, ?_, ?_, ?_⟩ <;> (repeat' split) <;> simp

@[simp] theorem endReferenceStop_leaves_axis (s : State) (ax : Axis) :
    ((endReferenceStop s).axes.chan.get ax).scale = (s.axes.chan.get ax).scale
      ∧ ((endReferenceStop s).axes.chan.get ax).setpoint = (s.axes.chan.get ax).setpoint
      ∧ ((endReferenceStop s).axes.chan.get ax).lower = (s.axes.chan.get ax).lower
      ∧ ((endReferenceStop s).axes.chan.get ax).upper = (s.axes.chan.get ax).upper
      ∧ ((endReferenceStop s).axes.chan.get ax).ready = (s.axes.chan.get ax).ready
      ∧ ((endReferenceStop s).axes.chan.get ax).enable = (s.axes.chan.get ax).enable := by
  unfold endReferenceStop
  refine ⟨?_, ?_, ?_, ?_, ?_, ?_⟩ <;> (repeat' split) <;> simp

@[simp] theorem takeTouch_leaves (c : V3 Int) (s : State) :
    (takeTouch c s).axes.retracted = s.axes.retracted
      ∧ (takeTouch c s).motion.deferCurrent = s.motion.deferCurrent
      ∧ (takeTouch c s).motion.deferHandOver = s.motion.deferHandOver
      ∧ (takeTouch c s).zone.cells = s.zone.cells ∧ (takeTouch c s).zone.claim = s.zone.claim
      ∧ (takeTouch c s).zone.nextNumber = s.zone.nextNumber ∧ (takeTouch c s).zone.windows = s.zone.windows
      ∧ (takeTouch c s).zone.kept = s.zone.kept ∧ (takeTouch c s).zone.retryAwaited = s.zone.retryAwaited
      ∧ (takeTouch c s).probes.current = s.probes.current ∧ (takeTouch c s).probes.slots = s.probes.slots
      ∧ (takeTouch c s).probes.seated = s.probes.seated ∧ (takeTouch c s).points.records = s.points.records
      ∧ (takeTouch c s).points.counter = s.points.counter
      ∧ (takeTouch c s).points.suspect = s.points.suspect
      ∧ (takeTouch c s).points.overrun = s.points.overrun ∧ (takeTouch c s).events.enable = s.events.enable
      ∧ (takeTouch c s).events.releaseHold = s.events.releaseHold := by
  unfold takeTouch
  refine ⟨?_, ?_, ?_, ?_, ?_, ?_, ?_, ?_, ?_, ?_, ?_, ?_, ?_, ?_, ?_, ?_, ?_, ?_⟩ <;> (repeat' split) <;> simp

@[simp] theorem takeTouch_leaves_axis (c : V3 Int) (s : State) (ax : Axis) :
    ((takeTouch c s).axes.chan.get ax).scale = (s.axes.chan.get ax).scale
      ∧ ((takeTouch c s).axes.chan.get ax).referenced = (s.axes.chan.get ax).referenced
      ∧ ((takeTouch c s).axes.chan.get ax).lower = (s.axes.chan.get ax).lower
      ∧ ((takeTouch c s).axes.chan.get ax).upper = (s.axes.chan.get ax).upper
      ∧ ((takeTouch c s).axes.chan.get ax).ready = (s.axes.chan.get ax).ready := by
  unfold takeTouch
  refine ⟨?_, ?_, ?_, ?_, ?_⟩ <;> (repeat' split) <;> simp

@[simp] theorem endCorrection_leaves (s : State) :
    (endCorrection s).axes.retracted = s.axes.retracted
      ∧ (endCorrection s).motion.stopPending = s.motion.stopPending
      ∧ (endCorrection s).motion.reference = s.motion.reference
      ∧ (endCorrection s).motion.deferCurrent = s.motion.deferCurrent
      ∧ (endCorrection s).motion.deferHandOver = s.motion.deferHandOver
      ∧ (endCorrection s).probes.library = s.probes.library
      ∧ (endCorrection s).probes.current = s.probes.current
      ∧ (endCorrection s).probes.slots = s.probes.slots ∧ (endCorrection s).probes.seated = s.probes.seated
      ∧ (endCorrection s).probes.latchOpen = s.probes.latchOpen
      ∧ (endCorrection s).probes.read = s.probes.read ∧ (endCorrection s).probes.change = s.probes.change
      ∧ (endCorrection s).events.enable = s.events.enable
      ∧ (endCorrection s).events.releaseHold = s.events.releaseHold := by
  unfold endCorrection
  dsimp only
  refine ⟨?_, ?_, ?_, ?_, ?_, ?_, ?_, ?_, ?_, ?_, ?_, ?_, ?_, ?_⟩ <;> (repeat' split) <;> simp

@[simp] theorem endCorrection_leaves_axis (s : State) (ax : Axis) :
    ((endCorrection s).axes.chan.get ax).scale = (s.axes.chan.get ax).scale
      ∧ ((endCorrection s).axes.chan.get ax).referenced = (s.axes.chan.get ax).referenced
      ∧ ((endCorrection s).axes.chan.get ax).setpoint = (s.axes.chan.get ax).setpoint
      ∧ ((endCorrection s).axes.chan.get ax).lower = (s.axes.chan.get ax).lower
      ∧ ((endCorrection s).axes.chan.get ax).upper = (s.axes.chan.get ax).upper
      ∧ ((endCorrection s).axes.chan.get ax).ready = (s.axes.chan.get ax).ready
      ∧ ((endCorrection s).axes.chan.get ax).enable = (s.axes.chan.get ax).enable := by
  unfold endCorrection
  dsimp only
  refine ⟨?_, ?_, ?_, ?_, ?_, ?_, ?_⟩ <;> (repeat' split) <;> simp

@[simp] theorem startSending_leaves (s : State) :
    (startSending s).link.state = s.link.state ∧ (startSending s).link.run = s.link.run
      ∧ (startSending s).link.listeningDue = s.link.listeningDue := by
  unfold startSending
  dsimp only
  refine ⟨?_, ?_, ?_⟩ <;> (repeat' split) <;> simp

@[simp] theorem loseArbitration_leaves (s : State) :
    (loseArbitration s).link.state = s.link.state ∧ (loseArbitration s).link.run = s.link.run
      ∧ (loseArbitration s).link.waitIdle = s.link.waitIdle
      ∧ (loseArbitration s).link.listeningDue = s.link.listeningDue := by
  unfold loseArbitration
  refine ⟨?_, ?_, ?_, ?_⟩ <;> (repeat' split) <;> simp

@[simp] theorem duplicateMismatch_leaves (s : State) :
    (duplicateMismatch s).axes.retracted = s.axes.retracted
      ∧ (duplicateMismatch s).zone.windows = s.zone.windows ∧ (duplicateMismatch s).link.run = s.link.run
      ∧ (duplicateMismatch s).peers.entries = s.peers.entries
      ∧ (duplicateMismatch s).probes.library = s.probes.library
      ∧ (duplicateMismatch s).probes.current = s.probes.current
      ∧ (duplicateMismatch s).probes.seated = s.probes.seated
      ∧ (duplicateMismatch s).probes.latch = s.probes.latch
      ∧ (duplicateMismatch s).events.enable = s.events.enable
      ∧ (duplicateMismatch s).events.releaseHold = s.events.releaseHold := by
  unfold duplicateMismatch
  dsimp only
  refine ⟨?_, ?_, ?_, ?_, ?_, ?_, ?_, ?_, ?_, ?_⟩ <;> (repeat' split) <;> simp

@[simp] theorem duplicateMismatch_leaves_axis (s : State) (ax : Axis) :
    ((duplicateMismatch s).axes.chan.get ax).scale = (s.axes.chan.get ax).scale
      ∧ ((duplicateMismatch s).axes.chan.get ax).referenced = (s.axes.chan.get ax).referenced
      ∧ ((duplicateMismatch s).axes.chan.get ax).lower = (s.axes.chan.get ax).lower
      ∧ ((duplicateMismatch s).axes.chan.get ax).upper = (s.axes.chan.get ax).upper
      ∧ ((duplicateMismatch s).axes.chan.get ax).ready = (s.axes.chan.get ax).ready := by
  unfold duplicateMismatch
  dsimp only
  refine ⟨?_, ?_, ?_, ?_, ?_⟩ <;> (repeat' split) <;> simp

@[simp] theorem earlySpoil_leaves (own : Bool) (s : State) :
    (earlySpoil own s).axes.retracted = s.axes.retracted ∧ (earlySpoil own s).zone.windows = s.zone.windows
      ∧ (earlySpoil own s).peers.entries = s.peers.entries
      ∧ (earlySpoil own s).probes.library = s.probes.library
      ∧ (earlySpoil own s).probes.current = s.probes.current
      ∧ (earlySpoil own s).probes.seated = s.probes.seated
      ∧ (earlySpoil own s).probes.latch = s.probes.latch
      ∧ (earlySpoil own s).events.enable = s.events.enable
      ∧ (earlySpoil own s).events.releaseHold = s.events.releaseHold := by
  unfold earlySpoil
  refine ⟨?_, ?_, ?_, ?_, ?_, ?_, ?_, ?_, ?_⟩ <;> (repeat' split) <;> simp

@[simp] theorem earlySpoil_leaves_axis (own : Bool) (s : State) (ax : Axis) :
    ((earlySpoil own s).axes.chan.get ax).scale = (s.axes.chan.get ax).scale
      ∧ ((earlySpoil own s).axes.chan.get ax).referenced = (s.axes.chan.get ax).referenced
      ∧ ((earlySpoil own s).axes.chan.get ax).lower = (s.axes.chan.get ax).lower
      ∧ ((earlySpoil own s).axes.chan.get ax).upper = (s.axes.chan.get ax).upper
      ∧ ((earlySpoil own s).axes.chan.get ax).ready = (s.axes.chan.get ax).ready := by
  unfold earlySpoil
  refine ⟨?_, ?_, ?_, ?_, ?_⟩ <;> (repeat' split) <;> simp

@[simp] theorem frameSpoiled_leaves (rx : Reception) (s : State) :
    (frameSpoiled rx s).axes.retracted = s.axes.retracted
      ∧ (frameSpoiled rx s).zone.windows = s.zone.windows
      ∧ (frameSpoiled rx s).link.waitIdle = s.link.waitIdle
      ∧ (frameSpoiled rx s).peers.entries = s.peers.entries
      ∧ (frameSpoiled rx s).probes.library = s.probes.library
      ∧ (frameSpoiled rx s).probes.current = s.probes.current
      ∧ (frameSpoiled rx s).probes.seated = s.probes.seated
      ∧ (frameSpoiled rx s).probes.latch = s.probes.latch
      ∧ (frameSpoiled rx s).events.enable = s.events.enable
      ∧ (frameSpoiled rx s).events.releaseHold = s.events.releaseHold := by
  unfold frameSpoiled
  refine ⟨?_, ?_, ?_, ?_, ?_, ?_, ?_, ?_, ?_, ?_⟩ <;> (repeat' split) <;> simp

@[simp] theorem frameSpoiled_leaves_axis (rx : Reception) (s : State) (ax : Axis) :
    ((frameSpoiled rx s).axes.chan.get ax).scale = (s.axes.chan.get ax).scale
      ∧ ((frameSpoiled rx s).axes.chan.get ax).referenced = (s.axes.chan.get ax).referenced
      ∧ ((frameSpoiled rx s).axes.chan.get ax).lower = (s.axes.chan.get ax).lower
      ∧ ((frameSpoiled rx s).axes.chan.get ax).upper = (s.axes.chan.get ax).upper
      ∧ ((frameSpoiled rx s).axes.chan.get ax).ready = (s.axes.chan.get ax).ready := by
  unfold frameSpoiled
  refine ⟨?_, ?_, ?_, ?_, ?_⟩ <;> (repeat' split) <;> simp

@[simp] theorem duplicateFrame_leaves (k : FrameKind) (s : State) :
    (duplicateFrame k s).axes.retracted = s.axes.retracted
      ∧ (duplicateFrame k s).zone.windows = s.zone.windows ∧ (duplicateFrame k s).link.run = s.link.run
      ∧ (duplicateFrame k s).link.waitIdle = s.link.waitIdle
      ∧ (duplicateFrame k s).link.lineOut = s.link.lineOut
      ∧ (duplicateFrame k s).peers.entries = s.peers.entries
      ∧ (duplicateFrame k s).probes.library = s.probes.library
      ∧ (duplicateFrame k s).probes.current = s.probes.current
      ∧ (duplicateFrame k s).probes.slots = s.probes.slots
      ∧ (duplicateFrame k s).probes.seated = s.probes.seated
      ∧ (duplicateFrame k s).probes.latch = s.probes.latch
      ∧ (duplicateFrame k s).events.enable = s.events.enable
      ∧ (duplicateFrame k s).events.releaseHold = s.events.releaseHold := by
  unfold duplicateFrame
  refine ⟨?_, ?_, ?_, ?_, ?_, ?_, ?_, ?_, ?_, ?_, ?_, ?_, ?_⟩ <;> (repeat' split) <;> simp

@[simp] theorem duplicateFrame_leaves_axis (k : FrameKind) (s : State) (ax : Axis) :
    ((duplicateFrame k s).axes.chan.get ax).scale = (s.axes.chan.get ax).scale
      ∧ ((duplicateFrame k s).axes.chan.get ax).referenced = (s.axes.chan.get ax).referenced
      ∧ ((duplicateFrame k s).axes.chan.get ax).lower = (s.axes.chan.get ax).lower
      ∧ ((duplicateFrame k s).axes.chan.get ax).upper = (s.axes.chan.get ax).upper
      ∧ ((duplicateFrame k s).axes.chan.get ax).ready = (s.axes.chan.get ax).ready := by
  unfold duplicateFrame
  refine ⟨?_, ?_, ?_, ?_, ?_⟩ <;> (repeat' split) <;> simp

@[simp] theorem deliver_leaves (s : State) :
    (deliver s).link.state = s.link.state ∧ (deliver s).link.run = s.link.run
      ∧ (deliver s).link.waitIdle = s.link.waitIdle ∧ (deliver s).link.listeningDue = s.link.listeningDue
      ∧ (deliver s).peers.entries = s.peers.entries ∧ (deliver s).peers.heldBack = s.peers.heldBack
      ∧ (deliver s).probes.library = s.probes.library ∧ (deliver s).probes.live = s.probes.live
      ∧ (deliver s).probes.pendingBank = s.probes.pendingBank
      ∧ (deliver s).probes.current = s.probes.current ∧ (deliver s).probes.seated = s.probes.seated
      ∧ (deliver s).probes.latchOpen = s.probes.latchOpen ∧ (deliver s).probes.read = s.probes.read
      ∧ (deliver s).probes.change = s.probes.change ∧ (deliver s).probes.latch = s.probes.latch := by
  unfold deliver
  refine ⟨?_, ?_, ?_, ?_, ?_, ?_, ?_, ?_, ?_, ?_, ?_, ?_, ?_, ?_, ?_⟩ <;> (repeat' split) <;> simp

@[simp] theorem takeClaim_leaves (p : Station) (n : Byte) (cs : CellSet) (s : State) :
    (takeClaim p n cs s).axes.retracted = s.axes.retracted ∧ (takeClaim p n cs s).link.state = s.link.state
      ∧ (takeClaim p n cs s).link.waitIdle = s.link.waitIdle
      ∧ (takeClaim p n cs s).link.lineOut = s.link.lineOut
      ∧ (takeClaim p n cs s).link.listeningDue = s.link.listeningDue
      ∧ (takeClaim p n cs s).temps.channels = s.temps.channels
      ∧ (takeClaim p n cs s).temps.datum = s.temps.datum
      ∧ (takeClaim p n cs s).temps.partCoeff = s.temps.partCoeff
      ∧ (takeClaim p n cs s).temps.sampleDue = s.temps.sampleDue
      ∧ (takeClaim p n cs s).probes.library = s.probes.library
      ∧ (takeClaim p n cs s).probes.current = s.probes.current
      ∧ (takeClaim p n cs s).probes.slots = s.probes.slots
      ∧ (takeClaim p n cs s).probes.seated = s.probes.seated
      ∧ (takeClaim p n cs s).probes.latch = s.probes.latch
      ∧ (takeClaim p n cs s).events.enable = s.events.enable
      ∧ (takeClaim p n cs s).events.releaseHold = s.events.releaseHold := by
  unfold takeClaim
  refine ⟨?_, ?_, ?_, ?_, ?_, ?_, ?_, ?_, ?_, ?_, ?_, ?_, ?_, ?_, ?_, ?_⟩ <;> (repeat' split) <;> simp

@[simp] theorem takeClaim_leaves_axis (p : Station) (n : Byte) (cs : CellSet) (s : State) (ax : Axis) :
    ((takeClaim p n cs s).axes.chan.get ax).scale = (s.axes.chan.get ax).scale
      ∧ ((takeClaim p n cs s).axes.chan.get ax).referenced = (s.axes.chan.get ax).referenced
      ∧ ((takeClaim p n cs s).axes.chan.get ax).lower = (s.axes.chan.get ax).lower
      ∧ ((takeClaim p n cs s).axes.chan.get ax).upper = (s.axes.chan.get ax).upper
      ∧ ((takeClaim p n cs s).axes.chan.get ax).ready = (s.axes.chan.get ax).ready := by
  unfold takeClaim
  refine ⟨?_, ?_, ?_, ?_, ?_⟩ <;> (repeat' split) <;> simp

@[simp] theorem endWindow_leaves (p : Station) (n : Byte) (s : State) :
    (endWindow p n s).axes.retracted = s.axes.retracted
      ∧ (endWindow p n s).motion.stopPending = s.motion.stopPending
      ∧ (endWindow p n s).motion.reference = s.motion.reference
      ∧ (endWindow p n s).link.state = s.link.state ∧ (endWindow p n s).link.run = s.link.run
      ∧ (endWindow p n s).link.waitIdle = s.link.waitIdle ∧ (endWindow p n s).link.lineOut = s.link.lineOut
      ∧ (endWindow p n s).link.listeningDue = s.link.listeningDue
      ∧ (endWindow p n s).peers.entries = s.peers.entries
      ∧ (endWindow p n s).probes.library = s.probes.library
      ∧ (endWindow p n s).probes.current = s.probes.current
      ∧ (endWindow p n s).probes.slots = s.probes.slots ∧ (endWindow p n s).probes.seated = s.probes.seated
      ∧ (endWindow p n s).probes.latchOpen = s.probes.latchOpen
      ∧ (endWindow p n s).probes.read = s.probes.read ∧ (endWindow p n s).probes.change = s.probes.change
      ∧ (endWindow p n s).probes.latch = s.probes.latch ∧ (endWindow p n s).events.enable = s.events.enable
      ∧ (endWindow p n s).events.releaseHold = s.events.releaseHold := by
  unfold endWindow
  dsimp only
  refine ⟨?_, ?_, ?_, ?_, ?_, ?_, ?_, ?_, ?_, ?_, ?_, ?_, ?_, ?_, ?_, ?_, ?_, ?_, ?_⟩ <;> (repeat' split) <;> simp

@[simp] theorem endWindow_leaves_axis (p : Station) (n : Byte) (s : State) (ax : Axis) :
    ((endWindow p n s).axes.chan.get ax).scale = (s.axes.chan.get ax).scale
      ∧ ((endWindow p n s).axes.chan.get ax).referenced = (s.axes.chan.get ax).referenced
      ∧ ((endWindow p n s).axes.chan.get ax).setpoint = (s.axes.chan.get ax).setpoint
      ∧ ((endWindow p n s).axes.chan.get ax).lower = (s.axes.chan.get ax).lower
      ∧ ((endWindow p n s).axes.chan.get ax).upper = (s.axes.chan.get ax).upper
      ∧ ((endWindow p n s).axes.chan.get ax).ready = (s.axes.chan.get ax).ready
      ∧ ((endWindow p n s).axes.chan.get ax).enable = (s.axes.chan.get ax).enable := by
  unfold endWindow
  dsimp only
  refine ⟨?_, ?_, ?_, ?_, ?_, ?_, ?_⟩ <;> (repeat' split) <;> simp

@[simp] theorem takeObject_leaves (sender target : Station) (n : Byte) (cs : CellSet) (s : State) :
    (takeObject sender target n cs s).axes.retracted = s.axes.retracted
      ∧ (takeObject sender target n cs s).zone.windows = s.zone.windows
      ∧ (takeObject sender target n cs s).link.state = s.link.state
      ∧ (takeObject sender target n cs s).link.waitIdle = s.link.waitIdle
      ∧ (takeObject sender target n cs s).link.lineOut = s.link.lineOut
      ∧ (takeObject sender target n cs s).link.listeningDue = s.link.listeningDue
      ∧ (takeObject sender target n cs s).temps.channels = s.temps.channels
      ∧ (takeObject sender target n cs s).temps.datum = s.temps.datum
      ∧ (takeObject sender target n cs s).temps.partCoeff = s.temps.partCoeff
      ∧ (takeObject sender target n cs s).temps.sampleDue = s.temps.sampleDue
      ∧ (takeObject sender target n cs s).probes.library = s.probes.library
      ∧ (takeObject sender target n cs s).probes.current = s.probes.current
      ∧ (takeObject sender target n cs s).probes.slots = s.probes.slots
      ∧ (takeObject sender target n cs s).probes.seated = s.probes.seated
      ∧ (takeObject sender target n cs s).probes.latch = s.probes.latch
      ∧ (takeObject sender target n cs s).events.enable = s.events.enable
      ∧ (takeObject sender target n cs s).events.releaseHold = s.events.releaseHold := by
  unfold takeObject
  dsimp only
  refine ⟨?_, ?_, ?_, ?_, ?_, ?_, ?_, ?_, ?_, ?_, ?_, ?_, ?_, ?_, ?_, ?_, ?_⟩ <;> (repeat' split) <;> simp

@[simp] theorem takeObject_leaves_axis (sender target : Station) (n : Byte) (cs : CellSet) (s : State)
    (ax : Axis) :
    ((takeObject sender target n cs s).axes.chan.get ax).scale = (s.axes.chan.get ax).scale
      ∧ ((takeObject sender target n cs s).axes.chan.get ax).referenced = (s.axes.chan.get ax).referenced
      ∧ ((takeObject sender target n cs s).axes.chan.get ax).lower = (s.axes.chan.get ax).lower
      ∧ ((takeObject sender target n cs s).axes.chan.get ax).upper = (s.axes.chan.get ax).upper
      ∧ ((takeObject sender target n cs s).axes.chan.get ax).ready = (s.axes.chan.get ax).ready := by
  unfold takeObject
  dsimp only
  refine ⟨?_, ?_, ?_, ?_, ?_⟩ <;> (repeat' split) <;> simp

@[simp] theorem takeWait_leaves (p : Station) (cs : CellSet) (s : State) :
    (takeWait p cs s).zone.claim = s.zone.claim ∧ (takeWait p cs s).zone.nextNumber = s.zone.nextNumber
      ∧ (takeWait p cs s).zone.windows = s.zone.windows ∧ (takeWait p cs s).zone.kept = s.zone.kept
      ∧ (takeWait p cs s).zone.heldBack = s.zone.heldBack
      ∧ (takeWait p cs s).zone.retryAwaited = s.zone.retryAwaited
      ∧ (takeWait p cs s).link.state = s.link.state ∧ (takeWait p cs s).link.list = s.link.list
      ∧ (takeWait p cs s).link.waitIdle = s.link.waitIdle ∧ (takeWait p cs s).link.lineOut = s.link.lineOut
      ∧ (takeWait p cs s).link.listeningDue = s.link.listeningDue
      ∧ (takeWait p cs s).peers.presenceDue = s.peers.presenceDue
      ∧ (takeWait p cs s).peers.heldBack = s.peers.heldBack
      ∧ (takeWait p cs s).temps.channels = s.temps.channels ∧ (takeWait p cs s).temps.datum = s.temps.datum
      ∧ (takeWait p cs s).temps.partCoeff = s.temps.partCoeff
      ∧ (takeWait p cs s).temps.sampleDue = s.temps.sampleDue := by
  unfold takeWait
  dsimp only
  refine ⟨?_, ?_, ?_, ?_, ?_, ?_, ?_, ?_, ?_, ?_, ?_, ?_, ?_, ?_, ?_, ?_, ?_⟩ <;> (repeat' split) <;> simp

@[simp] theorem retryRoom_leaves (s : State) :
    (retryRoom s).axes.retracted = s.axes.retracted
      ∧ (retryRoom s).motion.stopPending = s.motion.stopPending
      ∧ (retryRoom s).motion.reference = s.motion.reference ∧ (retryRoom s).zone.windows = s.zone.windows
      ∧ (retryRoom s).link.state = s.link.state ∧ (retryRoom s).link.run = s.link.run
      ∧ (retryRoom s).link.waitIdle = s.link.waitIdle ∧ (retryRoom s).link.lineOut = s.link.lineOut
      ∧ (retryRoom s).link.listeningDue = s.link.listeningDue
      ∧ (retryRoom s).peers.entries = s.peers.entries ∧ (retryRoom s).probes.library = s.probes.library
      ∧ (retryRoom s).probes.current = s.probes.current ∧ (retryRoom s).probes.slots = s.probes.slots
      ∧ (retryRoom s).probes.seated = s.probes.seated ∧ (retryRoom s).probes.latchOpen = s.probes.latchOpen
      ∧ (retryRoom s).probes.read = s.probes.read ∧ (retryRoom s).probes.change = s.probes.change
      ∧ (retryRoom s).probes.latch = s.probes.latch ∧ (retryRoom s).events.enable = s.events.enable
      ∧ (retryRoom s).events.releaseHold = s.events.releaseHold := by
  unfold retryRoom
  refine ⟨?_, ?_, ?_, ?_, ?_, ?_, ?_, ?_, ?_, ?_, ?_, ?_, ?_, ?_, ?_, ?_, ?_, ?_, ?_, ?_⟩ <;> (repeat' split) <;> simp

@[simp] theorem retryRoom_leaves_axis (s : State) (ax : Axis) :
    ((retryRoom s).axes.chan.get ax).scale = (s.axes.chan.get ax).scale
      ∧ ((retryRoom s).axes.chan.get ax).referenced = (s.axes.chan.get ax).referenced
      ∧ ((retryRoom s).axes.chan.get ax).setpoint = (s.axes.chan.get ax).setpoint
      ∧ ((retryRoom s).axes.chan.get ax).lower = (s.axes.chan.get ax).lower
      ∧ ((retryRoom s).axes.chan.get ax).upper = (s.axes.chan.get ax).upper
      ∧ ((retryRoom s).axes.chan.get ax).ready = (s.axes.chan.get ax).ready
      ∧ ((retryRoom s).axes.chan.get ax).enable = (s.axes.chan.get ax).enable := by
  unfold retryRoom
  refine ⟨?_, ?_, ?_, ?_, ?_, ?_, ?_⟩ <;> (repeat' split) <;> simp

@[simp] theorem waitTimeout_leaves (s : State) :
    (waitTimeout s).zone.cells = s.zone.cells ∧ (waitTimeout s).zone.nextNumber = s.zone.nextNumber
      ∧ (waitTimeout s).zone.windows = s.zone.windows ∧ (waitTimeout s).zone.kept = s.zone.kept
      ∧ (waitTimeout s).zone.heldBack = s.zone.heldBack
      ∧ (waitTimeout s).zone.retryAwaited = s.zone.retryAwaited
      ∧ (waitTimeout s).events.enable = s.events.enable
      ∧ (waitTimeout s).events.releaseHold = s.events.releaseHold := by
  unfold waitTimeout
  refine ⟨?_, ?_, ?_, ?_, ?_, ?_, ?_, ?_⟩ <;> (repeat' split) <;> simp

@[simp] theorem overstay_leaves (c : Cell) (s : State) :
    (overstay c s).zone.claim = s.zone.claim ∧ (overstay c s).zone.nextNumber = s.zone.nextNumber
      ∧ (overstay c s).zone.windows = s.zone.windows ∧ (overstay c s).zone.kept = s.zone.kept
      ∧ (overstay c s).zone.heldBack = s.zone.heldBack
      ∧ (overstay c s).zone.retryAwaited = s.zone.retryAwaited
      ∧ (overstay c s).events.enable = s.events.enable
      ∧ (overstay c s).events.releaseHold = s.events.releaseHold := by
  unfold overstay
  dsimp only
  refine ⟨?_, ?_, ?_, ?_, ?_, ?_, ?_, ?_⟩ <;> (repeat' split) <;> simp

@[simp] theorem takeRelease_leaves (p : Station) (cs : CellSet) (s : State) :
    (takeRelease p cs s).axes.retracted = s.axes.retracted
      ∧ (takeRelease p cs s).motion.stopPending = s.motion.stopPending
      ∧ (takeRelease p cs s).motion.reference = s.motion.reference
      ∧ (takeRelease p cs s).zone.windows = s.zone.windows ∧ (takeRelease p cs s).link.state = s.link.state
      ∧ (takeRelease p cs s).link.waitIdle = s.link.waitIdle
      ∧ (takeRelease p cs s).link.lineOut = s.link.lineOut
      ∧ (takeRelease p cs s).link.listeningDue = s.link.listeningDue
      ∧ (takeRelease p cs s).temps.channels = s.temps.channels
      ∧ (takeRelease p cs s).temps.datum = s.temps.datum
      ∧ (takeRelease p cs s).temps.partCoeff = s.temps.partCoeff
      ∧ (takeRelease p cs s).temps.sampleDue = s.temps.sampleDue
      ∧ (takeRelease p cs s).probes.library = s.probes.library
      ∧ (takeRelease p cs s).probes.current = s.probes.current
      ∧ (takeRelease p cs s).probes.slots = s.probes.slots
      ∧ (takeRelease p cs s).probes.seated = s.probes.seated
      ∧ (takeRelease p cs s).probes.latchOpen = s.probes.latchOpen
      ∧ (takeRelease p cs s).probes.read = s.probes.read
      ∧ (takeRelease p cs s).probes.change = s.probes.change
      ∧ (takeRelease p cs s).probes.latch = s.probes.latch
      ∧ (takeRelease p cs s).events.enable = s.events.enable
      ∧ (takeRelease p cs s).events.releaseHold = s.events.releaseHold := by
  unfold takeRelease
  dsimp only
  refine ⟨?_, ?_, ?_, ?_, ?_, ?_, ?_, ?_, ?_, ?_, ?_, ?_, ?_, ?_, ?_, ?_, ?_, ?_, ?_, ?_, ?_, ?_⟩ <;> (repeat' split) <;> simp

@[simp] theorem takeRelease_leaves_axis (p : Station) (cs : CellSet) (s : State) (ax : Axis) :
    ((takeRelease p cs s).axes.chan.get ax).scale = (s.axes.chan.get ax).scale
      ∧ ((takeRelease p cs s).axes.chan.get ax).referenced = (s.axes.chan.get ax).referenced
      ∧ ((takeRelease p cs s).axes.chan.get ax).setpoint = (s.axes.chan.get ax).setpoint
      ∧ ((takeRelease p cs s).axes.chan.get ax).lower = (s.axes.chan.get ax).lower
      ∧ ((takeRelease p cs s).axes.chan.get ax).upper = (s.axes.chan.get ax).upper
      ∧ ((takeRelease p cs s).axes.chan.get ax).ready = (s.axes.chan.get ax).ready
      ∧ ((takeRelease p cs s).axes.chan.get ax).enable = (s.axes.chan.get ax).enable := by
  unfold takeRelease
  dsimp only
  refine ⟨?_, ?_, ?_, ?_, ?_, ?_, ?_⟩ <;> (repeat' split) <;> simp

@[simp] theorem deferralExpiry_leaves (c : Cell) (s : State) :
    (deferralExpiry c s).axes.retracted = s.axes.retracted
      ∧ (deferralExpiry c s).motion.stopPending = s.motion.stopPending
      ∧ (deferralExpiry c s).motion.reference = s.motion.reference
      ∧ (deferralExpiry c s).zone.windows = s.zone.windows ∧ (deferralExpiry c s).link.state = s.link.state
      ∧ (deferralExpiry c s).link.run = s.link.run ∧ (deferralExpiry c s).link.waitIdle = s.link.waitIdle
      ∧ (deferralExpiry c s).link.lineOut = s.link.lineOut
      ∧ (deferralExpiry c s).link.listeningDue = s.link.listeningDue
      ∧ (deferralExpiry c s).peers.entries = s.peers.entries
      ∧ (deferralExpiry c s).probes.library = s.probes.library
      ∧ (deferralExpiry c s).probes.current = s.probes.current
      ∧ (deferralExpiry c s).probes.slots = s.probes.slots
      ∧ (deferralExpiry c s).probes.seated = s.probes.seated
      ∧ (deferralExpiry c s).probes.latchOpen = s.probes.latchOpen
      ∧ (deferralExpiry c s).probes.read = s.probes.read
      ∧ (deferralExpiry c s).probes.change = s.probes.change
      ∧ (deferralExpiry c s).probes.latch = s.probes.latch
      ∧ (deferralExpiry c s).events.enable = s.events.enable
      ∧ (deferralExpiry c s).events.releaseHold = s.events.releaseHold := by
  unfold deferralExpiry
  dsimp only
  refine ⟨?_, ?_, ?_, ?_, ?_, ?_, ?_, ?_, ?_, ?_, ?_, ?_, ?_, ?_, ?_, ?_, ?_, ?_, ?_, ?_⟩ <;> (repeat' split) <;> simp

@[simp] theorem deferralExpiry_leaves_axis (c : Cell) (s : State) (ax : Axis) :
    ((deferralExpiry c s).axes.chan.get ax).scale = (s.axes.chan.get ax).scale
      ∧ ((deferralExpiry c s).axes.chan.get ax).referenced = (s.axes.chan.get ax).referenced
      ∧ ((deferralExpiry c s).axes.chan.get ax).setpoint = (s.axes.chan.get ax).setpoint
      ∧ ((deferralExpiry c s).axes.chan.get ax).lower = (s.axes.chan.get ax).lower
      ∧ ((deferralExpiry c s).axes.chan.get ax).upper = (s.axes.chan.get ax).upper
      ∧ ((deferralExpiry c s).axes.chan.get ax).ready = (s.axes.chan.get ax).ready
      ∧ ((deferralExpiry c s).axes.chan.get ax).enable = (s.axes.chan.get ax).enable := by
  unfold deferralExpiry
  dsimp only
  refine ⟨?_, ?_, ?_, ?_, ?_, ?_, ?_⟩ <;> (repeat' split) <;> simp

@[simp] theorem takePresence_leaves (p : Station) (r : Report) (s : State) :
    (takePresence p r s).axes.retracted = s.axes.retracted
      ∧ (takePresence p r s).zone.windows = s.zone.windows ∧ (takePresence p r s).link.state = s.link.state
      ∧ (takePresence p r s).link.waitIdle = s.link.waitIdle
      ∧ (takePresence p r s).link.lineOut = s.link.lineOut
      ∧ (takePresence p r s).link.listeningDue = s.link.listeningDue
      ∧ (takePresence p r s).temps.channels = s.temps.channels
      ∧ (takePresence p r s).temps.datum = s.temps.datum
      ∧ (takePresence p r s).temps.partCoeff = s.temps.partCoeff
      ∧ (takePresence p r s).temps.sampleDue = s.temps.sampleDue
      ∧ (takePresence p r s).probes.library = s.probes.library
      ∧ (takePresence p r s).probes.current = s.probes.current
      ∧ (takePresence p r s).probes.slots = s.probes.slots
      ∧ (takePresence p r s).probes.seated = s.probes.seated
      ∧ (takePresence p r s).probes.latch = s.probes.latch
      ∧ (takePresence p r s).events.enable = s.events.enable
      ∧ (takePresence p r s).events.releaseHold = s.events.releaseHold := by
  unfold takePresence
  refine ⟨?_, ?_, ?_, ?_, ?_, ?_, ?_, ?_, ?_, ?_, ?_, ?_, ?_, ?_, ?_, ?_, ?_⟩ <;> (repeat' split) <;> simp

@[simp] theorem takePresence_leaves_axis (p : Station) (r : Report) (s : State) (ax : Axis) :
    ((takePresence p r s).axes.chan.get ax).scale = (s.axes.chan.get ax).scale
      ∧ ((takePresence p r s).axes.chan.get ax).referenced = (s.axes.chan.get ax).referenced
      ∧ ((takePresence p r s).axes.chan.get ax).lower = (s.axes.chan.get ax).lower
      ∧ ((takePresence p r s).axes.chan.get ax).upper = (s.axes.chan.get ax).upper
      ∧ ((takePresence p r s).axes.chan.get ax).ready = (s.axes.chan.get ax).ready := by
  unfold takePresence
  refine ⟨?_, ?_, ?_, ?_, ?_⟩ <;> (repeat' split) <;> simp

@[simp] theorem losePeer_leaves (p : Station) (s : State) :
    (losePeer p s).axes.retracted = s.axes.retracted
      ∧ (losePeer p s).motion.stopPending = s.motion.stopPending
      ∧ (losePeer p s).motion.reference = s.motion.reference ∧ (losePeer p s).zone.windows = s.zone.windows
      ∧ (losePeer p s).link.state = s.link.state ∧ (losePeer p s).link.run = s.link.run
      ∧ (losePeer p s).link.waitIdle = s.link.waitIdle ∧ (losePeer p s).link.lineOut = s.link.lineOut
      ∧ (losePeer p s).link.listeningDue = s.link.listeningDue
      ∧ (losePeer p s).temps.channels = s.temps.channels ∧ (losePeer p s).temps.datum = s.temps.datum
      ∧ (losePeer p s).temps.partCoeff = s.temps.partCoeff
      ∧ (losePeer p s).temps.sampleDue = s.temps.sampleDue
      ∧ (losePeer p s).probes.library = s.probes.library ∧ (losePeer p s).probes.current = s.probes.current
      ∧ (losePeer p s).probes.slots = s.probes.slots ∧ (losePeer p s).probes.seated = s.probes.seated
      ∧ (losePeer p s).probes.latchOpen = s.probes.latchOpen ∧ (losePeer p s).probes.read = s.probes.read
      ∧ (losePeer p s).probes.change = s.probes.change ∧ (losePeer p s).probes.latch = s.probes.latch
      ∧ (losePeer p s).events.enable = s.events.enable
      ∧ (losePeer p s).events.releaseHold = s.events.releaseHold := by
  unfold losePeer
  dsimp only
  refine ⟨?_, ?_, ?_, ?_, ?_, ?_, ?_, ?_, ?_, ?_, ?_, ?_, ?_, ?_, ?_, ?_, ?_, ?_, ?_, ?_, ?_, ?_, ?_⟩ <;> (repeat' split) <;> simp

@[simp] theorem losePeer_leaves_axis (p : Station) (s : State) (ax : Axis) :
    ((losePeer p s).axes.chan.get ax).scale = (s.axes.chan.get ax).scale
      ∧ ((losePeer p s).axes.chan.get ax).referenced = (s.axes.chan.get ax).referenced
      ∧ ((losePeer p s).axes.chan.get ax).setpoint = (s.axes.chan.get ax).setpoint
      ∧ ((losePeer p s).axes.chan.get ax).lower = (s.axes.chan.get ax).lower
      ∧ ((losePeer p s).axes.chan.get ax).upper = (s.axes.chan.get ax).upper
      ∧ ((losePeer p s).axes.chan.get ax).ready = (s.axes.chan.get ax).ready
      ∧ ((losePeer p s).axes.chan.get ax).enable = (s.axes.chan.get ax).enable := by
  unfold losePeer
  dsimp only
  refine ⟨?_, ?_, ?_, ?_, ?_, ?_, ?_⟩ <;> (repeat' split) <;> simp

@[simp] theorem takeRackNote_leaves (p : Station) (k : SlotIx) (c : Ident) (s : State) :
    (takeRackNote p k c s).zone.claim = s.zone.claim
      ∧ (takeRackNote p k c s).zone.nextNumber = s.zone.nextNumber
      ∧ (takeRackNote p k c s).zone.windows = s.zone.windows
      ∧ (takeRackNote p k c s).zone.kept = s.zone.kept
      ∧ (takeRackNote p k c s).zone.heldBack = s.zone.heldBack
      ∧ (takeRackNote p k c s).zone.retryAwaited = s.zone.retryAwaited
      ∧ (takeRackNote p k c s).link.state = s.link.state ∧ (takeRackNote p k c s).link.list = s.link.list
      ∧ (takeRackNote p k c s).link.waitIdle = s.link.waitIdle
      ∧ (takeRackNote p k c s).link.lineOut = s.link.lineOut
      ∧ (takeRackNote p k c s).link.listeningDue = s.link.listeningDue
      ∧ (takeRackNote p k c s).peers.presenceDue = s.peers.presenceDue
      ∧ (takeRackNote p k c s).peers.heldBack = s.peers.heldBack
      ∧ (takeRackNote p k c s).temps.channels = s.temps.channels
      ∧ (takeRackNote p k c s).temps.datum = s.temps.datum
      ∧ (takeRackNote p k c s).temps.partCoeff = s.temps.partCoeff
      ∧ (takeRackNote p k c s).temps.sampleDue = s.temps.sampleDue
      ∧ (takeRackNote p k c s).probes.library = s.probes.library
      ∧ (takeRackNote p k c s).probes.live = s.probes.live
      ∧ (takeRackNote p k c s).probes.pendingBank = s.probes.pendingBank
      ∧ (takeRackNote p k c s).probes.current = s.probes.current
      ∧ (takeRackNote p k c s).probes.seated = s.probes.seated
      ∧ (takeRackNote p k c s).probes.latchOpen = s.probes.latchOpen
      ∧ (takeRackNote p k c s).probes.read = s.probes.read
      ∧ (takeRackNote p k c s).probes.change = s.probes.change
      ∧ (takeRackNote p k c s).probes.latch = s.probes.latch
      ∧ (takeRackNote p k c s).events.enable = s.events.enable
      ∧ (takeRackNote p k c s).events.releaseHold = s.events.releaseHold := by
  unfold takeRackNote
  refine ⟨?_, ?_, ?_, ?_, ?_, ?_, ?_, ?_, ?_, ?_, ?_, ?_, ?_, ?_, ?_, ?_, ?_, ?_, ?_, ?_, ?_, ?_, ?_, ?_, ?_, ?_, ?_, ?_⟩ <;> (repeat' split) <;> simp

@[simp] theorem takeSampleCall_leaves (p : Station) (v : Conversions) (order : List Chan) (s : State) :
    (takeSampleCall p v order s).zone.claim = s.zone.claim
      ∧ (takeSampleCall p v order s).zone.nextNumber = s.zone.nextNumber
      ∧ (takeSampleCall p v order s).zone.windows = s.zone.windows
      ∧ (takeSampleCall p v order s).zone.kept = s.zone.kept
      ∧ (takeSampleCall p v order s).zone.heldBack = s.zone.heldBack
      ∧ (takeSampleCall p v order s).zone.retryAwaited = s.zone.retryAwaited
      ∧ (takeSampleCall p v order s).link.state = s.link.state
      ∧ (takeSampleCall p v order s).link.waitIdle = s.link.waitIdle
      ∧ (takeSampleCall p v order s).link.lineOut = s.link.lineOut
      ∧ (takeSampleCall p v order s).link.listeningDue = s.link.listeningDue
      ∧ (takeSampleCall p v order s).temps.datum = s.temps.datum
      ∧ (takeSampleCall p v order s).temps.partCoeff = s.temps.partCoeff
      ∧ (takeSampleCall p v order s).temps.sampleDue = s.temps.sampleDue
      ∧ (takeSampleCall p v order s).events.enable = s.events.enable
      ∧ (takeSampleCall p v order s).events.releaseHold = s.events.releaseHold := by
  unfold takeSampleCall
  refine ⟨?_, ?_, ?_, ?_, ?_, ?_, ?_, ?_, ?_, ?_, ?_, ?_, ?_, ?_, ?_⟩ <;> (repeat' split) <;> simp

@[simp] theorem endPresencePeriod_leaves (s : State) :
    (endPresencePeriod s).link.state = s.link.state ∧ (endPresencePeriod s).link.run = s.link.run
      ∧ (endPresencePeriod s).link.waitIdle = s.link.waitIdle
      ∧ (endPresencePeriod s).link.lineOut = s.link.lineOut
      ∧ (endPresencePeriod s).link.listeningDue = s.link.listeningDue
      ∧ (endPresencePeriod s).peers.entries = s.peers.entries
      ∧ (endPresencePeriod s).events.enable = s.events.enable
      ∧ (endPresencePeriod s).events.releaseHold = s.events.releaseHold := by
  unfold endPresencePeriod
  dsimp only
  refine ⟨?_, ?_, ?_, ?_, ?_, ?_, ?_, ?_⟩ <;> (repeat' split) <;> simp

@[simp] theorem endListening_leaves (s : State) :
    (endListening s).station.number = s.station.number ∧ (endListening s).station.config = s.station.config
      ∧ (endListening s).station.assembly = s.station.assembly
      ∧ (endListening s).axes.retracted = s.axes.retracted ∧ (endListening s).zone.windows = s.zone.windows
      ∧ (endListening s).link.run = s.link.run ∧ (endListening s).link.waitIdle = s.link.waitIdle
      ∧ (endListening s).link.lineOut = s.link.lineOut ∧ (endListening s).peers.entries = s.peers.entries
      ∧ (endListening s).probes.library = s.probes.library
      ∧ (endListening s).probes.current = s.probes.current ∧ (endListening s).probes.slots = s.probes.slots
      ∧ (endListening s).probes.seated = s.probes.seated ∧ (endListening s).probes.latch = s.probes.latch
      ∧ (endListening s).events.enable = s.events.enable
      ∧ (endListening s).events.releaseHold = s.events.releaseHold := by
  unfold endListening
  dsimp only
  refine ⟨?_, ?_, ?_, ?_, ?_, ?_, ?_, ?_, ?_, ?_, ?_, ?_, ?_, ?_, ?_, ?_⟩ <;> (repeat' split) <;> simp

@[simp] theorem endListening_leaves_axis (s : State) (ax : Axis) :
    ((endListening s).axes.chan.get ax).scale = (s.axes.chan.get ax).scale
      ∧ ((endListening s).axes.chan.get ax).referenced = (s.axes.chan.get ax).referenced
      ∧ ((endListening s).axes.chan.get ax).lower = (s.axes.chan.get ax).lower
      ∧ ((endListening s).axes.chan.get ax).upper = (s.axes.chan.get ax).upper
      ∧ ((endListening s).axes.chan.get ax).ready = (s.axes.chan.get ax).ready := by
  unfold endListening
  dsimp only
  refine ⟨?_, ?_, ?_, ?_, ?_⟩ <;> (repeat' split) <;> simp

@[simp] theorem seatTimeout_leaves (waiting leaving : Phase) (latchOpen : Bool) (s : State) :
    (seatTimeout waiting leaving latchOpen s).axes.retracted = s.axes.retracted
      ∧ (seatTimeout waiting leaving latchOpen s).motion.stopPending = s.motion.stopPending
      ∧ (seatTimeout waiting leaving latchOpen s).motion.reference = s.motion.reference
      ∧ (seatTimeout waiting leaving latchOpen s).zone.windows = s.zone.windows
      ∧ (seatTimeout waiting leaving latchOpen s).link.state = s.link.state
      ∧ (seatTimeout waiting leaving latchOpen s).link.run = s.link.run
      ∧ (seatTimeout waiting leaving latchOpen s).link.waitIdle = s.link.waitIdle
      ∧ (seatTimeout waiting leaving latchOpen s).link.lineOut = s.link.lineOut
      ∧ (seatTimeout waiting leaving latchOpen s).link.listeningDue = s.link.listeningDue
      ∧ (seatTimeout waiting leaving latchOpen s).peers.entries = s.peers.entries
      ∧ (seatTimeout waiting leaving latchOpen s).probes.library = s.probes.library
      ∧ (seatTimeout waiting leaving latchOpen s).probes.current = s.probes.current
      ∧ (seatTimeout waiting leaving latchOpen s).probes.slots = s.probes.slots
      ∧ (seatTimeout waiting leaving latchOpen s).probes.seated = s.probes.seated
      ∧ (seatTimeout waiting leaving latchOpen s).probes.read = s.probes.read
      ∧ (seatTimeout waiting leaving latchOpen s).probes.latch = s.probes.latch
      ∧ (seatTimeout waiting leaving latchOpen s).events.enable = s.events.enable
      ∧ (seatTimeout waiting leaving latchOpen s).events.releaseHold = s.events.releaseHold := by
  unfold seatTimeout
  dsimp only
  refine ⟨?_, ?_, ?_, ?_, ?_, ?_, ?_, ?_, ?_, ?_, ?_, ?_, ?_, ?_, ?_, ?_, ?_, ?_⟩ <;> (repeat' split) <;> simp

@[simp] theorem seatTimeout_leaves_axis (waiting leaving : Phase) (latchOpen : Bool) (s : State)
    (ax : Axis) :
    ((seatTimeout waiting leaving latchOpen s).axes.chan.get ax).scale = (s.axes.chan.get ax).scale
      ∧ ((seatTimeout waiting leaving latchOpen s).axes.chan.get ax).referenced = (s.axes.chan.get ax).referenced
      ∧ ((seatTimeout waiting leaving latchOpen s).axes.chan.get ax).setpoint = (s.axes.chan.get ax).setpoint
      ∧ ((seatTimeout waiting leaving latchOpen s).axes.chan.get ax).lower = (s.axes.chan.get ax).lower
      ∧ ((seatTimeout waiting leaving latchOpen s).axes.chan.get ax).upper = (s.axes.chan.get ax).upper
      ∧ ((seatTimeout waiting leaving latchOpen s).axes.chan.get ax).ready = (s.axes.chan.get ax).ready
      ∧ ((seatTimeout waiting leaving latchOpen s).axes.chan.get ax).enable = (s.axes.chan.get ax).enable := by
  unfold seatTimeout
  dsimp only
  refine ⟨?_, ?_, ?_, ?_, ?_, ?_, ?_⟩ <;> (repeat' split) <;> simp

@[simp] theorem takeAnswer_leaves (high low check : Byte) (s : State) :
    (takeAnswer high low check s).axes.retracted = s.axes.retracted
      ∧ (takeAnswer high low check s).motion.stopPending = s.motion.stopPending
      ∧ (takeAnswer high low check s).motion.reference = s.motion.reference
      ∧ (takeAnswer high low check s).zone.windows = s.zone.windows
      ∧ (takeAnswer high low check s).link.state = s.link.state
      ∧ (takeAnswer high low check s).link.run = s.link.run
      ∧ (takeAnswer high low check s).link.waitIdle = s.link.waitIdle
      ∧ (takeAnswer high low check s).link.lineOut = s.link.lineOut
      ∧ (takeAnswer high low check s).link.listeningDue = s.link.listeningDue
      ∧ (takeAnswer high low check s).peers.entries = s.peers.entries
      ∧ (takeAnswer high low check s).probes.library = s.probes.library
      ∧ (takeAnswer high low check s).probes.seated = s.probes.seated
      ∧ (takeAnswer high low check s).probes.latchOpen = s.probes.latchOpen
      ∧ (takeAnswer high low check s).probes.latch = s.probes.latch
      ∧ (takeAnswer high low check s).events.enable = s.events.enable
      ∧ (takeAnswer high low check s).events.releaseHold = s.events.releaseHold := by
  unfold takeAnswer
  dsimp only
  refine ⟨?_, ?_, ?_, ?_, ?_, ?_, ?_, ?_, ?_, ?_, ?_, ?_, ?_, ?_, ?_, ?_⟩ <;> (repeat' split) <;> simp

@[simp] theorem takeAnswer_leaves_axis (high low check : Byte) (s : State) (ax : Axis) :
    ((takeAnswer high low check s).axes.chan.get ax).scale = (s.axes.chan.get ax).scale
      ∧ ((takeAnswer high low check s).axes.chan.get ax).referenced = (s.axes.chan.get ax).referenced
      ∧ ((takeAnswer high low check s).axes.chan.get ax).setpoint = (s.axes.chan.get ax).setpoint
      ∧ ((takeAnswer high low check s).axes.chan.get ax).lower = (s.axes.chan.get ax).lower
      ∧ ((takeAnswer high low check s).axes.chan.get ax).upper = (s.axes.chan.get ax).upper
      ∧ ((takeAnswer high low check s).axes.chan.get ax).ready = (s.axes.chan.get ax).ready
      ∧ ((takeAnswer high low check s).axes.chan.get ax).enable = (s.axes.chan.get ax).enable := by
  unfold takeAnswer
  dsimp only
  refine ⟨?_, ?_, ?_, ?_, ?_, ?_, ?_⟩ <;> (repeat' split) <;> simp

@[simp] theorem attemptTimeout_leaves (s : State) :
    (attemptTimeout s).axes.retracted = s.axes.retracted
      ∧ (attemptTimeout s).motion.stopPending = s.motion.stopPending
      ∧ (attemptTimeout s).motion.reference = s.motion.reference
      ∧ (attemptTimeout s).zone.windows = s.zone.windows ∧ (attemptTimeout s).link.state = s.link.state
      ∧ (attemptTimeout s).link.run = s.link.run ∧ (attemptTimeout s).link.waitIdle = s.link.waitIdle
      ∧ (attemptTimeout s).link.lineOut = s.link.lineOut
      ∧ (attemptTimeout s).link.listeningDue = s.link.listeningDue
      ∧ (attemptTimeout s).peers.entries = s.peers.entries
      ∧ (attemptTimeout s).probes.library = s.probes.library
      ∧ (attemptTimeout s).probes.seated = s.probes.seated
      ∧ (attemptTimeout s).probes.latchOpen = s.probes.latchOpen
      ∧ (attemptTimeout s).probes.latch = s.probes.latch
      ∧ (attemptTimeout s).events.enable = s.events.enable
      ∧ (attemptTimeout s).events.releaseHold = s.events.releaseHold := by
  unfold attemptTimeout
  refine ⟨?_, ?_, ?_, ?_, ?_, ?_, ?_, ?_, ?_, ?_, ?_, ?_, ?_, ?_, ?_, ?_⟩ <;> (repeat' split) <;> simp

@[simp] theorem attemptTimeout_leaves_axis (s : State) (ax : Axis) :
    ((attemptTimeout s).axes.chan.get ax).scale = (s.axes.chan.get ax).scale
      ∧ ((attemptTimeout s).axes.chan.get ax).referenced = (s.axes.chan.get ax).referenced
      ∧ ((attemptTimeout s).axes.chan.get ax).setpoint = (s.axes.chan.get ax).setpoint
      ∧ ((attemptTimeout s).axes.chan.get ax).lower = (s.axes.chan.get ax).lower
      ∧ ((attemptTimeout s).axes.chan.get ax).upper = (s.axes.chan.get ax).upper
      ∧ ((attemptTimeout s).axes.chan.get ax).ready = (s.axes.chan.get ax).ready
      ∧ ((attemptTimeout s).axes.chan.get ax).enable = (s.axes.chan.get ax).enable := by
  unfold attemptTimeout
  refine ⟨?_, ?_, ?_, ?_, ?_, ?_, ?_⟩ <;> (repeat' split) <;> simp

@[simp] theorem lineIdle_leaves (s : State) :
    (lineIdle s).link.state = s.link.state ∧ (lineIdle s).link.list = s.link.list
      ∧ (lineIdle s).link.run = s.link.run ∧ (lineIdle s).link.lineOut = s.link.lineOut
      ∧ (lineIdle s).link.listeningDue = s.link.listeningDue := by
  unfold lineIdle
  refine ⟨?_, ?_, ?_, ?_, ?_⟩ <;> (repeat' split) <;> simp

@[simp] theorem driverFault_leaves (s : State) :
    (driverFault s).axes.retracted = s.axes.retracted ∧ (driverFault s).zone.windows = s.zone.windows
      ∧ (driverFault s).link.state = s.link.state ∧ (driverFault s).link.run = s.link.run
      ∧ (driverFault s).link.listeningDue = s.link.listeningDue
      ∧ (driverFault s).peers.entries = s.peers.entries ∧ (driverFault s).probes.library = s.probes.library
      ∧ (driverFault s).probes.current = s.probes.current ∧ (driverFault s).probes.seated = s.probes.seated
      ∧ (driverFault s).probes.latch = s.probes.latch ∧ (driverFault s).events.enable = s.events.enable
      ∧ (driverFault s).events.releaseHold = s.events.releaseHold := by
  unfold driverFault
  refine ⟨?_, ?_, ?_, ?_, ?_, ?_, ?_, ?_, ?_, ?_, ?_, ?_⟩ <;> (repeat' split) <;> simp

@[simp] theorem driverFault_leaves_axis (s : State) (ax : Axis) :
    ((driverFault s).axes.chan.get ax).scale = (s.axes.chan.get ax).scale
      ∧ ((driverFault s).axes.chan.get ax).referenced = (s.axes.chan.get ax).referenced
      ∧ ((driverFault s).axes.chan.get ax).lower = (s.axes.chan.get ax).lower
      ∧ ((driverFault s).axes.chan.get ax).upper = (s.axes.chan.get ax).upper
      ∧ ((driverFault s).axes.chan.get ax).ready = (s.axes.chan.get ax).ready := by
  unfold driverFault
  refine ⟨?_, ?_, ?_, ?_, ?_⟩ <;> (repeat' split) <;> simp

@[simp] theorem takeScaleCount_leaves (a : Axis) (forward : Bool) (s : State) :
    (takeScaleCount a forward s).axes.retracted = s.axes.retracted
      ∧ (takeScaleCount a forward s).motion.deferCurrent = s.motion.deferCurrent
      ∧ (takeScaleCount a forward s).motion.deferHandOver = s.motion.deferHandOver
      ∧ (takeScaleCount a forward s).zone.cells = s.zone.cells
      ∧ (takeScaleCount a forward s).zone.nextNumber = s.zone.nextNumber
      ∧ (takeScaleCount a forward s).zone.windows = s.zone.windows
      ∧ (takeScaleCount a forward s).zone.retryAwaited = s.zone.retryAwaited
      ∧ (takeScaleCount a forward s).link.state = s.link.state
      ∧ (takeScaleCount a forward s).link.run = s.link.run
      ∧ (takeScaleCount a forward s).link.waitIdle = s.link.waitIdle
      ∧ (takeScaleCount a forward s).link.lineOut = s.link.lineOut
      ∧ (takeScaleCount a forward s).link.listeningDue = s.link.listeningDue
      ∧ (takeScaleCount a forward s).peers.entries = s.peers.entries
      ∧ (takeScaleCount a forward s).probes.library = s.probes.library
      ∧ (takeScaleCount a forward s).probes.current = s.probes.current
      ∧ (takeScaleCount a forward s).probes.slots = s.probes.slots
      ∧ (takeScaleCount a forward s).probes.seated = s.probes.seated
      ∧ (takeScaleCount a forward s).probes.latch = s.probes.latch
      ∧ (takeScaleCount a forward s).events.enable = s.events.enable
      ∧ (takeScaleCount a forward s).events.releaseHold = s.events.releaseHold := by
  unfold takeScaleCount
  dsimp only
  refine ⟨?_, ?_, ?_, ?_, ?_, ?_, ?_, ?_, ?_, ?_, ?_, ?_, ?_, ?_, ?_, ?_, ?_, ?_, ?_, ?_⟩ <;> (repeat' split) <;> simp

@[simp] theorem takeScaleCount_leaves_axis (a : Axis) (forward : Bool) (s : State) (ax : Axis) :
    ((takeScaleCount a forward s).axes.chan.get ax).lower = (s.axes.chan.get ax).lower
      ∧ ((takeScaleCount a forward s).axes.chan.get ax).upper = (s.axes.chan.get ax).upper
      ∧ ((takeScaleCount a forward s).axes.chan.get ax).ready = (s.axes.chan.get ax).ready := by
  unfold takeScaleCount
  dsimp only
  by_cases h : ax = a <;> refine ⟨?_, ?_, ?_⟩ <;> (repeat' split) <;> simp [State.axis, h]

end Sys2Proof.Machine
end

section
/-! PROOFS. Counts and temperatures in range (R2, R115, R118, R123). A rounded quotient lies between whole bounds of
its exact value, so means and slew-limited samples stay in the range of a temperature; then each operation on
channels, quantities and peers keeps every temperature in range, and no command writes a count out of range. -/

namespace Sys2Proof.Machine

/-- A step is a command's, on the state with the queue's rest, or idles. -/
theorem step_cases {s t : State} (h : step s = .next t) :
    t = s ∨ ∃ c rest, s.pending = c :: rest ∧ exec c (s.setPending rest) = .next t := by
  unfold step at h
  split at h
  · exact .inl (Host.Outcome.next.inj h).symm
  · exact .inr ⟨_, _, ‹_›, h⟩

/-! ## Rounded quotients between whole bounds -/

theorem le_roundDiv {n lo : Int} {d : Nat} (hd : 0 < d) (h : lo * d ≤ n) : lo ≤ roundDiv n d := by
  have near := (roundDiv_nearest n hd).1
  by_contra below
  have step : (roundDiv n d + 1) * d ≤ lo * d := mul_le_mul_of_nonneg_right (by omega) (by omega)
  have bound := le_abs_self (n - roundDiv n d * d)
  rw [add_mul] at step
  omega

theorem roundDiv_le {n hi : Int} {d : Nat} (hd : 0 < d) (h : n ≤ hi * d) : roundDiv n d ≤ hi := by
  have near := (roundDiv_nearest n hd).1
  by_contra above
  have step : (hi + 1) * d ≤ roundDiv n d * d := mul_le_mul_of_nonneg_right (by omega) (by omega)
  have bound := neg_abs_le (n - roundDiv n d * d)
  rw [add_mul] at step
  omega

/-! ## Temperatures (R115) -/

theorem temperatureOk_iff (t : Int) : temperatureOk t = true ↔ -1000 ≤ t ∧ t ≤ 6000 := by
  simp [temperatureOk]

/-- The mean of temperatures is a temperature (R118, R128). -/
theorem temperatureOk_mean {l : List Int} (some_value : l ≠ []) (h : ∀ v ∈ l, temperatureOk v = true) :
    temperatureOk (mean l) = true := by
  have length_pos : 0 < l.length := List.length_pos_iff.mpr some_value
  have low := List.card_nsmul_le_sum l (-1000) fun v hv => ((temperatureOk_iff v).mp (h v hv)).1
  have high := List.sum_le_card_nsmul l 6000 fun v hv => ((temperatureOk_iff v).mp (h v hv)).2
  rw [nsmul_eq_mul] at low high
  rw [temperatureOk_iff, mean]
  exact ⟨le_roundDiv length_pos (by linarith), roundDiv_le length_pos (by linarith)⟩

theorem temperatureOk_slewClamp {reading : Option Int} {v : Int}
    (known : ∀ r, reading = some r → temperatureOk r = true) (h : temperatureOk v = true) :
    temperatureOk (slewClamp reading v) = true := by
  cases reading with
  | none => exact h
  | some r =>
    have hr := (temperatureOk_iff r).mp (known r rfl)
    have hv := (temperatureOk_iff v).mp h
    rw [temperatureOk_iff, slewClamp, clampInt_eq_max_min (by omega)]
    omega

theorem temperatureOk_pushWindow {w : List Int} {v : Int} (old : ∀ x ∈ w, temperatureOk x = true)
    (h : temperatureOk v = true) : ∀ x ∈ pushWindow w v, temperatureOk x = true := by
  intro x hx
  rw [pushWindow, List.mem_append, List.mem_singleton] at hx
  rcases hx with hx | rfl
  · split at hx
    · exact old x hx
    · exact old x (List.mem_of_mem_drop hx)
  · exact h

/-! ## Channels -/

theorem Channel.Sound.accept {c : Channel} (hc : c.Sound) {v : Int} (hv : temperatureOk v = true) :
    (c.accept v).Sound := by
  obtain ⟨window, reading, -, -⟩ := hc
  have pushed := temperatureOk_pushWindow window (temperatureOk_slewClamp reading hv)
  have averaged := temperatureOk_mean (by simp [pushWindow]) pushed
  refine ⟨pushed, ?_, ?_, Nat.zero_le _⟩ <;> rintro x ⟨⟩ <;> exact averaged

theorem Channel.Sound.reject {c : Channel} (hc : c.Sound) : c.reject.Sound := by
  obtain ⟨window, reading, last, run⟩ := hc
  unfold Channel.reject
  dsimp only
  repeat' split
  all_goals simp [Channel.Sound]
  all_goals tauto

theorem Channel.Sound.take {c : Channel} (hc : c.Sound) (v : Option Int) : (c.take v).Sound := by
  unfold Channel.take
  split
  · split
    · exact hc.accept (Option.filter_eq_some_iff.mp ‹_›).2
    · exact hc.reject
  · exact hc

theorem Channel.Sound.configure {c : Channel} (hc : c.Sound) (k : ChanConfig) : (c.configure k).Sound := by
  obtain ⟨window, reading, last, run⟩ := hc
  unfold Channel.configure
  repeat' split
  all_goals simp [Channel.Sound]
  all_goals tauto

/-! ## The sources of a quantity (R121, R122, R126, R128) -/

theorem State.TempsSound.localFresh {s : State} (h : s.TempsSound) {c : Chan} {v : Int}
    (fresh : localFresh s c = some v) : temperatureOk v = true := by
  obtain ⟨-, reading, -, -⟩ := h.1 c
  unfold Machine.localFresh at fresh
  dsimp only at fresh
  split at fresh
  · exact reading v fresh
  · exact reading v fresh
  · cases fresh

theorem State.TempsSound.peerFresh {s : State} (h : s.TempsSound) {p : Station} {c : Chan} {v : Int}
    (fresh : peerFresh s p c = some v) : temperatureOk v = true := by
  unfold Machine.peerFresh at fresh
  split at fresh
  · next e present =>
    split at fresh
    · cases fresh
    · obtain ⟨x, kept, rfl⟩ := Option.map_eq_some_iff.mp fresh
      obtain ⟨recorded, -⟩ := Option.filter_eq_some_iff.mp kept
      rw [peerReading, present] at recorded
      obtain ⟨r, report, found⟩ := Option.bind_eq_some_iff.mp recorded
      exact h.2.2 p e r x present report (List.mem_of_find?_eq_some found)
  · cases fresh

theorem State.TempsSound.partContributors {s : State} (h : s.TempsSound) :
    ∀ v ∈ partContributors s, temperatureOk v = true := by
  intro v hv
  rw [Machine.partContributors, List.mem_append] at hv
  rcases hv with own | ofPeers
  · obtain ⟨c, -, fresh⟩ := List.mem_filterMap.mp own
    split at fresh
    · exact h.localFresh fresh
    · cases fresh
  · obtain ⟨p, -, listed⟩ := List.mem_flatMap.mp ofPeers
    split at listed
    · next e present =>
      split at listed
      · cases listed
      · obtain ⟨x, recorded, used⟩ := List.mem_filterMap.mp listed
        split at used
        · obtain rfl := Option.some.inj used
          cases report : e.report with
          | none => simp [report] at recorded
          | some r => exact h.2.2 p e r x present report (by simpa [report] using recorded)
        · cases used
    · cases listed

theorem State.TempsSound.primaryOf {s : State} (h : s.TempsSound) {i : Fin 5} {v : Int}
    (fresh : primaryOf s i = some v) : temperatureOk v = true := by
  obtain ⟨src, -, value⟩ := Option.bind_eq_some_iff.mp fresh
  unfold primaryValue at value
  split at value
  · exact h.localFresh value
  · exact h.peerFresh value
  · unfold partMean at value
    split at value
    · cases value
    · next contributors =>
      obtain rfl := Option.some.inj value
      exact temperatureOk_mean (by simpa using contributors) h.partContributors

theorem State.TempsSound.backupOf {s : State} (h : s.TempsSound) {i : Fin 5} {v : Int}
    (fresh : backupOf s i = some v) : temperatureOk v = true := by
  obtain ⟨src, -, value⟩ := Option.bind_eq_some_iff.mp fresh
  obtain ⟨c, -, own⟩ := Option.bind_eq_some_iff.mp value
  exact h.localFresh own

/-! ## The operations on temperatures -/

theorem State.TempsSound.of_same {s t : State} (h : s.TempsSound)
    (channels : t.temps.channels = s.temps.channels) (quantities : t.temps.quantities = s.temps.quantities)
    (entries : t.peers.entries = s.peers.entries) : t.TempsSound := by
  rw [State.TempsSound, channels, quantities]
  refine ⟨h.1, h.2.1, ?_⟩
  rw [show t.peer = s.peer from funext fun p => by rw [State.peer, entries, State.peer]]
  exact h.2.2

theorem State.TempsSound.evaluate {s : State} (h : s.TempsSound) : (evaluate s).TempsSound := by
  refine ⟨h.1, fun i => ?_, h.2.2⟩
  rw [evaluate_quantity, evalQuantity]
  obtain ⟨value, override⟩ := h.2.1 i
  repeat' split
  · exact ⟨override, override⟩
  · exact ⟨h.primaryOf ‹_›, override⟩
  · exact ⟨h.backupOf ‹_›, override⟩
  · exact ⟨value, override⟩

/-- A quantity replaced by one whose value and override are temperatures. -/
theorem State.TempsSound.setQuantity {s : State} (h : s.TempsSound) (i : Fin 5) {q : Quantity}
    (value : temperatureOk q.value = true) (override : temperatureOk q.override = true) :
    (s.setTemps { s.temps with quantities := s.temps.quantities.set i q }).TempsSound := by
  refine ⟨h.1, fun j => ?_, h.2.2⟩
  by_cases other : j = i
  · subst other
    simp [value, override]
  · simpa [Vec.get_set_other _ _ other] using h.2.1 j

theorem State.TempsSound.mapChannels {s : State} (h : s.TempsSound) {f : Chan → Channel → Channel}
    (keeps : ∀ i c, c.Sound → (f i c).Sound) :
    (s.setTemps { s.temps with channels := s.temps.channels.mapIx f }).TempsSound :=
  ⟨fun c => by simpa using keeps c _ (h.1 c), h.2.1, h.2.2⟩

theorem State.TempsSound.sampleChannels {s : State} (h : s.TempsSound) (v : Conversions) (order : List Chan) :
    (sampleChannels v order s).TempsSound := by
  have taken : (takeSamples v s).TempsSound := h.mapChannels fun i c hc => hc.take _
  exact State.TempsSound.evaluate (taken.of_same (by simp) (by simp) (by simp))

/-! ## The operations on peers -/

/-- An entry replaced by one whose report carries temperatures. -/
theorem State.TempsSound.setPeer {s : State} (h : s.TempsSound) (p : Station) {e : Option Peer}
    (readings : ∀ e' r x, e = some e' → e'.report = some r → x ∈ r.readings → temperatureOk x.value = true) :
    (s.setPeer p e).TempsSound := by
  refine ⟨h.1, h.2.1, fun q e' r x present => ?_⟩
  by_cases other : q = p
  · subst other
    exact readings e' r x (by simpa [State.peer, State.setPeer] using present)
  · exact h.2.2 q e' r x (by simpa [State.peer, State.setPeer, Vec.get_set_other _ _ other] using present)

/-- An entry replaced by one with the same report. -/
theorem State.TempsSound.setPeer_report {s : State} (h : s.TempsSound) {p : Station} {e e' : Peer}
    (present : s.peer p = some e) (same : e'.report = e.report) : (s.setPeer p (some e')).TempsSound := by
  refine h.setPeer p fun f r x is report => h.2.2 p e r x present ?_
  rw [← same, Option.some.inj is, report]

theorem State.TempsSound.hear {s : State} (h : s.TempsSound) (p : Station) : (hear p s).TempsSound := by
  unfold Machine.hear
  split
  · exact h
  · have run : (if s.judges then s.setLink { s.link with run := 0 } else s).TempsSound := by
      split
      · exact h
      · exact h
    dsimp only
    split
    · exact run.setPeer p (by rintro _ _ _ ⟨⟩ ⟨⟩)
    · next e present =>
      have heard := run.setPeer_report (e' := { e with
        lost := false, lastHeard := (if s.judges then s.setLink { s.link with run := 0 } else s).clock })
        present rfl
      split
      · exact State.TempsSound.evaluate (heard.of_same rfl rfl rfl)
      · exact heard

theorem State.TempsSound.recordReport {s : State} (h : s.TempsSound) (p : Station) {r : Report}
    (readings : ∀ x ∈ r.readings, temperatureOk x.value = true) : (recordReport p r s).TempsSound := by
  unfold Machine.recordReport
  split
  · exact h.setPeer p (by rintro _ _ x ⟨⟩ ⟨⟩ hx; exact readings x hx)
  · exact h

theorem State.TempsSound.losePeer {s : State} (h : s.TempsSound) (p : Station) : (losePeer p s).TempsSound := by
  unfold Machine.losePeer
  split
  · next e present =>
    split
    · exact h
    · have late : (s.reach (e.lastHeard + 3000)).TempsSound := h
      have lost := late.setPeer_report (p := p) (e := e) (e' := { e with lost := true }) present rfl
      exact State.TempsSound.evaluate (lost.of_same (by simp) (by simp) (by simp))
  · exact h

/-! ## The scale counts (R2) -/

theorem fits32_ofBitVec (x : BitVec 32) : fits32 x.toInt = true := by
  rw [fits32_iff]
  have := x.le_toInt
  have := x.toInt_lt
  omega

theorem fits32_fieldV3 (off : Nat) (data : List Byte) (a : Axis) :
    fits32 ((fieldV3 off data).get a) = true := by
  cases a <;> exact fits32_ofBitVec _

theorem State.ScalesSound.of_same {s t : State} (h : s.ScalesSound)
    (scales : ∀ a, (t.axes.chan.get a).scale = (s.axes.chan.get a).scale)
    (config : t.station.config = s.station.config) : t.ScalesSound := by
  refine ⟨fun a => ?_, fun a => ?_⟩
  · rw [scales]
    exact h.1 a
  · rw [State.cfg, config]
    exact h.2 a

/-- The channel of an axis replaced by one whose scale count is in range. -/
theorem State.ScalesSound.setAxis {s : State} (h : s.ScalesSound) (a : Axis) {c : AxisChan}
    (scale : fits32 c.scale = true) : (s.setAxis a c).ScalesSound := by
  refine ⟨fun b => ?_, h.2⟩
  rw [State.setAxis_get]
  split
  · exact scale
  · exact h.1 b

theorem State.ScalesSound.takeScaleCount {s : State} (h : s.ScalesSound) (a : Axis) (forward : Bool) :
    (takeScaleCount a forward s).ScalesSound := by
  unfold Machine.takeScaleCount
  dsimp only
  by_cases fits : fits32 (if forward then (s.axis a).scale + 1 else (s.axis a).scale - 1) = true
  · rw [if_pos fits]
    exact h.setAxis a fits
  · rw [if_neg fits]
    exact h.of_same (fun _ => by simp) (by simp)

theorem powerOn_scalesSound (p : Pins) : (State.powerOn p).ScalesSound := by
  refine ⟨fun a => ?_, fun a => ?_⟩ <;> cases a <;> rfl

theorem State.ScalesSound.acceptBlock {s : State} (h : s.ScalesSound) (b : List Byte) :
    (acceptBlock b s).ScalesSound :=
  ⟨fun a => by simpa using h.1 a, fun a => fits32_fieldV3 846 b a⟩

/-- What one CONFIGURE part does: it is refused, it joins the assembly, or it completes a block, which is
discarded or accepted (R212 to R214). -/
theorem takePart_cases (data : List Byte) (s : State) :
    takePart data s = answerNumbered .outOfRange [] (dropAssembly s)
      ∨ (∃ content next, takePart data s = addPart content next s)
      ∨ (∃ code reply, takePart data s = answerNumbered code reply (dropAssembly s))
      ∨ ∃ b, takePart data s = acceptBlock b s := by
  by_cases ok : field 1 1 data = 17 ∧ field 0 1 data ≤ 16
    ∧ (data.drop 2).length = (if field 0 1 data = 16 then 5 else 58)
    ∧ (field 0 1 data = 0 ∨ field 0 1 data = s.station.assembly.next)
  · rw [takePart, if_pos ok]
    by_cases first : field 0 1 data = 0
    · exact .inr (.inl ⟨_, _, by rw [if_pos first]⟩)
    by_cases last : field 0 1 data = 16
    · rw [if_neg first, if_pos last, checkBlock]
      split
      · split
        · exact .inr (.inr (.inl ⟨_, _, rfl⟩))
        · exact .inr (.inr (.inr ⟨_, rfl⟩))
      · exact .inr (.inr (.inl ⟨_, _, rfl⟩))
    · exact .inr (.inl ⟨_, _, by rw [if_neg first, if_neg last]⟩)
  · exact .inl (by rw [takePart, if_neg ok])

theorem State.ScalesSound.takePart {s : State} (h : s.ScalesSound) (data : List Byte) :
    (takePart data s).ScalesSound := by
  rcases takePart_cases data s with refused | ⟨content, next, joined⟩ | ⟨code, reply, dropped⟩ | ⟨b, accepted⟩
  · rw [refused]
    exact h
  · rw [joined]
    exact h
  · rw [dropped]
    exact h
  · rw [accepted]
    exact h.acceptBlock b

theorem exec_keeps_scalesSound {c : Instr} {s t : State} (h : s.ScalesSound) (run : exec c s = .next t) :
    t.ScalesSound := by
  cases c
  all_goals obtain rfl := Host.Outcome.next.inj run
  case powerOn p => exact (powerOn_scalesSound p).of_same (fun _ => rfl) rfl
  case resetStation data p =>
    unfold resetStation withLength
    split
    · exact (powerOn_scalesSound p).of_same (fun _ => rfl) rfl
    · exact h
  case configure data =>
    unfold configure
    repeat' split
    · exact h
    · exact h
    · exact h.takePart data
  case scaleCount a forward =>
    exact h.takeScaleCount a forward
  case referenceMark a =>
    unfold takeReferenceMark
    repeat' split
    · exact (h.setAxis a (h.2 a)).of_same (fun _ => rfl) rfl
    · exact h
    · exact h
  all_goals exact h.of_same (fun _ => by simp) (by simp)

/-! ## Every command keeps temperatures in range (R115, R123) -/

theorem powerOn_tempsSound (p : Pins) : (State.powerOn p).TempsSound := by
  refine ⟨fun c => ?_, fun i => ?_, fun q e r x present => ?_⟩
  · rw [show (State.powerOn p).temps.channels.get c = .reset from Vec.get_ofFn _ c]
    simp [Channel.Sound, Channel.reset]
  · rw [show (State.powerOn p).temps.quantities.get i = .reset from Vec.get_ofFn _ i]
    decide
  · rw [show (State.powerOn p).peer q = none from Vec.get_ofFn _ q] at present
    cases present

theorem State.TempsSound.acceptBlock {s : State} (h : s.TempsSound) (b : List Byte) :
    (acceptBlock b s).TempsSound := by
  have placed : ((dropAssembly s).setStation
      { (dropAssembly s).station with config := some (readBlock b) }).TempsSound := h
  exact State.TempsSound.evaluate (placed.mapChannels fun i c hc => hc.configure _)

theorem State.TempsSound.takePart {s : State} (h : s.TempsSound) (data : List Byte) :
    (takePart data s).TempsSound := by
  rcases takePart_cases data s with refused | ⟨content, next, joined⟩ | ⟨code, reply, dropped⟩ | ⟨b, accepted⟩
  · rw [refused]
    exact h
  · rw [joined]
    exact h
  · rw [dropped]
    exact h
  · rw [accepted]
    exact h.acceptBlock b

theorem State.TempsSound.setFixedTemperature {s : State} (h : s.TempsSound) (data : List Byte) :
    (setFixedTemperature data s).TempsSound := by
  unfold Machine.setFixedTemperature withLength
  repeat' split
  · exact h
  · next i _ =>
    have override : temperatureOk (clampInt (-1000) 6000 (fieldInt16 1 data)) = true := by
      rw [temperatureOk_iff, clampInt_eq_max_min (by decide)]
      omega
    exact State.TempsSound.evaluate (h.setQuantity i (h.2.1 i).1 override)
  · exact h

theorem State.TempsSound.clearFixedTemperature {s : State} (h : s.TempsSound) (data : List Byte) :
    (clearFixedTemperature data s).TempsSound := by
  unfold Machine.clearFixedTemperature withLength
  repeat' split
  · exact h
  · next i _ => exact State.TempsSound.evaluate (h.setQuantity i (h.2.1 i).1 (h.2.1 i).2)
  · exact h

theorem State.TempsSound.forgetPeer {s : State} (h : s.TempsSound) (data : List Byte) :
    (forgetPeer data s).TempsSound := by
  unfold Machine.forgetPeer withLength
  repeat' split
  · exact h
  · next p _ _ =>
    have gone : (s.setPeer p none).TempsSound := h.setPeer p (by rintro _ _ _ ⟨⟩)
    exact State.TempsSound.evaluate (gone.of_same (by simp) (by simp) (by simp))
  · exact h
  · exact h

theorem State.TempsSound.takePresence {s : State} (h : s.TempsSound) (p : Station) (r : Report) :
    (takePresence p r s).TempsSound := by
  unfold Machine.takePresence
  split
  · next accepted =>
    have readings : ∀ x ∈ r.readings, temperatureOk x.value = true := by
      simpa using (Bool.and_eq_true_iff.mp accepted).2
    exact State.TempsSound.evaluate
      (((h.hear p).recordReport p readings).of_same (by simp) (by simp) (by simp))
  · exact h

theorem State.TempsSound.resetLink {s : State} (h : s.TempsSound) (data : List Byte) :
    (resetLink data s).TempsSound := by
  have restarted : (restartLink s).TempsSound :=
    ⟨by simpa using h.1, by simpa using h.2.1, fun p e r x present => by
      rw [show (restartLink s).peer p = none from Vec.get_ofFn _ p] at present
      cases present⟩
  have evaluated : (Machine.evaluate (offerPresence (claimAfterReset (forgetHolders (dropWindows
      (restartLink s)))))).TempsSound :=
    State.TempsSound.evaluate (restarted.of_same (by simp) (by simp) (by simp))
  have effect : (resetLinkEffect s).TempsSound := evaluated.of_same (by simp [resetLinkEffect])
    (by simp [resetLinkEffect]) (by simp [resetLinkEffect])
  unfold Machine.resetLink withLength
  repeat' split
  all_goals first
    | exact effect
    | exact h

theorem exec_keeps_tempsSound {c : Instr} {s t : State} (h : s.TempsSound) (run : exec c s = .next t) :
    t.TempsSound := by
  cases c
  all_goals obtain rfl := Host.Outcome.next.inj run
  case powerOn p => exact powerOn_tempsSound p
  case resetStation data p =>
    unfold resetStation withLength
    split
    · exact powerOn_tempsSound p
    · exact h
  case configure data =>
    unfold configure
    repeat' split
    · exact h
    · exact h
    · exact h.takePart data
  case setFixedTemperature data => exact h.setFixedTemperature data
  case clearFixedTemperature data => exact h.clearFixedTemperature data
  case forgetPeer data => exact h.forgetPeer data
  case resetLink data => exact h.resetLink data
  case peerLost p => exact h.losePeer p
  case presenceAccepted p r => exact h.takePresence p r
  case sampleTimer v order =>
    have due : ((s.reach s.temps.sampleDue).setTemps
        { s.temps with sampleDue := s.temps.sampleDue + 100 }).TempsSound := h
    exact due.sampleChannels v order
  case sampleCallAccepted p v order =>
    unfold takeSampleCall
    split
    · exact ((h.hear p).sampleChannels v order).of_same (by simp) (by simp) (by simp)
    · exact h
  case claimAccepted p n cs =>
    unfold takeClaim
    split
    · split
      · exact h.of_same (by simp) (by simp) (by simp)
      · exact (h.hear p).of_same (by simp) (by simp) (by simp)
    · exact h
  case objectAccepted sender target n cs =>
    unfold takeObject
    dsimp only
    split
    · split <;> exact (h.hear sender).of_same (by simp) (by simp) (by simp)
    · exact h
  case waitAccepted p cs =>
    unfold takeWait
    dsimp only
    repeat' split
    · exact h.hear p
    · exact (h.hear p).of_same rfl rfl rfl
    · exact h
  case releaseAccepted p cs =>
    unfold takeRelease
    dsimp only
    split
    · split <;> exact (h.hear p).of_same (by simp) (by simp) (by simp)
    · exact h
  case rackNoteAccepted p k c =>
    unfold takeRackNote
    split
    · exact (h.hear p).of_same (by simp) (by simp) (by simp)
    · exact h
  all_goals exact h.of_same (by simp) (by simp) (by simp)

/-- Settles O59: each command keeps counts and temperatures in range, and with it each step. -/
theorem stepKeepsCountsAndTemperaturesInRange : Obligations.StepKeepsCountsAndTemperaturesInRange := by
  intro s t run
  rcases step_cases run with rfl | ⟨c, rest, -, run⟩
  · exact ⟨id, id⟩
  · exact ⟨fun h => exec_keeps_scalesSound (s := s.setPending rest) h run,
      fun h => exec_keeps_tempsSound (s := s.setPending rest) h run⟩

end Sys2Proof.Machine
end

section
/-! PROOFS. The Motion Unit's soundness (R15, R21, R25, R48, R151) is kept by every step. First what it asks of a
state of each kind, then the operations on the current segment, the fault stop, the change sequence and the period,
in the order of the model, then the commands. -/

namespace Sys2Proof.Machine

/-! ## Soundness by motion state -/

/-- Soundness reads queue, motion state, reference, internal segment, change record and the referenced marks. -/
theorem State.MotionSound.of_same {s t : State} (h : s.MotionSound)
    (same : t.motion.queue = s.motion.queue ∧ t.motion.state = s.motion.state
      ∧ t.motion.reference = s.motion.reference ∧ t.motion.internal = s.motion.internal
      ∧ t.probes.change = s.probes.change
      ∧ ∀ a, (t.axes.chan.get a).referenced = (s.axes.chan.get a).referenced) : t.MotionSound := by
  obtain ⟨queue, state, reference, internal, change, referenced⟩ := same
  have marks (a : Axis) : (t.axis a).referenced = (s.axis a).referenced := referenced a
  rw [State.MotionSound, queue, state, reference, internal, change]
  simp only [marks]
  exact h

/-- In CHANGING a change record stands, no reference is in progress, and the internal segment is no PROBE. -/
theorem State.MotionSound.of_changing {t : State} (length : t.motion.queue.length ≤ 16)
    (state : t.motion.state = .changing) (change : t.probes.change.isSome = true)
    (reference : t.motion.reference = none) (internal : ∀ g, t.motion.internal = some g → g.kind ≠ .probe) :
    t.MotionSound := by
  refine ⟨length, ?_, ?_, ?_, fun g hg => ⟨state, internal g hg⟩⟩
  · simp [state, change]
  · simp [state, reference]
  · simp [reference]

/-- In a motion state other than CHANGING and REFERENCING neither record nor internal segment stands. -/
theorem State.MotionSound.of_host {t : State} (length : t.motion.queue.length ≤ 16)
    (notChanging : t.motion.state ≠ .changing) (notReferencing : t.motion.state ≠ .referencing)
    (change : t.probes.change = none) (reference : t.motion.reference = none)
    (internal : t.motion.internal = none) : t.MotionSound := by
  refine ⟨length, ?_, ?_, ?_, ?_⟩
  · simp [notChanging, change]
  · simp [notReferencing, reference]
  · simp [reference]
  · simp [internal]

/-- Motion is the host's: neither CHANGING nor REFERENCING. -/
def State.hostMotion (s : State) : Prop := s.motion.state ≠ .changing ∧ s.motion.state ≠ .referencing

theorem State.MotionSound.host_change {s : State} (h : s.MotionSound) (host : s.motion.state ≠ .changing) :
    s.probes.change = none := by
  obtain ⟨-, change, -⟩ := h
  rwa [Ne, change, Option.not_isSome_iff_eq_none] at host

theorem State.MotionSound.no_reference {s : State} (h : s.MotionSound) (not : s.motion.state ≠ .referencing) :
    s.motion.reference = none := by
  obtain ⟨-, -, reference, -⟩ := h
  rwa [Ne, reference, Option.not_isSome_iff_eq_none] at not

theorem State.MotionSound.host_internal {s : State} (h : s.MotionSound) (host : s.motion.state ≠ .changing) :
    s.motion.internal = none := by
  obtain ⟨-, -, -, -, internal⟩ := h
  exact Option.eq_none_iff_forall_ne_some.mpr fun g hg => host (internal g hg).1

theorem State.MotionSound.change_isSome {s : State} (h : s.MotionSound) (changing : s.motion.state = .changing) :
    s.probes.change.isSome = true := h.2.1.mp changing

theorem State.MotionSound.queue_nil {s : State} (h : s.MotionSound) (referencing : s.motion.state = .referencing) :
    s.motion.queue = [] := by
  obtain ⟨-, -, reference, run, -⟩ := h
  obtain ⟨r, hr⟩ := Option.isSome_iff_exists.mp (reference.mp referencing)
  exact (run r hr).1

/-- The internal segment is no PROBE, and it is the current segment in CHANGING. -/
theorem State.MotionSound.current_kind {s : State} (h : s.MotionSound) {g : Segment} (current : s.current = some g)
    (changing : s.motion.state = .changing) : g.kind ≠ .probe := by
  rw [State.current, if_pos changing] at current
  exact (h.2.2.2.2 g current).2

theorem State.current_of_flying {s : State} {g : Segment} (flying : s.flying = some g) :
    s.current = some g ∧ g.state.flying = true := Option.filter_eq_some_iff.mp flying

/-- While REFERENCING no segment is current (R15). -/
theorem State.MotionSound.not_referencing {s : State} (h : s.MotionSound) {g : Segment}
    (current : s.current = some g) : s.motion.state ≠ .referencing := by
  intro referencing
  rw [State.current, referencing, h.queue_nil referencing] at current
  simp at current

/-- The motion state moves between states of the host. -/
theorem State.MotionSound.setHostState {s : State} (h : s.MotionSound) (host : s.hostMotion) {m : MotionState}
    (notChanging : m ≠ .changing) (notReferencing : m ≠ .referencing) : (s.setMotionState m).MotionSound :=
  .of_host h.1 notChanging notReferencing (h.host_change host.1) (h.no_reference host.2) (h.host_internal host.1)

/-! ## The current segment -/

theorem State.setCurrent_queue_length (s : State) (g : Segment) :
    (s.setCurrent g).motion.queue.length = s.motion.queue.length := by
  unfold State.setCurrent
  split
  · rfl
  · split <;> simp [*]

theorem State.MotionSound.setCurrent {s : State} (h : s.MotionSound) {g : Segment}
    (kind : s.motion.state = .changing → g.kind ≠ .probe) : (s.setCurrent g).MotionSound := by
  by_cases changing : s.motion.state = .changing
  · refine .of_changing ?_ ?_ ?_ ?_ ?_
    · rw [s.setCurrent_queue_length]
      exact h.1
    · simpa using changing
    · simpa using h.change_isSome changing
    · simpa using h.no_reference (by simp [changing])
    · simpa [State.setCurrent, changing] using kind changing
  · rw [State.setCurrent, if_neg changing]
    split
    · exact h
    · next g' rest queue =>
      have notReferencing : s.motion.state ≠ .referencing := fun r => by simp [h.queue_nil r] at queue
      refine .of_host ?_ changing notReferencing (h.host_change changing) (h.no_reference notReferencing)
        (h.host_internal changing)
      simpa [queue] using h.1

/-- The current segment's record replaced by one of the same kind. -/
theorem State.MotionSound.setCurrent_of_current {s : State} (h : s.MotionSound) {g g' : Segment}
    (current : s.current = some g) (kind : g'.kind = g.kind) : (s.setCurrent g').MotionSound :=
  h.setCurrent fun changing => kind ▸ h.current_kind current changing

theorem State.MotionSound.dropCurrent {s : State} (h : s.MotionSound) : s.dropCurrent.MotionSound := by
  obtain ⟨length, change, reference, run, internal⟩ := h
  unfold State.dropCurrent
  split
  · exact ⟨length, change, reference, run, by simp⟩
  · next host =>
    refine ⟨?_, change, reference, fun r hr => ?_, internal⟩
    · simpa using length.trans (Nat.le_succ _)
    · exact ⟨by simp [(run r hr).1], (run r hr).2⟩

theorem State.MotionSound.enterSettlingAt {s : State} (h : s.MotionSound) (period : Nat) {g : Segment}
    (kind : s.motion.state = .changing → g.kind ≠ .probe) : (enterSettlingAt period g s).MotionSound := by
  have set : (s.setCurrent { g with state := .settling, decel := none, settleSince := period }).MotionSound :=
    h.setCurrent kind
  exact set.of_same (by simp [Machine.enterSettlingAt])

theorem State.MotionSound.startSegment {s : State} (h : s.MotionSound) {g : Segment}
    (current : s.current = some g) : (startSegment g s).MotionSound := by
  have kind := h.current_kind current
  have moving : (s.setModes .moving).MotionSound := h.of_same ⟨rfl, rfl, rfl, rfl, rfl, fun a => by simp⟩
  have started : (if s.motion.state = .changing then s.setModes .moving
      else (s.setModes .moving).setMotionState .running).MotionSound := by
    split
    · exact moving
    · next host => exact moving.setHostState ⟨host, h.not_referencing current⟩ (by simp) (by simp)
  have same : (if s.motion.state = .changing then s.setModes .moving
      else (s.setModes .moving).setMotionState .running).motion.state = .changing → g.kind ≠ .probe := by
    split
    · next changing => exact fun _ => kind changing
    · simp [State.setMotionState]
  unfold Machine.startSegment
  dsimp only
  split
  · exact started.enterSettlingAt _ same
  · exact started.setCurrent same

theorem State.MotionSound.refuseNoProbe {s : State} (h : s.MotionSound) (host : s.hostMotion) {g : Segment}
    (current : s.current = some g) : (refuseNoProbe g s).MotionSound := by
  have set : (s.setCurrent { g with state := .queued }).MotionSound := h.setCurrent_of_current current rfl
  have raised : (raiseProbeRefused .noProbe (g.tag.getD 0) (s.setCurrent { g with state := .queued })).MotionSound :=
    set.of_same (by simp)
  exact raised.setHostState (by simpa [State.hostMotion] using host) (by simp) (by simp)

theorem State.MotionSound.weigh {s : State} (h : s.MotionSound) : (weigh s).MotionSound := by
  unfold Machine.weigh
  split
  · exact h
  · next g current =>
    have queued : (s.setCurrent { g with state := .queued }).MotionSound := h.setCurrent_of_current current rfl
    have started := h.startSegment current
    split
    · exact h
    split
    · exact started
    next notChanging =>
    split
    · next idle =>
      repeat' split
      · exact h.refuseNoProbe ⟨notChanging, by simp [idle]⟩ current
      · exact queued
      · exact started
      · exact started
    · exact queued

theorem weigh_state (s : State) :
    (weigh s).motion.state = s.motion.state
      ∨ s.motion.state = .idle ∧ ((weigh s).motion.state = .running ∨ (weigh s).motion.state = .held) := by
  unfold weigh
  repeat' split
  all_goals first
    | (left; simp)
    | skip
  all_goals simp_all [startSegment, refuseNoProbe, State.setMotionState]
  all_goals split <;> simp_all [enterSettling]

/-- Weighing keeps the motion with the host. -/
theorem State.hostMotion.weigh {s : State} (host : s.hostMotion) : (weigh s).hostMotion := by
  rcases weigh_state s with same | ⟨-, running | held⟩
  · simpa [State.hostMotion, same] using host
  · simp [State.hostMotion, running]
  · simp [State.hostMotion, held]

theorem State.MotionSound.holdChanged {s : State} (h : s.MotionSound) (before : Nat) :
    (holdChanged before s).MotionSound := by
  have updated : (updateHold before s).MotionSound := h.of_same (by simp)
  unfold Machine.holdChanged
  dsimp only
  split
  · exact updated.weigh
  · exact updated

theorem State.hostMotion.holdChanged {s : State} (host : s.hostMotion) (before : Nat) :
    (holdChanged before s).hostMotion := by
  have updated : (updateHold before s).hostMotion := by simpa [State.hostMotion] using host
  unfold Machine.holdChanged
  dsimp only
  split
  · exact updated.weigh
  · exact updated

theorem State.MotionSound.takeWork {s : State} (h : s.MotionSound) : (takeWork s).MotionSound :=
  h.of_same (by simp)

/-! ## The segment becoming current (R26, R30) -/

theorem State.MotionSound.refuseZeroLength {s : State} (h : s.MotionSound) (host : s.hostMotion) (g : Segment) :
    (refuseZeroLength g s).MotionSound := by
  have dropped : s.dropCurrent.hostMotion := by simpa [State.hostMotion] using host
  have gone := h.dropCurrent.setHostState dropped (m := .held) (by simp) (by simp)
  exact gone.of_same (by simp [Machine.refuseZeroLength])

theorem State.MotionSound.fixGeometry {s : State} (h : s.MotionSound) {g : Segment}
    (current : s.current = some g) : (fixGeometry g s).MotionSound := by
  unfold Machine.fixGeometry
  dsimp only
  split
  · next zeroLength =>
    have host : s.motion.state ≠ .changing := fun changing => h.current_kind current changing zeroLength.1
    exact h.refuseZeroLength ⟨host, h.not_referencing current⟩ g
  · split
    · exact State.MotionSound.weigh (h.setCurrent_of_current current rfl)
    · have waiting := h.setCurrent_of_current (g' := { g with geom := some (geometry g s), state := .waitingZone })
        current rfl
      exact waiting.of_same (by simp)

theorem State.MotionSound.becomeCurrent {s : State} (h : s.MotionSound) : (becomeCurrent s).MotionSound := by
  unfold Machine.becomeCurrent
  split
  · exact h
  split
  · exact h.of_same ⟨rfl, rfl, rfl, rfl, rfl, fun _ => rfl⟩
  split
  · exact h
  next g current =>
  split
  · exact h
  · have fixed : ((s.setMotion { s.motion with deferCurrent := none }).setZone
        { s.zone with heldBack := none }).MotionSound := h.of_same ⟨rfl, rfl, rfl, rfl, rfl, fun _ => rfl⟩
    exact fixed.fixGeometry current

theorem State.MotionSound.followClaim {s : State} (h : s.MotionSound) : (followClaim s).MotionSound := by
  have handed : (followHandOver s).MotionSound :=
    h.of_same (by simp)
  unfold Machine.followClaim followCurrent
  split
  · refine State.MotionSound.becomeCurrent ?_
    exact handed.of_same ⟨rfl, rfl, rfl, rfl, rfl, fun _ => rfl⟩
  · exact handed

theorem State.MotionSound.afterClaim {s : State} (h : s.MotionSound) : (afterClaim s).MotionSound :=
  State.MotionSound.followClaim
    (h.of_same (by simp))

/-! ## The fault stop (R11, R158) -/

theorem failChange_change (s : State) : (failChange s).probes.change = none := by
  unfold failChange
  split
  · assumption
  · simp

/-- The Motion Unit after a fault stop (R11): the segment in flight has left the queue, the others stay. -/
theorem faultStop_motion {r : FaultReason} {s : State} (h : s.motion.state ≠ .faulted) :
    (faultStop r s).motion = { s.motion with
      state := .faulted
      queue := if s.motion.state ≠ .changing ∧ s.flying.isSome then s.motion.queue.tail else s.motion.queue
      internal := none, stopPending := false, reference := none } := by
  unfold faultStop
  rw [if_neg h]
  by_cases changing : s.motion.state = .changing <;> by_cases flying : s.flying.isSome = true <;>
    simp [changing, flying, State.dropCurrent]

/-- No change record stands after a fault stop, where one stands in CHANGING alone (R158). -/
theorem faultStop_change {r : FaultReason} {s : State} (h : s.motion.state ≠ .faulted)
    (host : s.motion.state ≠ .changing → s.probes.change = none) : (faultStop r s).probes.change = none := by
  unfold faultStop
  rw [if_neg h]
  by_cases changing : s.motion.state = .changing <;> by_cases flying : s.flying.isSome = true <;>
    simp [changing, flying, failChange_change, host]

/-- A fault stop leaves motion FAULTED with no reference, no change and no internal segment. -/
theorem State.MotionSound.faultStop {s : State} (h : s.MotionSound) (r : FaultReason) :
    (faultStop r s).MotionSound := by
  by_cases faulted : s.motion.state = .faulted
  · rwa [Machine.faultStop, if_pos faulted]
  · have change := faultStop_change (r := r) faulted h.host_change
    have motion := faultStop_motion (r := r) faulted
    have length : s.motion.queue.tail.length ≤ 16 := by
      have := h.1
      simp
      omega
    refine .of_host ?_ ?_ ?_ change ?_ ?_ <;> rw [motion]
    · dsimp only
      split
      · exact length
      · exact h.1
    · simp
    · simp

theorem State.MotionSound.zoneConflict {s : State} (h : s.MotionSound) (p : Station) (cs : CellSet) :
    (zoneConflict p cs s).MotionSound :=
  State.MotionSound.faultStop (h.of_same (by simp)) _

theorem State.MotionSound.foldl {α : Type} {f : State → α → State} (keeps : ∀ t x, State.MotionSound t →
    (f t x).MotionSound) : ∀ (l : List α) {s : State}, s.MotionSound → (l.foldl f s).MotionSound
  | [], _, h => h
  | x :: l, _, h => State.MotionSound.foldl keeps l (keeps _ x h)

theorem State.MotionSound.deafView {s : State} (h : s.MotionSound) :
    (releaseReport (claimingToWaiting (forgetHolders s))).MotionSound :=
  h.of_same (by simp)

theorem State.MotionSound.enterDeaf {s : State} (h : s.MotionSound) (r : LinkReason) (k : Option FrameKind) :
    (enterDeaf r k s).MotionSound := by
  unfold Machine.enterDeaf
  dsimp only
  refine State.MotionSound.deafView (State.MotionSound.foldl (fun t o ht => ht.zoneConflict _ _) _ ?_)
  exact h.of_same (by simp)

theorem State.MotionSound.ownerTold {s : State} (h : s.MotionSound) (f : TxFrame) : (ownerTold f s).MotionSound := by
  unfold Machine.ownerTold
  split
  case h_2 => exact h.zoneConflict _ _
  all_goals (repeat' split) <;> exact h.of_same (by simp)

theorem State.MotionSound.attemptSpoiled {s : State} (h : s.MotionSound) : (attemptSpoiled s).MotionSound := by
  unfold Machine.attemptSpoiled
  split
  · exact h
  next e _ =>
  have dropped : (raiseLinkFault .spoiled (some e.frame.kind) (removeSending s)).MotionSound :=
    h.of_same (by simp)
  split
  · exact dropped.ownerTold _
  · exact h.of_same (by simp)

theorem State.MotionSound.countError {s : State} (h : s.MotionSound) : (countError s).MotionSound := by
  have counted : (s.setLink { s.link with run := s.link.run + 1 }).MotionSound :=
    h.of_same ⟨rfl, rfl, rfl, rfl, rfl, fun _ => rfl⟩
  unfold Machine.countError
  dsimp only
  split
  · exact counted.enterDeaf _ _
  · exact counted

/-! ## The change sequence (7.6 to 7.8) -/

theorem State.MotionSound.handInternal {s : State} (length : s.motion.queue.length ≤ 16)
    (changing : s.motion.state = .changing) (change : s.probes.change.isSome = true)
    (reference : s.motion.reference = none) {kind : SegKind} (noProbe : kind ≠ .probe) (target : V3 Int) :
    (handInternal kind target s).MotionSound := by
  refine State.MotionSound.becomeCurrent (.of_changing length changing change reference ?_)
  rintro g ⟨⟩
  exact noProbe

theorem State.MotionSound.beginTravel {s : State} (length : s.motion.queue.length ≤ 16)
    (changing : s.motion.state = .changing) (reference : s.motion.reference = none) (ph : Phase) (ch : Change) :
    (beginTravel ph ch s).MotionSound :=
  State.MotionSound.handInternal (s := s.setChange (some { ch with phase := ph })) length changing rfl reference
    (by decide) _

theorem State.MotionSound.beginLeaving {s : State} (length : s.motion.queue.length ≤ 16)
    (changing : s.motion.state = .changing) (reference : s.motion.reference = none) (ph : Phase) (ch : Change) :
    (beginLeaving ph ch s).MotionSound :=
  State.MotionSound.handInternal (s := s.setChange (some { ch with phase := ph, seatDue := none })) length changing
    rfl reference (by decide) _

/-- The change record replaced by another (R151). -/
theorem State.MotionSound.setChange {s : State} (h : s.MotionSound) (changing : s.motion.state = .changing)
    (ch : Change) : (s.setChange (some ch)).MotionSound :=
  .of_changing h.1 changing rfl (h.no_reference (by simp [changing])) fun g hg => (h.2.2.2.2 g hg).2

theorem State.MotionSound.endChange {s : State} (h : s.MotionSound) (changing : s.motion.state = .changing)
    (ch : Change) : (endChange ch s).MotionSound := by
  have idle : (((s.setChange none).setModes .idle).setMotion
      { s.motion with state := .idle, internal := none, stopPending := false }).MotionSound :=
    .of_host h.1 (by simp) (by simp) rfl (h.no_reference (by simp [changing])) rfl
  unfold Machine.endChange
  dsimp only
  refine State.MotionSound.becomeCurrent ?_
  split <;> exact idle.of_same (by simp)

theorem State.MotionSound.currentChanged {s : State} (h : s.MotionSound) : (currentChanged s).MotionSound :=
  h.of_same (by simp)

theorem State.MotionSound.endDeceleration {s : State} (h : s.MotionSound)
    (notReferencing : s.motion.state ≠ .referencing) : (endDeceleration s).MotionSound := by
  unfold Machine.endDeceleration
  split
  · next changing =>
    split
    · exact h.dropCurrent.currentChanged.endChange (by simpa using changing) _
    · exact h
  · next host =>
    have dropped : s.dropCurrent.hostMotion := by simpa [State.hostMotion] using ⟨host, notReferencing⟩
    have held := (h.dropCurrent.setHostState dropped (m := .held) (by simp) (by simp)).currentChanged
    exact held.of_same (by simp)

theorem State.MotionSound.decelerate {s : State} (h : s.MotionSound) {g : Segment} (current : s.current = some g) :
    (decelerate g s).MotionSound := by
  unfold Machine.decelerate
  repeat' split
  · exact h
  · exact h.endDeceleration (h.not_referencing current)
  · exact h.setCurrent_of_current current rfl

theorem State.MotionSound.abortTravel {s : State} (h : s.MotionSound) (changing : s.motion.state = .changing)
    (ch : Change) : (abortTravel ch s).MotionSound := by
  have marked := h.setChange changing { ch with failure := some .aborted }
  unfold Machine.abortTravel
  dsimp only
  split
  · next g flying =>
    split
    · exact marked.decelerate (State.current_of_flying flying).1
    · exact marked
  · exact marked.dropCurrent.currentChanged.endChange (by simpa using changing) _

theorem State.MotionSound.abortChange {s : State} (h : s.MotionSound) (changing : s.motion.state = .changing) :
    (abortChange s).1.MotionSound := by
  unfold Machine.abortChange
  split
  · exact h
  next ch _ =>
  split
  all_goals first
    | exact h.abortTravel changing ch
    | exact h.setChange changing _
    | exact h

theorem State.MotionSound.endRead {s : State} (h : s.MotionSound) (result : Option Ident) :
    (endRead result s).MotionSound := by
  unfold Machine.endRead
  split
  · exact h
  dsimp only
  split
  · split
    · next ch stands =>
      have changing : s.motion.state = .changing := h.2.1.mpr (by simpa using congrArg Option.isSome stands)
      exact .beginLeaving (by simpa using h.1) (by simpa using changing)
        (by simpa using h.no_reference (by simp [changing])) _ _
    · exact h.of_same ⟨rfl, rfl, rfl, rfl, rfl, fun _ => rfl⟩
  · exact h.of_same (by simp)

theorem State.MotionSound.failAttempt {s : State} (h : s.MotionSound) : (failAttempt s).MotionSound := by
  unfold Machine.failAttempt
  split
  · exact h
  split
  · exact h.of_same ⟨rfl, rfl, rfl, rfl, rfl, fun _ => rfl⟩
  · exact h.endRead none

theorem State.MotionSound.beginChange {s : State} (h : s.MotionSound) (host : s.hostMotion) (ch : Change) :
    (beginChange ch s).MotionSound := by
  have shelved (l : List Segment) : (shelveHead l).length = l.length := by cases l <;> rfl
  exact .beginTravel (by simpa [shelved] using h.1) (by simp) (by simpa using h.no_reference host.2) _ _

theorem State.MotionSound.completeDrop {s : State} (h : s.MotionSound) (changing : s.motion.state = .changing)
    (ch : Change) : (completeDrop ch s).MotionSound := by
  unfold Machine.completeDrop
  dsimp only
  split <;> exact .beginLeaving (by simpa using h.1) (by simpa using changing)
    (by simpa using h.no_reference (by simp [changing])) _ _

theorem State.MotionSound.completePick {s : State} (h : s.MotionSound) (changing : s.motion.state = .changing)
    (ch : Change) : (completePick ch s).MotionSound := by
  refine .of_changing (by simpa using h.1) (by simpa using changing) ?_
    (by simpa using h.no_reference (by simp [changing])) fun g hg => ?_
  · simp [Machine.completePick, beginRead, State.setChange]
  · exact (h.2.2.2.2 g (by simpa using hg)).2

theorem State.MotionSound.seatTimeout {s : State} (h : s.MotionSound) (waiting leaving : Phase) (latchOpen : Bool) :
    (seatTimeout waiting leaving latchOpen s).MotionSound := by
  unfold Machine.seatTimeout
  split
  · next ch stands =>
    have changing : s.motion.state = .changing := h.2.1.mpr (by simp [stands])
    split
    · exact .beginLeaving (by simpa using h.1) (by simpa using changing)
        (by simpa using h.no_reference (by simp [changing])) _ _
    · exact h
  · exact h

/-! ## Moves (chapter 2) -/

theorem State.MotionSound.removeUnstarted {s : State} (h : s.MotionSound) : (removeUnstarted s).MotionSound := by
  obtain ⟨length, change, reference, run, internal⟩ := h
  have filtered : (s.setMotion { s.motion with queue := s.motion.queue.filter (·.state.flying) }).MotionSound := by
    refine ⟨(List.length_filter_le _ _).trans length, change, reference, fun r hr => ?_, internal⟩
    exact ⟨by simp [(run r hr).1], (run r hr).2⟩
  unfold Machine.removeUnstarted
  dsimp only
  split
  · exact filtered.currentChanged
  · exact filtered

theorem State.MotionSound.appendMove {s : State} (h : s.MotionSound) (g : Segment)
    (length : s.motion.queue.length < 16) (notReferencing : s.motion.state ≠ .referencing) :
    (appendMove g s).MotionSound := by
  have none_runs := h.no_reference notReferencing
  have appended : (s.setMotion { s.motion with queue := s.motion.queue ++ [g] }).MotionSound := by
    refine ⟨by simpa using length, h.2.1, h.2.2.1, ?_, h.2.2.2.2⟩
    simp [none_runs]
  unfold Machine.appendMove
  dsimp only
  split
  · exact appended.becomeCurrent
  · exact appended

/-- With every axis referenced no reference is in progress (R15, R23). -/
theorem State.MotionSound.not_referencing_of_referenced {s : State} (h : s.MotionSound)
    (referenced : s.allReferenced = true) : s.motion.state ≠ .referencing := by
  obtain ⟨-, -, reference, run, -⟩ := h
  intro state
  obtain ⟨r, hr⟩ := Option.isSome_iff_exists.mp (reference.mp state)
  have all := (V3.all_iff _ _).mp referenced r.axis
  have unreferenced : (s.axes.chan.get r.axis).referenced = false := (run r hr).2
  simp [unreferenced] at all

theorem moveRefusal_none {kind : Option SegKind} {target : V3 Int} {feed : Nat} {s : State}
    (passes : moveRefusal kind target feed s = none) :
    s.allReferenced = true ∧ s.motion.queue.length < 16 := by
  unfold moveRefusal at passes
  split_ifs at passes with _ _ referenced full
  exact ⟨by simpa using referenced, by omega⟩

theorem State.MotionSound.queueMove {s : State} (h : s.MotionSound) (data : List Byte) :
    (queueMove data s).MotionSound := by
  unfold Machine.queueMove withLength
  dsimp only
  split
  · split
    · exact h
    · next passes =>
      obtain ⟨referenced, room⟩ := moveRefusal_none passes
      exact (h.appendMove _ room (h.not_referencing_of_referenced referenced)).of_same
        ⟨rfl, rfl, rfl, rfl, rfl, fun _ => rfl⟩
  · exact h

theorem State.MotionSound.stopEffect {s : State} (h : s.MotionSound) : (stopEffect s).MotionSound := by
  unfold Machine.stopEffect
  split
  · next idle => exact h.setHostState (by simp [State.hostMotion, idle]) (by simp) (by simp)
  · split
    · next g flying =>
      unfold stopSegment
      split
      · exact h.decelerate (State.current_of_flying flying).1
      · exact h.of_same ⟨rfl, rfl, rfl, rfl, rfl, fun _ => rfl⟩
    · exact h
  · exact h
  · exact h
  · next referencing =>
    obtain ⟨length, change, reference, run, internal⟩ := h
    refine ⟨length, change, by simpa using reference, fun r hr => ?_, internal⟩
    obtain ⟨r', stands, rfl⟩ := Option.map_eq_some_iff.mp hr
    exact run r' stands
  · next changing => exact h.abortChange changing

theorem State.MotionSound.resume {s : State} (h : s.MotionSound) (data : List Byte) :
    (resume data s).MotionSound := by
  unfold Machine.resume withLength
  split
  · split
    · next held =>
      have idle := h.setHostState (m := .idle) (by simp [State.hostMotion, held]) (by simp) (by simp)
      have shed : (shedAbortedClaim (s.setMotionState .idle)).MotionSound :=
        idle.of_same (by simp)
      exact shed.becomeCurrent.of_same ⟨rfl, rfl, rfl, rfl, rfl, fun _ => rfl⟩
    · exact h
  · exact h

theorem State.MotionSound.requestNoContact {s : State} (h : s.MotionSound) (g : Segment) :
    (requestNoContact g s).MotionSound := by
  unfold Machine.requestNoContact
  split
  · next r _ =>
    have asked : (s.setCorr { s.corr with request := some r, requestFirst := s.probes.latch.isNone }).MotionSound :=
      h.of_same ⟨rfl, rfl, rfl, rfl, rfl, fun _ => rfl⟩
    exact (asked.holdChanged _).takeWork
  · exact h

theorem State.hostMotion.requestNoContact {s : State} (host : s.hostMotion) (g : Segment) :
    (requestNoContact g s).hostMotion := by
  unfold Machine.requestNoContact
  split
  · next r _ =>
    have asked : (s.setCorr { s.corr with request := some r, requestFirst := s.probes.latch.isNone }).hostMotion :=
      host
    simpa [State.hostMotion] using asked.holdChanged s.holdCount
  · exact host

theorem State.MotionSound.completeHost {s : State} (h : s.MotionSound) (host : s.hostMotion) (g : Segment) :
    (completeHost g s).MotionSound := by
  have dropped_host : s.dropCurrent.hostMotion := by simpa [State.hostMotion] using host
  have asked : (if g.untouchedProbe then Machine.requestNoContact g s.dropCurrent else s.dropCurrent).MotionSound
      ∧ (if g.untouchedProbe then Machine.requestNoContact g s.dropCurrent else s.dropCurrent).hostMotion := by
    split
    · exact ⟨h.dropCurrent.requestNoContact g, dropped_host.requestNoContact g⟩
    · exact ⟨h.dropCurrent, dropped_host⟩
  unfold Machine.completeHost
  dsimp only
  generalize (if g.untouchedProbe then Machine.requestNoContact g s.dropCurrent else s.dropCurrent) = asked at asked
  obtain ⟨sound, asked_host⟩ := asked
  have idle : ((Machine.currentChanged (raiseSegmentDone (g.tag.getD 0) asked)).setModes .idle).MotionSound :=
    sound.of_same (by simp)
  have idle_host : ((Machine.currentChanged (raiseSegmentDone (g.tag.getD 0) asked)).setModes .idle).hostMotion := by
    simpa [State.hostMotion] using asked_host
  split
  · have held := idle.setHostState idle_host (m := .held) (by simp) (by simp)
    exact held.of_same (by simp [State.setMotionState])
  · refine State.MotionSound.becomeCurrent (State.MotionSound.setHostState ?_ ?_ (by simp) (by simp))
    · exact idle.of_same (by simp)
    · simpa [State.hostMotion] using idle_host

theorem State.MotionSound.endPhase {s : State} (h : s.MotionSound) (changing : s.motion.state = .changing)
    (ch : Change) : (endPhase ch s).MotionSound := by
  have kept : (handOver s.restHere s).MotionSound :=
    h.of_same (by simp)
  have still : (handOver s.restHere s).motion.state = .changing := by simpa using changing
  have none_runs := kept.no_reference (by rw [still]; decide)
  unfold Machine.endPhase
  dsimp only
  split
  · exact .of_changing kept.1 still rfl none_runs fun g hg => (kept.2.2.2.2 g hg).2
  · exact .of_changing kept.1 still rfl none_runs fun g hg => (kept.2.2.2.2 g hg).2
  · split
    · exact kept.endChange still ch
    · exact .beginTravel kept.1 still none_runs _ _
  · exact kept.endChange still ch
  all_goals exact kept

theorem State.MotionSound.completeInternal {s : State} (h : s.MotionSound) (changing : s.motion.state = .changing)
    (g : Segment) (ch : Change) : (completeInternal g ch s).MotionSound := by
  have done : ((Machine.currentChanged s.dropCurrent).setModes .idle).MotionSound :=
    h.dropCurrent.currentChanged.of_same ⟨rfl, rfl, rfl, rfl, rfl, fun a => by simp⟩
  have still : ((Machine.currentChanged s.dropCurrent).setModes .idle).motion.state = .changing := by
    simpa using changing
  have handed (keep : CellSet) :
      (handOver keep ((Machine.currentChanged s.dropCurrent).setModes .idle)).MotionSound :=
    done.of_same (by simp)
  unfold Machine.completeInternal
  dsimp only
  split
  · exact (handed _).endChange (by simpa using changing) ch
  split
  · have sound := handed (needSet ((Machine.currentChanged s.dropCurrent).setModes .idle).cfg
      ((Machine.currentChanged s.dropCurrent).setModes .idle).setpoints
      (((Machine.currentChanged s.dropCurrent).setModes .idle).slotPoints
        (if ch.phase = .goingToPick then ch.pick else ch.drop)).dock)
    exact .handInternal sound.1 (by simpa using changing) (sound.change_isSome (by simpa using changing))
      (sound.no_reference (by simp [changing])) (by decide) _
  · exact done.endPhase still ch

theorem State.MotionSound.completeSegment {s : State} (h : s.MotionSound) : (completeSegment s).MotionSound := by
  unfold Machine.completeSegment
  split
  · next g flying =>
    split
    · split
      · next changing =>
        split
        · exact h.completeInternal changing g _
        · exact h
      · next host => exact h.completeHost ⟨host, h.not_referencing (State.current_of_flying flying).1⟩ g
    · exact h
  · exact h

theorem State.setProbes_setCurrent (s : State) (v : Probes) (g : Segment) :
    (s.setProbes v).setCurrent g = (s.setCurrent g).setProbes v := by
  unfold State.setCurrent
  split
  · next changing => rw [if_pos (by simpa using changing)]; rfl
  · next host =>
    rw [if_neg (by simpa using host)]
    cases queue : s.motion.queue <;> simp [queue, State.setProbes, State.setMotion]

theorem State.MotionSound.latchTouch {s : State} (h : s.MotionSound) {g : Segment} (current : s.current = some g)
    (c : V3 Int) : (latchTouch g c s).MotionSound := by
  unfold Machine.latchTouch
  split
  · split
    · dsimp only
      refine State.MotionSound.takeWork (State.MotionSound.holdChanged ?_ _)
      have touched := h.setCurrent_of_current (g' := g.touch) current rfl
      rw [State.setProbes_setCurrent]
      exact touched.of_same ⟨rfl, rfl, rfl, rfl, by simp, fun _ => rfl⟩
    · exact h
  · exact h

theorem State.MotionSound.takeTouch {s : State} (h : s.MotionSound) (c : V3 Int) : (takeTouch c s).MotionSound := by
  unfold Machine.takeTouch
  split
  · exact h.faultStop _
  · exact h.of_same (by simp)
  · exact h
  · next g _ flying => exact h.latchTouch (State.current_of_flying flying).1 c
  · exact h

theorem State.MotionSound.withLength {s t : State} (h : s.MotionSound) (n : Nat) (data : List Byte)
    (acts : t.MotionSound) : (withLength n data s t).MotionSound := by
  unfold Machine.withLength
  split
  · exact acts
  · exact h

theorem State.MotionSound.answer {s : State} (h : s.MotionSound) (c : Code) (bytes : List Byte) :
    (s.answer c bytes).MotionSound := h

/-! ## Scales, the reference and CLEAR FAULT (chapter 1) -/

theorem State.setAxis_referenced (s : State) (a b : Axis) (c : AxisChan) :
    ((s.setAxis a c).axis b).referenced = if b = a then c.referenced else (s.axis b).referenced := by
  rw [State.axis, State.setAxis_get]
  split <;> rfl

/-- An axis may lose its referenced mark. -/
theorem State.MotionSound.unreference {s : State} (h : s.MotionSound) (a : Axis) {c : AxisChan}
    (lost : c.referenced = false) : (s.setAxis a c).MotionSound := by
  obtain ⟨length, change, reference, run, internal⟩ := h
  refine ⟨length, change, reference, fun r hr => ⟨(run r hr).1, ?_⟩, internal⟩
  rw [State.setAxis_referenced]
  split
  · exact lost
  · exact (run r hr).2

theorem State.MotionSound.takeScaleFault {s : State} (h : s.MotionSound) (a : Axis) :
    (takeScaleFault a s).MotionSound := by
  have lost := h.unreference a (c := { s.axis a with referenced := false }) rfl
  have flushed : (if (s.axis a).referenced then
      Machine.removeUnstarted (s.setAxis a { s.axis a with referenced := false })
      else s.setAxis a { s.axis a with referenced := false }).MotionSound := by
    split
    · exact lost.removeUnstarted
    · exact lost
  unfold Machine.takeScaleFault
  dsimp only
  split
  · exact flushed
  · exact flushed.faultStop _
  · exact flushed.faultStop _
  · exact flushed

theorem State.MotionSound.takeScaleCount {s : State} (h : s.MotionSound) (a : Axis) (forward : Bool) :
    (takeScaleCount a forward s).MotionSound := by
  unfold Machine.takeScaleCount
  dsimp only
  generalize (if forward then (s.axis a).scale + 1 else (s.axis a).scale - 1) = next
  split
  · refine h.of_same ⟨rfl, rfl, rfl, rfl, rfl, fun b => ?_⟩
    rw [State.setAxis_get]
    split
    · next same => rw [same]; rfl
    · rfl
  · exact h.takeScaleFault a

theorem mayReference_iff (s : State) : s.mayReference = true ↔
    s.motion.state = .idle ∧ (∀ a, (s.axis a).mode = .idle) ∧ s.motion.queue = []
      ∧ (s.axes.retracted = true ∨ s.heldSet = CellSet.all) := by
  simp [State.mayReference, V3.all_iff, State.axis, and_assoc]

theorem State.MotionSound.beginReference {s : State} (h : s.MotionSound) (empty : s.motion.queue = [])
    (idle : s.motion.state = .idle) (a : Axis) : (beginReference a s).MotionSound := by
  refine ⟨h.1, ?_, by simp [Machine.beginReference], ?_, ?_⟩
  · simp [Machine.beginReference, h.host_change (by simp [idle])]
  · rintro r ⟨⟩
    refine ⟨empty, ?_⟩
    change ((s.setAxis a { s.axis a with referenced := false, mode := .moving }).axis a).referenced = false
    rw [State.setAxis_referenced, if_pos rfl]
  · simp [Machine.beginReference, h.host_internal (by simp [idle])]

theorem State.MotionSound.referenceAxis {s : State} (h : s.MotionSound) (data : List Byte) :
    (referenceAxis data s).MotionSound := by
  refine h.withLength _ _ ?_
  split
  · exact h
  · next a _ =>
    split
    · next may =>
      obtain ⟨idle, -, empty, -⟩ := (mayReference_iff s).mp may
      exact (h.beginReference empty idle a).answer _ _
    · exact h

theorem referenceRun_some {s : State} {r : RefRun} (run : s.referenceRun = some r) :
    s.motion.state = .referencing ∧ s.motion.reference = some r := by
  unfold State.referenceRun at run
  split_ifs at run with state
  exact ⟨state, run⟩

/-- The reference record replaced by one of the same axis. -/
theorem State.MotionSound.setReference {s : State} (h : s.MotionSound) {r r' : RefRun}
    (stands : s.motion.reference = some r) (axis : r'.axis = r.axis) :
    (s.setMotion { s.motion with reference := some r' }).MotionSound := by
  obtain ⟨length, change, reference, run, internal⟩ := h
  refine ⟨length, change, by simpa [stands] using reference, ?_, internal⟩
  rintro _ ⟨⟩
  exact axis ▸ run r stands

theorem State.MotionSound.takeReferenceMark {s : State} (h : s.MotionSound) (a : Axis) :
    (takeReferenceMark a s).MotionSound := by
  unfold Machine.takeReferenceMark
  split
  · next r run =>
    obtain ⟨state, stands⟩ := referenceRun_some run
    split
    · next marks =>
      obtain ⟨axis, -⟩ := marks
      obtain ⟨-, unreferenced⟩ := h.2.2.2.1 r stands
      exact (h.unreference a (axis ▸ unreferenced)).setReference stands rfl
    · exact h
  · exact h

theorem State.MotionSound.leaveReference {s : State} (h : s.MotionSound) (state : s.motion.state = .referencing)
    (r : RefRun) (referenced : Bool) {m : MotionState} (notChanging : m ≠ .changing)
    (notReferencing : m ≠ .referencing) : (leaveReference r referenced m s).MotionSound :=
  .of_host h.1 notChanging notReferencing (h.host_change (by simp [state])) rfl (h.host_internal (by simp [state]))

theorem State.MotionSound.endReference {s : State} (h : s.MotionSound) : (endReference s).MotionSound := by
  unfold Machine.endReference
  split
  · next r run =>
    obtain ⟨state, -⟩ := referenceRun_some run
    split
    · exact (h.leaveReference state r true (m := .idle) (by simp) (by simp)).of_same (by simp)
    · exact h
  · exact h

theorem State.MotionSound.endReferenceStop {s : State} (h : s.MotionSound) : (endReferenceStop s).MotionSound := by
  unfold Machine.endReferenceStop
  split
  · next r run =>
    obtain ⟨state, -⟩ := referenceRun_some run
    split
    · exact h.leaveReference state r false (by simp) (by simp)
    · exact h
  · exact h

theorem State.MotionSound.clearFault {s : State} (h : s.MotionSound) (data : List Byte) :
    (clearFault data s).MotionSound := by
  refine h.withLength _ _ ?_
  split
  · exact h
  next faulted =>
  split
  · exact h
  · have started : (s.setAxes { s.axes with chan := s.axes.chan.map AxisChan.start }).MotionSound :=
      h.of_same ⟨rfl, rfl, rfl, rfl, rfl, fun a => by simp⟩
    have state : s.motion.state = .faulted := not_not.mp faulted
    exact (started.setHostState (by simp [State.hostMotion, state]) (m := .held) (by simp) (by simp)).answer _ _

/-! ## Move commands and the ends of a segment -/

theorem State.MotionSound.stop {s : State} (h : s.MotionSound) (data : List Byte) : (stop data s).MotionSound :=
  h.withLength _ _ (h.stopEffect.answer _ _)

theorem State.MotionSound.flushMoves {s : State} (h : s.MotionSound) (data : List Byte) :
    (flushMoves data s).MotionSound := by
  refine h.withLength _ _ ?_
  dsimp only
  split
  · exact h.removeUnstarted.answer _ _
  · exact State.MotionSound.answer (h.removeUnstarted.of_same (by simp)) _ _

theorem State.MotionSound.positionTimeout {s : State} (h : s.MotionSound) : (positionTimeout s).MotionSound := by
  unfold Machine.positionTimeout
  repeat' split
  · exact State.MotionSound.faultStop (h.of_same (by simp)) _
  · exact h
  · exact h

theorem State.MotionSound.stopDecelerationEnd {s : State} (h : s.MotionSound) :
    (stopDecelerationEnd s).MotionSound := by
  unfold Machine.stopDecelerationEnd
  split
  · next g flying =>
    split
    · exact h.endDeceleration (h.not_referencing (State.current_of_flying flying).1)
    · exact h
  · exact h

/-! ## The change commands and the identity read -/

theorem changeRefusal_none {target : Ident} {s : State} (passes : changeRefusal target s = none) :
    s.station.state = .active ∧ (s.motion.state = .idle ∨ s.motion.state = .held) := by
  unfold changeRefusal at passes
  split_ifs at passes with _ wrong
  rw [not_or, not_and_or] at wrong
  simpa using wrong

theorem State.MotionSound.changeProbe {s : State} (h : s.MotionSound) (data : List Byte) :
    (changeProbe data s).MotionSound := by
  refine h.withLength _ _ ?_
  dsimp only
  split
  · exact h
  · next passes =>
    have host : s.hostMotion := by
      rcases (changeRefusal_none passes).2 with state | state <;> simp [State.hostMotion, state]
    exact (h.beginChange host _).answer _ _

theorem State.MotionSound.abortCommand {s : State} (h : s.MotionSound) (data : List Byte) :
    (abortCommand data s).MotionSound := by
  refine h.withLength _ _ ?_
  split
  · exact h
  · next changing => exact (h.abortChange (not_not.mp changing)).answer _ _

theorem State.MotionSound.takeAnswer {s : State} (h : s.MotionSound) (high low check : Byte) :
    (takeAnswer high low check s).MotionSound := by
  unfold Machine.takeAnswer
  dsimp only
  split
  · exact h.endRead _
  · exact h.failAttempt

theorem State.MotionSound.attemptTimeout {s : State} (h : s.MotionSound) : (attemptTimeout s).MotionSound := by
  unfold Machine.attemptTimeout
  split
  · exact State.MotionSound.failAttempt (h.of_same (by simp))
  · exact h

/-! ## The motion period (1.3, 1.4, 7.4) -/

theorem State.MotionSound.advanceReference {s : State} (h : s.MotionSound) : (advanceReference s).MotionSound := by
  unfold Machine.advanceReference
  split
  · next r run =>
    obtain ⟨-, stands⟩ := referenceRun_some run
    obtain ⟨-, unreferenced⟩ := h.2.2.2.1 r stands
    dsimp only
    refine (h.unreference r.axis ?_).setReference stands ?_
    · exact unreferenced
    · unfold RefRun.advance
      split <;> rfl
  · exact h

theorem State.MotionSound.runPeriod {s : State} (h : s.MotionSound) {g : Segment} (current : s.current = some g) :
    (runPeriod g s).MotionSound := by
  unfold Machine.runPeriod
  dsimp only
  have set := h.setCurrent_of_current (g' := { g with
    sent := g.sent + 1, dist := g.dist + profileEntry g.len g.feed s.cfg.accel (g.sent + 1) }) current rfl
  have kind := h.current_kind current
  split
  · exact State.MotionSound.enterSettlingAt (set.of_same (by simp)) _ fun changing => kind (by simpa using changing)
  · exact set.of_same (by simp)

theorem State.MotionSound.stopPeriod {s : State} (h : s.MotionSound) {g : Segment} (current : s.current = some g)
    (v : Nat) : (stopPeriod g v s).MotionSound := by
  unfold Machine.stopPeriod
  dsimp only
  have set := h.setCurrent_of_current (g' := { g with
    dist := min g.len (g.dist + (v - s.cfg.accel)), decel := some (v - s.cfg.accel) }) current rfl
  split
  · exact set
  · exact set.of_same (by simp)

theorem State.MotionSound.backOffPeriod {s : State} (h : s.MotionSound) {g : Segment}
    (kind : s.motion.state = .changing → g.kind ≠ .probe) : (backOffPeriod g s).MotionSound := by
  unfold Machine.backOffPeriod
  dsimp only
  have set := h.setCurrent (g := { g with
    back := g.back + profileEntry (g.backOffLen s) g.feed s.cfg.accel (g.backSent + 1)
    backSent := g.backSent + 1 }) kind
  split
  · exact State.MotionSound.enterSettlingAt (set.of_same (by simp)) _ fun changing => kind (by simpa using changing)
  · exact set.of_same (by simp)

theorem State.MotionSound.advance {s : State} (h : s.MotionSound) : (advance s).MotionSound := by
  unfold Machine.advance
  have h := h.advanceReference
  generalize Machine.advanceReference s = s at h
  unfold advanceSegment
  split
  · exact h
  next g flying =>
  have current := (State.current_of_flying flying).1
  have kind := h.current_kind current
  split
  · split
    · exact h.stopPeriod current _
    · exact h.runPeriod current
  · unfold touchedPeriod
    split
    · exact h.setCurrent_of_current current rfl
    split
    · exact h.enterSettlingAt _ kind
    · exact h.backOffPeriod kind
  · exact h.backOffPeriod kind
  all_goals exact h

theorem State.MotionSound.seatedOutside {s : State} (h : s.MotionSound) (level : Bool) :
    (seatedOutside level s).MotionSound := by
  unfold Machine.seatedOutside
  dsimp only
  split
  · exact State.MotionSound.faultStop (h.of_same (by simp)) _
  · exact h.of_same (by simp)

theorem State.MotionSound.seatedInChange {s : State} (h : s.MotionSound) {ch : Change}
    (stands : s.probes.change = some ch) (level : Bool) : (seatedInChange ch level s).MotionSound := by
  have changing : s.motion.state = .changing := h.2.1.mpr (by simp [stands])
  unfold Machine.seatedInChange
  split
  · exact h.completeDrop changing ch
  · exact h.completePick changing ch
  · exact State.MotionSound.faultStop (h.of_same (by simp)) _

theorem State.MotionSound.watchSeated {s : State} (h : s.MotionSound) (level : Bool) :
    (watchSeated level s).MotionSound := by
  have noted : (noteSeated level s).MotionSound := h.of_same ⟨rfl, rfl, rfl, rfl, rfl, fun _ => rfl⟩
  unfold Machine.watchSeated
  split
  · exact h
  dsimp only
  split
  · next ch stands => exact noted.seatedInChange stands level
  · exact noted.seatedOutside level

theorem State.MotionSound.watch {s : State} (h : s.MotionSound) (v : Samples) (w : Watch) :
    (watch v w s).MotionSound := by
  have level (r : FaultReason) (a : Axis) (bad : Bool) : (watchLevel r a bad s).MotionSound := by
    unfold watchLevel
    repeat' split
    · exact h
    · exact h.faultStop r
    · exact h.faultStop r
    · refine h.of_same ⟨rfl, rfl, rfl, rfl, rfl, fun b => ?_⟩
      rw [enableOff, State.setAxis_get]
      split
      · next same => rw [same]; rfl
      · rfl
    · exact h
  cases w with
  | limit a => exact level _ a _
  | drive a => exact level _ a _
  | following a =>
    change (watchFollowing a s).MotionSound
    unfold watchFollowing
    repeat' split
    all_goals first
      | exact h
      | exact h.faultStop _
  | seated => exact h.watchSeated _

theorem State.MotionSound.motionPeriod {s : State} (h : s.MotionSound) (v : Samples) (order : List Watch) :
    (motionPeriod v order s).MotionSound := by
  have sampled : (sampleLevels v (s.setClock (s.clock + 1))).MotionSound :=
    h.of_same ⟨rfl, rfl, rfl, rfl, rfl, fun a => by simp⟩
  unfold Machine.motionPeriod
  dsimp only
  exact (State.MotionSound.foldl (fun _ w ht => ht.watch v w) _ sampled.advance).of_same
    ⟨rfl, rfl, rfl, rfl, rfl, fun a => by simp⟩

/-! ## The Point Queue's commands: a fall of the hold count may start the waiting PROBE (R188) -/

theorem State.MotionSound.endCorrection {s : State} (h : s.MotionSound) : (endCorrection s).MotionSound := by
  unfold Machine.endCorrection
  split
  · exact State.MotionSound.holdChanged (h.of_same (by simp)) _
  · exact h

theorem State.MotionSound.readPoint {s : State} (h : s.MotionSound) (data : List Byte) :
    (readPoint data s).MotionSound := by
  refine h.withLength _ _ ?_
  split
  · exact h
  · exact (State.MotionSound.holdChanged (h.of_same (by simp)) _).answer _ _

theorem State.MotionSound.flushPoints {s : State} (h : s.MotionSound) (data : List Byte) :
    (flushPoints data s).MotionSound :=
  h.withLength _ _ ((State.MotionSound.holdChanged (h.of_same (by simp)) _).answer _ _)

/-! ## Peers, claims and the link -/

theorem State.MotionSound.hear {s : State} (h : s.MotionSound) (p : Station) : (hear p s).MotionSound :=
  h.of_same (by simp)

theorem State.MotionSound.retried {s : State} (h : s.MotionSound) : (retryCheck s).MotionSound := h.of_same (by simp)

theorem State.MotionSound.peerGone {s : State} (h : s.MotionSound) (p : Station) : (peerGone p s).MotionSound := by
  unfold Machine.peerGone
  dsimp only
  refine State.MotionSound.afterClaim ?_
  split <;> exact h.of_same (by simp)

theorem State.MotionSound.losePeer {s : State} (h : s.MotionSound) (p : Station) : (losePeer p s).MotionSound := by
  unfold Machine.losePeer
  split
  · next e _ =>
    split
    · exact h
    · have lost : (raisePeerLost p ((s.reach (e.lastHeard + 3000)).setPeer p
          (some { e with lost := true }))).MotionSound := h.of_same (by simp)
      have dropped : (dropClaims p (markLost p (raisePeerLost p ((s.reach (e.lastHeard + 3000)).setPeer p
          (some { e with lost := true }))))).MotionSound := lost.of_same (by simp)
      exact (dropped.peerGone p).of_same (by simp)
  · exact h

theorem State.MotionSound.forgetPeer {s : State} (h : s.MotionSound) (data : List Byte) :
    (forgetPeer data s).MotionSound := by
  refine h.withLength _ _ ?_
  split
  · exact h
  · next p _ =>
    split
    · have freed : (freeCellsOf p (s.setPeer p none)).MotionSound := h.of_same (by simp)
      exact State.MotionSound.answer ((freed.peerGone p).of_same (by simp)) _ _
    · exact h

theorem State.MotionSound.meetConflict {s : State} (h : s.MotionSound) (p : Station) (cs : CellSet) :
    (meetConflict p cs s).MotionSound := by
  unfold Machine.meetConflict
  split
  · exact h
  · exact h.zoneConflict _ _

theorem State.MotionSound.applyReport {s : State} (h : s.MotionSound) (p : Station) (r : Report) :
    (applyReport p r s).MotionSound := by
  have taken : (takeClaims r.held (Machine.meetConflict p r.held s)).MotionSound :=
    (h.meetConflict p r.held).of_same (by simp)
  unfold Machine.applyReport
  dsimp only
  refine State.MotionSound.afterClaim ?_
  split <;> exact taken.of_same (by simp)

theorem State.MotionSound.takePresence {s : State} (h : s.MotionSound) (p : Station) (r : Report) :
    (takePresence p r s).MotionSound := by
  have recorded : (recordReport p r (Machine.hear p s)).MotionSound := (h.hear p).of_same (by simp)
  unfold Machine.takePresence
  split
  · exact (recorded.applyReport p r).of_same (by simp)
  · exact h

theorem State.MotionSound.sendObject {s : State} (h : s.MotionSound) (p : Station) (n : Byte) (overlap : CellSet) :
    (sendObject p n overlap s).MotionSound := by
  have offered : (offer (.object p n overlap) s).2.MotionSound := h.of_same (by simp)
  unfold Machine.sendObject
  split
  · exact h.zoneConflict _ _
  split
  all_goals rename_i placed
  all_goals rw [placed] at offered
  · exact offered
  · exact offered.zoneConflict _ _
  · exact offered.zoneConflict _ _

theorem State.MotionSound.judgePeerClaim {s : State} (h : s.MotionSound) (p : Station) (n : Byte) (cs : CellSet) :
    (judgePeerClaim p n cs s).MotionSound := by
  have opened : (openWindow p n (claimCells p n cs s)).MotionSound := h.of_same (by simp)
  have objected : (if s.ownSet &&& cs = 0#20 then openWindow p n (claimCells p n cs s)
      else Machine.sendObject p n (s.ownSet &&& cs) (openWindow p n (claimCells p n cs s))).MotionSound := by
    split
    · exact opened
    · exact opened.sendObject _ _ _
  unfold Machine.judgePeerClaim
  dsimp only
  exact objected.of_same (by simp)

theorem State.MotionSound.takeClaim {s : State} (h : s.MotionSound) (p : Station) (n : Byte) (cs : CellSet) :
    (takeClaim p n cs s).MotionSound := by
  unfold Machine.takeClaim
  split
  · refine State.MotionSound.afterClaim ?_
    split
    · exact h.of_same (by simp)
    · exact (h.hear p).judgePeerClaim p n cs
  · exact h

theorem State.MotionSound.grantClaim {s : State} (h : s.MotionSound) (c : Claim) : (grantClaim c s).MotionSound := by
  have weighed : (Machine.weigh (s.setClaim none)).MotionSound := State.MotionSound.weigh (h.of_same (by simp))
  unfold Machine.grantClaim
  dsimp only
  split <;> exact weighed.of_same (by simp)

theorem State.MotionSound.settle {s : State} (h : s.MotionSound) (p : Station) (n : Byte) :
    (settle p n s).MotionSound := by
  have held : (closeWindow p n (grantCells p n s)).MotionSound := h.of_same (by simp)
  unfold Machine.settle
  dsimp only
  repeat' split
  · exact held.grantClaim _
  all_goals exact held

theorem State.MotionSound.endWindow {s : State} (h : s.MotionSound) (p : Station) (n : Byte) :
    (endWindow p n s).MotionSound := by
  unfold Machine.endWindow
  split
  · next w _ =>
    have late : (s.reach (w.since + 2)).MotionSound := h.of_same (by simp)
    have settled := (late.settle p n).afterClaim
    dsimp only
    split
    · exact settled.of_same (by simp)
    · exact settled
  · exact h

theorem State.MotionSound.takeObject {s : State} (h : s.MotionSound) (sender target : Station) (n : Byte)
    (cs : CellSet) : (takeObject sender target n cs s).MotionSound := by
  have heard := h.hear sender
  unfold Machine.takeObject
  dsimp only
  split
  · refine State.MotionSound.afterClaim (State.MotionSound.retried ?_)
    split
    · exact heard.of_same (by simp)
    · unfold objectLate
      repeat' split
      all_goals first
        | exact heard
        | exact heard.zoneConflict _ _
  · exact h

theorem State.MotionSound.takeRelease {s : State} (h : s.MotionSound) (p : Station) (cs : CellSet) :
    (takeRelease p cs s).MotionSound := by
  unfold Machine.takeRelease
  dsimp only
  split
  · refine State.MotionSound.afterClaim (State.MotionSound.retried ?_)
    split <;> exact h.of_same (by simp)
  · exact h

theorem State.MotionSound.retryRoom {s : State} (h : s.MotionSound) : (retryRoom s).MotionSound := by
  unfold Machine.retryRoom
  split
  · exact State.MotionSound.afterClaim (h.of_same (by simp))
  · exact h

theorem State.MotionSound.deferralExpiry {s : State} (h : s.MotionSound) (c : Cell) :
    (deferralExpiry c s).MotionSound := by
  unfold Machine.deferralExpiry
  split
  · exact State.MotionSound.afterClaim (h.of_same (by simp))
  · exact h

theorem State.MotionSound.awaitIdle {s : State} (h : s.MotionSound) : (awaitIdle s).MotionSound :=
  h.of_same ⟨rfl, rfl, rfl, rfl, rfl, fun _ => rfl⟩

theorem State.MotionSound.duplicateMismatch {s : State} (h : s.MotionSound) : (duplicateMismatch s).MotionSound := by
  unfold Machine.duplicateMismatch
  split
  · next e _ =>
    have waits : (Machine.awaitIdle (removeSending s)).MotionSound := h.of_same (by simp)
    exact ((waits.ownerTold _).enterDeaf _ _).afterClaim
  · exact h

theorem State.MotionSound.duplicateFound {s : State} (h : s.MotionSound) (k : FrameKind) :
    (duplicateFound k s).MotionSound := (h.enterDeaf _ _).afterClaim

theorem State.MotionSound.earlySpoil {s : State} (h : s.MotionSound) (own : Bool) :
    (earlySpoil own s).MotionSound := by
  unfold Machine.earlySpoil
  split
  · exact h.attemptSpoiled.awaitIdle.afterClaim
  split
  · refine State.MotionSound.afterClaim (State.MotionSound.awaitIdle ?_)
    split
    · exact h.countError
    · exact h
  · exact h

theorem State.MotionSound.frameSpoiled {s : State} (h : s.MotionSound) (rx : Reception) :
    (frameSpoiled rx s).MotionSound := by
  unfold Machine.frameSpoiled
  repeat' split
  · exact h.attemptSpoiled.afterClaim
  · exact h.duplicateFound _
  · exact h.countError.afterClaim
  · exact h
  · exact h

theorem State.MotionSound.duplicateFrame {s : State} (h : s.MotionSound) (k : FrameKind) :
    (duplicateFrame k s).MotionSound := by
  unfold Machine.duplicateFrame
  split
  · exact h.duplicateFound k
  · exact h

theorem State.MotionSound.driverFault {s : State} (h : s.MotionSound) : (driverFault s).MotionSound := by
  unfold Machine.driverFault
  split
  · exact h.attemptSpoiled.awaitIdle.afterClaim
  · exact h

theorem State.MotionSound.settleConflicts {s : State} (h : s.MotionSound) : (settleConflicts s).MotionSound := by
  refine State.MotionSound.foldl (fun t p ht => ?_) _ h
  repeat' split
  · exact ht.meetConflict p _
  · exact ht
  · exact ht

theorem State.MotionSound.endListening {s : State} (h : s.MotionSound) : (endListening s).MotionSound := by
  unfold Machine.endListening
  split
  · next due _ _ =>
    have on : (settleView ((s.reach due).setLink
        { (s.reach due).link with state := .on, listeningDue := none })).MotionSound := h.of_same (by simp)
    have settled := on.settleConflicts
    dsimp only
    have claimed : ∀ t : State, t.MotionSound → (becomeActive (Machine.afterClaim t)).MotionSound :=
      fun t ht => ht.afterClaim.of_same (by simp)
    refine claimed _ ?_
    split <;> exact settled.of_same (by simp)
  · exact h

/-! ## Start-up -/

/-- Motion as a start leaves it, IDLE, empty and without a change record, is sound (R48). -/
theorem State.MotionSound.of_idle {t : State} (idle : t.motion = .idle) (change : t.probes.change = none) :
    t.MotionSound := by
  refine .of_host ?_ ?_ ?_ change ?_ ?_ <;> rw [idle] <;> simp [Motion.idle]

theorem State.MotionSound.start {s : State} (h : s.MotionSound) (data : List Byte) : (start data s).MotionSound := by
  unfold Machine.start
  split
  · exact h
  split
  · exact .of_idle (by simp [startUp]) (by simp [startUp])
  · exact h

theorem powerOn_motionSound (p : Pins) : (State.powerOn p).MotionSound :=
  .of_host (Nat.zero_le _) (by simp [State.powerOn]) (by simp [State.powerOn]) rfl rfl rfl

/-! ## Every command -/

theorem exec_keeps_motionSound {c : Instr} {s t : State} (h : s.MotionSound) (run : exec c s = .next t) :
    t.MotionSound := by
  cases c
  all_goals obtain rfl := Host.Outcome.next.inj run
  case powerOn p => exact powerOn_motionSound p
  case resetStation data p =>
    exact h.withLength 0 data (State.MotionSound.answer (s := (State.powerOn p).setPending s.pending)
      (powerOn_motionSound p) .ok [])
  case start data => exact h.start data
  case queueMove data => exact h.queueMove data
  case stop data => exact h.stop data
  case resume data => exact h.resume data
  case flushMoves data => exact h.flushMoves data
  case referenceAxis data => exact h.referenceAxis data
  case clearFault data => exact h.clearFault data
  case changeProbe data => exact h.changeProbe data
  case abortChange data => exact h.abortCommand data
  case forgetPeer data => exact h.forgetPeer data
  case readPoint data => exact h.readPoint data
  case flushPoints data => exact h.flushPoints data
  case motionPeriod v order => exact h.motionPeriod v order
  case segmentComplete => exact h.completeSegment
  case positionTimeout => exact h.positionTimeout
  case stopDecelerationEnd => exact h.stopDecelerationEnd
  case scaleCount a forward => exact h.takeScaleCount a forward
  case scaleFault a => exact h.takeScaleFault a
  case referenceMark a => exact h.takeReferenceMark a
  case referenceEnd => exact h.endReference
  case referenceStopEnd => exact h.endReferenceStop
  case touch c => exact h.takeTouch _
  case correctionEnd => exact h.endCorrection
  case duplicateStationMismatch => exact h.duplicateMismatch
  case earlySpoil own => exact h.earlySpoil own
  case frameSpoiled rx byOther => exact h.frameSpoiled rx
  case duplicateStationFrame k => exact h.duplicateFrame k
  case claimAccepted p n cs => exact h.takeClaim p n cs
  case settleWindowEnd p n => exact h.endWindow p n
  case objectAccepted sender target n cs => exact h.takeObject sender target n cs
  case claimRetryRoom => exact h.retryRoom
  case releaseAccepted p cs => exact h.takeRelease p cs
  case deferralExpiry c => exact h.deferralExpiry c
  case presenceAccepted p r => exact h.takePresence p r
  case peerLost p => exact h.losePeer p
  case listeningEnd => exact h.endListening
  case dropTimeout => exact h.seatTimeout _ _ _
  case pickTimeout => exact h.seatTimeout _ _ _
  case identAnswer high low check => exact h.takeAnswer high low check
  case identAttemptTimeout => exact h.attemptTimeout
  case lineDriverFault => exact h.driverFault
  all_goals exact h.of_same (by simp)

/-- Settles O58, from what each command keeps of the Motion Unit. -/
theorem stepKeepsMotionSound : Obligations.StepKeepsMotionSound := by
  intro s t h run
  rcases step_cases run with rfl | ⟨c, rest, -, run⟩
  · exact h
  · exact exec_keeps_motionSound (s := s.setPending rest) h run

end Sys2Proof.Machine
end

section
/-! PROOFS. An event once raised stays pending through the operations that follow (R205): what each shared operation
does to the pending set. -/

namespace Sys2Proof.Machine

/-! ## Raises -/

/-- An event of a kind is pending among the events. -/
def Events.pends (e : Events) (k : EventKind) : Bool := e.pending &&& k.bit != 0#20

theorem State.isPending_iff (s : State) (k : EventKind) : s.isPending k ↔ s.events.pends k = true := by
  simp [State.isPending, Events.pends]

theorem EventKind.bit_pends (k : EventKind) : k.bit &&& k.bit ≠ 0#20 := by cases k <;> decide

theorem Events.pends_raise (e : Events) (k ev : EventKind) (kept : Kept) :
    { e with pending := e.pending ||| k.bit, kept := kept }.pends ev = true
      ↔ e.pends ev = true ∨ k.bit &&& ev.bit ≠ 0#20 := by
  simp only [Events.pends, bne_iff_ne]
  rw [BitVec.and_comm, BitVec.and_or_distrib_left, Ne, BitVec.or_eq_zero_iff, BitVec.and_comm,
    BitVec.and_comm (x := ev.bit)]
  tauto

@[simp] theorem State.raise_pends (s : State) (k : EventKind) (kept : Kept) {ev : EventKind}
    (h : s.events.pends ev) : (s.raise k kept).events.pends ev :=
  (s.events.pends_raise k ev kept).mpr (.inl h)

@[simp] theorem State.raise_pends_same (s : State) (k : EventKind) (kept : Kept) :
    (s.raise k kept).events.pends k :=
  (s.events.pends_raise k k kept).mpr (.inr k.bit_pends)

@[simp] theorem raiseReady_pends (s : State) :
    (raiseReady s).events.pends .ready := State.raise_pends_same _ _ _

@[simp] theorem raiseReady_keeps_pends (s : State) {ev : EventKind} (h : s.events.pends ev) :
    (raiseReady s).events.pends ev := State.raise_pends _ _ _ h

@[simp] theorem raisePointReady_pends (n : BitVec 16) (s : State) :
    (raisePointReady n s).events.pends .pointReady := State.raise_pends_same _ _ _

@[simp] theorem raisePointReady_keeps_pends (n : BitVec 16) (s : State) {ev : EventKind} (h : s.events.pends ev) :
    (raisePointReady n s).events.pends ev := State.raise_pends _ _ _ h

@[simp] theorem raiseQueueHold_pends (s : State) :
    (raiseQueueHold s).events.pends .queueHold := State.raise_pends_same _ _ _

@[simp] theorem raiseQueueHold_keeps_pends (s : State) {ev : EventKind} (h : s.events.pends ev) :
    (raiseQueueHold s).events.pends ev := State.raise_pends _ _ _ h

@[simp] theorem raiseOverrun_pends (n : BitVec 16) (s : State) :
    (raiseOverrun n s).events.pends .overrun := State.raise_pends_same _ _ _

@[simp] theorem raiseOverrun_keeps_pends (n : BitVec 16) (s : State) {ev : EventKind} (h : s.events.pends ev) :
    (raiseOverrun n s).events.pends ev := State.raise_pends _ _ _ h

@[simp] theorem raiseSegmentDone_pends (t : Tag) (s : State) :
    (raiseSegmentDone t s).events.pends .segmentDone := State.raise_pends_same _ _ _

@[simp] theorem raiseSegmentDone_keeps_pends (t : Tag) (s : State) {ev : EventKind} (h : s.events.pends ev) :
    (raiseSegmentDone t s).events.pends ev := State.raise_pends _ _ _ h

@[simp] theorem raiseProbeRefused_pends (r : RefuseReason) (t : Tag) (s : State) :
    (raiseProbeRefused r t s).events.pends .probeRefused := State.raise_pends_same _ _ _

@[simp] theorem raiseProbeRefused_keeps_pends (r : RefuseReason) (t : Tag) (s : State) {ev : EventKind} (h : s.events.pends ev) :
    (raiseProbeRefused r t s).events.pends ev := State.raise_pends _ _ _ h

@[simp] theorem raiseMotionFault_pends (r : FaultReason) (t : Option Tag) (s : State) :
    (raiseMotionFault r t s).events.pends .motionFault := State.raise_pends_same _ _ _

@[simp] theorem raiseMotionFault_keeps_pends (r : FaultReason) (t : Option Tag) (s : State) {ev : EventKind} (h : s.events.pends ev) :
    (raiseMotionFault r t s).events.pends ev := State.raise_pends _ _ _ h

@[simp] theorem raiseZoneWait_pends (cs : CellSet) (s : State) :
    (raiseZoneWait cs s).events.pends .zoneWait := State.raise_pends_same _ _ _

@[simp] theorem raiseZoneWait_keeps_pends (cs : CellSet) (s : State) {ev : EventKind} (h : s.events.pends ev) :
    (raiseZoneWait cs s).events.pends ev := State.raise_pends _ _ _ h

@[simp] theorem raiseZoneWaitTimeout_pends (cs : CellSet) (s : State) :
    (raiseZoneWaitTimeout cs s).events.pends .zoneWaitTimeout := State.raise_pends_same _ _ _

@[simp] theorem raiseZoneWaitTimeout_keeps_pends (cs : CellSet) (s : State) {ev : EventKind} (h : s.events.pends ev) :
    (raiseZoneWaitTimeout cs s).events.pends ev := State.raise_pends _ _ _ h

@[simp] theorem raiseZoneOverstay_pends (c : Cell) (w : Station) (s : State) :
    (raiseZoneOverstay c w s).events.pends .zoneOverstay := State.raise_pends_same _ _ _

@[simp] theorem raiseZoneOverstay_keeps_pends (c : Cell) (w : Station) (s : State) {ev : EventKind} (h : s.events.pends ev) :
    (raiseZoneOverstay c w s).events.pends ev := State.raise_pends _ _ _ h

@[simp] theorem raiseZoneConflict_pends (p : Station) (cs : CellSet) (s : State) :
    (raiseZoneConflict p cs s).events.pends .zoneConflict := State.raise_pends_same _ _ _

@[simp] theorem raiseZoneConflict_keeps_pends (p : Station) (cs : CellSet) (s : State) {ev : EventKind} (h : s.events.pends ev) :
    (raiseZoneConflict p cs s).events.pends ev := State.raise_pends _ _ _ h

@[simp] theorem raiseChangeDone_pends (t : Ident) (s : State) :
    (raiseChangeDone t s).events.pends .changeDone := State.raise_pends_same _ _ _

@[simp] theorem raiseChangeDone_keeps_pends (t : Ident) (s : State) {ev : EventKind} (h : s.events.pends ev) :
    (raiseChangeDone t s).events.pends ev := State.raise_pends _ _ _ h

@[simp] theorem raiseChangeFailed_pends (r : FailReason) (t : Ident) (s : State) :
    (raiseChangeFailed r t s).events.pends .changeFailed := State.raise_pends_same _ _ _

@[simp] theorem raiseChangeFailed_keeps_pends (r : FailReason) (t : Ident) (s : State) {ev : EventKind} (h : s.events.pends ev) :
    (raiseChangeFailed r t s).events.pends ev := State.raise_pends _ _ _ h

@[simp] theorem raiseRackConflict_pends (k : SlotIx) (i : Ident) (s : State) :
    (raiseRackConflict k i s).events.pends .rackConflict := State.raise_pends_same _ _ _

@[simp] theorem raiseRackConflict_keeps_pends (k : SlotIx) (i : Ident) (s : State) {ev : EventKind} (h : s.events.pends ev) :
    (raiseRackConflict k i s).events.pends ev := State.raise_pends _ _ _ h

@[simp] theorem raiseSeatedChange_pends (level : Bool) (s : State) :
    (raiseSeatedChange level s).events.pends .seatedChange := State.raise_pends_same _ _ _

@[simp] theorem raiseSeatedChange_keeps_pends (level : Bool) (s : State) {ev : EventKind} (h : s.events.pends ev) :
    (raiseSeatedChange level s).events.pends ev := State.raise_pends _ _ _ h

@[simp] theorem raiseStrayTouch_pends (s : State) :
    (raiseStrayTouch s).events.pends .strayTouch := State.raise_pends_same _ _ _

@[simp] theorem raiseStrayTouch_keeps_pends (s : State) {ev : EventKind} (h : s.events.pends ev) :
    (raiseStrayTouch s).events.pends ev := State.raise_pends _ _ _ h

@[simp] theorem raiseSensorFault_pends (c : Chan) (s : State) :
    (raiseSensorFault c s).events.pends .sensorFault := State.raise_pends_same _ _ _

@[simp] theorem raiseSensorFault_keeps_pends (c : Chan) (s : State) {ev : EventKind} (h : s.events.pends ev) :
    (raiseSensorFault c s).events.pends ev := State.raise_pends _ _ _ h

@[simp] theorem raisePeerLost_pends (p : Station) (s : State) :
    (raisePeerLost p s).events.pends .peerLost := State.raise_pends_same _ _ _

@[simp] theorem raisePeerLost_keeps_pends (p : Station) (s : State) {ev : EventKind} (h : s.events.pends ev) :
    (raisePeerLost p s).events.pends ev := State.raise_pends _ _ _ h

@[simp] theorem raiseLinkFault_pends (r : LinkReason) (k : Option FrameKind) (s : State) :
    (raiseLinkFault r k s).events.pends .linkFault := State.raise_pends_same _ _ _

@[simp] theorem raiseLinkFault_keeps_pends (r : LinkReason) (k : Option FrameKind) (s : State) {ev : EventKind} (h : s.events.pends ev) :
    (raiseLinkFault r k s).events.pends ev := State.raise_pends _ _ _ h

@[simp] theorem raisePortError_pends (r : PortReason) (s : State) :
    (raisePortError r s).events.pends .portError := State.raise_pends_same _ _ _

@[simp] theorem raisePortError_keeps_pends (r : PortReason) (s : State) {ev : EventKind} (h : s.events.pends ev) :
    (raisePortError r s).events.pends ev := State.raise_pends _ _ _ h

/-! ## Folds and the transmit list -/

theorem pends_foldl {α : Type} {ev : EventKind} {f : State → α → State}
    (keeps : ∀ t x, t.events.pends ev → (f t x).events.pends ev) :
    ∀ (l : List α) {s : State}, s.events.pends ev → (l.foldl f s).events.pends ev
  | [], _, h => h
  | x :: l, _, h => pends_foldl keeps l (keeps _ x h)

@[simp] theorem offer_pends (f : TxFrame) (s : State) {ev : EventKind} (h : s.events.pends ev) :
    (offer f s).2.events.pends ev := by
  unfold offer placeFrame
  dsimp only
  repeat' split
  all_goals simp [h]

theorem offer_pends_of {f : TxFrame} {s t : State} {o : Offer} {ev : EventKind} (run : offer f s = (o, t))
    (h : s.events.pends ev) : t.events.pends ev := by
  have offered := offer_pends f s h
  rwa [run] at offered

@[simp] theorem offerPresence_pends (s : State) {ev : EventKind}
    (h : s.events.pends ev) : (offerPresence s).events.pends ev := by
  unfold offerPresence
  split
  · simpa using h
  · split
    all_goals
      have offered := offer_pends_of ‹_› h
      simpa using offered

@[simp] theorem releaseReport_pends (s : State) {ev : EventKind}
    (h : s.events.pends ev) : (releaseReport s).events.pends ev := by
  unfold releaseReport
  dsimp only
  repeat' split
  all_goals simp [h]

@[simp] theorem offerNote_pends (k : SlotIx) (content : Ident) (s : State) {ev : EventKind}
    (h : s.events.pends ev) : (offerNote k content s).events.pends ev := by
  unfold offerNote
  split
  all_goals
    have offered := offer_pends_of ‹_› h
    simpa using offered

@[simp] theorem applyNote_pends (k : SlotIx) (c : Ident) (src : NotedBy) (s : State) {ev : EventKind}
    (h : s.events.pends ev) : (applyNote k c src s).events.pends ev := by
  unfold applyNote
  dsimp only
  repeat' split
  all_goals simp [h]

@[simp] theorem expelIdent_pends (i : Ident) (s : State) {ev : EventKind} (h : s.events.pends ev) :
    (expelIdent i s).events.pends ev := by
  unfold expelIdent
  split
  · refine pends_foldl (fun t c ht => ?_) _ h
    split <;> simp [ht]
  · exact h

@[simp] theorem failChange_pends (s : State) {ev : EventKind}
    (h : s.events.pends ev) : (failChange s).events.pends ev := by
  unfold failChange
  dsimp only
  repeat' split
  all_goals simp [h]

@[simp] theorem faultStop_pends (r : FaultReason) (s : State) {ev : EventKind}
    (h : s.events.pends ev) : (faultStop r s).events.pends ev := by
  unfold faultStop
  split
  · exact h
  dsimp only
  refine raiseMotionFault_keeps_pends _ _ _ ?_
  split <;> split <;> simp [h]

@[simp] theorem zoneConflict_pends (p : Station) (cs : CellSet) (s : State) {ev : EventKind}
    (h : s.events.pends ev) : (zoneConflict p cs s).events.pends ev := by
  simp [zoneConflict, h]

@[simp] theorem markTimeout_pends (c : Claim) (s : State) {ev : EventKind}
    (h : s.events.pends ev) : (markTimeout c s).events.pends ev := by
  simp [markTimeout, h]

@[simp] theorem offerWait_pends (cs : CellSet) (s : State) {ev : EventKind}
    (h : s.events.pends ev) : (offerWait cs s).events.pends ev := by
  unfold offerWait
  repeat' split
  all_goals simp [h]

@[simp] theorem claimToWaiting_pends (blocking : CellSet) (s : State) {ev : EventKind}
    (h : s.events.pends ev) : (claimToWaiting blocking s).events.pends ev := by
  unfold claimToWaiting
  split
  · exact h
  next c _ =>
  have waited : (offerWait blocking (raiseZoneWait blocking ((takeBackClaim c s).setClaim
      (some { c with waitingState := true, waiting := blocking })))).events.pends ev :=
    offerWait_pends _ _ (raiseZoneWait_keeps_pends _ _ (by simpa using h))
  dsimp only
  split <;> simp [waited]

@[simp] theorem claimUndelivered_pends (s : State) {ev : EventKind}
    (h : s.events.pends ev) : (claimUndelivered s).events.pends ev := by
  unfold claimUndelivered
  dsimp only
  repeat' split
  all_goals simp [h]

@[simp] theorem sendClaim_pends (c : Claim) (s : State) {ev : EventKind}
    (h : s.events.pends ev) : (sendClaim c s).events.pends ev := by
  unfold sendClaim
  dsimp only
  split
  all_goals
    have offered := offer_pends_of ‹_› (ev := ev) (by simpa using h)
    simp [offered]

@[simp] theorem requestCells_pends (cs : CellSet) (s : State) {ev : EventKind}
    (h : s.events.pends ev) : (requestCells cs s).events.pends ev := by
  unfold requestCells
  dsimp only
  repeat' split
  all_goals simp [h]

@[simp] theorem retryCheck_pends (s : State) {ev : EventKind}
    (h : s.events.pends ev) : (retryCheck s).events.pends ev := by
  unfold retryCheck
  repeat' split
  all_goals simp [h]

@[simp] theorem takeUpHeldBack_pends (before : CellSet) (s : State) {ev : EventKind}
    (h : s.events.pends ev) : (takeUpHeldBack before s).events.pends ev := by
  unfold takeUpHeldBack
  dsimp only
  repeat' split
  all_goals simp [h]

@[simp] theorem deferralsEnded_pends (before : CellSet) (s : State) {ev : EventKind}
    (h : s.events.pends ev) : (deferralsEnded before s).events.pends ev := by
  unfold deferralsEnded
  dsimp only
  repeat' split
  all_goals simp [h]

@[simp] theorem withdrawClaim_pends (s : State) {ev : EventKind}
    (h : s.events.pends ev) : (withdrawClaim s).events.pends ev := by
  simp [withdrawClaim, h]

@[simp] theorem currentChanged_pends (s : State) {ev : EventKind}
    (h : s.events.pends ev) : (currentChanged s).events.pends ev := by
  unfold currentChanged
  dsimp only
  repeat' split
  all_goals simp [h]

@[simp] theorem handOver_pends (keep : CellSet) (s : State) {ev : EventKind}
    (h : s.events.pends ev) : (handOver keep s).events.pends ev := by
  unfold handOver
  dsimp only
  repeat' split
  all_goals simp [h]

@[simp] theorem claimingToWaiting_pends (s : State) {ev : EventKind}
    (h : s.events.pends ev) : (claimingToWaiting s).events.pends ev := by
  unfold claimingToWaiting
  repeat' split
  all_goals simp [h]

@[simp] theorem enterDeaf_pends (r : LinkReason) (f : Option FrameKind) (s : State) {ev : EventKind}
    (h : s.events.pends ev) : (enterDeaf r f s).events.pends ev := by
  have objected (l : List (Station × CellSet)) {t : State} (ht : t.events.pends ev) :
      (l.foldl (fun t o => zoneConflict o.1 o.2 t) t).events.pends ev :=
    pends_foldl (fun _ _ hu => by simp [hu]) l ht
  unfold enterDeaf
  refine releaseReport_pends _ (claimingToWaiting_pends _ ?_)
  have stopped := objected (objectsIn s.link.list) (t := (raiseLinkFault r f s).setLink { s.link with
    state := .deaf, list := s.link.list.filter fun e => !e.frame.deafDrops, listeningDue := none }) (by simp [h])
  simpa using stopped

@[simp] theorem ownerTold_pends (f : TxFrame) (s : State) {ev : EventKind}
    (h : s.events.pends ev) : (ownerTold f s).events.pends ev := by
  unfold ownerTold
  repeat' split
  all_goals simp [h]

@[simp] theorem attemptSpoiled_pends (s : State) {ev : EventKind}
    (h : s.events.pends ev) : (attemptSpoiled s).events.pends ev := by
  unfold attemptSpoiled
  repeat' split
  all_goals simp [h]

@[simp] theorem countError_pends (s : State) {ev : EventKind}
    (h : s.events.pends ev) : (countError s).events.pends ev := by
  unfold countError
  dsimp only
  repeat' split
  all_goals simp [h]

@[simp] theorem updateHold_pends (before : Nat) (s : State) {ev : EventKind} (h : s.events.pends ev) :
    (updateHold before s).events.pends ev := by
  unfold updateHold
  dsimp only
  split <;> simp [h]

@[simp] theorem refuseNoProbe_pends (g : Segment) (s : State) {ev : EventKind}
    (h : s.events.pends ev) : (refuseNoProbe g s).events.pends ev := by
  simp [refuseNoProbe, h]

@[simp] theorem weigh_pends (s : State) {ev : EventKind}
    (h : s.events.pends ev) : (weigh s).events.pends ev := by
  unfold weigh
  repeat' split
  all_goals simp [h]

@[simp] theorem holdChanged_pends (before : Nat) (s : State) {ev : EventKind}
    (h : s.events.pends ev) : (holdChanged before s).events.pends ev := by
  unfold holdChanged
  dsimp only
  repeat' split
  all_goals simp [h]

@[simp] theorem handOverIfEmpty_pends (s : State) {ev : EventKind}
    (h : s.events.pends ev) : (handOverIfEmpty s).events.pends ev := by
  unfold handOverIfEmpty
  dsimp only
  repeat' split
  all_goals simp [h]

@[simp] theorem refuseZeroLength_pends (g : Segment) (s : State) {ev : EventKind}
    (h : s.events.pends ev) : (refuseZeroLength g s).events.pends ev := by
  have gone : (currentChanged (s.dropCurrent.setMotionState .held)).events.pends ev := by simp [h]
  simp [refuseZeroLength, gone]

@[simp] theorem fixGeometry_pends (g : Segment) (s : State) {ev : EventKind}
    (h : s.events.pends ev) : (fixGeometry g s).events.pends ev := by
  unfold fixGeometry
  dsimp only
  repeat' split
  all_goals simp [h]

@[simp] theorem becomeCurrent_pends (s : State) {ev : EventKind}
    (h : s.events.pends ev) : (becomeCurrent s).events.pends ev := by
  unfold becomeCurrent
  dsimp only
  repeat' split
  all_goals simp [h]

@[simp] theorem dropOrphan_pends (s : State) {ev : EventKind}
    (h : s.events.pends ev) : (dropOrphan s).events.pends ev := by
  unfold dropOrphan
  repeat' split
  all_goals simp [h]

@[simp] theorem followHandOver_pends (s : State) {ev : EventKind}
    (h : s.events.pends ev) : (followHandOver s).events.pends ev := by
  unfold followHandOver
  dsimp only
  repeat' split
  all_goals simp [h]

@[simp] theorem followCurrent_pends (s : State) {ev : EventKind}
    (h : s.events.pends ev) : (followCurrent s).events.pends ev := by
  unfold followCurrent
  dsimp only
  repeat' split
  all_goals simp [h]

@[simp] theorem followClaim_pends (s : State) {ev : EventKind}
    (h : s.events.pends ev) : (followClaim s).events.pends ev := by
  simp [followClaim, h]

@[simp] theorem afterClaim_pends (s : State) {ev : EventKind}
    (h : s.events.pends ev) : (afterClaim s).events.pends ev := by
  simp [afterClaim, h]

@[simp] theorem handInternal_pends (kind : SegKind) (target : V3 Int) (s : State) {ev : EventKind}
    (h : s.events.pends ev) : (handInternal kind target s).events.pends ev := by
  unfold handInternal
  dsimp only
  repeat' split
  all_goals simp [h]

@[simp] theorem beginTravel_pends (ph : Phase) (ch : Change) (s : State) {ev : EventKind}
    (h : s.events.pends ev) : (beginTravel ph ch s).events.pends ev := by
  unfold beginTravel
  dsimp only
  repeat' split
  all_goals simp [h]

@[simp] theorem beginLeaving_pends (ph : Phase) (ch : Change) (s : State) {ev : EventKind}
    (h : s.events.pends ev) : (beginLeaving ph ch s).events.pends ev := by
  unfold beginLeaving
  dsimp only
  repeat' split
  all_goals simp [h]

@[simp] theorem endChange_pends (ch : Change) (s : State) {ev : EventKind}
    (h : s.events.pends ev) : (endChange ch s).events.pends ev := by
  unfold endChange
  dsimp only
  repeat' split
  all_goals simp [h]

@[simp] theorem raiseFailures_pends (before : Vec 8 Channel) (order : List Chan) (s : State) {ev : EventKind}
    (h : s.events.pends ev) : (raiseFailures before order s).events.pends ev := by
  refine pends_foldl (fun t x ht => ?_) _ h
  split <;> simp [ht]

@[simp] theorem removeUnstarted_pends (s : State) {ev : EventKind}
    (h : s.events.pends ev) : (removeUnstarted s).events.pends ev := by
  unfold removeUnstarted
  dsimp only
  repeat' split
  all_goals simp [h]

@[simp] theorem endDeceleration_pends (s : State) {ev : EventKind}
    (h : s.events.pends ev) : (endDeceleration s).events.pends ev := by
  unfold endDeceleration
  dsimp only
  repeat' split
  all_goals simp [h]

@[simp] theorem decelerate_pends (g : Segment) (s : State) {ev : EventKind}
    (h : s.events.pends ev) : (decelerate g s).events.pends ev := by
  unfold decelerate
  repeat' split
  all_goals simp [h]

@[simp] theorem endRead_pends (result : Option Ident) (s : State) {ev : EventKind}
    (h : s.events.pends ev) : (endRead result s).events.pends ev := by
  unfold endRead
  dsimp only
  repeat' split
  all_goals simp [h]

@[simp] theorem failAttempt_pends (s : State) {ev : EventKind}
    (h : s.events.pends ev) : (failAttempt s).events.pends ev := by
  unfold failAttempt
  dsimp only
  repeat' split
  all_goals simp [h]

@[simp] theorem beginChange_pends (ch : Change) (s : State) {ev : EventKind}
    (h : s.events.pends ev) : (beginChange ch s).events.pends ev := by
  have gone : (currentChanged s).events.pends ev := by simp [h]
  simp [beginChange, gone]

@[simp] theorem abortTravel_pends (ch : Change) (s : State) {ev : EventKind}
    (h : s.events.pends ev) : (abortTravel ch s).events.pends ev := by
  unfold abortTravel
  dsimp only
  repeat' split
  all_goals simp [h]

@[simp] theorem abortChange_pends (s : State) {ev : EventKind}
    (h : s.events.pends ev) : (abortChange s).1.events.pends ev := by
  unfold abortChange
  repeat' split
  all_goals simp [h]

@[simp] theorem completeDrop_pends (ch : Change) (s : State) {ev : EventKind}
    (h : s.events.pends ev) : (completeDrop ch s).events.pends ev := by
  unfold completeDrop
  dsimp only
  split
  · have noted : (applyNote ‹SlotIx› (s.probes.current.ident.getD 0xFFFF#16) (.station s.own)
        (s.setCurrentProbe .none)).events.pends ev := by simp [h]
    simp [noted]
  · simp [h]

@[simp] theorem completePick_pends (ch : Change) (s : State) {ev : EventKind}
    (h : s.events.pends ev) : (completePick ch s).events.pends ev := by
  unfold completePick
  dsimp only
  repeat' split
  all_goals simp [h]

@[simp] theorem appendMove_pends (g : Segment) (s : State) {ev : EventKind}
    (h : s.events.pends ev) : (appendMove g s).events.pends ev := by
  unfold appendMove
  dsimp only
  repeat' split
  all_goals simp [h]

@[simp] theorem stopSegment_pends (g : Segment) (s : State) {ev : EventKind}
    (h : s.events.pends ev) : (stopSegment g s).events.pends ev := by
  unfold stopSegment
  dsimp only
  repeat' split
  all_goals simp [h]

@[simp] theorem stopEffect_pends (s : State) {ev : EventKind}
    (h : s.events.pends ev) : (stopEffect s).events.pends ev := by
  unfold stopEffect
  dsimp only
  repeat' split
  all_goals simp [h]

@[simp] theorem shedAbortedClaim_pends (s : State) {ev : EventKind}
    (h : s.events.pends ev) : (shedAbortedClaim s).events.pends ev := by
  unfold shedAbortedClaim
  dsimp only
  repeat' split
  all_goals simp [h]

@[simp] theorem requestNoContact_pends (g : Segment) (s : State) {ev : EventKind}
    (h : s.events.pends ev) : (requestNoContact g s).events.pends ev := by
  unfold requestNoContact
  dsimp only
  repeat' split
  all_goals simp [h]

@[simp] theorem completeHost_pends (g : Segment) (s : State) {ev : EventKind}
    (h : s.events.pends ev) : (completeHost g s).events.pends ev := by
  have asked : (if g.untouchedProbe then requestNoContact g s.dropCurrent else s.dropCurrent).events.pends ev := by
    split <;> simp [h]
  unfold completeHost
  dsimp only
  generalize (if g.untouchedProbe then requestNoContact g s.dropCurrent else s.dropCurrent) = t at asked
  have done (tag : Tag) : (currentChanged (raiseSegmentDone tag t)).events.pends ev := by simp [asked]
  split <;> simp [done]

@[simp] theorem continueTravel_pends (ch : Change) (s : State) {ev : EventKind}
    (h : s.events.pends ev) : (continueTravel ch s).events.pends ev := by
  unfold continueTravel
  dsimp only
  repeat' split
  all_goals simp [h]

@[simp] theorem endPhase_pends (ch : Change) (s : State) {ev : EventKind}
    (h : s.events.pends ev) : (endPhase ch s).events.pends ev := by
  unfold endPhase
  dsimp only
  repeat' split
  all_goals simp [h]

@[simp] theorem completeInternal_pends (g : Segment) (ch : Change) (s : State) {ev : EventKind}
    (h : s.events.pends ev) : (completeInternal g ch s).events.pends ev := by
  have done : (currentChanged s.dropCurrent).events.pends ev := by simp [h]
  unfold completeInternal
  dsimp only
  repeat' split
  all_goals simp [done]

@[simp] theorem latchTouch_pends (g : Segment) (c : V3 Int) (s : State) {ev : EventKind}
    (h : s.events.pends ev) : (latchTouch g c s).events.pends ev := by
  unfold latchTouch
  dsimp only
  repeat' split
  all_goals simp [h]

@[simp] theorem watchLevel_pends (r : FaultReason) (a : Axis) (bad : Bool) (s : State) {ev : EventKind}
    (h : s.events.pends ev) : (watchLevel r a bad s).events.pends ev := by
  unfold watchLevel
  repeat' split
  all_goals simp [h]

@[simp] theorem watchFollowing_pends (a : Axis) (s : State) {ev : EventKind}
    (h : s.events.pends ev) : (watchFollowing a s).events.pends ev := by
  unfold watchFollowing
  repeat' split
  all_goals simp [h]

@[simp] theorem seatedOutside_pends (level : Bool) (s : State) {ev : EventKind}
    (h : s.events.pends ev) : (seatedOutside level s).events.pends ev := by
  unfold seatedOutside
  dsimp only
  repeat' split
  all_goals simp [h]

@[simp] theorem seatedInChange_pends (ch : Change) (level : Bool) (s : State) {ev : EventKind}
    (h : s.events.pends ev) : (seatedInChange ch level s).events.pends ev := by
  unfold seatedInChange
  repeat' split
  all_goals simp [h]

@[simp] theorem watchSeated_pends (level : Bool) (s : State) {ev : EventKind}
    (h : s.events.pends ev) : (watchSeated level s).events.pends ev := by
  unfold watchSeated
  dsimp only
  repeat' split
  all_goals simp [h]

@[simp] theorem watch_pends (v : Samples) (w : Watch) (s : State) {ev : EventKind}
    (h : s.events.pends ev) : (watch v w s).events.pends ev := by
  unfold watch
  repeat' split
  all_goals simp [h]

@[simp] theorem arrive_pends (r : RawRecord) (s : State) {ev : EventKind}
    (h : s.events.pends ev) : (arrive r s).events.pends ev := by
  unfold arrive
  dsimp only
  repeat' split
  all_goals simp [h]

@[simp] theorem peerGone_pends (p : Station) (s : State) {ev : EventKind}
    (h : s.events.pends ev) : (peerGone p s).events.pends ev := by
  have taken : (takeUpHeldBack s.deferred (dropDeferrals p (dropOwed p s))).events.pends ev := by simp [h]
  unfold peerGone
  dsimp only
  split <;> simp [taken]

@[simp] theorem takeClaims_pends (cs : CellSet) (s : State) {ev : EventKind} (h : s.events.pends ev) :
    (takeClaims cs s).events.pends ev := by
  refine pends_foldl (fun t x ht => ?_) _ h
  repeat' split
  all_goals simp [ht]

@[simp] theorem meetConflict_pends (p : Station) (cs : CellSet) (s : State) {ev : EventKind}
    (h : s.events.pends ev) : (meetConflict p cs s).events.pends ev := by
  unfold meetConflict
  repeat' split
  all_goals simp [h]

@[simp] theorem applyReport_pends (p : Station) (r : Report) (s : State) {ev : EventKind}
    (h : s.events.pends ev) : (applyReport p r s).events.pends ev := by
  have taken : (takeClaims r.held (meetConflict p r.held s)).events.pends ev := by simp [h]
  unfold applyReport
  refine afterClaim_pends _ (retryCheck_pends _ ?_)
  split <;> simp [taken]

@[simp] theorem judgeOwnClaim_pends (n : Byte) (cs : CellSet) (s : State) {ev : EventKind}
    (h : s.events.pends ev) : (judgeOwnClaim n cs s).events.pends ev := by
  unfold judgeOwnClaim
  dsimp only
  repeat' split
  all_goals simp [h]

@[simp] theorem sendObject_pends (p : Station) (n : Byte) (overlap : CellSet) (s : State) {ev : EventKind}
    (h : s.events.pends ev) : (sendObject p n overlap s).events.pends ev := by
  unfold sendObject
  split
  · simp [h]
  · split
    all_goals
      have offered := offer_pends_of ‹_› h
      simp [offered]

@[simp] theorem judgePeerClaim_pends (p : Station) (n : Byte) (cs : CellSet) (s : State) {ev : EventKind}
    (h : s.events.pends ev) : (judgePeerClaim p n cs s).events.pends ev := by
  unfold judgePeerClaim
  dsimp only
  repeat' split
  all_goals simp [h]

@[simp] theorem joinGranted_pends (s : State) {ev : EventKind}
    (h : s.events.pends ev) : (joinGranted s).events.pends ev := by
  unfold joinGranted
  repeat' split
  all_goals simp [h]

@[simp] theorem takeUpKept_pends (s : State) {ev : EventKind}
    (h : s.events.pends ev) : (takeUpKept s).events.pends ev := by
  unfold takeUpKept
  dsimp only
  repeat' split
  all_goals simp [h]

@[simp] theorem grantClaim_pends (c : Claim) (s : State) {ev : EventKind}
    (h : s.events.pends ev) : (grantClaim c s).events.pends ev := by
  have weighed : (weigh (s.setClaim none)).events.pends ev := by simp [h]
  unfold grantClaim
  dsimp only
  split <;> simp [weighed]

@[simp] theorem settle_pends (p : Station) (n : Byte) (s : State) {ev : EventKind}
    (h : s.events.pends ev) : (settle p n s).events.pends ev := by
  unfold settle
  dsimp only
  repeat' split
  all_goals simp [h]

@[simp] theorem objectClaim_pends (n : Byte) (cs : CellSet) (s : State) {ev : EventKind}
    (h : s.events.pends ev) : (objectClaim n cs s).events.pends ev := by
  unfold objectClaim
  repeat' split
  all_goals simp [h]

@[simp] theorem objectInTime_pends (target : Station) (n : Byte) (cs : CellSet) (s : State) {ev : EventKind}
    (h : s.events.pends ev) : (objectInTime target n cs s).events.pends ev := by
  unfold objectInTime
  dsimp only
  repeat' split
  all_goals simp [h]

@[simp] theorem objectLate_pends (sender target : Station) (cs : CellSet) (s : State) {ev : EventKind}
    (h : s.events.pends ev) : (objectLate sender target cs s).events.pends ev := by
  unfold objectLate
  repeat' split
  all_goals simp [h]

@[simp] theorem duplicateFound_pends (k : FrameKind) (s : State) {ev : EventKind}
    (h : s.events.pends ev) : (duplicateFound k s).events.pends ev := by
  simp [duplicateFound, h]

@[simp] theorem settleConflicts_pends (s : State) {ev : EventKind} (h : s.events.pends ev) :
    (settleConflicts s).events.pends ev := by
  refine pends_foldl (fun t x ht => ?_) _ h
  repeat' split
  all_goals simp [ht]

@[simp] theorem joinClaim_pends (s : State) {ev : EventKind}
    (h : s.events.pends ev) : (joinClaim s).events.pends ev := by
  unfold joinClaim
  dsimp only
  repeat' split
  all_goals simp [h]

@[simp] theorem weighClaim_pends (s : State) {ev : EventKind}
    (h : s.events.pends ev) : (weighClaim s).events.pends ev := by
  unfold weighClaim
  dsimp only
  repeat' split
  all_goals simp [h]

@[simp] theorem becomeActive_pends (s : State) {ev : EventKind}
    (h : s.events.pends ev) : (becomeActive s).events.pends ev := by
  unfold becomeActive
  dsimp only
  repeat' split
  all_goals simp [h]

@[simp] theorem createEntry_pends (i : Ident) (bank : Bank) (q : QualSet) (s : State) {ev : EventKind}
    (h : s.events.pends ev) : (createEntry i bank q s).events.pends ev := by
  unfold createEntry
  dsimp only
  repeat' split
  all_goals simp [h]

end Sys2Proof.Machine
end

section
/-! PROOFS. The Point Queue, the order of the waiting work and the hold flag (chapters 8 and 9): what the operations on
them do, and that every command keeps them sound. -/

namespace Sys2Proof.Machine

/-! ## The hold flag (R188) -/

theorem holdAfter_follows (level hyst before now : Nat) (flag : Bool) :
    holdFollows level hyst before now flag (holdAfter level hyst before now flag) := by
  unfold holdFollows holdAfter
  dsimp only
  split_ifs <;> cases flag <;> simp_all

/-- A hold count that does not change leaves the flag. -/
theorem holdFollows_self (level hyst now : Nat) (flag : Bool) : holdFollows level hyst now now flag flag := by
  simp [holdFollows]

theorem holdCount_congr {s t : State} (records : t.points.records = s.points.records) (corr : t.corr = s.corr)
    (latch : t.probes.latch = s.probes.latch) : t.holdCount = s.holdCount := by
  simp [State.holdCount, State.owedCount, records, corr, latch]

@[simp] theorem updateHold_hold (before : Nat) (s : State) : (updateHold before s).points.hold
    = holdAfter s.cfg.holdLevel s.cfg.hysteresis before s.holdCount s.points.hold := by
  unfold updateHold
  dsimp only
  split <;> simp

@[simp] theorem updateHold_holdCount (before : Nat) (s : State) : (updateHold before s).holdCount = s.holdCount :=
  holdCount_congr (by simp) (by simp) (by simp)

theorem updateHold_raises {before : Nat} {s : State} (off : s.points.hold = false)
    (on : (updateHold before s).points.hold = true) : (updateHold before s).events.pends .queueHold := by
  rw [updateHold_hold] at on
  rw [updateHold]
  dsimp only
  rw [on, off]
  simp

@[simp] theorem holdChanged_hold (before : Nat) (s : State) : (holdChanged before s).points.hold
    = holdAfter s.cfg.holdLevel s.cfg.hysteresis before s.holdCount s.points.hold := by
  unfold holdChanged
  dsimp only
  split <;> simp

@[simp] theorem holdChanged_holdCount (before : Nat) (s : State) : (holdChanged before s).holdCount = s.holdCount :=
  holdCount_congr (by simp) (by simp) (by simp)

theorem holdChanged_raises {before : Nat} {s : State} (off : s.points.hold = false)
    (on : (holdChanged before s).points.hold = true) : (holdChanged before s).events.pends .queueHold := by
  have set : (updateHold before s).points.hold = true := by simpa using on
  unfold holdChanged
  dsimp only
  rw [if_neg (by simp [off])]
  exact updateHold_raises off set

/-! ## The waiting work (R161, R164) -/

/-- Work taken moves from latch or request to the computation: the owed count stays. -/
@[simp] theorem takeWork_holdCount (s : State) : (takeWork s).holdCount = s.holdCount := by
  unfold takeWork
  dsimp only
  split
  · rfl
  · next idle =>
    have none_runs : s.corr.computing = none := by simpa using idle
    repeat' split
    all_goals simp [State.holdCount, State.owedCount, count1, *]

theorem takeWork_ordered (s : State) (ordered : s.corr.request.isSome = true → s.probes.latch = none →
    s.corr.requestFirst = true) : (takeWork s).WorkOrdered := by
  unfold takeWork State.WorkOrdered
  dsimp only
  split
  · exact fun empty waits => ordered waits empty
  · repeat' split
    all_goals simp_all

theorem State.WorkOrdered.of_same {s t : State} (h : s.WorkOrdered)
    (same : t.corr = s.corr ∧ t.probes.latch = s.probes.latch) : t.WorkOrdered := by
  obtain ⟨corr, latch⟩ := same
  rwa [State.WorkOrdered, corr, latch]

/-! ## Records (R181, R184, R191) -/

theorem Points.Sound.withRecords {p : Points} (h : p.Sound) {rs : List PointRecord} (length : rs.length ≤ 64) :
    (p.withRecords rs).Sound := ⟨length, h.2.1, rfl⟩

/-- Soundness reads neither the counter nor the hold flag. -/
theorem Points.Sound.of_same {p q : Points} (h : p.Sound)
    (same : q.records = p.records ∧ q.overrun = p.overrun ∧ q.suspect = p.suspect) : q.Sound := by
  obtain ⟨records, overrun, suspect⟩ := same
  rwa [Points.Sound, records, overrun, suspect]

theorem arrive_pointsSound (r : RawRecord) {s : State} (h : s.points.Sound) : (arrive r s).points.Sound := by
  unfold arrive
  dsimp only
  split
  · next room =>
    have counted : ({ s.points with counter := s.points.counter + 1 } : Points).Sound := h
    have added := counted.withRecords
      (rs := s.points.records ++ [{ sequence := s.points.counter, raw := r }]) (by simpa using room)
    simpa using added
  · exact ⟨h.1, min_le_left _ _, h.2.2⟩

theorem powerOn_pointsSound (p : Pins) : (State.powerOn p).points.Sound :=
  ⟨Nat.zero_le _, Nat.zero_le _, rfl⟩

theorem withLength_cases {P : State → Prop} {n : Nat} {data : List Byte} {s t : State}
    (refused : P (s.answer .outOfRange [])) (acts : P t) : P (withLength n data s t) := by
  unfold withLength
  split
  · exact acts
  · exact refused

theorem exec_keeps_pointsSound {c : Instr} {s t : State} (h : s.points.Sound) (run : exec c s = .next t) :
    t.points.Sound := by
  cases c
  all_goals obtain rfl := Host.Outcome.next.inj run
  case powerOn p => exact powerOn_pointsSound p
  case resetStation data p => exact withLength_cases (P := fun t => t.points.Sound) h (powerOn_pointsSound p)
  case correctionEnd =>
    unfold endCorrection
    split
    · next w _ =>
      have arrived : (arrive (recordOf s.cfg w) (s.setCorr { s.corr with computing := none })).points.Sound :=
        arrive_pointsSound _ h
      exact arrived.of_same (by simp)
    · exact h
  case readPoint data =>
    refine withLength_cases (P := fun t => t.points.Sound) h ?_
    split
    · exact h
    · next r rest records =>
      have fewer : rest.length ≤ 64 := by
        have := h.1
        rw [records, List.length_cons] at this
        omega
      exact (h.withRecords fewer).of_same (by simp)
  case flushPoints data =>
    exact withLength_cases (P := fun t => t.points.Sound) h ((h.withRecords (rs := []) (by simp)).of_same (by simp))
  all_goals exact h.of_same (by simp)

theorem exec_keeps_workOrdered {c : Instr} {s t : State} (h : s.WorkOrdered) (run : exec c s = .next t) :
    t.WorkOrdered := by
  cases c
  all_goals obtain rfl := Host.Outcome.next.inj run
  case powerOn p => exact fun _ waits => absurd waits (by simp [State.powerOn])
  case resetStation data p =>
    exact withLength_cases (P := State.WorkOrdered) h fun _ waits => absurd waits (by simp [State.powerOn])
  case correctionEnd =>
    unfold endCorrection
    split
    · next w _ =>
      have arrived : (takeWork (arrive (recordOf s.cfg w) (s.setCorr { s.corr with computing := none }))).WorkOrdered :=
        takeWork_ordered _ (by simpa using fun waits empty => h empty waits)
      exact arrived.of_same (by simp)
    · exact h
  case touch c =>
    unfold takeTouch
    split
    · exact h.of_same (by simp)
    · exact h.of_same (by simp)
    · exact h
    · unfold latchTouch
      repeat' split
      · exact takeWork_ordered _ (by simp)
      all_goals exact h
    · exact h
  case segmentComplete =>
    unfold completeSegment
    repeat' split
    · exact h.of_same (by simp)
    · exact h
    · next g _ _ _ =>
      have asked : (if g.untouchedProbe then requestNoContact g s.dropCurrent else s.dropCurrent).WorkOrdered := by
        unfold requestNoContact
        dsimp only
        repeat' split
        · exact takeWork_ordered _ (by simp)
        all_goals exact h.of_same (by simp)
      unfold completeHost
      dsimp only
      split <;> exact asked.of_same (by simp)
    all_goals exact h
  all_goals exact h.of_same (by simp)

/-! ## The hold flag in every command (R188) -/

/-- The flag after a command follows the hold count, and QUEUE HOLD is raised where it sets. -/
def State.holdStep (s t : State) : Prop :=
  holdFollows s.cfg.holdLevel s.cfg.hysteresis s.holdCount t.holdCount s.points.hold t.points.hold
    ∧ (s.points.hold = false → t.points.hold = true → t.events.pends .queueHold)

theorem State.holdStep_of_same {s t : State}
    (same : t.points.records = s.points.records ∧ t.points.hold = s.points.hold ∧ t.corr = s.corr
      ∧ t.probes.latch = s.probes.latch) : s.holdStep t := by
  obtain ⟨records, hold, corr, latch⟩ := same
  refine ⟨?_, fun off on => ?_⟩
  · rw [holdCount_congr records corr latch, hold]
    exact holdFollows_self _ _ _ _
  · rw [hold, off] at on
    cases on

/-- The hold flag of t is that of u after a change of the hold count, and u has the flag of s. -/
theorem State.holdStep_of_changed {s t u : State} (cfg : u.cfg = s.cfg) (flag : u.points.hold = s.points.hold)
    (hold : t.points.hold = (holdChanged s.holdCount u).points.hold) (count : t.holdCount = u.holdCount)
    (pends : (holdChanged s.holdCount u).events.pends .queueHold → t.events.pends .queueHold) : s.holdStep t := by
  refine ⟨?_, fun off on => ?_⟩
  · rw [hold, count, holdChanged_hold, cfg, flag]
    exact holdAfter_follows _ _ _ _ _
  · exact pends (holdChanged_raises (flag.trans off) (hold ▸ on))

@[simp] theorem arrive_hold (r : RawRecord) (s : State) : (arrive r s).points.hold = s.points.hold := by
  unfold arrive
  dsimp only
  split <;> simp [Points.withRecords]

theorem State.holdStep_takeWork {s u : State} (cfg : u.cfg = s.cfg) (flag : u.points.hold = s.points.hold) :
    s.holdStep (takeWork (holdChanged s.holdCount u)) :=
  State.holdStep_of_changed cfg flag (by simp) (by simp) (by simp)

theorem State.holdStep_holdChanged {s u : State} (cfg : u.cfg = s.cfg) (flag : u.points.hold = s.points.hold) :
    s.holdStep (holdChanged s.holdCount u) :=
  State.holdStep_of_changed cfg flag rfl (by simp) id

theorem requestNoContact_holdStep (g : Segment) (s : State) : s.holdStep (requestNoContact g s) := by
  unfold requestNoContact
  split
  · exact State.holdStep_takeWork rfl rfl
  · exact State.holdStep_of_same (by simp)

theorem latchTouch_holdStep (g : Segment) (c : V3 Int) (s : State) : s.holdStep (latchTouch g c s) := by
  unfold latchTouch
  repeat' split
  · exact State.holdStep_takeWork (by simp [State.cfg]) (by simp)
  all_goals exact State.holdStep_of_same (by simp)

/-- What follows a step with the same hold count keeps it, and what is pending. -/
theorem State.holdStep.trans_same {s t u : State} (h : s.holdStep t)
    (same : u.points.records = t.points.records ∧ u.points.hold = t.points.hold ∧ u.corr = t.corr
      ∧ u.probes.latch = t.probes.latch)
    (pends : t.events.pends .queueHold → u.events.pends .queueHold) : s.holdStep u := by
  obtain ⟨records, hold, corr, latch⟩ := same
  obtain ⟨follows, raises⟩ := h
  refine ⟨?_, fun off on => pends (raises off (hold ▸ on))⟩
  rwa [holdCount_congr records corr latch, hold]

theorem completeHost_holdStep (g : Segment) (s : State) : s.holdStep (completeHost g s) := by
  have asked : s.holdStep (if g.untouchedProbe then requestNoContact g s.dropCurrent else s.dropCurrent) := by
    split
    · have step := requestNoContact_holdStep g s.dropCurrent
      have count : s.dropCurrent.holdCount = s.holdCount := holdCount_congr (by simp) (by simp) (by simp)
      simpa [State.holdStep, State.cfg, count] using step
    · exact State.holdStep_of_same (by simp)
  unfold completeHost
  dsimp only
  generalize (if g.untouchedProbe then requestNoContact g s.dropCurrent else s.dropCurrent) = t at asked
  have done (tag : Tag) (pends : t.events.pends .queueHold) :
      (currentChanged (raiseSegmentDone tag t)).events.pends .queueHold := by simp [pends]
  split
  · exact asked.trans_same (by simp) fun pends => by simp [done _ pends]
  · exact asked.trans_same (by simp) fun pends => by simp [done _ pends]

theorem exec_holdStep {c : Instr} {s t : State} (noPowerOn : ∀ p, c ≠ .powerOn p)
    (noReset : ∀ data p, c ≠ .resetStation data p) (run : exec c s = .next t) : s.holdStep t := by
  cases c
  all_goals obtain rfl := Host.Outcome.next.inj run
  case powerOn p => exact absurd rfl (noPowerOn p)
  case resetStation data p => exact absurd rfl (noReset data p)
  case correctionEnd =>
    unfold endCorrection
    split
    · exact State.holdStep_holdChanged (by simp [State.cfg]) (by simp)
    · exact State.holdStep_of_same (by simp)
  case readPoint data =>
    refine withLength_cases (P := s.holdStep) (State.holdStep_of_same (by simp)) ?_
    split
    · exact State.holdStep_of_same (by simp)
    · next r rest _ =>
      have read : s.holdStep (holdChanged s.holdCount (s.setPoints (s.points.withRecords rest))) :=
        State.holdStep_holdChanged rfl rfl
      exact read.trans_same (by simp) id
  case flushPoints data =>
    refine withLength_cases (P := s.holdStep) (State.holdStep_of_same (by simp)) ?_
    have flushed : s.holdStep (holdChanged s.holdCount (s.setPoints (s.points.withRecords []))) :=
      State.holdStep_holdChanged rfl rfl
    exact flushed.trans_same (by simp) id
  case touch c =>
    unfold takeTouch
    split
    · exact State.holdStep_of_same (by simp)
    · exact State.holdStep_of_same (by simp)
    · exact State.holdStep_of_same (by simp)
    · exact latchTouch_holdStep _ _ _
    · exact State.holdStep_of_same (by simp)
  case segmentComplete =>
    unfold completeSegment
    repeat' split
    · exact State.holdStep_of_same (by simp)
    · exact State.holdStep_of_same (by simp)
    · exact completeHost_holdStep _ _
    all_goals exact State.holdStep_of_same (by simp)
  all_goals exact State.holdStep_of_same (by simp)

end Sys2Proof.Machine
end

section
/-! PROOFS. The hold (R22, R27, R187, R188, R190) and the bank selector (R139): which record of the queue is in
flight, the hold count against its level, and the pending bank, kept by every step. The two invariants follow the same
operations, so they are carried through them together; `banks` says whether the bank selector's is claimed. -/

namespace Sys2Proof.Machine

/-! ## The parts of the two invariants -/

/-- Only the head is in flight, in motion RUNNING alone, and only untouched while RUNNING (R22, R27). -/
def State.queueFlies (s : State) : Prop :=
  (∀ g ∈ s.motion.queue.tail, g.state.flying = false)
    ∧ ∀ g ∈ s.motion.queue, g.state.flying = true →
        s.motion.state = .running ∧ (g.state = .running → g.touchedAt = none)

/-- What stands empty in CONFIG (R187, R188, R212). -/
def State.configEmpty (s : State) : Prop :=
  s.station.state = .config →
    s.holdCount = 0 ∧ s.points.hold = false ∧ s.motion.queue = [] ∧ s.probes.change = none

/-- The hold count against level and hysteresis (R188, R190); `come`: a record is still to come. -/
def levelHolds (level hyst count : Nat) (hold : Bool) (come : Prop) : Prop :=
  (level = 0 → hold = false)
    ∧ (level ≠ 0 → count ≤ level ∧ (hold = false ∨ come → count < level)
        ∧ (hold = true → level ≤ count + (hyst - 1)))

/-- The hold count of a state against the level and hysteresis in force. -/
def State.levelSound (s : State) : Prop :=
  levelHolds s.cfg.holdLevel s.cfg.hysteresis s.holdCount s.points.hold s.recordToCome

theorem State.holdSound_iff (s : State) : s.HoldSound ↔ s.queueFlies ∧ s.configEmpty ∧ s.levelSound := by
  simp only [State.HoldSound, State.queueFlies, State.configEmpty, State.levelSound, levelHolds, and_assoc]

/-- Motion, hold, and with `banks` the bank selector are sound. -/
structure State.FlightSound (banks : Prop) (s : State) : Prop where
  motion : s.MotionSound
  flies : s.queueFlies
  config : s.configEmpty
  level : s.levelSound
  bank : banks → s.BankSound

theorem levelHolds.of_come {level hyst count : Nat} {hold : Bool} {come come' : Prop}
    (h : levelHolds level hyst count hold come) (comes : come' → come ∨ hold = false) :
    levelHolds level hyst count hold come' := by
  obtain ⟨off, bounded⟩ := h
  refine ⟨off, fun on => ?_⟩
  obtain ⟨le, lt, above⟩ := bounded on
  refine ⟨le, fun either => lt ?_, above⟩
  tauto

/-- The hold count rises by one at most where a record was still to come, or the flag is off. -/
theorem levelHolds.rise {level hyst count now : Nat} {hold : Bool}
    (h : levelHolds level hyst count hold True) (le : count ≤ now) (one : now ≤ count + 1) :
    levelHolds level hyst now (holdAfter level hyst count now hold) False := by
  unfold levelHolds holdAfter at *
  grind

/-- The hold count falls or stays. -/
theorem levelHolds.fall {level hyst count now : Nat} {hold : Bool} {come : Prop}
    (h : levelHolds level hyst count hold come) (le : now ≤ count) :
    levelHolds level hyst now (holdAfter level hyst count now hold) come := by
  unfold levelHolds holdAfter at *
  grind

/-! ## States with nothing of the queue in flight -/

/-- No record of the queue is in flight, and with `banks` no bank is pending. -/
def State.atRest (banks : Prop) (s : State) : Prop :=
  (∀ g ∈ s.motion.queue, g.state.flying = false) ∧ (banks → s.probes.pendingBank = none)

theorem State.queueFlies_of_grounded {s : State} (ground : ∀ g ∈ s.motion.queue, g.state.flying = false) :
    s.queueFlies :=
  ⟨fun g hg => ground g (List.mem_of_mem_tail hg), fun g hg flying => by simp [ground g hg] at flying⟩

theorem State.not_recordToCome_of_grounded {s : State} (ground : ∀ g ∈ s.motion.queue, g.state.flying = false) :
    ¬ s.recordToCome := by
  rintro ⟨g, hg, -, flying, -⟩
  simp [ground g hg] at flying

theorem probeBusy_iff (s : State) : s.probeBusy = true ↔
    ∃ g, s.flying = some g ∧ g.kind = .probe ∧ g.state ≠ .settling := by
  unfold State.probeBusy
  split <;> simp [*]

/-- A PROBE in flight outside SETTLING is the queue's head, in motion RUNNING. -/
theorem State.FlightSound.head_of_busy {banks : Prop} {s : State} (h : s.FlightSound banks)
    (busy : s.probeBusy = true) : s.motion.state = .running ∧ ∃ g rest, s.motion.queue = g :: rest
      ∧ g.state.flying = true ∧ g.kind = .probe ∧ g.state ≠ .settling := by
  obtain ⟨g, flying, kind, notSettling⟩ := (probeBusy_iff s).mp busy
  obtain ⟨current, flies⟩ := State.current_of_flying flying
  have host : s.motion.state ≠ .changing := fun changing => h.motion.current_kind current changing kind
  rw [State.current, if_neg host] at current
  obtain ⟨rest, queue⟩ := List.head?_eq_some_iff.mp current
  exact ⟨(h.flies.2 g (by simp [queue]) flies).1, g, rest, queue, flies, kind, notSettling⟩

theorem State.FlightSound.pending_none {banks : Prop} {s : State} (h : s.FlightSound banks)
    (idle : s.probeBusy = false) (claimed : banks) : s.probes.pendingBank = none := by
  have sound := h.bank claimed
  rw [State.BankSound, idle] at sound
  simpa using sound

/-- Out of RUNNING nothing of the queue is in flight (R22). -/
theorem State.FlightSound.atRest {banks : Prop} {s : State} (h : s.FlightSound banks)
    (notRunning : s.motion.state ≠ .running) : s.atRest banks := by
  refine ⟨fun g hg => ?_, h.pending_none ?_⟩
  · by_contra flying
    exact notRunning (h.flies.2 g hg (by simpa using flying)).1
  · by_contra busy
    exact notRunning (h.head_of_busy (by simpa using busy)).1

/-- Nothing of the queue is in flight where the current segment is not. -/
theorem State.FlightSound.atRest_of_current {banks : Prop} {s : State} (h : s.FlightSound banks) {g : Segment}
    (current : s.current = some g) (grounded : g.state.flying = false) : s.atRest banks := by
  by_cases changing : s.motion.state = .changing
  · exact h.atRest (by simp [changing])
  · have idle : s.probeBusy = false := by
      by_contra busy
      obtain ⟨g', flying, -⟩ := (probeBusy_iff s).mp (by simpa using busy)
      obtain ⟨same, flies⟩ := State.current_of_flying flying
      rw [current] at same
      cases same
      simp [grounded] at flies
    refine ⟨fun g' hg' => ?_, h.pending_none idle⟩
    rw [State.current, if_neg changing] at current
    obtain ⟨rest, queue⟩ := List.head?_eq_some_iff.mp current
    rw [queue, List.mem_cons] at hg'
    rcases hg' with rfl | later
    · exact grounded
    · exact h.flies.1 g' (by simpa [queue] using later)

/-! ## From one state to the next -/

/-- The hold count, the flag, and what CONFIG holds empty do not depend on the rest. -/
theorem State.FlightSound.transfer {banks : Prop} {s t : State} (h : s.FlightSound banks) (motion : t.MotionSound)
    (flies : t.queueFlies) (comes : t.recordToCome → s.recordToCome ∨ s.points.hold = false)
    (bank : banks → t.BankSound)
    (same : t.points = s.points ∧ t.corr = s.corr ∧ t.probes.latch = s.probes.latch
      ∧ t.station.config = s.station.config
      ∧ (t.station.state = .config → s.station.state = .config ∧ (s.motion.queue = [] → t.motion.queue = [])
          ∧ (s.probes.change = none → t.probes.change = none))) : t.FlightSound banks := by
  obtain ⟨points, corr, latch, cfg, empty⟩ := same
  have count : t.holdCount = s.holdCount := holdCount_congr (by rw [points]) corr latch
  refine ⟨motion, flies, fun state => ?_, ?_, bank⟩
  · obtain ⟨state', queue, change⟩ := empty state
    obtain ⟨zero, off, noQueue, noChange⟩ := h.config state'
    exact ⟨by rw [count, zero], by rw [points, off], queue noQueue, change noChange⟩
  · have level := h.level.of_come comes
    rwa [State.levelSound, State.cfg, cfg, count, points]

/-- The invariants read queue, motion state, pending bank, points, correction, latch, station and change record. -/
theorem State.FlightSound.of_same {banks : Prop} {s t : State} (h : s.FlightSound banks) (motion : t.MotionSound)
    (same : t.motion.queue = s.motion.queue ∧ t.motion.state = s.motion.state
      ∧ t.probes.pendingBank = s.probes.pendingBank ∧ t.points = s.points ∧ t.corr = s.corr
      ∧ t.probes.latch = s.probes.latch ∧ t.station.config = s.station.config
      ∧ (t.station.state = .config → s.station.state = .config)
      ∧ (s.probes.change = none → t.probes.change = none)) : t.FlightSound banks := by
  obtain ⟨queue, state, pending, points, corr, latch, cfg, station, change⟩ := same
  refine h.transfer motion ?_ ?_ ?_ ⟨points, corr, latch, cfg, fun c => ⟨station c, by simp [queue], change⟩⟩
  · rw [State.queueFlies, queue, state]
    exact h.flies
  · rw [State.recordToCome, queue]
    exact .inl
  · intro claimed some
    rw [pending] at some
    obtain ⟨running, g, rest, head, flying, kind, notSettling⟩ := h.head_of_busy (h.bank claimed some)
    refine (probeBusy_iff t).mpr ⟨g, ?_, kind, notSettling⟩
    have host : t.motion.state ≠ .changing := by simp [state, running]
    simp [State.flying, State.current, host, queue, head, flying]

/-- A state with nothing of the queue in flight follows soundly. -/
theorem State.FlightSound.of_atRest {banks : Prop} {s t : State} (h : s.FlightSound banks) (motion : t.MotionSound)
    (rest : t.atRest banks)
    (same : t.points = s.points ∧ t.corr = s.corr ∧ t.probes.latch = s.probes.latch
      ∧ t.station.config = s.station.config
      ∧ (t.station.state = .config → s.station.state = .config ∧ (s.motion.queue = [] → t.motion.queue = [])
          ∧ (s.probes.change = none → t.probes.change = none))) : t.FlightSound banks :=
  h.transfer motion (State.queueFlies_of_grounded rest.1)
    (fun come => absurd come (State.not_recordToCome_of_grounded rest.1))
    (fun claimed some => by simp [rest.2 claimed] at some) same

theorem bankSound_settleBank (s : State) : (settleBank s).BankSound := by
  unfold settleBank State.BankSound
  split
  · split
    · next busy => exact fun _ => busy
    · simp
  · next none => simp [none]

/-- The head replaced by one in flight, in motion RUNNING. -/
theorem State.FlightSound.replaceHead {banks : Prop} {s t : State} (h : s.FlightSound banks) (motion : t.MotionSound)
    {g g' : Segment} {rest : List Segment} (queue : s.motion.queue = g :: rest)
    (queue' : t.motion.queue = g' :: rest) (flies : g'.state.flying = true → t.motion.state = .running
      ∧ (g'.state = .running → g'.touchedAt = none))
    (comes : g'.kind = .probe → g'.state.flying = true → g'.touchedAt = none →
      g.kind = .probe ∧ g.state.flying = true ∧ g.touchedAt = none ∨ s.points.hold = false)
    (bank : banks → t.BankSound)
    (same : t.points = s.points ∧ t.corr = s.corr ∧ t.probes.latch = s.probes.latch ∧ t.station = s.station
      ∧ t.probes.change = s.probes.change) : t.FlightSound banks := by
  obtain ⟨points, corr, latch, station, change⟩ := same
  have grounded : ∀ x ∈ rest, x.state.flying = false := fun x hx => h.flies.1 x (by simpa [queue] using hx)
  refine h.transfer motion ⟨?_, ?_⟩ ?_ bank
    ⟨points, corr, latch, by rw [station], fun c => ⟨station ▸ c, by simp [queue], by simp [change]⟩⟩
  · simpa [queue'] using grounded
  · intro x hx flying
    rw [queue', List.mem_cons] at hx
    rcases hx with rfl | later
    · exact flies flying
    · simp [grounded x later] at flying
  · rintro ⟨x, hx, kind, flying, untouched⟩
    rw [queue', List.mem_cons] at hx
    rcases hx with rfl | later
    · rcases comes kind flying untouched with ⟨kind', flying', untouched'⟩ | off
      · exact .inl ⟨g, by simp [queue], kind', flying', untouched'⟩
      · exact .inr off
    · simp [grounded x later] at flying

/-! ## The current segment -/

/-- The record g' continues g: no flight begins, no touch is forgotten, and a PROBE leaves its states before SETTLING by
no such replacement. -/
def Segment.continues (g g' : Segment) : Prop :=
  g'.kind = g.kind ∧ (g'.state.flying = true → g.state.flying = true)
    ∧ (g'.state = .running → g.state = .running ∧ (g.touchedAt = none → g'.touchedAt = none))
    ∧ (g'.touchedAt = none → g.touchedAt = none)
    ∧ (g.state.flying = true → g.state ≠ .settling → g'.state.flying = true ∧ g'.state ≠ .settling)

theorem State.setCurrent_changing {s : State} (changing : s.motion.state = .changing) (g : Segment) :
    (s.setCurrent g).motion.queue = s.motion.queue := by
  simp [State.setCurrent, changing]

theorem State.setCurrent_host {s : State} (host : s.motion.state ≠ .changing) {g : Segment} {rest : List Segment}
    (queue : s.motion.queue = g :: rest) (g' : Segment) : (s.setCurrent g').motion.queue = g' :: rest := by
  simp [State.setCurrent, host, queue]

theorem State.FlightSound.setCurrent {banks : Prop} {s : State} (h : s.FlightSound banks) {g g' : Segment}
    (current : s.current = some g) (continues : g.continues g') : (s.setCurrent g').FlightSound banks := by
  obtain ⟨kind, flies, untouched, comes, busy⟩ := continues
  have motion := h.motion.setCurrent_of_current current kind
  by_cases changing : s.motion.state = .changing
  · exact h.of_same motion (by simp [State.setCurrent_changing changing])
  have host := current
  rw [State.current, if_neg changing] at host
  obtain ⟨rest, queue⟩ := List.head?_eq_some_iff.mp host
  have queue' := State.setCurrent_host changing queue g'
  refine h.replaceHead motion queue queue' (fun flying => ⟨?_, fun running => ?_⟩)
    (fun k f u => .inl ⟨kind ▸ k, flies f, comes u⟩) (fun claimed some => ?_) (by simp)
  · simpa using (h.flies.2 g (by simp [queue]) (flies flying)).1
  · obtain ⟨ran, still⟩ := untouched running
    exact still ((h.flies.2 g (by simp [queue]) (flies flying)).2 ran)
  · obtain ⟨running, x, rest', queue'', flying, probe, notSettling⟩ :=
      h.head_of_busy (h.bank claimed (by simpa using some))
    rw [queue] at queue''
    cases queue''
    obtain ⟨flying', notSettling'⟩ := busy flying notSettling
    refine (probeBusy_iff _).mpr ⟨g', ?_, kind ▸ probe, notSettling'⟩
    simp [State.flying, State.current, changing, queue', flying']

theorem State.current_setCurrent {s : State} {g : Segment} (current : s.current = some g) (g' : Segment) :
    (s.setCurrent g').current = some g' := by
  by_cases changing : s.motion.state = .changing
  · simp [State.setCurrent, State.current, changing]
  · rw [State.current, if_neg changing] at current
    obtain ⟨rest, queue⟩ := List.head?_eq_some_iff.mp current
    rw [State.current, if_neg (by simpa using changing), State.setCurrent_host changing queue]
    rfl

/-! ## A segment starts and settles (R27, R36) -/

theorem settleBank_of_none {s : State} (h : s.probes.pendingBank = none) : settleBank s = s := by
  simp [settleBank, h]

@[simp] theorem enterSettlingAt_pendingBank {s : State} (h : s.probes.pendingBank = none) (period : Nat)
    (g : Segment) : (enterSettlingAt period g s).probes.pendingBank = none := by
  rw [enterSettlingAt, settleBank_of_none (by simpa using h)]
  simpa using h

@[simp] theorem startSegment_pendingBank {s : State} (h : s.probes.pendingBank = none) (g : Segment) :
    (startSegment g s).probes.pendingBank = none := by
  unfold startSegment enterSettling
  dsimp only
  repeat' split
  all_goals simp [h]

/-- A segment in flight settles. -/
theorem State.FlightSound.enterSettlingAt {banks : Prop} {s : State} (h : s.FlightSound banks) (period : Nat)
    {g g' : Segment} (current : s.current = some g) (flying : g.state.flying = true) (kind : g'.kind = g.kind)
    (touched : g'.touchedAt = none → g.touchedAt = none) : (enterSettlingAt period g' s).FlightSound banks := by
  have motion := h.motion.enterSettlingAt period fun changing => kind ▸ h.motion.current_kind current changing
  by_cases changing : s.motion.state = .changing
  · obtain ⟨ground, pending⟩ := h.atRest (by simp [changing])
    have queue : (Machine.enterSettlingAt period g' s).motion.queue = s.motion.queue := by
      simp [Machine.enterSettlingAt, State.setCurrent_changing changing]
    exact h.of_atRest motion ⟨by rwa [queue], fun claimed => by simp [pending claimed]⟩ (by simp [queue])
  · rw [State.current, if_neg changing] at current
    obtain ⟨rest, queue⟩ := List.head?_eq_some_iff.mp current
    have queue' : (Machine.enterSettlingAt period g' s).motion.queue
        = { g' with state := .settling, decel := none, settleSince := period } :: rest := by
      simp [Machine.enterSettlingAt, State.setCurrent_host changing queue]
    refine h.replaceHead motion queue queue' (fun _ => ⟨?_, by simp⟩)
      (fun k _ u => .inl ⟨kind ▸ k, flying, touched u⟩) (fun _ => bankSound_settleBank _) (by simp)
    simpa using (h.flies.2 g (by simp [queue]) flying).1

/-- A host segment that starts is in flight, untouched, in motion RUNNING. -/
theorem startSegment_host {s : State} (host : s.motion.state ≠ .changing) {g : Segment} {rest : List Segment}
    (queue : s.motion.queue = g :: rest) : (startSegment g s).motion.state = .running ∧
      ∃ g', (startSegment g s).motion.queue = g' :: rest ∧ g'.kind = g.kind ∧ g'.state.flying = true
        ∧ g'.touchedAt = none := by
  unfold startSegment
  dsimp only
  rw [if_neg host]
  have host' : ((s.setModes .moving).setMotionState .running).motion.state ≠ .changing := by
    simp [State.setMotionState]
  have queue' : ((s.setModes .moving).setMotionState .running).motion.queue = g :: rest := by
    simpa [State.setMotionState] using queue
  split
  · refine ⟨by simp [enterSettling, State.setMotionState], ?_⟩
    simp [enterSettling, Machine.enterSettlingAt, State.setCurrent_host host' queue', SegState.flying]
  · refine ⟨by simp [State.setMotionState], ?_⟩
    simp [State.setCurrent_host host' queue', SegState.flying]

theorem State.FlightSound.startSegment {banks : Prop} {s : State} (h : s.FlightSound banks) {g : Segment}
    (current : s.current = some g) (grounded : g.state.flying = false)
    (free : s.motion.state ≠ .changing → g.kind = .probe → s.points.hold = false) :
    (startSegment g s).FlightSound banks := by
  have motion := h.motion.startSegment current
  obtain ⟨ground, pending⟩ := h.atRest_of_current current grounded
  have none_pends (claimed : banks) : (Machine.startSegment g s).probes.pendingBank = none := by
    simp [pending claimed]
  by_cases changing : s.motion.state = .changing
  · have queue : (Machine.startSegment g s).motion.queue = s.motion.queue := by
      unfold Machine.startSegment
      dsimp only
      rw [if_pos changing]
      have still : (s.setModes .moving).motion.state = .changing := by simpa using changing
      split <;> simp [enterSettling, Machine.enterSettlingAt, State.setCurrent_changing still]
    exact h.of_atRest motion ⟨by rwa [queue], none_pends⟩ (by simp [queue])
  · rw [State.current, if_neg changing] at current
    obtain ⟨rest, queue⟩ := List.head?_eq_some_iff.mp current
    obtain ⟨running, g', queue', kind, -, untouched⟩ := startSegment_host changing queue
    refine h.replaceHead motion queue queue' (fun _ => ⟨running, fun _ => untouched⟩)
      (fun k _ _ => .inr (free changing (kind ▸ k))) (fun claimed some => ?_) (by simp)
    simp [none_pends claimed] at some

/-- The current record goes back to wait, QUEUED or WAITING ZONE. -/
theorem Segment.continues_waiting (g : Segment) (geom : Option Geom) {w : SegState} (waits : w.flying = false)
    (grounded : g.state.flying = false) : g.continues { g with geom := geom, state := w } := by
  refine ⟨rfl, by simp [waits], fun running => ?_, id, by simp [grounded]⟩
  rw [show w = .running from running] at waits
  cases waits

theorem State.FlightSound.refuseNoProbe {banks : Prop} {s : State} (h : s.FlightSound banks) (host : s.hostMotion)
    {g : Segment} (current : s.current = some g) (grounded : g.state.flying = false) :
    (refuseNoProbe g s).FlightSound banks := by
  have set : (s.setCurrent { g with state := .queued }).FlightSound banks :=
    h.setCurrent current (g.continues_waiting g.geom rfl grounded)
  obtain ⟨ground, pending⟩ := set.atRest_of_current (s.current_setCurrent current _) rfl
  exact set.of_atRest (h.motion.refuseNoProbe host current)
    ⟨by simpa [Machine.refuseNoProbe, State.setMotionState] using ground,
      by simpa [Machine.refuseNoProbe, State.setMotionState] using pending⟩
    (by simp [Machine.refuseNoProbe, State.setMotionState])

theorem State.FlightSound.weigh {banks : Prop} {s : State} (h : s.FlightSound banks) :
    (weigh s).FlightSound banks := by
  unfold Machine.weigh
  split
  · exact h
  next g current =>
  split
  · exact h
  next waits =>
  have grounded : g.state.flying = false := by
    simp only [Bool.or_eq_true, not_or, Bool.not_eq_true] at waits
    exact waits.1
  have queued := h.setCurrent current (g.continues_waiting g.geom (w := .queued) rfl grounded)
  split
  · next changing => exact h.startSegment current grounded (absurd changing)
  next host =>
  split
  · next idle =>
    split
    · split
      · exact h.refuseNoProbe ⟨host, by simp [idle]⟩ current grounded
      split
      · exact queued
      · next free => exact h.startSegment current grounded fun _ _ => by simpa using free
    · next noProbe => exact h.startSegment current grounded fun _ probe => absurd probe noProbe
  · exact queued

/-! ## The hold count changes -/

/-- The hold count rose by one where a record was to come, or fell, in a state with nothing else changed but what is in
flight; the flag follows (R188). -/
theorem State.FlightSound.updateHold {banks : Prop} {s : State} {before : Nat} (motion : s.MotionSound)
    (flies : s.queueFlies) (active : s.station.state ≠ .config ∨ s.configEmpty ∧ s.holdCount = before)
    (level : levelHolds s.cfg.holdLevel s.cfg.hysteresis s.holdCount
      (holdAfter s.cfg.holdLevel s.cfg.hysteresis before s.holdCount s.points.hold) s.recordToCome)
    (bank : banks → s.BankSound) : (updateHold before s).FlightSound banks := by
  refine ⟨motion.of_same (by simp), by simpa [State.queueFlies] using flies, ?_, ?_, ?_⟩
  · intro config
    rcases active with not | ⟨empty, same⟩
    · exact absurd (by simpa using config) not
    · obtain ⟨zero, off, queue, change⟩ := empty (by simpa using config)
      refine ⟨by simpa using zero, ?_, by simpa using queue, by simpa using change⟩
      simp [same, off, holdAfter]
  · simpa [State.levelSound, State.recordToCome, State.cfg] using level
  · intro claimed some
    have busy := bank claimed (by simpa using some)
    simpa [State.probeBusy, State.flying, State.current] using busy

theorem State.FlightSound.weighed {banks : Prop} {s : State} {before : Nat}
    (h : (Machine.updateHold before s).FlightSound banks) : (holdChanged before s).FlightSound banks := by
  unfold Machine.holdChanged
  dsimp only
  split
  · exact h.weigh
  · exact h

/-- Where the count does not fall the flag does not clear, and no segment is weighed. -/
theorem holdChanged_of_le {before : Nat} {s : State} (le : before ≤ s.holdCount) :
    holdChanged before s = updateHold before s := by
  have still : s.points.hold = true → (updateHold before s).points.hold = true := by
    intro on
    rw [updateHold_hold, on]
    unfold holdAfter
    grind
  unfold holdChanged
  dsimp only
  rw [if_neg]
  cases on : s.points.hold
  · simp
  · rw [still on]
    simp

/-- The hold count falls or stays: a waiting PROBE may start. -/
theorem State.FlightSound.fall {banks : Prop} {s u : State} (h : s.FlightSound banks)
    (fewer : u.holdCount ≤ s.holdCount)
    (same : u.motion = s.motion ∧ u.probes.change = s.probes.change ∧ u.probes.pendingBank = s.probes.pendingBank
      ∧ u.axes = s.axes ∧ u.station = s.station ∧ u.points.hold = s.points.hold) :
    (holdChanged s.holdCount u).FlightSound banks := by
  obtain ⟨motion, change, pending, axes, station, hold⟩ := same
  have cfg : u.cfg = s.cfg := by rw [State.cfg, station, State.cfg]
  refine State.FlightSound.weighed (State.FlightSound.updateHold ?_ ?_ ?_ ?_ ?_)
  · exact h.motion.of_same (by simp [motion, change, axes])
  · rw [State.queueFlies, motion]
    exact h.flies
  · by_cases config : s.station.state = .config
    · obtain ⟨zero, off, queue, none⟩ := h.config config
      refine .inr ⟨fun _ => ⟨by omega, by rw [hold, off], by rw [motion, queue], by rw [change, none]⟩, by omega⟩
    · exact .inl (by rwa [station])
  · rw [cfg, hold, State.recordToCome, motion]
    exact h.level.fall fewer
  · intro claimed some
    have busy := h.bank claimed (pending ▸ some)
    rw [← busy, State.probeBusy, State.flying, State.current, motion]
    rfl

/-- The hold count rises by one, or stays, as the record that was to come is made. -/
theorem State.FlightSound.rise {banks : Prop} {s u : State} (h : s.FlightSound banks) (come : s.recordToCome)
    (motion : u.MotionSound) (flies : u.queueFlies) (made : ¬ u.recordToCome) (bank : banks → u.BankSound)
    (least : s.holdCount ≤ u.holdCount) (most : u.holdCount ≤ s.holdCount + 1)
    (same : u.station = s.station ∧ u.points.hold = s.points.hold) :
    (Machine.updateHold s.holdCount u).FlightSound banks := by
  obtain ⟨station, hold⟩ := same
  have cfg : u.cfg = s.cfg := by rw [State.cfg, station, State.cfg]
  refine State.FlightSound.updateHold motion flies (.inl fun config => ?_) ?_ bank
  · obtain ⟨-, -, queue, -⟩ := h.config (station ▸ config)
    obtain ⟨g, hg, -⟩ := come
    simp [queue] at hg
  · rw [cfg, hold]
    exact ((h.level.of_come fun _ => .inl come).rise least most).of_come fun come' => absurd come' made

/-! ## The segment becoming current (R26, R30) -/

theorem State.FlightSound.refuseZeroLength {banks : Prop} {s : State} (h : s.FlightSound banks) (host : s.hostMotion)
    {g : Segment} (current : s.current = some g) (grounded : g.state.flying = false) :
    (refuseZeroLength g s).FlightSound banks := by
  obtain ⟨ground, pending⟩ := h.atRest_of_current current grounded
  have queue : (Machine.refuseZeroLength g s).motion.queue = s.motion.queue.tail := by
    simp [Machine.refuseZeroLength, State.setMotionState, State.dropCurrent, host.1]
  refine h.of_atRest (h.motion.refuseZeroLength host g) ⟨?_, by simpa [Machine.refuseZeroLength] using pending⟩
    (by simp +contextual [queue])
  rw [queue]
  exact fun x hx => ground x (List.mem_of_mem_tail hx)

theorem State.FlightSound.fixGeometry {banks : Prop} {s : State} (h : s.FlightSound banks) {g : Segment}
    (current : s.current = some g) (grounded : g.state.flying = false) : (fixGeometry g s).FlightSound banks := by
  have motion := h.motion.fixGeometry current
  unfold Machine.fixGeometry at motion ⊢
  dsimp only at motion ⊢
  split
  · next zeroLength =>
    have host : s.motion.state ≠ .changing := fun changing => h.motion.current_kind current changing zeroLength.1
    exact h.refuseZeroLength ⟨host, h.motion.not_referencing current⟩ current grounded
  · next length =>
    rw [if_neg length] at motion
    split
    · exact State.FlightSound.weigh (h.setCurrent current (g.continues_waiting _ rfl grounded))
    · next missing =>
      rw [if_neg missing] at motion
      have waiting := h.setCurrent current
        (g.continues_waiting (some (geometry g s)) (w := .waitingZone) rfl grounded)
      exact waiting.of_same motion (by simp)

theorem State.FlightSound.becomeCurrent {banks : Prop} {s : State} (h : s.FlightSound banks) :
    (becomeCurrent s).FlightSound banks := by
  unfold Machine.becomeCurrent
  split
  · exact h
  split
  · exact h.of_same (h.motion.of_same ⟨rfl, rfl, rfl, rfl, rfl, fun _ => rfl⟩) (by simp)
  split
  · exact h
  next g current =>
  split
  · exact h
  · next waits =>
    have fixed : ((s.setMotion { s.motion with deferCurrent := none }).setZone
        { s.zone with heldBack := none }).FlightSound banks :=
      h.of_same (h.motion.of_same ⟨rfl, rfl, rfl, rfl, rfl, fun _ => rfl⟩) (by simp)
    exact fixed.fixGeometry current (by simpa using waits)

theorem State.FlightSound.followClaim {banks : Prop} {s : State} (h : s.FlightSound banks) :
    (followClaim s).FlightSound banks := by
  have handed : (followHandOver s).FlightSound banks := h.of_same (h.motion.of_same (by simp)) (by simp)
  unfold Machine.followClaim followCurrent
  split
  · refine State.FlightSound.becomeCurrent ?_
    exact handed.of_same (handed.motion.of_same ⟨rfl, rfl, rfl, rfl, rfl, fun _ => rfl⟩) (by simp)
  · exact handed

theorem State.FlightSound.afterClaim {banks : Prop} {s : State} (h : s.FlightSound banks) :
    (afterClaim s).FlightSound banks :=
  State.FlightSound.followClaim (h.of_same (h.motion.of_same (by simp)) (by simp))

/-! ## The fault stop -/

theorem settleBank_pendingBank {s : State} (idle : s.probeBusy = false) : (settleBank s).probes.pendingBank = none := by
  unfold settleBank
  split <;> simp [*]

theorem State.FlightSound.faultStop {banks : Prop} {s : State} (h : s.FlightSound banks) (r : FaultReason) :
    (faultStop r s).FlightSound banks := by
  by_cases faulted : s.motion.state = .faulted
  · rwa [Machine.faultStop, if_pos faulted]
  have motion := faultStop_motion (r := r) faulted
  have sound := h.motion.faultStop r
  have change := faultStop_change (r := r) faulted h.motion.host_change
  have sub : ∀ g ∈ (Machine.faultStop r s).motion.queue, g.state.flying = false := by
    rw [motion]
    dsimp only
    split
    · exact h.flies.1
    · next aground =>
      intro g hg
      by_contra flies
      have running := (h.flies.2 g hg (by simpa using flies)).1
      have host : s.motion.state ≠ .changing := by simp [running]
      cases queue : s.motion.queue with
      | nil => simp [queue] at hg
      | cons head rest =>
        rw [queue, List.mem_cons] at hg
        rcases hg with rfl | later
        · refine aground ⟨host, ?_⟩
          simpa [State.flying, State.current, host, queue, Option.filter] using flies
        · exact flies (h.flies.1 g (by simpa [queue] using later))
  have busy : (Machine.faultStop r s).probeBusy = false := by
    by_contra busy
    obtain ⟨g, flying, -⟩ := (probeBusy_iff _).mp (by simpa using busy)
    obtain ⟨current, flies⟩ := State.current_of_flying flying
    rw [State.current, motion] at current
    have head := sub g (by rw [motion]; exact List.mem_of_mem_head? (by simpa using current))
    simp [head] at flies
  refine h.of_atRest sound ⟨sub, fun _ => ?_⟩ ⟨by simp, by simp, by simp, by simp, fun config => ⟨by simpa using config,
    fun empty => ?_, fun _ => change⟩⟩
  · have settled : (Machine.faultStop r s).BankSound := by
      unfold Machine.faultStop
      rw [if_neg faulted]
      exact bankSound_settleBank _
    rw [State.BankSound, busy] at settled
    simpa using settled
  · rw [motion]
    simp [empty]

theorem State.FlightSound.zoneConflict {banks : Prop} {s : State} (h : s.FlightSound banks) (p : Station)
    (cs : CellSet) : (zoneConflict p cs s).FlightSound banks :=
  State.FlightSound.faultStop (h.of_same (h.motion.of_same (by simp)) (by simp)) _

theorem State.FlightSound.foldl {banks : Prop} {α : Type} {f : State → α → State}
    (keeps : ∀ t x, State.FlightSound banks t → (f t x).FlightSound banks) :
    ∀ (l : List α) {s : State}, s.FlightSound banks → (l.foldl f s).FlightSound banks
  | [], _, h => h
  | x :: l, _, h => State.FlightSound.foldl keeps l (keeps _ x h)

/-! ## The link and the change sequence -/

/-- What leaves motion, correction, points and bank selector as they were. -/
theorem State.FlightSound.keep {banks : Prop} {s t : State} (h : s.FlightSound banks)
    (same : t.motion.queue = s.motion.queue ∧ t.motion.state = s.motion.state
      ∧ t.motion.reference = s.motion.reference ∧ t.motion.internal = s.motion.internal
      ∧ t.probes.change = s.probes.change
      ∧ (∀ a, (t.axes.chan.get a).referenced = (s.axes.chan.get a).referenced)
      ∧ t.probes.pendingBank = s.probes.pendingBank ∧ t.points = s.points ∧ t.corr = s.corr
      ∧ t.probes.latch = s.probes.latch ∧ t.station.config = s.station.config
      ∧ (t.station.state = .config → s.station.state = .config)) : t.FlightSound banks := by
  obtain ⟨queue, state, reference, internal, change, referenced, pending, points, corr, latch, cfg, station⟩ := same
  exact h.of_same (h.motion.of_same ⟨queue, state, reference, internal, change, referenced⟩)
    ⟨queue, state, pending, points, corr, latch, cfg, station, fun none => change.trans none⟩

theorem State.FlightSound.enterDeaf {banks : Prop} {s : State} (h : s.FlightSound banks) (r : LinkReason)
    (k : Option FrameKind) : (enterDeaf r k s).FlightSound banks := by
  have view {t : State} (ht : t.FlightSound banks) :
      (releaseReport (claimingToWaiting (forgetHolders t))).FlightSound banks := ht.keep (by simp)
  unfold Machine.enterDeaf
  dsimp only
  refine view (State.FlightSound.foldl (fun t o ht => ht.zoneConflict _ _) _ ?_)
  exact h.keep (by simp)

theorem State.FlightSound.ownerTold {banks : Prop} {s : State} (h : s.FlightSound banks) (f : TxFrame) :
    (ownerTold f s).FlightSound banks := by
  unfold Machine.ownerTold
  split
  case h_2 => exact h.zoneConflict _ _
  all_goals (repeat' split) <;> exact h.keep (by simp)

theorem State.FlightSound.attemptSpoiled {banks : Prop} {s : State} (h : s.FlightSound banks) :
    (attemptSpoiled s).FlightSound banks := by
  unfold Machine.attemptSpoiled
  split
  · exact h
  next e _ =>
  have dropped : (raiseLinkFault .spoiled (some e.frame.kind) (removeSending s)).FlightSound banks := h.keep (by simp)
  split
  · exact dropped.ownerTold _
  · exact h.keep (by simp)

theorem State.FlightSound.countError {banks : Prop} {s : State} (h : s.FlightSound banks) :
    (countError s).FlightSound banks := by
  have counted : (s.setLink { s.link with run := s.link.run + 1 }).FlightSound banks := h.keep (by simp)
  unfold Machine.countError
  dsimp only
  split
  · exact counted.enterDeaf _ _
  · exact counted

theorem State.FlightSound.handInternal {banks : Prop} {s : State} (h : s.FlightSound banks)
    (changing : s.motion.state = .changing) {kind : SegKind} (noProbe : kind ≠ .probe) (target : V3 Int) :
    (handInternal kind target s).FlightSound banks := by
  refine State.FlightSound.becomeCurrent (h.of_same ?_ (by simp))
  refine .of_changing h.motion.1 changing (h.motion.change_isSome changing)
    (h.motion.no_reference (by simp [changing])) ?_
  rintro g ⟨⟩
  exact noProbe

theorem State.FlightSound.setChange {banks : Prop} {s : State} (h : s.FlightSound banks)
    (changing : s.motion.state = .changing) (ch : Change) : (s.setChange (some ch)).FlightSound banks := by
  have stands := h.motion.change_isSome changing
  exact h.of_same (h.motion.setChange changing ch)
    ⟨rfl, rfl, rfl, rfl, rfl, rfl, rfl, id, fun none => by simp [none] at stands⟩

theorem State.FlightSound.beginTravel {banks : Prop} {s : State} (h : s.FlightSound banks)
    (changing : s.motion.state = .changing) (ph : Phase) (ch : Change) : (beginTravel ph ch s).FlightSound banks :=
  State.FlightSound.handInternal (h.setChange changing { ch with phase := ph }) changing (by decide) _

theorem State.FlightSound.beginLeaving {banks : Prop} {s : State} (h : s.FlightSound banks)
    (changing : s.motion.state = .changing) (ph : Phase) (ch : Change) : (beginLeaving ph ch s).FlightSound banks :=
  State.FlightSound.handInternal (h.setChange changing { ch with phase := ph, seatDue := none }) changing (by decide) _

theorem State.FlightSound.endChange {banks : Prop} {s : State} (h : s.FlightSound banks)
    (changing : s.motion.state = .changing) (ch : Change) : (endChange ch s).FlightSound banks := by
  have idle : (((s.setChange none).setModes .idle).setMotion
      { s.motion with state := .idle, internal := none, stopPending := false }).FlightSound banks :=
    h.of_atRest (.of_host h.motion.1 (by simp) (by simp) rfl (h.motion.no_reference (by simp [changing])) rfl)
      (h.atRest (by simp [changing])) ⟨rfl, rfl, rfl, rfl, fun c => ⟨c, id, fun _ => rfl⟩⟩
  unfold Machine.endChange
  dsimp only
  refine State.FlightSound.becomeCurrent ?_
  split <;> exact idle.keep (by simp)

theorem State.FlightSound.currentChanged {banks : Prop} {s : State} (h : s.FlightSound banks) :
    (currentChanged s).FlightSound banks := h.keep (by simp)

/-- The current segment's record leaves while CHANGING: the queue is not concerned. -/
theorem State.FlightSound.dropInternal {banks : Prop} {s : State} (h : s.FlightSound banks)
    (changing : s.motion.state = .changing) : s.dropCurrent.FlightSound banks :=
  h.of_same h.motion.dropCurrent (by simp [State.dropCurrent, changing])

theorem State.dropCurrent_host {s : State} (host : s.motion.state ≠ .changing) :
    s.dropCurrent.motion = { s.motion with queue := s.motion.queue.tail } := by
  simp [State.dropCurrent, host]

theorem State.FlightSound.endDeceleration {banks : Prop} {s : State} (h : s.FlightSound banks)
    (notReferencing : s.motion.state ≠ .referencing) : (endDeceleration s).FlightSound banks := by
  have motion := h.motion.endDeceleration notReferencing
  unfold Machine.endDeceleration at motion ⊢
  split
  · next changing =>
    split
    · exact (h.dropInternal changing).currentChanged.endChange (by simpa using changing) _
    · exact h
  · next host =>
    rw [if_neg host] at motion
    have ground : ∀ g ∈ s.motion.queue.tail, g.state.flying = false := h.flies.1
    dsimp only at motion ⊢
    refine h.of_atRest motion ⟨?_, fun _ => settleBank_pendingBank ?_⟩ ?_
    · simpa [State.setMotionState, State.dropCurrent_host host] using ground
    · rw [State.probeBusy, State.flying, State.current]
      cases rest : s.motion.queue.tail with
      | nil => simp [State.setMotionState, State.dropCurrent_host host, rest]
      | cons g later =>
        have aground := ground g (by simp [rest])
        simp [State.setMotionState, State.dropCurrent_host host, rest, Option.filter, aground]
    · simp +contextual [State.setMotionState, State.dropCurrent_host host]

theorem State.FlightSound.decelerate {banks : Prop} {s : State} (h : s.FlightSound banks) {g : Segment}
    (current : s.current = some g) : (decelerate g s).FlightSound banks := by
  unfold Machine.decelerate
  split
  · exact h
  split
  · exact h.endDeceleration (h.motion.not_referencing current)
  · exact h.setCurrent current ⟨rfl, id, fun running => ⟨running, id⟩, id, fun flying notSettling =>
      ⟨flying, notSettling⟩⟩

theorem State.FlightSound.abortTravel {banks : Prop} {s : State} (h : s.FlightSound banks)
    (changing : s.motion.state = .changing) (ch : Change) : (abortTravel ch s).FlightSound banks := by
  have marked := h.setChange changing { ch with failure := some .aborted }
  unfold Machine.abortTravel
  dsimp only
  split
  · next g flying =>
    split
    · next running => exact marked.decelerate (State.current_of_flying flying).1
    · exact marked
  · exact (marked.dropInternal changing).currentChanged.endChange (by simpa using changing) _

theorem State.FlightSound.abortChange {banks : Prop} {s : State} (h : s.FlightSound banks)
    (changing : s.motion.state = .changing) : (abortChange s).1.FlightSound banks := by
  unfold Machine.abortChange
  split
  · exact h
  next ch _ =>
  split
  all_goals first
    | exact h.abortTravel changing ch
    | exact h.setChange changing _
    | exact h

theorem State.FlightSound.endRead {banks : Prop} {s : State} (h : s.FlightSound banks) (result : Option Ident) :
    (endRead result s).FlightSound banks := by
  unfold Machine.endRead
  split
  · exact h
  dsimp only
  split
  · split
    · next ch stands =>
      have changing : s.motion.state = .changing :=
        h.motion.2.1.mpr (by simpa using congrArg Option.isSome stands)
      have found : (expelIdent (readIdent result) ((s.setProbes { s.probes with read := none }).setCurrentProbe
          (identifiedForChange ch result))).FlightSound banks := h.keep (by simp)
      exact found.beginLeaving (by simpa using changing) _ _
    · exact h.keep (by simp)
  · exact h.keep (by simp)

theorem State.FlightSound.failAttempt {banks : Prop} {s : State} (h : s.FlightSound banks) :
    (failAttempt s).FlightSound banks := by
  unfold Machine.failAttempt
  split
  · exact h
  split
  · exact h.keep (by simp)
  · exact h.endRead none

theorem State.FlightSound.beginChange {banks : Prop} {s : State} (h : s.FlightSound banks) (host : s.hostMotion)
    (waits : s.motion.state ≠ .running) (active : s.station.state ≠ .config) (ch : Change) :
    (beginChange ch s).FlightSound banks := by
  have shelved (l : List Segment) : (shelveHead l).length = l.length := by cases l <;> rfl
  have ground : ∀ g ∈ shelveHead s.motion.queue, g.state.flying = false := by
    obtain ⟨ground, -⟩ := h.atRest waits
    cases queue : s.motion.queue with
    | nil => simp [shelveHead]
    | cons g rest =>
      intro x hx
      rw [shelveHead, List.mem_cons] at hx
      rcases hx with rfl | later
      · rfl
      · exact ground x (by simp [queue, later])
  have changing : ((((Machine.currentChanged s).setMotion { (Machine.currentChanged s).motion with
      state := .changing, queue := shelveHead (Machine.currentChanged s).motion.queue, internal := none }).setChange
        (some { ch with phase := ch.phase })).FlightSound banks) := by
    refine h.of_atRest ?_ ⟨by simpa using ground, by simpa using (h.atRest waits).2⟩ ?_
    · exact .of_changing (by simpa [shelved] using h.motion.1) (by simp) rfl
        (by simpa using h.motion.no_reference host.2) (by simp)
    · simp [active]
  exact changing.handInternal (by simp) (by decide) _

theorem State.FlightSound.completeDrop {banks : Prop} {s : State} (h : s.FlightSound banks)
    (changing : s.motion.state = .changing) (ch : Change) : (completeDrop ch s).FlightSound banks := by
  unfold Machine.completeDrop
  dsimp only
  split
  · next k _ =>
    have noted (t : State) (same : t.FlightSound banks) : (offerNote k (s.probes.current.ident.getD 0xFFFF#16)
        (applyNote k (s.probes.current.ident.getD 0xFFFF#16) (.station s.own) t)).FlightSound banks :=
      same.keep (by simp)
    exact (noted _ (h.keep (by simp))).beginLeaving (by simpa using changing) _ _
  · have none' : (s.setCurrentProbe .none).FlightSound banks := h.keep (by simp)
    exact none'.beginLeaving (by simpa using changing) _ _

theorem State.FlightSound.completePick {banks : Prop} {s : State} (h : s.FlightSound banks)
    (changing : s.motion.state = .changing) (ch : Change) : (completePick ch s).FlightSound banks := by
  have motion := h.motion.completePick changing ch
  have stands := h.motion.change_isSome changing
  exact h.of_same motion (by simp [Option.ne_none_iff_isSome.mpr stands])

theorem State.FlightSound.seatTimeout {banks : Prop} {s : State} (h : s.FlightSound banks) (waiting leaving : Phase)
    (latchOpen : Bool) : (seatTimeout waiting leaving latchOpen s).FlightSound banks := by
  unfold Machine.seatTimeout
  split
  · next ch stands =>
    have changing : s.motion.state = .changing := h.motion.2.1.mpr (by simp [stands])
    split
    · have late : ((s.reach (ch.seatDue.getD s.clock)).setProbes
          { (s.reach (ch.seatDue.getD s.clock)).probes with latchOpen := latchOpen }).FlightSound banks :=
        h.keep (by simp)
      exact late.beginLeaving (by simpa using changing) _ _
    · exact h
  · exact h

/-! ## Moves (chapter 2) -/

theorem State.FlightSound.removeUnstarted {banks : Prop} {s : State} (h : s.FlightSound banks) :
    (removeUnstarted s).FlightSound banks := by
  have motion := h.motion.removeUnstarted
  have queue : (Machine.removeUnstarted s).motion.queue = s.motion.queue.filter (·.state.flying) := by
    unfold Machine.removeUnstarted
    dsimp only
    split <;> simp
  have none_later : s.motion.queue.tail.filter (·.state.flying) = [] := by
    rw [List.filter_eq_nil_iff]
    intro g hg
    simp [h.flies.1 g hg]
  have tail : (s.motion.queue.filter (·.state.flying)).tail = [] := by
    cases split : s.motion.queue with
    | nil => rfl
    | cons g rest =>
      rw [split, List.tail_cons] at none_later
      rw [List.filter_cons, none_later]
      split <;> rfl
  refine h.transfer motion ⟨by simp [queue, tail], ?_⟩ ?_ (fun claimed some => ?_) (by simp +contextual [queue])
  · intro g hg flying
    rw [queue, List.mem_filter] at hg
    simpa using h.flies.2 g hg.1 flying
  · rintro ⟨g, hg, come⟩
    rw [queue, List.mem_filter] at hg
    exact .inl ⟨g, hg.1, come⟩
  · obtain ⟨running, g, rest, head, flying, kind, notSettling⟩ := h.head_of_busy (h.bank claimed (by simpa using some))
    refine (probeBusy_iff _).mpr ⟨g, ?_, kind, notSettling⟩
    simp [State.flying, State.current, running, queue, head, flying]

theorem moveRefusal_active {kind : Option SegKind} {target : V3 Int} {feed : Nat} {s : State}
    (passes : moveRefusal kind target feed s = none) : s.station.state = .active := by
  unfold moveRefusal at passes
  split_ifs at passes with wrong
  simp_all

theorem State.FlightSound.appendMove {banks : Prop} {s : State} (h : s.FlightSound banks) (motion : ∀ g : Segment,
    (s.setMotion { s.motion with queue := s.motion.queue ++ [g] }).MotionSound) {g : Segment}
    (waits : g.state.flying = false) (active : s.station.state ≠ .config) : (appendMove g s).FlightSound banks := by
  have appended : (s.setMotion { s.motion with queue := s.motion.queue ++ [g] }).FlightSound banks := by
    refine h.transfer (motion g) ⟨?_, ?_⟩ ?_ (fun claimed some => ?_) (by simp [active])
    · intro x hx
      cases queue : s.motion.queue with
      | nil => simp [queue] at hx
      | cons head rest =>
        rw [State.setMotion_motion, queue, List.cons_append, List.tail_cons, List.mem_append, List.mem_singleton] at hx
        rcases hx with later | rfl
        · exact h.flies.1 x (by simpa [queue] using later)
        · exact waits
    · intro x hx flying
      rw [State.setMotion_motion, List.mem_append, List.mem_singleton] at hx
      rcases hx with stood | rfl
      · exact h.flies.2 x stood flying
      · simp [waits] at flying
    · rintro ⟨x, hx, kind, flying, untouched⟩
      rw [State.setMotion_motion, List.mem_append, List.mem_singleton] at hx
      rcases hx with stood | rfl
      · exact .inl ⟨x, stood, kind, flying, untouched⟩
      · simp [waits] at flying
    · obtain ⟨running, x, rest, head, flying, kind, notSettling⟩ := h.head_of_busy (h.bank claimed some)
      refine (probeBusy_iff _).mpr ⟨x, ?_, kind, notSettling⟩
      simp [State.flying, State.current, running, head, flying]
  unfold Machine.appendMove
  dsimp only
  split
  · exact appended.becomeCurrent
  · exact appended

theorem State.FlightSound.answer {banks : Prop} {s : State} (h : s.FlightSound banks) (c : Code)
    (bytes : List Byte) : (s.answer c bytes).FlightSound banks := h.keep (by simp)

theorem State.FlightSound.withLength {banks : Prop} {s t : State} (h : s.FlightSound banks) (n : Nat)
    (data : List Byte) (acts : t.FlightSound banks) : (withLength n data s t).FlightSound banks :=
  withLength_cases (P := State.FlightSound banks) (h.answer _ _) acts

theorem State.FlightSound.queueMove {banks : Prop} {s : State} (h : s.FlightSound banks) (data : List Byte) :
    (queueMove data s).FlightSound banks := by
  refine h.withLength _ _ ?_
  dsimp only
  split
  · exact h.answer _ _
  · next passes =>
    obtain ⟨referenced, room⟩ := moveRefusal_none passes
    have notReferencing := h.motion.not_referencing_of_referenced referenced
    have appended (g : Segment) : (s.setMotion { s.motion with queue := s.motion.queue ++ [g] }).MotionSound := by
      refine ⟨by simpa using room, h.motion.2.1, h.motion.2.2.1, ?_, h.motion.2.2.2.2⟩
      simp [h.motion.no_reference notReferencing]
    have joined (kind : SegKind) (target : V3 Int) (feed : Nat) :
        (Machine.appendMove (newSegment (some (fieldWord 0 data)) kind target feed) s).FlightSound banks :=
      h.appendMove appended rfl (by simp [moveRefusal_active passes])
    exact (joined _ _ _).answer _ _

/-- The host's motion state moves between states out of RUNNING. -/
theorem State.FlightSound.setHostState {banks : Prop} {s : State} (h : s.FlightSound banks) (host : s.hostMotion)
    (rest : s.atRest banks) {m : MotionState} (notChanging : m ≠ .changing) (notReferencing : m ≠ .referencing) :
    (s.setMotionState m).FlightSound banks :=
  h.of_atRest (h.motion.setHostState host notChanging notReferencing) rest
    ⟨rfl, rfl, rfl, rfl, fun c => ⟨c, id, id⟩⟩

theorem State.FlightSound.stopEffect {banks : Prop} {s : State} (h : s.FlightSound banks) :
    (stopEffect s).FlightSound banks := by
  have motion := h.motion.stopEffect
  unfold Machine.stopEffect at motion ⊢
  split
  · next idle =>
    exact h.setHostState (by simp [State.hostMotion, idle]) (h.atRest (by simp [idle])) (by simp) (by simp)
  · split
    · next g flying =>
      unfold stopSegment
      split
      · exact h.decelerate (State.current_of_flying flying).1
      · exact h.keep (by simp)
    · exact h
  · exact h
  · exact h
  · next referencing =>
    rw [referencing] at motion
    exact h.of_same motion (by simp)
  · next changing => exact h.abortChange changing

theorem State.FlightSound.resume {banks : Prop} {s : State} (h : s.FlightSound banks) (data : List Byte) :
    (resume data s).FlightSound banks := by
  refine h.withLength _ _ ?_
  split
  · next held =>
    have idle := h.setHostState (m := .idle) (by simp [State.hostMotion, held]) (h.atRest (by simp [held])) (by simp)
      (by simp)
    have shed : (shedAbortedClaim (s.setMotionState .idle)).FlightSound banks := idle.keep (by simp)
    exact shed.becomeCurrent.answer _ _
  · exact h.answer _ _

/-! ## The ends of a segment -/

theorem State.recordToCome_of_flying {s : State} (host : s.motion.state ≠ .changing) {g : Segment}
    (flying : s.flying = some g) (probe : g.kind = .probe) (untouched : g.touchedAt = none) : s.recordToCome := by
  obtain ⟨current, flies⟩ := State.current_of_flying flying
  rw [State.current, if_neg host] at current
  exact ⟨g, List.mem_of_mem_head? current, probe, flies, untouched⟩

theorem count1_le {α : Type} (o : Option α) : count1 o ≤ 1 := by
  unfold count1
  split <;> simp

theorem holdCount_request (s : State) (r : NoContact) (first : Bool) :
    s.holdCount ≤ (s.setCorr { s.corr with request := some r, requestFirst := first }).holdCount
      ∧ (s.setCorr { s.corr with request := some r, requestFirst := first }).holdCount ≤ s.holdCount + 1 := by
  have one := count1_le s.corr.request
  change s.points.records.length + (count1 s.corr.computing + count1 s.probes.latch + count1 s.corr.request)
      ≤ s.points.records.length + (count1 s.corr.computing + count1 s.probes.latch + 1)
    ∧ s.points.records.length + (count1 s.corr.computing + count1 s.probes.latch + 1)
      ≤ s.points.records.length + (count1 s.corr.computing + count1 s.probes.latch + count1 s.corr.request) + 1
  omega

theorem State.FlightSound.takeWork {banks : Prop} {s : State} (h : s.FlightSound banks) :
    (takeWork s).FlightSound banks := by
  have level := h.level
  refine ⟨h.motion.takeWork, by simpa [State.queueFlies] using h.flies, fun config => ?_, ?_, fun claimed some => ?_⟩
  · simpa using h.config (by simpa using config)
  · simpa [State.levelSound, State.recordToCome, State.cfg] using level
  · have busy := h.bank claimed (by simpa using some)
    simpa [State.probeBusy, State.flying, State.current] using busy

/-- The NO CONTACT request is made as its PROBE leaves the queue: the count rises to the level at most (R190). -/
theorem State.FlightSound.dropAndRequest {banks : Prop} {s : State} (h : s.FlightSound banks)
    (host : s.hostMotion) {g : Segment} (flying : s.flying = some g) (settled : g.state = .settling)
    (untouched : g.untouchedProbe = true) : (requestNoContact g s.dropCurrent).FlightSound banks := by
  simp only [Segment.untouchedProbe, Bool.and_eq_true, beq_iff_eq, Option.isNone_iff_eq_none] at untouched
  obtain ⟨probe, none_touched⟩ := untouched
  have come := State.recordToCome_of_flying host.1 flying probe none_touched
  have ground : ∀ x ∈ s.dropCurrent.motion.queue, x.state.flying = false := by
    rw [State.dropCurrent_host host.1]
    exact h.flies.1
  have idle : s.probeBusy = false := by simp [State.probeBusy, flying, settled]
  have count : s.dropCurrent.holdCount = s.holdCount := holdCount_congr (by simp) (by simp) (by simp)
  have dropped : s.dropCurrent.FlightSound banks :=
    h.of_atRest h.motion.dropCurrent ⟨ground, by simpa using h.pending_none idle⟩
      (by simp +contextual [State.dropCurrent_host host.1])
  unfold requestNoContact
  split
  · next r _ =>
    obtain ⟨least, most⟩ := holdCount_request s.dropCurrent r s.dropCurrent.probes.latch.isNone
    dsimp only
    refine State.FlightSound.takeWork ?_
    rw [holdChanged_of_le least, count]
    refine h.rise come (dropped.motion.of_same ⟨rfl, rfl, rfl, rfl, rfl, fun _ => rfl⟩)
      (State.queueFlies_of_grounded ground) (State.not_recordToCome_of_grounded ground) ?_ (count ▸ least)
          (count ▸ most)
      (by simp)
    intro claimed some
    simp [h.pending_none idle claimed] at some
  · exact dropped

theorem requestNoContact_motion {g : Segment} {s : State} : (requestNoContact g s).motion = s.motion := by
  unfold requestNoContact
  split
  · next r _ =>
    dsimp only
    rw [holdChanged_of_le (holdCount_request s r _).1]
    simp
  · rfl

theorem State.FlightSound.completeHost {banks : Prop} {s : State} (h : s.FlightSound banks) (host : s.hostMotion)
    {g : Segment} (flying : s.flying = some g) (settled : g.state = .settling) :
    (completeHost g s).FlightSound banks := by
  have ground : ∀ x ∈ s.motion.queue.tail, x.state.flying = false := h.flies.1
  have idle : s.probeBusy = false := by simp [State.probeBusy, flying, settled]
  have pending := h.pending_none idle
  have asked : (if g.untouchedProbe then Machine.requestNoContact g s.dropCurrent else s.dropCurrent).FlightSound banks
      ∧ (if g.untouchedProbe then Machine.requestNoContact g s.dropCurrent else s.dropCurrent).motion
        = s.dropCurrent.motion := by
    split
    · next untouched => exact ⟨h.dropAndRequest host flying settled untouched, requestNoContact_motion⟩
    · refine ⟨h.of_atRest h.motion.dropCurrent ⟨?_, by simpa using pending⟩ ?_, rfl⟩
      · rwa [State.dropCurrent_host host.1]
      · simp +contextual [State.dropCurrent_host host.1]
  unfold Machine.completeHost
  dsimp only
  generalize (if g.untouchedProbe then Machine.requestNoContact g s.dropCurrent else s.dropCurrent) = asked at asked
  obtain ⟨sound, same⟩ := asked
  rw [State.dropCurrent_host host.1] at same
  have done : ((Machine.currentChanged (raiseSegmentDone (g.tag.getD 0) asked)).setModes .idle).FlightSound banks :=
    sound.keep (by simp)
  have done_host : ((Machine.currentChanged (raiseSegmentDone (g.tag.getD 0) asked)).setModes .idle).hostMotion := by
    simpa [State.hostMotion, same] using host
  have rest : ((Machine.currentChanged (raiseSegmentDone (g.tag.getD 0) asked)).setModes .idle).atRest banks := by
    refine ⟨by simpa [same] using ground, fun claimed => done.pending_none ?_ claimed⟩
    by_contra busy
    obtain ⟨-, x, later, queue, flies, -⟩ := done.head_of_busy (by simpa using busy)
    simp [same] at queue
    simp [ground x (by simp [queue])] at flies
  split
  · have held := done.setHostState done_host rest (m := .held) (by simp) (by simp)
    exact held.keep (by simp [State.setMotionState])
  · refine State.FlightSound.becomeCurrent (State.FlightSound.setHostState ?_ ?_ ?_ (by simp) (by simp))
    · exact done.keep (by simp)
    · simpa [State.hostMotion] using done_host
    · simpa [State.atRest] using rest

theorem State.FlightSound.endPhase {banks : Prop} {s : State} (h : s.FlightSound banks)
    (changing : s.motion.state = .changing) (ch : Change) : (endPhase ch s).FlightSound banks := by
  have kept : (handOver s.restHere s).FlightSound banks := h.keep (by simp)
  have still : (handOver s.restHere s).motion.state = .changing := by simpa using changing
  have stands := h.motion.change_isSome changing
  have none_runs := kept.motion.no_reference (by rw [still]; decide)
  have sound {t : State} (same : t.motion = (handOver s.restHere s).motion) (change : t.probes.change.isSome = true) :
      t.MotionSound := by
    refine .of_changing ?_ ?_ change ?_ fun g hg => (kept.motion.2.2.2.2 g (same ▸ hg)).2 <;> rw [same]
    · exact kept.motion.1
    · exact still
    · exact none_runs
  unfold Machine.endPhase
  dsimp only
  split
  · exact kept.of_same (sound rfl rfl) (by simp [beginDropping, Option.ne_none_iff_isSome.mpr stands])
  · exact kept.of_same (sound rfl rfl) (by simp [beginPicking, Option.ne_none_iff_isSome.mpr stands])
  · split
    · exact kept.endChange still ch
    · exact kept.beginTravel still _ _
  · exact kept.endChange still ch
  all_goals exact kept

theorem State.FlightSound.completeInternal {banks : Prop} {s : State} (h : s.FlightSound banks)
    (changing : s.motion.state = .changing) (g : Segment) (ch : Change) :
        (completeInternal g ch s).FlightSound banks := by
  have done : ((Machine.currentChanged s.dropCurrent).setModes .idle).FlightSound banks :=
    (h.dropInternal changing).currentChanged.keep (by simp)
  have still : ((Machine.currentChanged s.dropCurrent).setModes .idle).motion.state = .changing := by
    simpa using changing
  have handed (keep : CellSet) :
      (handOver keep ((Machine.currentChanged s.dropCurrent).setModes .idle)).FlightSound banks := done.keep (by simp)
  unfold Machine.completeInternal
  dsimp only
  split
  · exact (handed _).endChange (by simpa using changing) ch
  split
  · exact (handed _).handInternal (by simpa using changing) (by decide) _
  · exact done.endPhase still ch

theorem State.FlightSound.completeSegment {banks : Prop} {s : State} (h : s.FlightSound banks) :
    (completeSegment s).FlightSound banks := by
  unfold Machine.completeSegment
  split
  · next g flying =>
    split
    · next arrived =>
      have settled : g.state = .settling := by
        simp only [Segment.arrived, Bool.and_eq_true, beq_iff_eq] at arrived
        exact arrived.1
      split
      · next changing =>
        split
        · exact h.completeInternal changing g _
        · exact h
      · next host =>
        exact h.completeHost ⟨host, h.motion.not_referencing (State.current_of_flying flying).1⟩ flying settled
    · exact h
  · exact h

theorem State.FlightSound.positionTimeout {banks : Prop} {s : State} (h : s.FlightSound banks) :
    (positionTimeout s).FlightSound banks := by
  unfold Machine.positionTimeout
  repeat' split
  · exact State.FlightSound.faultStop (h.keep (by simp)) _
  · exact h
  · exact h

theorem State.FlightSound.stopDecelerationEnd {banks : Prop} {s : State} (h : s.FlightSound banks) :
    (stopDecelerationEnd s).FlightSound banks := by
  unfold Machine.stopDecelerationEnd
  split
  · next g flying =>
    split
    · exact h.endDeceleration (h.motion.not_referencing (State.current_of_flying flying).1)
    · exact h
  · exact h

/-! ## A touch (R39, R160) -/

/-- A touch that is latched comes from a PROBE of the host that has not been touched. -/
theorem touchOutcome_latched {s : State} (latched : touchOutcome s = .latched) {g : Segment}
    (flying : s.flying = some g) : s.motion.state ≠ .referencing ∧ g.kind = .probe
      ∧ (g.state = .running ∨ g.state = .settling ∧ g.touchedAt = none) := by
  unfold touchOutcome at latched
  split_ifs at latched with referencing
  rw [flying] at latched
  dsimp only at latched
  split_ifs at latched with probe
  refine ⟨referencing, probe, ?_⟩
  unfold probeTouch at latched
  split at latched <;> simp_all

theorem State.flying_congr {s t : State} (same : t.motion.state = s.motion.state
    ∧ t.motion.queue = s.motion.queue ∧ t.motion.internal = s.motion.internal) : t.flying = s.flying := by
  obtain ⟨state, queue, internal⟩ := same
  rw [State.flying, State.current, state, queue, internal]
  rfl

theorem State.FlightSound.latchTouch {banks : Prop} {s : State} (h : s.FlightSound banks) {g : Segment}
    (flying : s.flying = some g) (latched : touchOutcome s = .latched) (c : V3 Int) :
    (latchTouch g c s).FlightSound banks := by
  obtain ⟨notReferencing, probe, touchable⟩ := touchOutcome_latched latched flying
  obtain ⟨current, flies⟩ := State.current_of_flying flying
  have host : s.motion.state ≠ .changing := fun changing => h.motion.current_kind current changing probe
  have head := current
  rw [State.current, if_neg host] at head
  obtain ⟨rest, queue⟩ := List.head?_eq_some_iff.mp head
  obtain ⟨running, untouched⟩ := h.flies.2 g (by simp [queue]) flies
  have none_touched : g.touchedAt = none := touchable.elim untouched (·.2)
  have come := State.recordToCome_of_flying host flying probe none_touched
  have touched := h.motion.setCurrent_of_current (g' := g.touch) current rfl
  have ground : ∀ x ∈ rest, x.state.flying = false := fun x hx => h.flies.1 x (by simpa [queue] using hx)
  unfold Machine.latchTouch
  split
  · next i known empty =>
    split
    · next e _ =>
      dsimp only
      refine State.FlightSound.takeWork ?_
      rw [State.setProbes_setCurrent]
      have least : s.holdCount ≤ s.holdCount + 1 := Nat.le_succ _
      have count (v : Probes) (m : Motion) (latch : v.latch.isSome = true) :
          (((s.setCurrent g.touch).setProbes v).setMotion m).holdCount = s.holdCount + 1 := by
        simp [State.holdCount, State.owedCount, count1, latch, empty]
        omega
      rw [holdChanged_of_le (by rw [count _ _ rfl]; simp)]
      refine h.rise come (touched.of_same ⟨rfl, rfl, rfl, rfl, by simp, fun _ => rfl⟩) ?_ ?_ ?_
          (by rw [count _ _ rfl]; simp)
        (by rw [count _ _ rfl]) (by simp)
      · have queue' := State.setCurrent_host host queue g.touch
        refine ⟨by simpa [queue'] using ground, fun x hx flies' => ⟨by simpa using running, ?_⟩⟩
        simp only [State.setMotion_motion, State.setProbes_motion, queue', List.mem_cons] at hx
        rcases hx with rfl | later
        · simp [Segment.touch]
        · simp [ground x later] at flies'
      · have queue' := State.setCurrent_host host queue g.touch
        rintro ⟨x, hx, -, flies', untouched'⟩
        simp only [State.setMotion_motion, State.setProbes_motion, queue', List.mem_cons] at hx
        rcases hx with rfl | later
        · simp [Segment.touch] at untouched'
        · simp [ground x later] at flies'
      · refine fun _ _ => (probeBusy_iff _).mpr ⟨g.touch, ?_, probe, by simp [Segment.touch]⟩
        refine (State.flying_congr (s := s.setCurrent g.touch) ⟨rfl, rfl, rfl⟩).trans ?_
        rw [State.flying, State.current_setCurrent current]
        rfl
    · exact h
  · exact h

theorem State.FlightSound.takeTouch {banks : Prop} {s : State} (h : s.FlightSound banks) (c : V3 Int) :
    (takeTouch c s).FlightSound banks := by
  unfold Machine.takeTouch
  split
  · exact h.faultStop _
  · exact h.keep (by simp)
  · exact h
  · next latched flying => exact h.latchTouch flying latched c
  · exact h

/-! ## Scales, the reference and CLEAR FAULT (chapter 1) -/

theorem State.FlightSound.takeScaleFault {banks : Prop} {s : State} (h : s.FlightSound banks) (a : Axis) :
    (takeScaleFault a s).FlightSound banks := by
  have lost : (s.setAxis a { s.axis a with referenced := false }).FlightSound banks :=
    h.of_same (h.motion.unreference a rfl) (by simp)
  have flushed : (if (s.axis a).referenced then
      Machine.removeUnstarted (s.setAxis a { s.axis a with referenced := false })
      else s.setAxis a { s.axis a with referenced := false }).FlightSound banks := by
    split
    · exact lost.removeUnstarted
    · exact lost
  unfold Machine.takeScaleFault
  dsimp only
  split
  · exact flushed
  · exact flushed.faultStop _
  · exact flushed.faultStop _
  · exact flushed

theorem State.FlightSound.takeScaleCount {banks : Prop} {s : State} (h : s.FlightSound banks) (a : Axis)
    (forward : Bool) : (takeScaleCount a forward s).FlightSound banks := by
  have motion := h.motion.takeScaleCount a forward
  unfold Machine.takeScaleCount at motion ⊢
  dsimp only at motion ⊢
  generalize (if forward then (s.axis a).scale + 1 else (s.axis a).scale - 1) = next at motion ⊢
  split
  · next fits =>
    rw [if_pos fits] at motion
    exact h.of_same motion (by simp)
  · exact h.takeScaleFault a

theorem State.FlightSound.referenceAxis {banks : Prop} {s : State} (h : s.FlightSound banks) (data : List Byte) :
    (referenceAxis data s).FlightSound banks := by
  refine h.withLength _ _ ?_
  split
  · exact h.answer _ _
  · next a _ =>
    split
    · next may =>
      obtain ⟨idle, -, empty, -⟩ := (mayReference_iff s).mp may
      have begun : (beginReference a s).FlightSound banks :=
        h.of_atRest (h.motion.beginReference empty idle a) (h.atRest (by simp [idle]))
          ⟨rfl, rfl, rfl, rfl, fun c => ⟨c, id, id⟩⟩
      exact begun.answer _ _
    · exact h.answer _ _

theorem State.FlightSound.leaveReference {banks : Prop} {s : State} (h : s.FlightSound banks)
    (state : s.motion.state = .referencing) (r : RefRun) (referenced : Bool) {m : MotionState}
    (notChanging : m ≠ .changing) (notReferencing : m ≠ .referencing) :
    (leaveReference r referenced m s).FlightSound banks :=
  h.of_atRest (h.motion.leaveReference state r referenced notChanging notReferencing)
    (h.atRest (by simp [state])) ⟨rfl, rfl, rfl, rfl, fun c => ⟨c, id, id⟩⟩

theorem State.FlightSound.endReference {banks : Prop} {s : State} (h : s.FlightSound banks) :
    (endReference s).FlightSound banks := by
  unfold Machine.endReference
  split
  · next r run =>
    obtain ⟨state, -⟩ := referenceRun_some run
    split
    · exact (h.leaveReference state r true (m := .idle) (by simp) (by simp)).keep (by simp)
    · exact h
  · exact h

theorem State.FlightSound.endReferenceStop {banks : Prop} {s : State} (h : s.FlightSound banks) :
    (endReferenceStop s).FlightSound banks := by
  unfold Machine.endReferenceStop
  split
  · next r run =>
    obtain ⟨state, -⟩ := referenceRun_some run
    split
    · exact h.leaveReference state r false (by simp) (by simp)
    · exact h
  · exact h

theorem State.FlightSound.clearFault {banks : Prop} {s : State} (h : s.FlightSound banks) (data : List Byte) :
    (clearFault data s).FlightSound banks := by
  refine h.withLength _ _ ?_
  split
  · exact h.answer _ _
  next faulted =>
  split
  · exact h.answer _ _
  · have started : (s.setAxes { s.axes with chan := s.axes.chan.map AxisChan.start }).FlightSound banks :=
      h.keep (by simp)
    have state : s.motion.state = .faulted := not_not.mp faulted
    exact (started.setHostState (by simp [State.hostMotion, state]) (started.atRest (by simp [state]))
      (m := .held) (by simp) (by simp)).answer _ _

/-! ## The change commands and the identity read -/

theorem State.FlightSound.changeProbe {banks : Prop} {s : State} (h : s.FlightSound banks) (data : List Byte) :
    (changeProbe data s).FlightSound banks := by
  refine h.withLength _ _ ?_
  dsimp only
  split
  · exact h.answer _ _
  · next passes =>
    obtain ⟨active, waits⟩ := changeRefusal_none passes
    have notRunning : s.motion.state ≠ .running := by rcases waits with state | state <;> simp [state]
    have host : s.hostMotion := by rcases waits with state | state <;> simp [State.hostMotion, state]
    exact (h.beginChange host notRunning (by simp [active]) _).answer _ _

theorem State.FlightSound.abortCommand {banks : Prop} {s : State} (h : s.FlightSound banks) (data : List Byte) :
    (abortCommand data s).FlightSound banks := by
  refine h.withLength _ _ ?_
  split
  · exact h.answer _ _
  · next changing => exact (h.abortChange (not_not.mp changing)).answer _ _

theorem State.FlightSound.takeAnswer {banks : Prop} {s : State} (h : s.FlightSound banks) (high low check : Byte) :
    (takeAnswer high low check s).FlightSound banks := by
  unfold Machine.takeAnswer
  dsimp only
  split
  · exact h.endRead _
  · exact h.failAttempt

theorem State.FlightSound.attemptTimeout {banks : Prop} {s : State} (h : s.FlightSound banks) :
    (attemptTimeout s).FlightSound banks := by
  unfold Machine.attemptTimeout
  split
  · exact State.FlightSound.failAttempt (h.keep (by simp))
  · exact h

/-- A bank pending from now on is made live at once where no PROBE is busy (R139). -/
theorem State.FlightSound.selectBank {banks : Prop} {s : State} (h : s.FlightSound banks) (data : List Byte) :
    (selectBank data s).FlightSound banks := by
  refine h.withLength _ _ ?_
  split
  · exact h.answer _ _
  · next bank _ =>
    have selected : (settleBank (s.setProbes { s.probes with pendingBank := some bank })).FlightSound banks :=
      h.transfer (h.motion.of_same (by simp)) (by simpa [State.queueFlies] using h.flies)
        (fun come => .inl (by simpa [State.recordToCome] using come)) (fun _ => bankSound_settleBank _) (by simp)
    exact selected.answer _ _

/-! ## The motion period (1.3, 1.4, 7.4) -/

theorem State.FlightSound.advanceReference {banks : Prop} {s : State} (h : s.FlightSound banks) :
    (advanceReference s).FlightSound banks :=
  h.of_same h.motion.advanceReference (by simp)

/-- A record in flight whose flight goes on, in the same state or a later one before SETTLING. -/
theorem Segment.continues_flying {g g' : Segment} (kind : g'.kind = g.kind) (flies : g.state.flying = true)
    (flies' : g'.state.flying = true) (notSettling : g'.state ≠ .settling) (touched : g'.touchedAt = g.touchedAt)
    (running : g'.state = .running → g.state = .running) : g.continues g' :=
  ⟨kind, fun _ => flies, fun r => ⟨running r, fun none => touched.trans none⟩, fun none => touched ▸ none,
    fun _ _ => ⟨flies', notSettling⟩⟩

theorem State.FlightSound.runPeriod {banks : Prop} {s : State} (h : s.FlightSound banks) {g : Segment}
    (current : s.current = some g) (running : g.state = .running) : (runPeriod g s).FlightSound banks := by
  unfold Machine.runPeriod
  dsimp only
  have set : (s.setCurrent { g with
      sent := g.sent + 1, dist := g.dist + profileEntry g.len g.feed s.cfg.accel (g.sent + 1) }).FlightSound banks :=
    h.setCurrent current (Segment.continues_flying rfl (by simp [running, SegState.flying])
      (by simp [running, SegState.flying]) (by simp [running]) rfl id)
  have now := s.current_setCurrent current { g with
      sent := g.sent + 1, dist := g.dist + profileEntry g.len g.feed s.cfg.accel (g.sent + 1) }
  split
  · exact State.FlightSound.enterSettlingAt (set.keep (by simp)) _ now (by simp [running, SegState.flying]) rfl id
  · exact set.keep (by simp)

theorem State.FlightSound.stopPeriod {banks : Prop} {s : State} (h : s.FlightSound banks) {g : Segment}
    (current : s.current = some g) (running : g.state = .running) (v : Nat) : (stopPeriod g v s).FlightSound banks := by
  unfold Machine.stopPeriod
  dsimp only
  have set : (s.setCurrent { g with
      dist := min g.len (g.dist + (v - s.cfg.accel)), decel := some (v - s.cfg.accel) }).FlightSound banks :=
    h.setCurrent current (Segment.continues_flying rfl (by simp [running, SegState.flying])
      (by simp [running, SegState.flying]) (by simp [running]) rfl id)
  split
  · exact set
  · exact set.keep (by simp)

/-- A period of the back-off of a segment that stands or becomes RETRACTING. -/
theorem State.FlightSound.backOffPeriod {banks : Prop} {s : State} (h : s.FlightSound banks) {g g' : Segment}
    (current : s.current = some g) (flies : g.state.flying = true) (kind : g'.kind = g.kind)
    (retracting : g'.state = .retracting) (touched : g'.touchedAt = g.touchedAt) :
    (backOffPeriod g' s).FlightSound banks := by
  unfold Machine.backOffPeriod
  dsimp only
  have set : (s.setCurrent { g' with
      back := g'.back + profileEntry (g'.backOffLen s) g'.feed s.cfg.accel (g'.backSent + 1)
      backSent := g'.backSent + 1 }).FlightSound banks :=
    h.setCurrent current (Segment.continues_flying kind flies (by simp [retracting, SegState.flying])
      (by simp [retracting]) touched (by simp [retracting]))
  have now := s.current_setCurrent current { g' with
      back := g'.back + profileEntry (g'.backOffLen s) g'.feed s.cfg.accel (g'.backSent + 1)
      backSent := g'.backSent + 1 }
  split
  · exact State.FlightSound.enterSettlingAt (set.keep (by simp)) _ now (by simp [retracting, SegState.flying]) rfl id
  · exact set.keep (by simp)

theorem State.FlightSound.advance {banks : Prop} {s : State} (h : s.FlightSound banks) :
    (advance s).FlightSound banks := by
  unfold Machine.advance
  have h := h.advanceReference
  generalize Machine.advanceReference s = s at h
  unfold advanceSegment
  split
  · exact h
  next g flying =>
  obtain ⟨current, flies⟩ := State.current_of_flying flying
  split
  · next running =>
    split
    · exact h.stopPeriod current running _
    · exact h.runPeriod current running
  · next touched =>
    unfold touchedPeriod
    split
    · exact h.setCurrent current (Segment.continues_flying rfl flies flies (by simp [touched]) rfl id)
    split
    · exact h.enterSettlingAt _ current flies rfl id
    · exact h.backOffPeriod current flies rfl rfl rfl
  · next retracting => exact h.backOffPeriod current flies rfl retracting rfl
  all_goals exact h

theorem State.FlightSound.watchSeated {banks : Prop} {s : State} (h : s.FlightSound banks) (level : Bool) :
    (watchSeated level s).FlightSound banks := by
  have noted : (noteSeated level s).FlightSound banks := h.keep (by simp)
  unfold Machine.watchSeated
  split
  · exact h
  dsimp only
  split
  · next ch stands =>
    have changing := noted.motion.2.1.mpr (by rw [stands]; rfl)
    unfold seatedInChange
    split
    · exact noted.completeDrop changing ch
    · exact noted.completePick changing ch
    · exact State.FlightSound.faultStop (noted.keep (by simp)) _
  · unfold seatedOutside
    dsimp only
    split
    · exact State.FlightSound.faultStop (noted.keep (by simp)) _
    · exact noted.keep (by simp)

theorem State.FlightSound.watch {banks : Prop} {s : State} (h : s.FlightSound banks) (v : Samples) (w : Watch) :
    (watch v w s).FlightSound banks := by
  have level (r : FaultReason) (a : Axis) (bad : Bool) : (watchLevel r a bad s).FlightSound banks := by
    unfold watchLevel
    repeat' split
    · exact h
    · exact h.faultStop r
    · exact h.faultStop r
    · exact h.keep (by simp)
    · exact h
  cases w with
  | limit a => exact level _ a _
  | drive a => exact level _ a _
  | following a =>
    change (watchFollowing a s).FlightSound banks
    unfold watchFollowing
    repeat' split
    all_goals first
      | exact h
      | exact h.faultStop _
  | seated => exact h.watchSeated _

theorem State.FlightSound.motionPeriod {banks : Prop} {s : State} (h : s.FlightSound banks) (v : Samples)
    (order : List Watch) : (motionPeriod v order s).FlightSound banks := by
  have sampled : (sampleLevels v (s.setClock (s.clock + 1))).FlightSound banks := h.keep (by simp)
  unfold Machine.motionPeriod
  dsimp only
  exact (State.FlightSound.foldl (fun _ w ht => ht.watch v w) (watchOrder order) sampled.advance).keep (by simp)

/-! ## The Point Queue's commands -/

theorem State.FlightSound.endCorrection {banks : Prop} {s : State} (h : s.FlightSound banks) :
    (endCorrection s).FlightSound banks := by
  unfold Machine.endCorrection
  split
  · next w runs =>
    have fewer : (arrive (recordOf s.cfg w) (s.setCorr { s.corr with computing := none })).holdCount ≤ s.holdCount := by
      unfold arrive
      dsimp only
      split
      · simp [State.holdCount, State.owedCount, count1, runs, Points.withRecords]
        omega
      · simp [State.holdCount, State.owedCount, count1, runs]
    exact h.fall (by simpa using fewer) (by simp)
  · exact h

theorem State.FlightSound.readPoint {banks : Prop} {s : State} (h : s.FlightSound banks) (data : List Byte) :
    (readPoint data s).FlightSound banks := by
  refine h.withLength _ _ ?_
  split
  · exact h.answer _ _
  · next r rest records =>
    have fewer : (s.setPoints (s.points.withRecords rest)).holdCount ≤ s.holdCount := by
      simp [State.holdCount, State.owedCount, Points.withRecords, records]
    exact (h.fall fewer ⟨rfl, rfl, rfl, rfl, rfl, rfl⟩).answer _ _

theorem State.FlightSound.flushPoints {banks : Prop} {s : State} (h : s.FlightSound banks) (data : List Byte) :
    (flushPoints data s).FlightSound banks := by
  have fewer : (s.setPoints (s.points.withRecords [])).holdCount ≤ s.holdCount := by
    simp [State.holdCount, State.owedCount, Points.withRecords]
  exact h.withLength _ _ ((h.fall fewer ⟨rfl, rfl, rfl, rfl, rfl, rfl⟩).answer _ _)

/-! ## Peers, claims and the link -/

theorem State.FlightSound.hear {banks : Prop} {s : State} (h : s.FlightSound banks) (p : Station) :
    (hear p s).FlightSound banks :=
  h.keep (by simp)

theorem State.FlightSound.retried {banks : Prop} {s : State} (h : s.FlightSound banks) :
    (retryCheck s).FlightSound banks := h.keep (by simp)

theorem State.FlightSound.peerGone {banks : Prop} {s : State} (h : s.FlightSound banks) (p : Station) :
    (peerGone p s).FlightSound banks := by
  unfold Machine.peerGone
  dsimp only
  refine State.FlightSound.afterClaim ?_
  split <;> exact h.keep (by simp)

theorem State.FlightSound.losePeer {banks : Prop} {s : State} (h : s.FlightSound banks) (p : Station) :
    (losePeer p s).FlightSound banks := by
  unfold Machine.losePeer
  split
  · next e _ =>
    split
    · exact h
    · have lost : (raisePeerLost p ((s.reach (e.lastHeard + 3000)).setPeer p
          (some { e with lost := true }))).FlightSound banks := h.keep (by simp)
      have dropped : (dropClaims p (markLost p (raisePeerLost p ((s.reach (e.lastHeard + 3000)).setPeer p
          (some { e with lost := true }))))).FlightSound banks := lost.keep (by simp)
      exact (dropped.peerGone p).keep (by simp)
  · exact h

theorem State.FlightSound.forgetPeer {banks : Prop} {s : State} (h : s.FlightSound banks) (data : List Byte) :
    (forgetPeer data s).FlightSound banks := by
  refine h.withLength _ _ ?_
  split
  · exact h.answer _ _
  · next p _ =>
    split
    · have freed : (freeCellsOf p (s.setPeer p none)).FlightSound banks := h.keep (by simp)
      exact State.FlightSound.answer ((freed.peerGone p).keep (by simp)) _ _
    · exact h.answer _ _

theorem State.FlightSound.meetConflict {banks : Prop} {s : State} (h : s.FlightSound banks) (p : Station)
    (cs : CellSet) :
    (meetConflict p cs s).FlightSound banks := by
  unfold Machine.meetConflict
  split
  · exact h
  · exact h.zoneConflict _ _

theorem State.FlightSound.applyReport {banks : Prop} {s : State} (h : s.FlightSound banks) (p : Station) (r : Report) :
    (applyReport p r s).FlightSound banks := by
  have taken : (takeClaims r.held (Machine.meetConflict p r.held s)).FlightSound banks :=
    (h.meetConflict p r.held).keep (by simp)
  unfold Machine.applyReport
  dsimp only
  refine State.FlightSound.afterClaim ?_
  split <;> exact taken.keep (by simp)

theorem State.FlightSound.takePresence {banks : Prop} {s : State} (h : s.FlightSound banks) (p : Station) (r : Report) :
    (takePresence p r s).FlightSound banks := by
  have recorded : (recordReport p r (Machine.hear p s)).FlightSound banks := (h.hear p).keep (by simp)
  unfold Machine.takePresence
  split
  · exact (recorded.applyReport p r).keep (by simp)
  · exact h

theorem State.FlightSound.sendObject {banks : Prop} {s : State} (h : s.FlightSound banks) (p : Station) (n : Byte)
    (overlap : CellSet) :
    (sendObject p n overlap s).FlightSound banks := by
  have offered : (offer (.object p n overlap) s).2.FlightSound banks := h.keep (by simp)
  unfold Machine.sendObject
  split
  · exact h.zoneConflict _ _
  split
  all_goals rename_i placed
  all_goals rw [placed] at offered
  · exact offered
  · exact offered.zoneConflict _ _
  · exact offered.zoneConflict _ _

theorem State.FlightSound.judgePeerClaim {banks : Prop} {s : State} (h : s.FlightSound banks) (p : Station)
    (n : Byte) (cs : CellSet) :
    (judgePeerClaim p n cs s).FlightSound banks := by
  have opened : (openWindow p n (claimCells p n cs s)).FlightSound banks := h.keep (by simp)
  have objected : (if s.ownSet &&& cs = 0#20 then openWindow p n (claimCells p n cs s)
      else Machine.sendObject p n (s.ownSet &&& cs) (openWindow p n (claimCells p n cs s))).FlightSound banks := by
    split
    · exact opened
    · exact opened.sendObject _ _ _
  unfold Machine.judgePeerClaim
  dsimp only
  exact objected.keep (by simp)

theorem State.FlightSound.takeClaim {banks : Prop} {s : State} (h : s.FlightSound banks) (p : Station) (n : Byte)
    (cs : CellSet) :
    (takeClaim p n cs s).FlightSound banks := by
  unfold Machine.takeClaim
  split
  · refine State.FlightSound.afterClaim ?_
    split
    · exact h.keep (by simp)
    · exact (h.hear p).judgePeerClaim p n cs
  · exact h

theorem State.FlightSound.grantClaim {banks : Prop} {s : State} (h : s.FlightSound banks) (c : Claim) :
    (grantClaim c s).FlightSound banks := by
  have weighed : (Machine.weigh (s.setClaim none)).FlightSound banks := State.FlightSound.weigh (h.keep (by simp))
  unfold Machine.grantClaim
  dsimp only
  split <;> exact weighed.keep (by simp)

theorem State.FlightSound.settle {banks : Prop} {s : State} (h : s.FlightSound banks) (p : Station) (n : Byte) :
    (settle p n s).FlightSound banks := by
  have held : (closeWindow p n (grantCells p n s)).FlightSound banks := h.keep (by simp)
  unfold Machine.settle
  dsimp only
  repeat' split
  · exact held.grantClaim _
  all_goals exact held

theorem State.FlightSound.endWindow {banks : Prop} {s : State} (h : s.FlightSound banks) (p : Station) (n : Byte) :
    (endWindow p n s).FlightSound banks := by
  unfold Machine.endWindow
  split
  · next w _ =>
    have late : (s.reach (w.since + 2)).FlightSound banks := h.keep (by simp)
    have settled := (late.settle p n).afterClaim
    dsimp only
    split
    · exact settled.keep (by simp)
    · exact settled
  · exact h

theorem State.FlightSound.takeObject {banks : Prop} {s : State} (h : s.FlightSound banks) (sender target : Station)
    (n : Byte)
    (cs : CellSet) : (takeObject sender target n cs s).FlightSound banks := by
  have heard := h.hear sender
  unfold Machine.takeObject
  dsimp only
  split
  · refine State.FlightSound.afterClaim (State.FlightSound.retried ?_)
    split
    · exact heard.keep (by simp)
    · unfold objectLate
      repeat' split
      all_goals first
        | exact heard
        | exact heard.zoneConflict _ _
  · exact h

theorem State.FlightSound.takeRelease {banks : Prop} {s : State} (h : s.FlightSound banks) (p : Station)
    (cs : CellSet) :
    (takeRelease p cs s).FlightSound banks := by
  unfold Machine.takeRelease
  dsimp only
  split
  · refine State.FlightSound.afterClaim (State.FlightSound.retried ?_)
    split <;> exact h.keep (by simp)
  · exact h

theorem State.FlightSound.retryRoom {banks : Prop} {s : State} (h : s.FlightSound banks) :
    (retryRoom s).FlightSound banks := by
  unfold Machine.retryRoom
  split
  · exact State.FlightSound.afterClaim (h.keep (by simp))
  · exact h

theorem State.FlightSound.deferralExpiry {banks : Prop} {s : State} (h : s.FlightSound banks) (c : Cell) :
    (deferralExpiry c s).FlightSound banks := by
  unfold Machine.deferralExpiry
  split
  · exact State.FlightSound.afterClaim (h.keep (by simp))
  · exact h

theorem State.FlightSound.awaitIdle {banks : Prop} {s : State} (h : s.FlightSound banks) :
    (awaitIdle s).FlightSound banks :=
  h.keep (by simp)

theorem State.FlightSound.duplicateMismatch {banks : Prop} {s : State} (h : s.FlightSound banks) :
    (duplicateMismatch s).FlightSound banks := by
  unfold Machine.duplicateMismatch
  split
  · next e _ =>
    have waits : (Machine.awaitIdle (removeSending s)).FlightSound banks := h.keep (by simp)
    exact ((waits.ownerTold _).enterDeaf _ _).afterClaim
  · exact h

theorem State.FlightSound.duplicateFound {banks : Prop} {s : State} (h : s.FlightSound banks) (k : FrameKind) :
    (duplicateFound k s).FlightSound banks := (h.enterDeaf _ _).afterClaim

theorem State.FlightSound.earlySpoil {banks : Prop} {s : State} (h : s.FlightSound banks) (own : Bool) :
    (earlySpoil own s).FlightSound banks := by
  unfold Machine.earlySpoil
  split
  · exact h.attemptSpoiled.awaitIdle.afterClaim
  split
  · refine State.FlightSound.afterClaim (State.FlightSound.awaitIdle ?_)
    split
    · exact h.countError
    · exact h
  · exact h

theorem State.FlightSound.frameSpoiled {banks : Prop} {s : State} (h : s.FlightSound banks) (rx : Reception) :
    (frameSpoiled rx s).FlightSound banks := by
  unfold Machine.frameSpoiled
  repeat' split
  · exact h.attemptSpoiled.afterClaim
  · exact h.duplicateFound _
  · exact h.countError.afterClaim
  · exact h
  · exact h

theorem State.FlightSound.duplicateFrame {banks : Prop} {s : State} (h : s.FlightSound banks) (k : FrameKind) :
    (duplicateFrame k s).FlightSound banks := by
  unfold Machine.duplicateFrame
  split
  · exact h.duplicateFound k
  · exact h

theorem State.FlightSound.driverFault {banks : Prop} {s : State} (h : s.FlightSound banks) :
    (driverFault s).FlightSound banks := by
  unfold Machine.driverFault
  split
  · exact h.attemptSpoiled.awaitIdle.afterClaim
  · exact h

theorem State.FlightSound.settleConflicts {banks : Prop} {s : State} (h : s.FlightSound banks) :
    (settleConflicts s).FlightSound banks := by
  refine State.FlightSound.foldl (fun t p ht => ?_) _ h
  repeat' split
  · exact ht.meetConflict p _
  · exact ht
  · exact ht

theorem State.FlightSound.endListening {banks : Prop} {s : State} (h : s.FlightSound banks) :
    (endListening s).FlightSound banks := by
  unfold Machine.endListening
  split
  · next due _ _ =>
    have on : (settleView ((s.reach due).setLink
        { (s.reach due).link with state := .on, listeningDue := none })).FlightSound banks := h.keep (by simp)
    have settled := on.settleConflicts
    dsimp only
    have claimed : ∀ t : State, t.FlightSound banks → (becomeActive (Machine.afterClaim t)).FlightSound banks :=
      fun t ht => ht.afterClaim.keep (by
        unfold becomeActive
        split <;> simp)
    refine claimed _ ?_
    split <;> exact settled.keep (by simp)
  · exact h

/-! ## Start-up and configuration -/

/-- An empty, idle station is sound (R48, R187). -/
theorem State.FlightSound.of_empty {banks : Prop} {t : State} (motion : t.MotionSound) (count : t.holdCount = 0)
    (off : t.points.hold = false) (queue : t.motion.queue = []) (change : t.probes.change = none)
    (bank : banks → t.BankSound) : t.FlightSound banks := by
  refine ⟨motion, State.queueFlies_of_grounded (by simp [queue]), fun _ => ⟨count, off, queue, change⟩, ?_, bank⟩
  refine ⟨fun _ => off, fun level => ⟨by simp [count], fun _ => ?_, by simp [off]⟩⟩
  rw [count]
  omega

/-- CONFIG holds no queue, so no bank is pending there. -/
theorem State.FlightSound.config_pending {banks : Prop} {s : State} (h : s.FlightSound banks)
    (config : s.station.state = .config) (claimed : banks) : s.probes.pendingBank = none := by
  refine h.pending_none ?_ claimed
  by_contra busy
  obtain ⟨-, g, rest, queue, -⟩ := h.head_of_busy (by simpa using busy)
  simp [(h.config config).2.2.1] at queue

theorem State.FlightSound.configure {banks : Prop} {s : State} (h : s.FlightSound banks) (data : List Byte) :
    (configure data s).FlightSound banks := by
  unfold Machine.configure
  split
  · exact h.keep (by simp)
  split
  · exact h.keep (by simp)
  · next config =>
    have inConfig : s.station.state = .config := not_not.mp config
    obtain ⟨count, off, queue, change⟩ := h.config inConfig
    refine .of_empty (h.motion.of_same (by simp)) ?_ (by simpa using off) (by simpa using queue)
      (by simpa using change) fun claimed some => ?_
    · exact (holdCount_congr (by simp) (by simp) (by simp)).trans count
    · simp [h.config_pending inConfig claimed] at some

theorem State.FlightSound.start {banks : Prop} {s : State} (h : s.FlightSound banks) (data : List Byte) :
    (start data s).FlightSound banks := by
  have motion := h.motion.start data
  unfold Machine.start at motion ⊢
  split
  · exact h.keep (by simp)
  next length =>
  rw [if_neg length] at motion
  split
  · next ready =>
    rw [if_pos ready] at motion
    obtain ⟨count, off, -, -⟩ := h.config ready.1
    refine .of_empty motion ?_ (by simpa using off) (by simp [startUp, Motion.idle]) (by simp [startUp])
      fun claimed some => ?_
    · exact (holdCount_congr (by simp) (by simp) (by simp [startUp])).trans count
    · simp [startUp, h.config_pending ready.1 claimed] at some
  · exact h.keep (by simp)

theorem powerOn_flightSound (banks : Prop) (p : Pins) : (State.powerOn p).FlightSound banks :=
  .of_empty (powerOn_motionSound p) rfl rfl rfl rfl fun _ some => absurd some (by simp [State.powerOn])

/-! ## Every command -/

theorem exec_keeps_flightSound {banks : Prop} {c : Instr} {s t : State} (h : s.FlightSound banks)
    (run : exec c s = .next t) : t.FlightSound banks := by
  cases c
  all_goals obtain rfl := Host.Outcome.next.inj run
  case powerOn p => exact (powerOn_flightSound banks p).keep (by simp)
  case resetStation data p =>
    have reset : ((State.powerOn p).setPending s.pending).FlightSound banks :=
      (powerOn_flightSound banks p).keep (by simp)
    exact h.withLength 0 data (reset.answer .ok [])
  case configure data => exact h.configure data
  case start data => exact h.start data
  case queueMove data => exact h.queueMove data
  case stop data => exact h.withLength _ _ (h.stopEffect.answer _ _)
  case resume data => exact h.resume data
  case flushMoves data =>
    refine h.withLength _ _ ?_
    dsimp only
    split
    · exact h.removeUnstarted.answer _ _
    · exact State.FlightSound.answer (h.removeUnstarted.keep (by simp)) _ _
  case referenceAxis data => exact h.referenceAxis data
  case clearFault data => exact h.clearFault data
  case changeProbe data => exact h.changeProbe data
  case abortChange data => exact h.abortCommand data
  case selectBank data => exact h.selectBank data
  case forgetPeer data => exact h.forgetPeer data
  case readPoint data => exact h.readPoint data
  case flushPoints data => exact h.flushPoints data
  case motionPeriod v order => exact h.motionPeriod v order
  case segmentComplete => exact h.completeSegment
  case positionTimeout => exact h.positionTimeout
  case stopDecelerationEnd => exact h.stopDecelerationEnd
  case scaleCount a forward => exact h.takeScaleCount a forward
  case scaleFault a => exact h.takeScaleFault a
  case referenceMark a => exact h.of_same (h.motion.takeReferenceMark a) (by simp)
  case referenceEnd => exact h.endReference
  case referenceStopEnd => exact h.endReferenceStop
  case touch c => exact h.takeTouch _
  case correctionEnd => exact h.endCorrection
  case duplicateStationMismatch => exact h.duplicateMismatch
  case earlySpoil own => exact h.earlySpoil own
  case frameSpoiled rx byOther => exact h.frameSpoiled rx
  case duplicateStationFrame k => exact h.duplicateFrame k
  case claimAccepted p n cs => exact h.takeClaim p n cs
  case settleWindowEnd p n => exact h.endWindow p n
  case objectAccepted sender target n cs => exact h.takeObject sender target n cs
  case claimRetryRoom => exact h.retryRoom
  case releaseAccepted p cs => exact h.takeRelease p cs
  case deferralExpiry c => exact h.deferralExpiry c
  case presenceAccepted p r => exact h.takePresence p r
  case peerLost p => exact h.losePeer p
  case listeningEnd => exact h.endListening
  case dropTimeout => exact h.seatTimeout _ _ _
  case pickTimeout => exact h.seatTimeout _ _ _
  case identAnswer high low check => exact h.takeAnswer high low check
  case identAttemptTimeout => exact h.attemptTimeout
  case lineDriverFault => exact h.driverFault
  all_goals exact h.keep (by simp)

theorem State.flightSound_iff {banks : Prop} {s : State} :
    s.FlightSound banks ↔ s.MotionSound ∧ s.HoldSound ∧ (banks → s.BankSound) := by
  rw [s.holdSound_iff]
  constructor
  · exact fun h => ⟨h.motion, ⟨h.flies, h.config, h.level⟩, h.bank⟩
  · rintro ⟨motion, ⟨flies, config, level⟩, bank⟩
    exact ⟨motion, flies, config, level, bank⟩

theorem step_keeps_flightSound {banks : Prop} {s t : State} (h : s.FlightSound banks) (run : step s = .next t) :
    t.FlightSound banks := by
  rcases step_cases run with rfl | ⟨c, rest, -, run⟩
  · exact h
  · exact exec_keeps_flightSound (s := s.setPending rest) (h.keep (by simp)) run

/-- Settles O56: the Point Queue command by command, the hold with what is in flight, the waiting work, and the hold
flag in each command. -/
theorem stepKeepsPointQueueSound : Obligations.StepKeepsPointQueueSound := by
  refine ⟨fun s t h run => ?_, fun s t motion hold run => ?_, fun s t h run => ?_,
    fun c s t noPowerOn noReset run => ?_⟩
  · rcases step_cases run with rfl | ⟨c, rest, -, run⟩
    · exact h
    · exact exec_keeps_pointsSound (s := s.setPending rest) h run
  · have sound : s.FlightSound False := State.flightSound_iff.mpr ⟨motion, hold, False.elim⟩
    exact (State.flightSound_iff.mp (step_keeps_flightSound sound run)).2.1
  · rcases step_cases run with rfl | ⟨c, rest, -, run⟩
    · exact h
    · exact exec_keeps_workOrdered (s := s.setPending rest) h run
  · obtain ⟨follows, raises⟩ := exec_holdStep noPowerOn noReset run
    exact ⟨follows, fun off on => (t.isPending_iff _).mpr (raises off on)⟩

end Sys2Proof.Machine
end

section
/-! PROOFS. The rack view, the library and the entries of current probe and change target (7.1, 7.3, 7.5, 7.6): what the
operations on them do, and that every step keeps them sound. -/

namespace Sys2Proof.Machine

/-! ## What a slot shows -/

theorem State.setSlot_content (s : State) (k j : SlotIx) (v : Slot) : ((s.setSlot k v).probes.slots.get j).content
    = if j = k then v.content else (s.probes.slots.get j).content := by
  unfold State.setSlot
  by_cases same : j = k
  · simp [same]
  · simp [same, Vec.get_set_other]

@[simp] theorem markUnsent_content (k j : SlotIx) (v : Bool) (s : State) :
    ((markUnsent k v s).probes.slots.get j).content = (s.probes.slots.get j).content := by
  rw [markUnsent, State.setSlot_content]
  split
  · next same => rw [same]
  · rfl

theorem offer_probes {f : TxFrame} {s t : State} {o : Offer} (run : offer f s = (o, t)) : t.probes = s.probes := by
  have kept := (offer_keeps f s).2.2.2.2.2.2.2.2.1
  rwa [run] at kept

@[simp] theorem offerNote_content (k j : SlotIx) (c : Ident) (s : State) :
    ((offerNote k c s).probes.slots.get j).content = (s.probes.slots.get j).content := by
  unfold offerNote
  split
  all_goals
    have same := offer_probes ‹_›
    simp [same]

@[simp] theorem ownerTold_content (f : TxFrame) (s : State) (j : SlotIx) :
    ((ownerTold f s).probes.slots.get j).content = (s.probes.slots.get j).content := by
  unfold ownerTold
  repeat' split
  all_goals simp

@[simp] theorem attemptSpoiled_content (s : State) (j : SlotIx) :
    ((attemptSpoiled s).probes.slots.get j).content = (s.probes.slots.get j).content := by
  unfold attemptSpoiled
  repeat' split
  all_goals simp

theorem foldl_content {α : Type} {f : State → α → State} {j : SlotIx}
    (keeps : ∀ t x, ((f t x).probes.slots.get j).content = (t.probes.slots.get j).content) :
    ∀ (l : List α) (s : State), ((l.foldl f s).probes.slots.get j).content = (s.probes.slots.get j).content
  | [], _ => rfl
  | x :: l, s => (foldl_content keeps l (f s x)).trans (keeps s x)

@[simp] theorem resetLinkEffect_content (s : State) (j : SlotIx) :
    ((resetLinkEffect s).probes.slots.get j).content = (s.probes.slots.get j).content := by
  simp [resetLinkEffect, restartLink, foldl_content]

theorem withLength_content (n : Nat) (data : List Byte) (s t : State) (j : SlotIx)
    (same : (t.probes.slots.get j).content = (s.probes.slots.get j).content) :
    ((withLength n data s t).probes.slots.get j).content = (s.probes.slots.get j).content :=
  withLength_cases (P := fun t => (t.probes.slots.get j).content = (s.probes.slots.get j).content) rfl same

@[simp] theorem resetLink_content (data : List Byte) (s : State) (j : SlotIx) :
    ((resetLink data s).probes.slots.get j).content = (s.probes.slots.get j).content := by
  refine withLength_content _ _ _ _ _ ?_
  repeat' split
  all_goals simp

@[simp] theorem toldDelivered_content (f : TxFrame) (s : State) (j : SlotIx) :
    ((toldDelivered f s).probes.slots.get j).content = (s.probes.slots.get j).content := by
  unfold toldDelivered
  split <;> simp

@[simp] theorem deliver_content (s : State) (j : SlotIx) :
    ((deliver s).probes.slots.get j).content = (s.probes.slots.get j).content := by
  unfold deliver
  repeat' split
  all_goals simp

@[simp] theorem duplicateMismatch_content (s : State) (j : SlotIx) :
    ((duplicateMismatch s).probes.slots.get j).content = (s.probes.slots.get j).content := by
  unfold duplicateMismatch
  repeat' split
  all_goals simp

@[simp] theorem earlySpoil_content (own : Bool) (s : State) (j : SlotIx) :
    ((earlySpoil own s).probes.slots.get j).content = (s.probes.slots.get j).content := by
  unfold earlySpoil
  repeat' split
  all_goals simp

@[simp] theorem frameSpoiled_content (rx : Reception) (s : State) (j : SlotIx) :
    ((frameSpoiled rx s).probes.slots.get j).content = (s.probes.slots.get j).content := by
  unfold frameSpoiled
  repeat' split
  all_goals simp

@[simp] theorem driverFault_content (s : State) (j : SlotIx) :
    ((driverFault s).probes.slots.get j).content = (s.probes.slots.get j).content := by
  unfold driverFault
  repeat' split
  all_goals simp

/-- A rack note sets its slot, and every other slot with the same valid ident becomes UNKNOWN; a note that names the
current probe leaves its slot UNKNOWN (R147). -/
theorem applyNote_content (k j : SlotIx) (c : Ident) (src : NotedBy) (s : State) :
    ((applyNote k c src s).probes.slots.get j).content
      = if validIdent c = true ∧ s.probes.current.ident = some c then
          if j = k then 0xFFFF#16 else (s.probes.slots.get j).content
        else if j = k then c
        else if validIdent c = true ∧ (s.probes.slots.get j).content = c then 0xFFFF#16
        else (s.probes.slots.get j).content := by
  unfold applyNote
  by_cases conflict : validIdent c = true ∧ s.probes.current.ident = some c
  · rw [if_pos conflict, if_pos (by simpa using conflict)]
    simp [State.setSlot_content]
  · rw [if_neg conflict, if_neg (by simpa using conflict)]
    simp only [State.setProbes_probes, Vec.get_mapIx]
    by_cases named : j = k
    · simp [named]
    · simp only [named, if_false, Bool.and_eq_true, beq_iff_eq]
      split <;> rfl

theorem expel_step_content (i : Ident) (t : State) (k j : SlotIx) :
    ((if (t.probes.slots.get k).content = i then
        offerNote k 0xFFFF#16 (raiseRackConflict k i
          (t.setSlot k { t.probes.slots.get k with content := 0xFFFF#16, notedBy := .station t.own }))
      else t).probes.slots.get j).content
      = if (t.probes.slots.get k).content = i ∧ j = k then 0xFFFF#16 else (t.probes.slots.get j).content := by
  by_cases shows : (t.probes.slots.get k).content = i <;> simp [shows, State.setSlot_content]

theorem expel_foldl_content {i : Ident} (valid : i ≠ 0xFFFF#16) (j : SlotIx) : ∀ (l : List SlotIx) (s : State),
    ((l.foldl (fun t k =>
        if (t.probes.slots.get k).content = i then
          offerNote k 0xFFFF#16 (raiseRackConflict k i
            (t.setSlot k { t.probes.slots.get k with content := 0xFFFF#16, notedBy := .station t.own }))
        else t) s).probes.slots.get j).content
      = if j ∈ l ∧ (s.probes.slots.get j).content = i then 0xFFFF#16 else (s.probes.slots.get j).content
  | [], s => by simp
  | k :: l, s => by
    rw [List.foldl_cons, expel_foldl_content valid j l, expel_step_content]
    by_cases same : j = k
    · subst same
      by_cases shows : (s.probes.slots.get j).content = i <;> simp [shows, valid.symm]
    · simp [same]

/-- Every slot that shows a valid ident that has come to the arm becomes UNKNOWN (R141). -/
theorem expelIdent_content (i : Ident) (s : State) (j : SlotIx) :
    ((expelIdent i s).probes.slots.get j).content
      = if validIdent i = true ∧ (s.probes.slots.get j).content = i then 0xFFFF#16
        else (s.probes.slots.get j).content := by
  unfold expelIdent
  by_cases valid : validIdent i = true
  · have real : i ≠ 0xFFFF#16 := by
      rintro rfl
      exact absurd valid (by decide)
    rw [if_pos valid, expel_foldl_content real]
    simp [valid]
  · simp [valid]

/-! ## The rack view is sound (R141, R146) -/

/-- Each valid ident stands in at most one slot. -/
def Probes.contentsDistinct (p : Probes) : Prop :=
  ∀ j k, validIdent (p.slots.get j).content = true → (p.slots.get j).content = (p.slots.get k).content → j = k

theorem rackSound_of_content {p q : Probes} (h : rackSound p)
    (same : (∀ j, (q.slots.get j).content = (p.slots.get j).content) ∧ q.current = p.current) : rackSound q := by
  obtain ⟨content, current⟩ := same
  simpa only [rackSound, content, current] using h

/-- Contents that stay or become UNKNOWN stay distinct. -/
theorem Probes.contentsDistinct.fewer {p q : Probes} (h : p.contentsDistinct)
    (fewer : ∀ j, (q.slots.get j).content = (p.slots.get j).content ∨ (q.slots.get j).content = 0xFFFF#16) :
    q.contentsDistinct := by
  have unknown : validIdent 0xFFFF#16 = false := by decide
  intro j k valid same
  rcases fewer j with kept | gone
  · rcases fewer k with kept' | gone'
    · rw [kept] at valid same
      rw [kept'] at same
      exact h j k valid same
    · rw [same, gone', unknown] at valid
      cases valid
  · rw [gone, unknown] at valid
    cases valid

/-- A probe that shows in no slot as a valid ident may be the current one. -/
theorem rackSound_of_expelled {s : State} (h : s.probes.contentsDistinct) (i : Ident)
    (current : s.probes.current.ident = some i) : rackSound (expelIdent i s).probes := by
  have unknown : validIdent 0xFFFF#16 = false := by decide
  refine ⟨h.fewer fun j => ?_, fun k valid => ?_⟩
  · rw [expelIdent_content]
    split
    · exact .inr rfl
    · exact .inl rfl
  · rw [expelIdent_content] at valid ⊢
    have still : (expelIdent i s).probes.current = s.probes.current := by simp
    rw [still, current]
    split at valid
    · rw [unknown] at valid
      cases valid
    · next stays =>
      rw [if_neg stays]
      rintro ⟨⟩
      exact stays ⟨valid, rfl⟩

/-- With no probe of a valid ident on the arm the slots alone must be distinct. -/
theorem rackSound_of_noProbe {p : Probes} (h : p.contentsDistinct)
    (current : ∀ i, p.current.ident = some i → validIdent i = false) : rackSound p :=
  ⟨h, fun k valid same => by simp [current _ same] at valid⟩

theorem rackSound_applyNote {s : State} (h : rackSound s.probes) (k : SlotIx) (c : Ident) (src : NotedBy) :
    rackSound (applyNote k c src s).probes := by
  have unknown : validIdent 0xFFFF#16 = false := by decide
  have current : (applyNote k c src s).probes.current = s.probes.current := by simp
  obtain ⟨distinct, apart⟩ := h
  by_cases conflict : validIdent c = true ∧ s.probes.current.ident = some c
  · have content (j : SlotIx) : ((applyNote k c src s).probes.slots.get j).content
        = if j = k then 0xFFFF#16 else (s.probes.slots.get j).content := by rw [applyNote_content, if_pos conflict]
    refine ⟨Probes.contentsDistinct.fewer distinct fun j => ?_, fun j valid => ?_⟩
    · rw [content]
      split
      · exact .inr rfl
      · exact .inl rfl
    · rw [content] at valid ⊢
      rw [current]
      split at valid
      · rw [unknown] at valid
        cases valid
      · next other =>
        rw [if_neg other]
        exact apart j valid
  · have content (j : SlotIx) : ((applyNote k c src s).probes.slots.get j).content
        = if j = k then c else if validIdent c = true ∧ (s.probes.slots.get j).content = c then 0xFFFF#16
          else (s.probes.slots.get j).content := by rw [applyNote_content, if_neg conflict]
    have others (j : SlotIx) (other : j ≠ k) (valid : validIdent
        ((applyNote k c src s).probes.slots.get j).content = true) :
        ((applyNote k c src s).probes.slots.get j).content = (s.probes.slots.get j).content
          ∧ (s.probes.slots.get j).content ≠ c := by
      rw [content, if_neg other] at valid ⊢
      split at valid
      · rw [unknown] at valid
        cases valid
      · next shows =>
        rw [if_neg shows]
        exact ⟨rfl, fun same => shows ⟨same ▸ valid, same⟩⟩
    have named : ((applyNote k c src s).probes.slots.get k).content = c := by rw [content, if_pos rfl]
    refine ⟨fun i j valid same => ?_, fun j valid => ?_⟩
    · by_cases at_i : i = k <;> by_cases at_j : j = k
      · rw [at_i, at_j]
      · obtain ⟨kept, differs⟩ := others j at_j (same ▸ valid)
        rw [at_i, named, kept] at same
        exact absurd same.symm differs
      · obtain ⟨kept, differs⟩ := others i at_i valid
        rw [at_j, named, kept] at same
        exact absurd same differs
      · obtain ⟨kept, -⟩ := others i at_i valid
        obtain ⟨kept', -⟩ := others j at_j (same ▸ valid)
        rw [kept] at valid same
        exact distinct i j valid (same.trans kept')
    · rw [current]
      by_cases at_k : j = k
      · rw [at_k, named] at valid ⊢
        exact fun carried => conflict ⟨valid, carried⟩
      · obtain ⟨kept, -⟩ := others j at_k valid
        rw [kept] at valid ⊢
        exact apart j valid

/-! ## The target of a change in progress (R138) -/

/-- No change is in progress, or one with that target. -/
def targetIs (change : Option Change) (i : Ident) : Bool := change.all (·.target == i)

theorem targetIs_some {s : State} {i : Ident} (h : targetIs s.probes.change i) {ch : Change}
    (stands : s.probes.change = some ch) : ch.target = i := by
  simpa [targetIs, stands] using h

@[simp] theorem targetIs_none (i : Ident) : targetIs none i = true := rfl

@[simp] theorem targetIs_of_target {ch : Change} {i : Ident} (target : ch.target = i) : targetIs (some ch) i = true
    := by
  simp [targetIs, target]

theorem targetIs_foldl {α : Type} {i : Ident} {f : State → α → State}
    (keeps : ∀ t x, targetIs t.probes.change i → targetIs (f t x).probes.change i) :
    ∀ (l : List α) {s : State}, targetIs s.probes.change i → targetIs (l.foldl f s).probes.change i
  | [], _, h => h
  | x :: l, _, h => targetIs_foldl keeps l (keeps _ x h)

@[simp] theorem State.setChange_change (s : State) (c : Option Change) : (s.setChange c).probes.change = c := rfl

@[simp] theorem beginTravel_change (ph : Phase) (ch : Change) (s : State) :
    (beginTravel ph ch s).probes.change = some { ch with phase := ph } := by simp [beginTravel]

@[simp] theorem beginLeaving_change (ph : Phase) (ch : Change) (s : State) :
    (beginLeaving ph ch s).probes.change = some { ch with phase := ph, seatDue := none } := by simp [beginLeaving]

@[simp] theorem beginDropping_change (ch : Change) (s : State) : (beginDropping ch s).probes.change
    = some { ch with phase := .dropping, seatDue := some (s.clock + 300) } := rfl

@[simp] theorem beginPicking_change (ch : Change) (s : State) : (beginPicking ch s).probes.change
    = some { ch with phase := .picking, seatDue := some (s.clock + 300) } := rfl

@[simp] theorem endChange_change (ch : Change) (s : State) : (endChange ch s).probes.change = none := by
  unfold endChange
  dsimp only
  split <;> simp

@[simp] theorem startUp_change (s : State) : (startUp s).probes.change = none := by simp [startUp]

@[simp] theorem faultStop_targetIs (r : FaultReason) (s : State) {i : Ident}
    (h : targetIs s.probes.change i) :
    targetIs (faultStop r s).probes.change i := by
  unfold faultStop
  split
  · exact h
  · dsimp only
    repeat' split
    all_goals simp [h, failChange_change]

@[simp] theorem zoneConflict_targetIs (p : Station) (cs : CellSet) (s : State) {i : Ident}
    (h : targetIs s.probes.change i) :
    targetIs (zoneConflict p cs s).probes.change i := by
  simp [zoneConflict, h]

@[simp] theorem enterDeaf_targetIs (r : LinkReason) (k : Option FrameKind) (s : State) {i : Ident}
    (h : targetIs s.probes.change i) :
    targetIs (enterDeaf r k s).probes.change i := by
  have stopped (l : List (Station × CellSet)) {t : State} (ht : targetIs t.probes.change i) :
      targetIs (l.foldl (fun t o => zoneConflict o.1 o.2 t) t).probes.change i :=
    targetIs_foldl (fun _ _ hu => by simp [hu]) l ht
  simp [enterDeaf, stopped, h]

@[simp] theorem ownerTold_targetIs (f : TxFrame) (s : State) {i : Ident}
    (h : targetIs s.probes.change i) :
    targetIs (ownerTold f s).probes.change i := by
  unfold ownerTold
  repeat' split
  all_goals simp [h]

@[simp] theorem attemptSpoiled_targetIs (s : State) {i : Ident}
    (h : targetIs s.probes.change i) :
    targetIs (attemptSpoiled s).probes.change i := by
  unfold attemptSpoiled
  repeat' split
  all_goals simp [h]

@[simp] theorem countError_targetIs (s : State) {i : Ident}
    (h : targetIs s.probes.change i) :
    targetIs (countError s).probes.change i := by
  unfold countError
  dsimp only
  repeat' split
  all_goals simp [h]

@[simp] theorem endDeceleration_targetIs (s : State) {i : Ident}
    (h : targetIs s.probes.change i) :
    targetIs (endDeceleration s).probes.change i := by
  unfold endDeceleration
  dsimp only
  repeat' split
  all_goals simp [h]

@[simp] theorem decelerate_targetIs (g : Segment) (s : State) {i : Ident}
    (h : targetIs s.probes.change i) :
    targetIs (decelerate g s).probes.change i := by
  unfold decelerate
  repeat' split
  all_goals simp [h]

@[simp] theorem endRead_targetIs (result : Option Ident) (s : State) {i : Ident}
    (h : targetIs s.probes.change i) :
    targetIs (endRead result s).probes.change i := by
  unfold endRead
  split
  · exact h
  dsimp only
  split
  · split
    · next stands => simp [targetIs_some h stands]
    · simp [h]
  · simp [h]

@[simp] theorem failAttempt_targetIs (s : State) {i : Ident}
    (h : targetIs s.probes.change i) :
    targetIs (failAttempt s).probes.change i := by
  unfold failAttempt
  dsimp only
  repeat' split
  all_goals simp [h]

@[simp] theorem abortTravel_targetIs (ch : Change) (s : State) {i : Ident}
    (target : ch.target = i) :
    targetIs (abortTravel ch s).probes.change i := by
  unfold abortTravel
  dsimp only
  repeat' split
  all_goals simp [target]

@[simp] theorem abortChange_targetIs (s : State) {i : Ident}
    (h : targetIs s.probes.change i) :
    targetIs (abortChange s).1.probes.change i := by
  unfold abortChange
  split
  · exact h
  · next ch stands =>
    have target := targetIs_some h stands
    split <;> simp [h, target]

@[simp] theorem completeDrop_targetIs (ch : Change) (s : State) {i : Ident}
    (target : ch.target = i) :
    targetIs (completeDrop ch s).probes.change i := by
  unfold completeDrop
  dsimp only
  repeat' split
  all_goals simp [target]

@[simp] theorem completePick_targetIs (ch : Change) (s : State) {i : Ident}
    (target : ch.target = i) :
    targetIs (completePick ch s).probes.change i := by
  unfold completePick
  dsimp only
  repeat' split
  all_goals simp [target]

@[simp] theorem stopSegment_targetIs (g : Segment) (s : State) {i : Ident}
    (h : targetIs s.probes.change i) :
    targetIs (stopSegment g s).probes.change i := by
  unfold stopSegment
  dsimp only
  repeat' split
  all_goals simp [h]

@[simp] theorem stopEffect_targetIs (s : State) {i : Ident}
    (h : targetIs s.probes.change i) :
    targetIs (stopEffect s).probes.change i := by
  unfold stopEffect
  dsimp only
  repeat' split
  all_goals simp [h]

@[simp] theorem endPhase_targetIs (ch : Change) (s : State) {i : Ident}
    (h : targetIs s.probes.change i) (target : ch.target = i) :
    targetIs (endPhase ch s).probes.change i := by
  unfold endPhase
  dsimp only
  repeat' split
  all_goals simp [h, target]

@[simp] theorem completeInternal_targetIs (g : Segment) (ch : Change) (s : State) {i : Ident}
    (h : targetIs s.probes.change i) (target : ch.target = i) :
    targetIs (completeInternal g ch s).probes.change i := by
  unfold completeInternal
  dsimp only
  repeat' split
  all_goals simp [h, target]

@[simp] theorem watchLevel_targetIs (r : FaultReason) (a : Axis) (bad : Bool) (s : State) {i : Ident}
    (h : targetIs s.probes.change i) :
    targetIs (watchLevel r a bad s).probes.change i := by
  unfold watchLevel
  repeat' split
  all_goals simp [h]

@[simp] theorem watchFollowing_targetIs (a : Axis) (s : State) {i : Ident}
    (h : targetIs s.probes.change i) :
    targetIs (watchFollowing a s).probes.change i := by
  unfold watchFollowing
  repeat' split
  all_goals simp [h]

@[simp] theorem seatedOutside_targetIs (level : Bool) (s : State) {i : Ident}
    (h : targetIs s.probes.change i) :
    targetIs (seatedOutside level s).probes.change i := by
  unfold seatedOutside
  dsimp only
  repeat' split
  all_goals simp [h]

@[simp] theorem seatedInChange_targetIs (ch : Change) (level : Bool) (s : State) {i : Ident}
    (h : targetIs s.probes.change i) (target : ch.target = i) :
    targetIs (seatedInChange ch level s).probes.change i := by
  unfold seatedInChange
  repeat' split
  all_goals simp [h, target]

@[simp] theorem watchSeated_targetIs (level : Bool) (s : State) {i : Ident}
    (h : targetIs s.probes.change i) :
    targetIs (watchSeated level s).probes.change i := by
  unfold watchSeated
  split
  · exact h
  dsimp only
  split
  · next ch stands => simp [h, targetIs_some h stands]
  · simp [h]

@[simp] theorem watch_targetIs (v : Samples) (w : Watch) (s : State) {i : Ident}
    (h : targetIs s.probes.change i) :
    targetIs (watch v w s).probes.change i := by
  unfold watch
  repeat' split
  all_goals simp [h]

@[simp] theorem meetConflict_targetIs (p : Station) (cs : CellSet) (s : State) {i : Ident}
    (h : targetIs s.probes.change i) :
    targetIs (meetConflict p cs s).probes.change i := by
  unfold meetConflict
  repeat' split
  all_goals simp [h]

@[simp] theorem applyReport_targetIs (p : Station) (r : Report) (s : State) {i : Ident}
    (h : targetIs s.probes.change i) :
    targetIs (applyReport p r s).probes.change i := by
  unfold applyReport
  dsimp only
  repeat' split
  all_goals simp [h]

@[simp] theorem sendObject_targetIs (p : Station) (n : Byte) (overlap : CellSet) (s : State) {i : Ident}
    (h : targetIs s.probes.change i) :
    targetIs (sendObject p n overlap s).probes.change i := by
  unfold sendObject
  split
  · simp [h]
  · split
    all_goals
      have same := offer_probes ‹_›
      simp [same, h]

@[simp] theorem judgePeerClaim_targetIs (p : Station) (n : Byte) (cs : CellSet) (s : State) {i : Ident}
    (h : targetIs s.probes.change i) :
    targetIs (judgePeerClaim p n cs s).probes.change i := by
  unfold judgePeerClaim
  dsimp only
  repeat' split
  all_goals simp [h]

@[simp] theorem objectLate_targetIs (sender target : Station) (cs : CellSet) (s : State) {i : Ident}
    (h : targetIs s.probes.change i) :
    targetIs (objectLate sender target cs s).probes.change i := by
  unfold objectLate
  repeat' split
  all_goals simp [h]

@[simp] theorem duplicateFound_targetIs (k : FrameKind) (s : State) {i : Ident}
    (h : targetIs s.probes.change i) :
    targetIs (duplicateFound k s).probes.change i := by
  simp [duplicateFound, h]

@[simp] theorem settleConflicts_targetIs (s : State) {i : Ident}
    (h : targetIs s.probes.change i) :
    targetIs (settleConflicts s).probes.change i := by
  unfold settleConflicts
  refine targetIs_foldl (fun t x ht => ?_) _ h
  repeat' split
  all_goals simp [ht]

@[simp] theorem start_targetIs (data : List Byte) (s : State) {i : Ident}
    (h : targetIs s.probes.change i) :
    targetIs (start data s).probes.change i := by
  unfold start
  repeat' split
  all_goals simp [h]

@[simp] theorem stop_targetIs (data : List Byte) (s : State) {i : Ident}
    (h : targetIs s.probes.change i) :
    targetIs (stop data s).probes.change i := by
  unfold stop withLength
  repeat' split
  all_goals simp [h]

@[simp] theorem abortCommand_targetIs (data : List Byte) (s : State) {i : Ident}
    (h : targetIs s.probes.change i) :
    targetIs (abortCommand data s).probes.change i := by
  unfold abortCommand withLength
  repeat' split
  all_goals simp [h]

@[simp] theorem motionPeriod_targetIs (v : Samples) (order : List Watch) (s : State) {i : Ident}
    (h : targetIs s.probes.change i) :
    targetIs (motionPeriod v order s).probes.change i := by
  have moved : targetIs (advance (sampleLevels v (s.setClock (s.clock + 1)))).probes.change i := by simp [h]
  have watched := targetIs_foldl (f := fun t w => watch v w t) (fun t w ht => by simp [ht]) (watchOrder order) moved
  simpa [motionPeriod] using watched

@[simp] theorem completeSegment_targetIs (s : State) {i : Ident}
    (h : targetIs s.probes.change i) :
    targetIs (completeSegment s).probes.change i := by
  unfold completeSegment
  repeat' split
  · next ch stands => simp [h, targetIs_some h stands]
  all_goals simp [h]

@[simp] theorem positionTimeout_targetIs (s : State) {i : Ident}
    (h : targetIs s.probes.change i) :
    targetIs (positionTimeout s).probes.change i := by
  unfold positionTimeout
  repeat' split
  all_goals simp [h]

@[simp] theorem stopDecelerationEnd_targetIs (s : State) {i : Ident}
    (h : targetIs s.probes.change i) :
    targetIs (stopDecelerationEnd s).probes.change i := by
  unfold stopDecelerationEnd
  repeat' split
  all_goals simp [h]

@[simp] theorem takeScaleFault_targetIs (a : Axis) (s : State) {i : Ident}
    (h : targetIs s.probes.change i) :
    targetIs (takeScaleFault a s).probes.change i := by
  unfold takeScaleFault
  dsimp only
  repeat' split
  all_goals simp [h]

@[simp] theorem takeTouch_targetIs (c : V3 Int) (s : State) {i : Ident}
    (h : targetIs s.probes.change i) :
    targetIs (takeTouch c s).probes.change i := by
  unfold takeTouch
  repeat' split
  all_goals simp [h]

@[simp] theorem duplicateMismatch_targetIs (s : State) {i : Ident}
    (h : targetIs s.probes.change i) :
    targetIs (duplicateMismatch s).probes.change i := by
  unfold duplicateMismatch
  dsimp only
  repeat' split
  all_goals simp [h]

@[simp] theorem earlySpoil_targetIs (own : Bool) (s : State) {i : Ident}
    (h : targetIs s.probes.change i) :
    targetIs (earlySpoil own s).probes.change i := by
  unfold earlySpoil
  repeat' split
  all_goals simp [h]

@[simp] theorem frameSpoiled_targetIs (rx : Reception) (s : State) {i : Ident}
    (h : targetIs s.probes.change i) :
    targetIs (frameSpoiled rx s).probes.change i := by
  unfold frameSpoiled
  repeat' split
  all_goals simp [h]

@[simp] theorem duplicateFrame_targetIs (k : FrameKind) (s : State) {i : Ident}
    (h : targetIs s.probes.change i) :
    targetIs (duplicateFrame k s).probes.change i := by
  unfold duplicateFrame
  repeat' split
  all_goals simp [h]

@[simp] theorem takeClaim_targetIs (p : Station) (n : Byte) (cs : CellSet) (s : State) {i : Ident}
    (h : targetIs s.probes.change i) :
    targetIs (takeClaim p n cs s).probes.change i := by
  unfold takeClaim
  repeat' split
  all_goals simp [h]

@[simp] theorem takeObject_targetIs (sender target : Station) (n : Byte) (cs : CellSet) (s : State) {i : Ident}
    (h : targetIs s.probes.change i) :
    targetIs (takeObject sender target n cs s).probes.change i := by
  unfold takeObject
  dsimp only
  repeat' split
  all_goals simp [h]

@[simp] theorem takePresence_targetIs (p : Station) (r : Report) (s : State) {i : Ident}
    (h : targetIs s.probes.change i) :
    targetIs (takePresence p r s).probes.change i := by
  unfold takePresence
  repeat' split
  all_goals simp [h]

@[simp] theorem endListening_targetIs (s : State) {i : Ident}
    (h : targetIs s.probes.change i) :
    targetIs (endListening s).probes.change i := by
  unfold endListening
  dsimp only
  repeat' split
  all_goals simp [h]

@[simp] theorem seatTimeout_targetIs (waiting leaving : Phase) (latchOpen : Bool) (s : State) {i : Ident}
    (h : targetIs s.probes.change i) :
    targetIs (seatTimeout waiting leaving latchOpen s).probes.change i := by
  unfold seatTimeout
  split
  · next ch stands =>
    split
    · simp [targetIs_some h stands]
    · exact h
  · exact h

@[simp] theorem takeAnswer_targetIs (high low check : Byte) (s : State) {i : Ident}
    (h : targetIs s.probes.change i) :
    targetIs (takeAnswer high low check s).probes.change i := by
  unfold takeAnswer
  dsimp only
  repeat' split
  all_goals simp [h]

@[simp] theorem attemptTimeout_targetIs (s : State) {i : Ident}
    (h : targetIs s.probes.change i) :
    targetIs (attemptTimeout s).probes.change i := by
  unfold attemptTimeout
  repeat' split
  all_goals simp [h]

@[simp] theorem driverFault_targetIs (s : State) {i : Ident}
    (h : targetIs s.probes.change i) :
    targetIs (driverFault s).probes.change i := by
  unfold driverFault
  repeat' split
  all_goals simp [h]

@[simp] theorem takeScaleCount_targetIs (a : Axis) (forward : Bool) (s : State) {i : Ident}
    (h : targetIs s.probes.change i) :
    targetIs (takeScaleCount a forward s).probes.change i := by
  unfold takeScaleCount
  dsimp only
  repeat' split
  all_goals simp [h]

/-! ## The library (R136) -/

def libraryIdents (l : List LibEntry) : List Ident := l.map (·.ident)

theorem entry_isSome_iff (s : State) (i : Ident) : (s.entry i).isSome = true ↔ i ∈ libraryIdents s.probes.library := by
  simp [State.entry, libraryIdents]

theorem entry_ident {s : State} {i : Ident} {e : LibEntry} (found : s.entry i = some e) : e.ident = i := by
  simpa using List.find?_some found

@[simp] theorem LibEntry.withSet_ident (e : LibEntry) (bank : Bank) (q : QualSet) :
    (e.withSet bank q).ident = e.ident := by cases bank <;> rfl

@[simp] theorem libraryIdents_replaceEntry (e : LibEntry) (l : List LibEntry) :
    libraryIdents (replaceEntry e l) = libraryIdents l := by
  simp only [libraryIdents, replaceEntry, List.map_map]
  refine List.map_congr_left fun x _ => ?_
  simp only [Function.comp_apply]
  split
  · next same => exact same.symm
  · rfl

/-- The counts of an entry are within 16 bits. -/
def LibEntry.countsFit (e : LibEntry) : Prop := e.setA.count ≤ 65535 ∧ e.setB.count ≤ 65535

theorem LibEntry.countsFit.withSet {e : LibEntry} (h : e.countsFit) (bank : Bank) {q : QualSet}
    (fits : q.count ≤ 65535) : (e.withSet bank q).countsFit := by
  obtain ⟨a, b⟩ := h
  cases bank
  · exact ⟨fits, b⟩
  · exact ⟨a, fits⟩

theorem librarySound_replaceEntry {l : List LibEntry} (h : librarySound l) {e : LibEntry} (fits : e.countsFit) :
    librarySound (replaceEntry e l) := by
  obtain ⟨length, nodup, entries⟩ := h
  refine ⟨by simpa [replaceEntry] using length, ?_, fun x hx => ?_⟩
  · change (libraryIdents _).Nodup
    rwa [libraryIdents_replaceEntry]
  · obtain ⟨y, hy, rfl⟩ := List.mem_map.mp hx
    obtain ⟨valid, counts⟩ := entries y hy
    split
    · next same => exact ⟨same ▸ valid, fits⟩
    · exact ⟨valid, counts⟩

theorem librarySound.entry_countsFit {s : State} (h : librarySound s.probes.library) {i : Ident} {e : LibEntry}
    (found : s.entry i = some e) : e.countsFit := by
  obtain ⟨-, -, entries⟩ := h
  exact (entries e (List.mem_of_find?_eq_some found)).2

/-! ## Library, rack view and entries together -/

/-- Library and rack view are sound, and the entries of current probe and change target stand. -/
structure State.ProbesSound (s : State) : Prop where
  library : librarySound s.probes.library
  rack : rackSound s.probes
  known : ∀ i, s.probes.current = .known i → i ∈ libraryIdents s.probes.library
  target : ∀ ch, s.probes.change = some ch → validIdent ch.target = true →
    ch.target ∈ libraryIdents s.probes.library

theorem State.probesSound_iff (s : State) :
    s.ProbesSound ↔ librarySound s.probes.library ∧ rackSound s.probes ∧ s.entriesStand := by
  simp only [State.entriesStand, entry_isSome_iff]
  constructor
  · exact fun h => ⟨h.library, h.rack, h.known, h.target⟩
  · rintro ⟨library, rack, known, target⟩
    exact ⟨library, rack, known, target⟩

/-- The change of t has the target of the change of s, where one stands. -/
def State.keepsTarget (s t : State) : Prop :=
  ∀ i, targetIs s.probes.change i = true → targetIs t.probes.change i = true

theorem State.keepsTarget.stood {s t : State} (h : s.keepsTarget t) {ch : Change} (stands : t.probes.change = some ch) :
    ∃ ch', s.probes.change = some ch' ∧ ch'.target = ch.target := by
  cases before : s.probes.change with
  | none =>
    have other := targetIs_some (h (ch.target + 1) (by simp [before])) stands
    bv_omega
  | some ch' =>
    exact ⟨ch', rfl, (targetIs_some (h ch'.target (by simp [before])) stands).symm⟩

theorem State.ProbesSound.transfer {s t : State} (h : s.ProbesSound) (library : librarySound t.probes.library)
    (rack : rackSound t.probes) (known : ∀ i, t.probes.current = .known i → i ∈ libraryIdents s.probes.library)
    (idents : libraryIdents t.probes.library = libraryIdents s.probes.library) (target : s.keepsTarget t) :
    t.ProbesSound := by
  refine ⟨library, rack, fun i current => idents ▸ known i current, fun ch stands valid => ?_⟩
  obtain ⟨ch', stood, same⟩ := target.stood stands
  rw [idents, ← same]
  exact h.target ch' stood (same ▸ valid)

/-- Library, current probe and slot contents as they were, and no new target. -/
theorem State.ProbesSound.of_same {s t : State} (h : s.ProbesSound)
    (same : t.probes.library = s.probes.library ∧ t.probes.current = s.probes.current
      ∧ (∀ j, (t.probes.slots.get j).content = (s.probes.slots.get j).content))
    (target : s.keepsTarget t) : t.ProbesSound := by
  obtain ⟨library, current, content⟩ := same
  exact h.transfer (library ▸ h.library) (rackSound_of_content h.rack ⟨content, current⟩)
    (fun i known => h.known i (current ▸ known)) (by rw [library]) target

theorem State.ProbesSound.foldl {α : Type} {f : State → α → State}
    (keeps : ∀ t x, State.ProbesSound t → (f t x).ProbesSound) :
    ∀ (l : List α) {s : State}, s.ProbesSound → (l.foldl f s).ProbesSound
  | [], _, h => h
  | x :: l, _, h => State.ProbesSound.foldl keeps l (keeps _ x h)

/-- No probe, or an UNKNOWN one whose ident is none or unreadable, comes to the arm. -/
theorem State.ProbesSound.setCurrentProbe {s : State} (h : s.ProbesSound) {p : CurrentProbe}
    (unknown : ∀ i, p ≠ .known i) (invalid : ∀ i, p.ident = some i → validIdent i = false) :
    (s.setCurrentProbe p).ProbesSound :=
  h.transfer h.library (rackSound_of_noProbe h.rack.1 invalid) (fun i known => absurd known (unknown i)) rfl
    fun _ kept => kept

theorem State.ProbesSound.noProbe {s : State} (h : s.ProbesSound) : (s.setCurrentProbe .none).ProbesSound :=
  h.setCurrentProbe (by simp) (by simp [CurrentProbe.ident])

theorem State.ProbesSound.unreadProbe {s : State} (h : s.ProbesSound) :
    (s.setCurrentProbe (.unknown 0xFFFF#16)).ProbesSound :=
  h.setCurrentProbe (by simp) fun i read => by
    cases Option.some.inj read
    decide

/-- A probe that has been read is on the arm, and its ident shows in no slot (R141). -/
theorem State.ProbesSound.expel {s : State} (h : s.ProbesSound) {p : CurrentProbe} {i : Ident}
    (ident : p.ident = some i) (known : ∀ j, p = .known j → j ∈ libraryIdents s.probes.library) :
    (expelIdent i (s.setCurrentProbe p)).ProbesSound := by
  have distinct : (s.setCurrentProbe p).probes.contentsDistinct := h.rack.1
  refine h.transfer (by simpa using h.library) (rackSound_of_expelled distinct i ident) ?_ (by simp) fun j kept => ?_
  · simpa [State.setCurrentProbe] using known
  · simpa [State.setCurrentProbe] using kept

theorem State.ProbesSound.applyNote {s : State} (h : s.ProbesSound) (k : SlotIx) (c : Ident) (src : NotedBy) :
    (applyNote k c src s).ProbesSound :=
  h.transfer (by simpa using h.library) (rackSound_applyNote h.rack k c src) (by simpa using h.known) (by simp)
    fun i kept => by simpa using kept

theorem State.ProbesSound.offerNote {s : State} (h : s.ProbesSound) (k : SlotIx) (c : Ident) :
    (offerNote k c s).ProbesSound :=
  h.of_same (by simp) fun i kept => by simpa using kept

/-! ## The change sequence and the identity read -/

theorem State.ProbesSound.setChange {s : State} (h : s.ProbesSound) {ch ch' : Change}
    (stands : s.probes.change = some ch) (target : ch'.target = ch.target) : (s.setChange (some ch')).ProbesSound :=
  h.of_same ⟨rfl, rfl, fun _ => rfl⟩ fun i kept => by simp [target, targetIs_some kept stands]

theorem State.ProbesSound.beginLeaving {s : State} (h : s.ProbesSound) (ph : Phase) {ch ch' : Change}
    (stands : s.probes.change = some ch) (target : ch'.target = ch.target) : (beginLeaving ph ch' s).ProbesSound :=
  h.of_same (by simp) fun i kept => by simp [target, targetIs_some kept stands]

theorem State.ProbesSound.endRead {s : State} (h : s.ProbesSound) {result : Option Ident}
    (valid : ∀ i, result = some i → validIdent i = true) : (endRead result s).ProbesSound := by
  have ident (p : CurrentProbe) (read : p = .known (readIdent result) ∨ p = .unknown (readIdent result)) :
      p.ident = some (readIdent result) := by rcases read with rfl | rfl <;> rfl
  unfold Machine.endRead
  split
  · exact h
  next r _ =>
  have ended : (s.setProbes { s.probes with read := none }).ProbesSound :=
    h.of_same ⟨rfl, rfl, fun _ => rfl⟩ fun _ kept => kept
  dsimp only
  split
  · split
    · next ch stands =>
      have target := h.target ch stands
      have expelled : (expelIdent (readIdent result) ((s.setProbes { s.probes with read := none }).setCurrentProbe
          (identifiedForChange ch result))).ProbesSound := by
        unfold identifiedForChange
        split
        · next same =>
          refine ended.expel (by simp [CurrentProbe.ident, same, readIdent]) fun j known => ?_
          cases CurrentProbe.known.inj known
          exact target (valid _ same)
        · exact ended.expel rfl (by simp)
      exact expelled.beginLeaving _ (ch := ch) (by simpa using stands) rfl
    · exact ended
  · refine ended.expel ?_ fun j known => ?_
    · unfold identified
      split
      · split <;> rfl
      · rfl
    · unfold identified at known
      split at known
      · split at known
        · next found =>
          cases CurrentProbe.known.inj known
          exact (entry_isSome_iff _ _).mp found
        · cases known
      · cases known

theorem State.ProbesSound.failAttempt {s : State} (h : s.ProbesSound) : (failAttempt s).ProbesSound := by
  unfold Machine.failAttempt
  split
  · exact h
  split
  · exact h.of_same ⟨rfl, rfl, fun _ => rfl⟩ fun _ kept => kept
  · exact h.endRead (by simp)

theorem State.ProbesSound.completeDrop {s : State} (h : s.ProbesSound) {ch : Change}
    (stands : s.probes.change = some ch) : (completeDrop ch s).ProbesSound := by
  unfold Machine.completeDrop
  dsimp only
  split
  · exact ((h.noProbe.applyNote _ _ _).offerNote _ _).beginLeaving _ (by simpa using stands) rfl
  · exact h.noProbe.beginLeaving _ stands rfl

theorem State.ProbesSound.completePick {s : State} (h : s.ProbesSound) {ch : Change}
    (stands : s.probes.change = some ch) : (completePick ch s).ProbesSound := by
  have noted : (match ch.pick with
      | some k => Machine.offerNote k 0x0000#16 (Machine.applyNote k 0x0000#16 (.station s.own) s)
      | none => s).ProbesSound ∧ (match ch.pick with
      | some k => Machine.offerNote k 0x0000#16 (Machine.applyNote k 0x0000#16 (.station s.own) s)
      | none => s).probes.change = some ch := by
    split
    · exact ⟨(h.applyNote _ _ _).offerNote _ _, by simpa using stands⟩
    · exact ⟨h, stands⟩
  obtain ⟨sound, still⟩ := noted
  have picked := sound.unreadProbe.setChange (ch' := { ch with phase := .identifying, seatDue := none }) still rfl
  exact picked.of_same ⟨rfl, rfl, fun _ => rfl⟩ fun _ kept => kept

theorem State.ProbesSound.faultStop {s : State} (h : s.ProbesSound) (r : FaultReason) :
    (faultStop r s).ProbesSound :=
  h.of_same (by simp) fun i kept => by simp [kept]

theorem State.ProbesSound.watchSeated {s : State} (h : s.ProbesSound) (level : Bool) :
    (watchSeated level s).ProbesSound := by
  have noted : (noteSeated level s).ProbesSound := h.of_same ⟨rfl, rfl, fun _ => rfl⟩ fun _ kept => kept
  have seated : ((noteSeated level s).setCurrentProbe (seatedProbe level)).ProbesSound := by
    unfold seatedProbe
    split
    · exact noted.unreadProbe
    · exact noted.noProbe
  unfold Machine.watchSeated
  split
  · exact h
  dsimp only
  split
  · next ch stands =>
    unfold seatedInChange
    split
    · exact noted.completeDrop stands
    · exact noted.completePick stands
    · exact seated.faultStop _
  · unfold seatedOutside
    dsimp only
    split
    · exact seated.faultStop _
    · exact seated.of_same (by simp) fun i kept => by simpa using kept

theorem State.ProbesSound.watch {s : State} (h : s.ProbesSound) (v : Samples) (w : Watch) :
    (watch v w s).ProbesSound := by
  cases w with
  | limit a => exact h.of_same (by simp [Machine.watch]) fun i kept => by simp [kept]
  | drive a => exact h.of_same (by simp [Machine.watch]) fun i kept => by simp [kept]
  | following a => exact h.of_same (by simp [Machine.watch]) fun i kept => by simp [kept]
  | seated => exact h.watchSeated _

theorem State.ProbesSound.motionPeriod {s : State} (h : s.ProbesSound) (v : Samples) (order : List Watch) :
    (motionPeriod v order s).ProbesSound := by
  have moved : (advance (sampleLevels v (s.setClock (s.clock + 1)))).ProbesSound :=
    h.of_same (by simp) fun i kept => by simpa using kept
  unfold Machine.motionPeriod
  exact (State.ProbesSound.foldl (fun _ w ht => ht.watch v w) (watchOrder order) moved).of_same
    ⟨rfl, rfl, fun _ => rfl⟩ fun _ kept => kept

/-! ## The library commands (R137, R138) -/

theorem State.ProbesSound.createEntry {s : State} (h : s.ProbesSound) {i : Ident} (valid : validIdent i = true)
    (absent : (s.entry i) = none) (room : s.probes.library.length < 16) (bank : Bank) {q : QualSet}
    (fits : q.count ≤ 65535) : (createEntry i bank q s).ProbesSound := by
  have new : ¬ i ∈ libraryIdents s.probes.library := by simp [← entry_isSome_iff, absent]
  have idents : libraryIdents (s.probes.library ++ [LibEntry.withSet { ident := i, setA := emptySet, setB := emptySet }
      bank q]) = libraryIdents s.probes.library ++ [i] := by simp [libraryIdents]
  have counts := LibEntry.countsFit.withSet (e := { ident := i, setA := emptySet, setB := emptySet })
    ⟨Nat.zero_le _, Nat.zero_le _⟩ bank fits
  have library : librarySound (s.probes.library ++ [LibEntry.withSet { ident := i, setA := emptySet, setB := emptySet }
      bank q]) := by
    obtain ⟨-, nodup, entries⟩ := h.library
    refine ⟨by simpa using room, ?_, fun x hx => ?_⟩
    · change (libraryIdents _).Nodup
      rw [idents]
      exact List.nodup_append.mpr ⟨nodup, by simp, by rintro a ha b hb rfl; simp_all⟩
    · rw [List.mem_append, List.mem_singleton] at hx
      rcases hx with stood | rfl
      · exact entries x stood
      · exact ⟨by simpa using valid, counts⟩
  have added : (s.setProbes { s.probes with library := s.probes.library ++ [LibEntry.withSet
      { ident := i, setA := emptySet, setB := emptySet } bank q] }).ProbesSound := by
    refine ⟨library, h.rack, fun j known => ?_, fun ch stands ok => ?_⟩
    · simp [idents, h.known j known]
    · simp [idents, h.target ch stands ok]
  unfold Machine.createEntry
  dsimp only
  split
  · refine added.expel rfl fun j known => ?_
    cases CurrentProbe.known.inj known
    simp [idents]
  · exact added

theorem State.ProbesSound.writeProbeSet {s : State} (h : s.ProbesSound) (data : List Byte) :
    (writeProbeSet data s).ProbesSound := by
  have refused (c : Code) : (s.answer c []).ProbesSound := h.of_same ⟨rfl, rfl, fun _ => rfl⟩ fun _ kept => kept
  refine withLength_cases (P := State.ProbesSound) (refused _) ?_
  dsimp only
  split
  · exact refused _
  split
  · exact refused _
  next given =>
  split
  · exact refused _
  split
  · next e found =>
    have fits := LibEntry.countsFit.withSet (h.library.entry_countsFit found) ‹Bank› (q
        := givenSet data) (by simp [givenSet])
    refine h.transfer (librarySound_replaceEntry h.library fits) h.rack h.known ?_ fun _ kept => kept
    exact libraryIdents_replaceEntry _ _
  · next absent =>
    split
    · exact refused _
    · next room =>
      have valid : validIdent (fieldWord 0 data) = true := by
        simp only [Bool.or_eq_true, Bool.not_eq_true', not_or, Bool.not_eq_false] at given
        exact given.1
      exact (h.createEntry valid absent (by omega) _ (by simp [givenSet])).of_same
        ⟨rfl, rfl, fun _ => rfl⟩ fun _ kept => kept

theorem State.ProbesSound.deleteProbe {s : State} (h : s.ProbesSound) (data : List Byte) :
    (deleteProbe data s).ProbesSound := by
  have refused (c : Code) : (s.answer c []).ProbesSound := h.of_same ⟨rfl, rfl, fun _ => rfl⟩ fun _ kept => kept
  refine withLength_cases (P := State.ProbesSound) (refused _) ?_
  dsimp only
  split
  · exact refused _
  split
  · exact refused _
  split
  · exact refused _
  · next free =>
    simp only [identInUse, Bool.or_eq_true, beq_iff_eq, not_or] at free
    obtain ⟨notCarried, notTarget⟩ := free
    have kept (j : Ident) (other : j ≠ fieldWord 0 data) (stood : j ∈ libraryIdents s.probes.library) :
        j ∈ libraryIdents (s.probes.library.filter (·.ident != fieldWord 0 data)) := by
      obtain ⟨e, he, rfl⟩ := List.mem_map.mp stood
      exact List.mem_map.mpr ⟨e, List.mem_filter.mpr ⟨he, by simpa using other⟩, rfl⟩
    obtain ⟨length, nodup, entries⟩ := h.library
    refine ⟨⟨(List.length_filter_le _ _).trans length, ?_, fun x hx => entries x (List.mem_filter.mp hx).1⟩, h.rack,
      fun j known => kept j ?_ (h.known j known), fun ch stands valid => kept _ ?_ (h.target ch stands valid)⟩
    · exact nodup.sublist (List.Sublist.map _ List.filter_sublist)
    · rintro rfl
      exact notCarried (by rw [show s.probes.current = .known _ from known]; rfl)
    · intro same
      exact notTarget (by rw [show s.probes.change = some ch from stands, Option.map_some, same])

/-! ## Every command -/

theorem powerOn_probesSound (p : Pins) : (State.powerOn p).ProbesSound := by
  have content (j : SlotIx) : ((State.powerOn p).probes.slots.get j).content = 0xFFFF#16 :=
    congrArg Slot.content (Vec.get_ofFn _ j)
  have unknown : validIdent 0xFFFF#16 = false := by decide
  refine ⟨⟨Nat.zero_le _, List.nodup_nil, by simp [State.powerOn]⟩, rackSound_of_noProbe (fun j k valid => ?_) ?_,
    fun i known => ?_, by simp [State.powerOn]⟩
  · rw [content, unknown] at valid
    cases valid
  · intro i read
    by_cases seated : p.seated <;> simp_all [State.powerOn, CurrentProbe.ident]
  · by_cases seated : p.seated <;> simp_all [State.powerOn]

theorem touch_countsFit {e : LibEntry} (h : e.countsFit) (bank : Bank) :
    (e.withSet bank (e.set bank).touch).countsFit :=
  h.withSet bank (min_le_left _ _)

theorem State.ProbesSound.takeTouch {s : State} (h : s.ProbesSound) (c : V3 Int) : (takeTouch c s).ProbesSound := by
  unfold Machine.takeTouch
  split
  · exact h.faultStop _
  · exact h.of_same (by simp) fun i kept => by simpa using kept
  · exact h
  · unfold latchTouch
    split
    · split
      · next g _ _ _ _ _ _ _ _ e found =>
        have library := librarySound_replaceEntry h.library
          (touch_countsFit (h.library.entry_countsFit found) (g.bank.getD s.probes.live))
        exact h.transfer (by simpa using library) (rackSound_of_content h.rack (by simp))
          (by simpa using h.known) (by simp) fun i kept => by simpa using kept
      · exact h
    · exact h
  · exact h

theorem changeProbe_target {target : Ident} {s : State} (passes : changeRefusal target s = none)
    (valid : validIdent target = true) : (s.entry target).isSome = true := by
  unfold changeRefusal at passes
  split_ifs at passes with _ _ _ _ _ unknown
  simpa [valid, Option.isSome_iff_ne_none] using unknown

theorem State.ProbesSound.changeProbe {s : State} (h : s.ProbesSound) (data : List Byte) :
    (changeProbe data s).ProbesSound := by
  have refused (c : Code) : (s.answer c []).ProbesSound := h.of_same ⟨rfl, rfl, fun _ => rfl⟩ fun _ kept => kept
  refine withLength_cases (P := State.ProbesSound) (refused _) ?_
  dsimp only
  split
  · exact refused _
  · next passes =>
    refine ⟨by simpa using h.library, rackSound_of_content h.rack (by simp), by simpa using h.known, ?_⟩
    intro ch stands valid
    have target : ch.target = fieldWord 0 data := by
      have begun : some { newChange (fieldWord 0 data) s with phase
          := (newChange (fieldWord 0 data) s).phase } = some ch := by
        simpa [beginChange] using stands
      cases begun
      rfl
    rw [target] at valid ⊢
    have entry := (entry_isSome_iff _ _).mp (changeProbe_target passes valid)
    simpa using entry

theorem exec_keeps_probesSound {c : Instr} {s t : State} (h : s.ProbesSound) (run : exec c s = .next t) :
    t.ProbesSound := by
  have refused (c : Code) : (s.answer c []).ProbesSound := h.of_same ⟨rfl, rfl, fun _ => rfl⟩ fun _ kept => kept
  cases c
  all_goals obtain rfl := Host.Outcome.next.inj run
  case powerOn p => exact (powerOn_probesSound p).of_same ⟨rfl, rfl, fun _ => rfl⟩ fun _ kept => kept
  case resetStation data p =>
    exact withLength_cases (P := State.ProbesSound) (refused _)
      ((powerOn_probesSound p).of_same ⟨rfl, rfl, fun _ => rfl⟩ fun _ kept => kept)
  case changeProbe data => exact h.changeProbe data
  case identifyProbe data =>
    refine withLength_cases (P := State.ProbesSound) (refused _) ?_
    repeat' split
    · exact refused _
    · exact refused _
    · exact h.unreadProbe.of_same ⟨rfl, rfl, fun _ => rfl⟩ fun _ kept => kept
  case writeProbeSet data => exact h.writeProbeSet data
  case deleteProbe data => exact h.deleteProbe data
  case setRackSlot data =>
    refine withLength_cases (P := State.ProbesSound) (refused _) ?_
    split
    · exact refused _
    · exact ((h.applyNote _ _ _).offerNote _ _).of_same ⟨rfl, rfl, fun _ => rfl⟩ fun _ kept => kept
  case motionPeriod v order => exact h.motionPeriod v order
  case touch c => exact h.takeTouch _
  case rackNoteAccepted p k content =>
    change (takeRackNote p k content s).ProbesSound
    unfold takeRackNote
    split
    · have heard : (hear p s).ProbesSound := h.of_same (by simp) fun i kept => by simpa using kept
      have applied := heard.applyNote k content (.station p)
      exact applied.of_same (by simp) fun i kept => by simpa using kept
    · exact h
  case identAnswer high low check =>
    change (takeAnswer high low check s).ProbesSound
    unfold takeAnswer
    dsimp only
    split
    · next good =>
      refine h.endRead fun i read => ?_
      cases Option.some.inj read
      exact good.2
    · exact h.failAttempt
  case identAttemptTimeout =>
    change (attemptTimeout s).ProbesSound
    unfold attemptTimeout
    split
    · exact State.ProbesSound.failAttempt (h.of_same (by simp) fun i kept => by simpa using kept)
    · exact h
  all_goals exact h.of_same (by simp) fun i kept => by simp [kept]

/-- Settles O60: library, rack view and entries command by command, and the bank selector with what is in flight. -/
theorem stepKeepsProbesSound : Obligations.StepKeepsProbesSound := by
  refine ⟨fun s t library rack entries run => ?_, fun s t motion hold bank run => ?_⟩
  · have sound := (State.probesSound_iff s).mpr ⟨library, rack, entries⟩
    refine (State.probesSound_iff t).mp ?_
    rcases step_cases run with rfl | ⟨c, rest, -, run⟩
    · exact sound
    · exact exec_keeps_probesSound (s := s.setPending rest) (sound.of_same ⟨rfl, rfl, fun _ => rfl⟩ fun _ kept => kept)
        run
  · have sound : s.FlightSound True := State.flightSound_iff.mpr ⟨motion, hold, fun _ => bank⟩
    exact (step_keeps_flightSound sound run).bank trivial

end Sys2Proof.Machine
end

section
/-! PROOFS. The step and the reset values (95, R217): the step is by its definition the front command's execution,
and the state after power-on is read off row by row and met with the invariants that every step keeps. -/

namespace Sys2Proof.Machine

/-- What the parts of a command's frame leave is left in its outcome. -/
theorem exec_sameBut {c : Instr} {s t : State} (run : exec c s = .next t) : s.sameBut t (touchedBy c) := by
  obtain ⟨u, done, frame⟩ := everyCommandCompletesInItsParts c s
  obtain rfl : t = u := by simpa [run] using done
  exact frame

/-- Settles O1, by the two branches of the step. -/
theorem stepRunsTheFrontCommand : Obligations.StepRunsTheFrontCommand := by
  refine ⟨fun c rest s front => ?_, fun s empty => ?_⟩
  · rw [step, front]
  · rw [step, empty]

/-! ## The reset values -/

theorem powerOn_axis (p : Pins) (a : Axis) :
    (State.powerOn p).axis a = .reset (p.lower.get a) (p.upper.get a) (p.ready.get a) := by
  cases a <;> rfl

theorem powerOn_cell (p : Pins) (c : Cell) : (State.powerOn p).cell c = .reset := Vec.get_ofFn _ c

theorem powerOn_peer (p : Pins) (q : Station) : (State.powerOn p).peer q = none := Vec.get_ofFn _ q

theorem powerOn_channel (p : Pins) (c : Chan) : (State.powerOn p).temps.channels.get c = .reset :=
  Vec.get_ofFn _ c

theorem powerOn_quantity (p : Pins) (i : Fin 5) : (State.powerOn p).temps.quantities.get i = .reset :=
  Vec.get_ofFn _ i

theorem powerOn_slot (p : Pins) (k : SlotIx) : (State.powerOn p).probes.slots.get k = .reset :=
  Vec.get_ofFn _ k

/-- No channel has a kind and no peer is present, so nothing contributes to PART MEAN. -/
theorem powerOn_partContributors (p : Pins) : partContributors (State.powerOn p) = [] := by
  have local_none : ∀ c, ((State.powerOn p).temps.channels.get c).kind = none := fun c => by
    rw [powerOn_channel]; rfl
  have peer_none : ∀ q, (State.powerOn p).peers.entries.get q = none := powerOn_peer p
  simp [partContributors, local_none, peer_none]

theorem powerOn_partMean (p : Pins) : partMean (State.powerOn p) = none := by
  simp [partMean, powerOn_partContributors]

/-- No event is pending, so the line is released. -/
theorem powerOn_attentionLine (p : Pins) : (State.powerOn p).attentionLine = false := by
  simp [State.attentionLine, State.attention, State.powerOn]

/-- No record and no probe: nothing waits for a hold. -/
theorem powerOn_runningWait (p : Pins) : (State.powerOn p).runningWait = false := by
  simp [State.runningWait, State.powerOn]

/-- Settles O3: the state after power-on, row by row. -/
theorem powerOnGivesTheResetValues : Obligations.PowerOnGivesTheResetValues := by
  intro p s
  refine ⟨_, rfl, rfl, rfl, powerOn_axis p, rfl, rfl, rfl, rfl, rfl, rfl, powerOn_runningWait p, powerOn_cell p,
    rfl, rfl, rfl, rfl, rfl, rfl, rfl, powerOn_peer p, rfl, rfl, powerOn_channel p, powerOn_quantity p,
    powerOn_partMean p, rfl, rfl, rfl, rfl, rfl, rfl, rfl, rfl, powerOn_slot p, rfl, rfl, rfl, rfl, rfl, rfl,
    rfl, rfl, rfl, rfl, rfl, rfl, rfl, rfl, rfl, rfl, powerOn_attentionLine p, rfl⟩

/-! ## The invariants after reset -/

theorem powerOn_linkSound (p : Pins) : (State.powerOn p).link.Sound :=
  ⟨Nat.zero_le _, List.Pairwise.nil, by simp [State.powerOn], Nat.zero_le _, fun _ => rfl,
    by simp [State.powerOn], Nat.zero_le _, by simp [State.powerOn]⟩

theorem powerOn_zoneSound (p : Pins) : (State.powerOn p).ZoneSound :=
  ⟨by simp [State.powerOn], powerOn_peer p _, fun _ => ⟨rfl, rfl⟩⟩

theorem powerOn_holdSound (p : Pins) : (State.powerOn p).HoldSound :=
  ⟨by simp [State.powerOn], by simp [State.powerOn], fun _ => ⟨rfl, rfl, rfl, rfl⟩, fun _ => rfl,
    fun level => absurd rfl level⟩

/-- Settles O55: each invariant holds after power-on. -/
theorem resetIsSound : Obligations.ResetIsSound := by
  obtain ⟨library, rack, entries⟩ := (State.probesSound_iff _).mp (powerOn_probesSound Pins.low)
  exact ⟨powerOn_pointsSound _, powerOn_linkSound _, powerOn_motionSound _, powerOn_scalesSound _,
    powerOn_tempsSound _, library, rack, entries, powerOn_holdSound _, powerOn_zoneSound _,
    ⟨fun _ _ _ none_waits => absurd none_waits (by simp [State.reset, State.powerOn]), rfl⟩,
    fun _ waits => absurd waits (by simp [State.reset, State.powerOn]),
    fun pends => absurd pends (by simp [State.reset, State.powerOn])⟩

end Sys2Proof.Machine
end

section
/-! PROOFS. The host port (chapter 10). The lengths of Table 10-5, the frame of Table 10-1 read back from its bytes
and from its bits, the reply as it is shifted out, and the replies of the read commands by the lengths of their
fields. -/

namespace Sys2Proof.Machine

/-! ## Data lengths (R201) -/

theorem withLength_of_ne {n : Nat} {data : List Byte} {s act : State} (h : data.length ≠ n) :
    withLength n data s act = s.answer .outOfRange [] := if_neg h

theorem configure_of_wrong_length {data : List Byte} (s : State) (h : data.length < 3 ∨ 60 < data.length) :
    configure data s = s.answer .outOfRange (one s.own.val) := by
  rw [configure, if_pos h, answerNumbered, List.nil_append]

theorem start_of_wrong_length {data : List Byte} (s : State) (h : data.length ≠ 0) :
    start data s = s.answer .outOfRange (one s.own.val) := by
  rw [start, if_pos h, answerNumbered, List.nil_append]

/-- Settles O7: for each code of Table 10-5 the command's own length check. -/
theorem wrongDataLengthIsRefused : Obligations.WrongDataLengthIsRefused := by
  intro pins code data c lo hi s named length wrong
  unfold hostInstr at named
  split at named
  case h_1 is =>
    cases named
    rw [is, commandLength] at length
    cases length
    rw [if_pos (Or.inl is)]
    exact congrArg Host.Outcome.next (configure_of_wrong_length s wrong)
  case h_2 is =>
    cases named
    rw [is, commandLength] at length
    cases length
    rw [if_pos (Or.inr is)]
    exact congrArg Host.Outcome.next (start_of_wrong_length s (by omega))
  case h_35 => cases named
  all_goals
    next is =>
      cases named
      rw [is, commandLength] at length
      cases length
      rw [is, if_neg (by decide)]
      exact congrArg Host.Outcome.next (withLength_of_ne (by omega))

/-! ## Bits and bytes -/

theorem bitsNat_foldl_msbBits (n x a : Nat) :
    (msbBits n x).foldl (fun a b => 2 * a + if b then 1 else 0) a = 2 ^ n * a + x % 2 ^ n := by
  induction n generalizing a with
  | zero => simp [msbBits, Nat.mod_one]
  | succ n ih =>
    have bit : (if x.testBit n then 1 else 0) = x / 2 ^ n % 2 := by rw [← Nat.toNat_testBit]; cases x.testBit n <;> rfl
    rw [msbBits, List.foldl_cons, ih, bit, Nat.mod_pow_succ, pow_succ]
    ring

/-- The bits of a number, read back. -/
theorem bitsNat_msbBits (n x : Nat) : bitsNat (msbBits n x) = x % 2 ^ n := by
  rw [bitsNat, bitsNat_foldl_msbBits, mul_zero, zero_add]

@[simp] theorem length_msbBits (n x : Nat) : (msbBits n x).length = n := by
  induction n with
  | zero => rfl
  | succ n ih => simp [msbBits, ih]

@[simp] theorem length_byteBits (b : Byte) : (byteBits b).length = 8 := length_msbBits 8 _

@[simp] theorem ofNat_bitsNat_byteBits (b : Byte) : BitVec.ofNat 8 (bitsNat (byteBits b)) = b := by
  apply BitVec.eq_of_toNat_eq
  rw [byteBits, bitsNat_msbBits, BitVec.toNat_ofNat]
  omega

/-- Pieces of one length, one after another, are taken apart again. -/
theorem groups_flatMap {α : Type} {k : Nat} {f : α → List Bool} (size : ∀ a, (f a).length = k) (l : List α)
    (more : List Bool) : groups k l.length (l.flatMap f ++ more) = l.map f := by
  induction l with
  | nil => rfl
  | cons a l ih =>
    rw [List.length_cons, groups, List.flatMap_cons, List.append_assoc, List.take_left' (size a),
      List.drop_left' (size a), ih, List.map_cons]

theorem length_flatMap_of_length {α β : Type} {f : α → List β} {k : Nat} (size : ∀ a, (f a).length = k)
    (l : List α) : (l.flatMap f).length = k * l.length := by
  induction l with
  | nil => rfl
  | cons a l ih => simp [ih, size, Nat.mul_succ, Nat.add_comm]

/-- The bits of whole bytes are those bytes, and the select period ends with a byte (R195). -/
theorem readSelect_byteBits (bytes : List Byte) : readSelect (bytes.flatMap byteBits) = (bytes, false) := by
  have count : (bytes.flatMap byteBits).length = 8 * bytes.length :=
    length_flatMap_of_length length_byteBits bytes
  have pieces := groups_flatMap length_byteBits bytes []
  rw [List.append_nil] at pieces
  simp [readSelect, count, pieces, Function.comp_def]

/-! ## The frame of Table 10-1 -/

/-- The characters of a host frame before its check byte. -/
def hostBody (code : Byte) (data : List Byte) : List Byte := code :: BitVec.ofNat 8 data.length :: data

theorem encodeHostFrame_eq (code : Byte) (data : List Byte) :
    encodeHostFrame code data = hostBody code data ++ [crc8 (hostBody code data)] := rfl

theorem length_hostBody (code : Byte) (data : List Byte) : (hostBody code data).length = data.length + 2 := rfl

/-- A frame laid out as Table 10-1 passes every check, with 00h behind it. -/
theorem checkHostFrame_encodeHostFrame {code : Byte} {data : List Byte} (draws : Nat) (short : data.length ≤ 60)
    (lo : 1 ≤ code.toNat) (hi : code.toNat ≤ 0x22) :
    checkHostFrame (encodeHostFrame code data ++ List.replicate draws 0#8) false = none := by
  have count : data.length % 256 = data.length := Nat.mod_eq_of_lt (by omega)
  rw [encodeHostFrame_eq, checkHostFrame_eq_firstFailed]
  simp only [hostFrameChecks, firstFailed_cons, firstFailed_nil, List.append_assoc, List.cons_append,
    List.nil_append]
  have three : ¬ data.length + (draws + 1) + 1 + 1 < 3 := by omega
  simp [hostBody, count, lo, hi, three, not_lt.mpr short]

theorem decodeHostFrame_encodeHostFrame (pins : Pins) {code : Byte} {data : List Byte} (draws : Nat)
    (short : data.length ≤ 60) (lo : 1 ≤ code.toNat) (hi : code.toNat ≤ 0x22) :
    decodeHostFrame pins (encodeHostFrame code data ++ List.replicate draws 0#8) false
      = hostInstr pins code data := by
  have count : data.length % 256 = data.length := Nat.mod_eq_of_lt (by omega)
  rw [decodeHostFrame_of_passed pins (.inl (by simp [encodeHostFrame]))
    (checkHostFrame_encodeHostFrame draws short lo hi)]
  simp [encodeHostFrame, count]

theorem hostInstr_isSome (pins : Pins) {code : Byte} (data : List Byte) (lo : 1 ≤ code.toNat)
    (hi : code.toNat ≤ 0x22) : (hostInstr pins code data).isSome := by
  unfold hostInstr
  generalize code.toNat = n at lo hi
  interval_cases n <;> rfl

theorem selectInstr_byteBits (pins : Pins) {bytes : List Byte} (some_byte : bytes ≠ []) :
    selectInstr pins (bytes.flatMap byteBits) = decodeHostFrame pins bytes false := by
  have edge : bytes.flatMap byteBits ≠ [] := by
    obtain ⟨b, rest, rfl⟩ := List.exists_cons_of_ne_nil some_byte
    exact List.ne_nil_of_length_pos (by simp)
  rw [selectInstr, if_neg (by simpa using edge), readSelect_byteBits]

/-- Settles O8: the five checks pass, the bytes decode to the code and the data, and the bits to the bytes. -/
theorem hostFrameIsReadBack : Obligations.HostFrameIsReadBack := by
  intro pins code data draws short lo hi
  have decoded := decodeHostFrame_encodeHostFrame pins draws short lo hi
  have selected : selectInstr pins ((encodeHostFrame code data ++ List.replicate draws 0#8).flatMap byteBits)
      = hostInstr pins code data := by
    rw [selectInstr_byteBits pins (by simp [encodeHostFrame]), decoded]
  exact ⟨checkHostFrame_encodeHostFrame draws short lo hi, decoded, selected,
    fun atPowerOn => by rw [selectPeriodInstr, selected], hostInstr_isSome pins data lo hi⟩

/-! ## The reply shifted out (R199, R200) -/

theorem crc8Bit_iterate_zero (n : Nat) : (crc8Bit)^[n] 0#8 = 0#8 := by
  induction n with
  | zero => rfl
  | succ n ih => rw [Function.iterate_succ_apply', ih]; rfl

/-- Characters with their CRC-8 behind them have the CRC-8 zero. -/
theorem crc8_append_crc8 (l : List Byte) : crc8 (l ++ [crc8 l]) = 0#8 := by
  have last : crc8 (l ++ [crc8 l]) = crc8Byte (crc8 l) (crc8 l) := by simp [crc8]
  rw [last, crc8Byte, BitVec.xor_self, crc8Bit_iterate_zero]

theorem StationState.num_le : ∀ m : StationState, m.num ≤ 2 := by
  intro m; cases m <;> decide

theorem MotionState.num_le : ∀ m : MotionState, m.num ≤ 5 := by
  intro m; cases m <;> decide

theorem bitAt_eq (k : Nat) (v : Bool) : bitAt k v = if v then 2 ^ k else 0 := rfl

/-- The status byte's fields (Table 10-3) fill its eight bits without overlap. -/
theorem toNat_statusByte (s : State) :
    s.statusByte.toNat = 64 * s.station.state.num + 8 * s.motion.state.num
      + (if s.events.pending &&& s.events.enable = 0#20 then 0 else 4)
      + (if s.points.suspect then 2 else 0) + (if s.points.hold then 1 else 0) := by
  have station := s.station.state.num_le
  have motion := s.motion.state.num_le
  have line : bitAt 2 s.attention = if s.events.pending &&& s.events.enable = 0#20 then 0 else 4 := by
    simp [bitAt, State.attention]
  have suspect : bitAt 1 s.points.suspect = if s.points.suspect then 2 else 0 := rfl
  have hold : bitAt 0 s.points.hold = if s.points.hold then 1 else 0 := rfl
  rw [State.statusByte, BitVec.toNat_ofNat, line, suspect, hold]
  split_ifs <;> omega

theorem take_append_replicate (l : List Bool) (n : Nat) :
    l.take n ++ List.replicate (n - l.length) false = (l ++ List.replicate n false).take n := by
  rw [List.take_append, List.take_replicate, Nat.min_eq_left (Nat.sub_le _ _)]

/-- Settles O10: the reply's characters, their check byte, the bits on the data output, the status byte. -/
theorem replyIsShiftedOut : Obligations.ReplyIsShiftedOut := by
  intro s
  refine ⟨shiftOut s, s.statusByte, rfl, sameBut_shiftOut s, rfl, ?_, ?_, fun n => ?_, toNat_statusByte s⟩
  · have body : (shiftOut s).port.shiftOut.dropLast = s.statusByte :: BitVec.ofNat 8 s.port.reply.code.num
        :: BitVec.ofNat 8 s.port.reply.data.length :: s.port.reply.data := List.dropLast_concat
    rw [body]
    rfl
  · exact crc8_append_crc8 _
  · exact take_append_replicate _ n

/-! ## Replies in parts (R202) -/

theorem length_flatMap_toList {n k : Nat} {α : Type} {f : α → List Byte} (size : ∀ a, (f a).length = k)
    (v : Vec n α) : (v.toList.flatMap f).length = k * n := by
  rw [length_flatMap_of_length size, v.size_eq]

theorem length_flatMap_finRange {n k : Nat} {f : Fin n → List Byte} (size : ∀ a, (f a).length = k) :
    ((List.finRange n).flatMap f).length = k * n := by
  rw [length_flatMap_of_length size, List.length_finRange]

theorem next_answerPart {content : List Byte} {n : Nat} (parts : partCount content = n) (part : Nat) (s : State) :
    (.next (answerPart part content s) : Result)
      = if part < n then .next (s.answer .ok (one part ++ one n ++ (content.drop (58 * part)).take 58))
        else .next (s.answer .outOfRange []) := by
  rw [answerPart, parts, slice]
  split <;> rfl

theorem length_optional_yesNo {α : Type} (f : α → Bool) (o : Option α) :
    (optional 1 (fun v => yesNo (f v)) o).length = 2 := length_optional (fun _ => length_yesNo _) o

theorem length_axisBytes (c : AxisChan) : (axisBytes c).length = 14 := by simp [axisBytes]

theorem partCount_statusReply (s : State) : partCount (statusReply s) = 3 := by
  simp [partCount, statusReply, axesReply, motionReply, linkReply, pointsReply, corrReply, length_axisBytes, length_optional]

theorem length_channelBytes (c : Channel) : (channelBytes c).length = 12 := by
  simp [channelBytes, length_optional]

theorem length_quantityBytes (s : State) (i : Fin 5) : (quantityBytes s i).length = 20 := by
  simp [quantityBytes, length_optional, length_optional_yesNo]

theorem partCount_temperaturesReply (s : State) : partCount (temperaturesReply s) = 4 := by
  simp [partCount, temperaturesReply, length_flatMap_toList length_channelBytes,
    length_flatMap_finRange (length_quantityBytes s), length_optional]

theorem length_cellBytes (s : State) (c : Cell) : (cellBytes s c).length = 18 := by
  simp [cellBytes, length_optional]

theorem length_claimBytes (o : Option Claim) : (claimBytes o).length = 21 := by
  simp [claimBytes, length_optional, length_optional_yesNo, cellSetBytes]

theorem partCount_zoneReply (s : State) : partCount (zoneReply s) = 7 := by
  simp [partCount, zoneReply, length_flatMap_finRange (length_cellBytes s), length_claimBytes, cellSetBytes]

theorem length_slotBytes (k : Slot) : (slotBytes k).length = 4 := by simp [slotBytes]

theorem partCount_rackReply (s : State) : partCount (rackReply s) = 2 := by
  simp [partCount, rackReply, length_flatMap_toList length_slotBytes]

theorem length_setBytes (o : Option QualSet) : (setBytes o).length = 29 := by
  simp [setBytes, length_optional, length_optional_yesNo]

theorem length_changeBytes (o : Option Change) : (changeBytes o).length = 13 := by
  simp [changeBytes, length_optional, length_optional_yesNo]

theorem partCount_probeReply (e : Option LibEntry) (s : State) : partCount (probeReply e s) = 2 := by
  simp [partCount, probeReply, length_setBytes, length_changeBytes, length_optional, bankReply]

theorem readProbe_current {part : Nat} (byte : part < 256) (s : State) :
    readProbe (word 0x0000#16 ++ one part) s = answerPart part (probeReply s.currentEntry s) s := by
  have number : field 2 1 (word 0x0000#16 ++ one part) = part := by
    rw [field, slice_tail (length_word _) (length_one _), beNat_one byte]
  rw [readProbe, withLength_eq (by simp), fieldWord_word_append, number]
  rfl

theorem readProbe_entry {part : Nat} (byte : part < 256) {i : Ident} {e : LibEntry} {s : State}
    (valid : validIdent i = true) (stands : s.entry i = some e) :
    readProbe (word i ++ one part) s = answerPart part (probeReply (some e) s) s := by
  have number : field 2 1 (word i ++ one part) = part := by
    rw [field, slice_tail (length_word _) (length_one _), beNat_one byte]
  have nonzero : i ≠ 0x0000#16 := fun zero => by simp [validIdent, zero] at valid
  rw [readProbe, withLength_eq (by simp), fieldWord_word_append, number]
  simp [nonzero, valid, stands]

theorem readPart_eq {part : Nat} (byte : part < 256) (content : List Byte) (s : State) :
    withLength 1 (one part) s (answerPart (field 0 1 (one part)) content s) = answerPart part content s := by
  rw [withLength_eq (length_one _), field_one byte]

/-- Settles O11: each reply's fields have fixed lengths, and with them it has a fixed number of parts. -/
theorem repliesInPartsHaveFixedSizes : Obligations.RepliesInPartsHaveFixedSizes := by
  intro part s byte answered
  have answer_eq {n : Nat} {content : List Byte} (parts : partCount content = n) :
      (.next (answerPart part content s) : Result) = answered n content := next_answerPart parts part s
  refine ⟨?_, ?_, ?_, ?_, ?_, fun i e valid stands => ?_⟩
  · exact (congrArg _ (readPart_eq byte (statusReply s) s)).trans (answer_eq (partCount_statusReply s))
  · exact (congrArg _ (readPart_eq byte (temperaturesReply s) s)).trans (answer_eq (partCount_temperaturesReply s))
  · exact (congrArg _ (readPart_eq byte (zoneReply s) s)).trans (answer_eq (partCount_zoneReply s))
  · exact (congrArg _ (readPart_eq byte (rackReply s) s)).trans (answer_eq (partCount_rackReply s))
  · exact (congrArg _ (readProbe_current byte s)).trans (answer_eq (partCount_probeReply _ s))
  · exact (congrArg _ (readProbe_entry byte valid stands)).trans (answer_eq (partCount_probeReply _ s))

/-! ## READ PEER, READ EVENTS and PEEK POINT (R106, R186, R206) -/

theorem readPeer_eq (p : Station) (s : State) :
    readPeer (one p.val) s = s.answer .ok (peerReply (s.peer p) s) := by
  have byte : p.val < 256 := by omega
  rw [readPeer, withLength_eq (length_one _), field_one byte, indexOf_val]

/-- The fields of a peer's report, absent without one. -/
def reportFields (rep : Option Report) : List Byte :=
  optional 1 (fun r : Report => yesNo r.active) rep
    ++ optional 3 (fun r : Report => cellSetBytes r.held) rep
    ++ optional 3 (fun r : Report => cellSetBytes r.waiting) rep
    ++ optional 2 (fun r : Report => word r.carried) rep
    ++ optional 1 (fun r : Report => one r.readings.length) rep
    ++ ((rep.map (·.readings)).getD []).flatMap peerReadingBytes

/-- The fields of a peer that is present, before its report. -/
def presentFields (e : Peer) (s : State) : List Byte :=
  1#8 :: (1#8 :: yesNo e.lost) ++ (1#8 :: beBytes 4 (min 65535 (s.clock - e.lastHeard)))

theorem length_presentFields (e : Peer) (s : State) : (presentFields e s).length = 8 := by simp [presentFields]

theorem peerReply_present (e : Peer) (s : State) :
    peerReply (some e) s = presentFields e s ++ reportFields e.report := by
  simp [peerReply, presentFields, reportFields, optional, yesNo]

theorem length_peerReadingBytes (r : Reading) : (peerReadingBytes r).length = 5 := by simp [peerReadingBytes]

theorem length_reportFields (r : Report) : (reportFields (some r)).length = 15 + 5 * r.readings.length := by
  simp [reportFields, optional, cellSetBytes, length_flatMap_of_length length_peerReadingBytes]
  omega

/-- The number of readings stands behind 13 bytes of the report's other fields. -/
theorem reportFields_readings (r : Report) :
    ((reportFields (some r)).drop 13).take 2 = 1#8 :: one r.readings.length := by
  simp [reportFields, optional, cellSetBytes, word, yesNo, one, beBytes]

theorem length_keptBytes (k : Kept) : (keptBytes k).length = 57 := by
  simp [keptBytes, length_optional, length_optional length_yesNo, cellSetBytes]

theorem length_eventReply (s : State) : (eventReply s).length = 65 := by
  simp [eventReply, eventBytes, length_keptBytes]

theorem length_recordBytes (r : PointRecord) :
    (recordBytes r).length = if r.raw.point.isSome then 31 else 19 := by
  cases point : r.raw.point <;> simp [recordBytes, point, length_flatMap_toList length_temp]

/-- Settles O12: the layouts by the lengths of their fields. -/
theorem readsChangeOnlyTheReply : Obligations.ReadsChangeOnlyTheReply := by
  intro s
  refine ⟨fun p => ⟨_, rfl, sameBut_readPeer _ s, ?_⟩, ⟨_, rfl, sameBut_readEvents _ s, rfl, rfl, ?_, ?_⟩,
    ⟨_, rfl, sameBut_peekPoint _ s, rfl, fun empty => ?_, fun r rest records => ?_⟩⟩
  · rw [readPeer_eq]
    refine ⟨rfl, rfl, fun absent => ?_, fun e present => ⟨?_, fun noReport => ?_, fun r report => ⟨?_, ?_⟩⟩⟩
    · change peerReply (s.peer p) s = _
      rw [absent]
      rfl
    · change (peerReply (s.peer p) s).take 8 = _
      rw [present, peerReply_present, List.take_left' (length_presentFields e s)]
      rfl
    · change (peerReply (s.peer p) s).drop 8 = _
      rw [present, peerReply_present, List.drop_left' (length_presentFields e s), noReport]
      rfl
    · change (peerReply (s.peer p) s).length = _
      rw [present, peerReply_present, List.length_append, length_presentFields, report, length_reportFields]
      omega
    · change ((peerReply (s.peer p) s).drop 21).take 2 = _
      rw [present, peerReply_present, report, ← reportFields_readings r, ← List.drop_drop (i := 13) (j := 8),
        List.drop_left' (length_presentFields e s)]
  · exact length_eventReply s
  · change (eventReply s).take 8 = _
    exact List.take_left' (by simp [eventBytes])
  · change ({ code := _, data := _ } : Reply) = _
    simp [empty, pointReply]
  · change (if s.points.records.isEmpty then Code.empty else .ok) = _
      ∧ pointReply s.points.records.length s.points.overrun s.points.records.head? = _
      ∧ (pointReply s.points.records.length s.points.overrun s.points.records.head?).length = _
    simp only [records, List.isEmpty_cons, List.length_cons, List.head?_cons]
    refine ⟨rfl, rfl, ?_⟩
    simp only [pointReply, List.length_append, length_one, length_recordBytes]
    split <;> rfl

end Sys2Proof.Machine
end

section
/-! PROOFS. Start-up and configuration (chapter 11): the parts of a CONFIGURE and what they make of the assembly, the
ranges of Table 11-2 field by field, the accepted block, and the station that START makes. -/

namespace Sys2Proof.Machine

/-! ## The parts (R212) -/

theorem configure_in_config {data : List Byte} {s : State} (config : s.station.state = .config)
    (long : 3 ≤ data.length) (short : data.length ≤ 60) : configure data s = takePart data s := by
  rw [configure, if_neg (by omega), if_neg (not_not_intro config)]

theorem configure_outside_config {data : List Byte} {s : State} (started : s.station.state ≠ .config)
    (long : 3 ≤ data.length) (short : data.length ≤ 60) :
    configure data s = s.answer .wrongState (one s.own.val) := by
  rw [configure, if_neg (by omega), if_pos started, answerNumbered, List.nil_append]

/-- What bars a part from the assembly: a wrong number of parts, a part above 16, a wrong length, a part that is
neither the first nor the next (R212). -/
def partRefused (data : List Byte) (s : State) : Prop :=
  field 1 1 data ≠ 17 ∨ 16 < field 0 1 data
    ∨ data.length ≠ (if field 0 1 data = 16 then 7 else 60)
    ∨ (field 0 1 data ≠ 0 ∧ field 0 1 data ≠ s.station.assembly.next)

theorem takePart_refused {data : List Byte} {s : State} (h : partRefused data s) :
    takePart data s = answerNumbered .outOfRange [] (dropAssembly s) := by
  have refused : ¬ (field 1 1 data = 17 ∧ field 0 1 data ≤ 16
      ∧ (data.drop 2).length = (if field 0 1 data = 16 then 5 else 58)
      ∧ (field 0 1 data = 0 ∨ field 0 1 data = s.station.assembly.next)) := by
    rw [List.length_drop]
    rintro ⟨parts, number, size, place⟩
    rcases h with wrong | above | length | neither
    · exact wrong parts
    · omega
    · split_ifs at length size <;> omega
    · omega
  rw [takePart, if_neg refused]

theorem field_second {k n : Nat} (byte : n < 256) (content : List Byte) :
    field 1 1 (one k ++ one n ++ content) = n := by
  rw [field, slice_after (length_one k) (length_one n), beNat_one byte]

theorem field_first {k n : Nat} (byte : k < 256) (content : List Byte) :
    field 0 1 (one k ++ one n ++ content) = k := by
  rw [List.append_assoc, field_one_append byte]

theorem takePart_in_place {k : Nat} {content : List Byte} {s : State} (number : k ≤ 16)
    (size : content.length = if k = 16 then 5 else 58) (place : k = 0 ∨ k = s.station.assembly.next) :
    takePart (one k ++ one 17 ++ content) s
      = if k = 0 then addPart content 1 s
        else if k = 16 then checkBlock (s.station.assembly.content ++ content) s
        else addPart (s.station.assembly.content ++ content) (k + 1) s := by
  have first : field 0 1 (one k ++ one 17 ++ content) = k := field_first (by omega) content
  have second : field 1 1 (one k ++ one 17 ++ content) = 17 := field_second (by decide) content
  have rest : (one k ++ one 17 ++ content).drop 2 = content := rfl
  rw [takePart, first, second, rest, if_pos ⟨rfl, number, size, place⟩]

/-- Settles O4: a part in its place joins, any other discards the assembly, and outside CONFIG none is read. -/
theorem configurePartsJoinOrAreRefused : Obligations.ConfigurePartsJoinOrAreRefused := by
  refine ⟨fun k content s config number place size => ?_, fun data s long short => ⟨fun started => ?_,
    fun config refused => ?_⟩⟩
  · have joined := takePart_in_place (content := content) number.le (by rw [if_neg number.ne, size]) place
    refine congrArg Host.Outcome.next ?_
    rw [configure_in_config config (by simp; omega) (by simp; omega), joined, if_neg number.ne]
    split_ifs with zero
    · rw [zero]
      rfl
    · rfl
  · exact congrArg Host.Outcome.next (configure_outside_config started long short)
  · refine congrArg Host.Outcome.next ?_
    rw [configure_in_config config long short, takePart_refused refused]
    rfl

/-! ## The ranges of Table 11-2 (R213) -/

theorem within_natCast {lo hi n : Nat} : within lo hi n = true ↔ lo ≤ n ∧ n ≤ hi := by
  simp [within]

theorem inTravel_blockV3 (b : List Byte) (off : Nat) : inTravel (blockV3 b off) = true ↔ travelAt off b := by
  simp only [inTravel, travelAt, Bool.and_eq_true, decide_eq_true_eq, and_assoc]
  rfl

theorem softInRange_readSoft (b : List Byte) (travel : Int) (i : Nat) :
    softInRange travel (readSoft b i) = true ↔ softAt (820 + 8 * i) travel b := by
  simp only [softInRange, softAt, Bool.and_eq_true, decide_eq_true_eq]
  rw [and_right_comm, and_assoc]
  rfl

theorem within_blockNat (b : List Byte) (off n lo hi : Nat) :
    within lo hi (blockNat b off n) = true ↔ fieldBetween off n lo hi b := within_natCast

theorem blockNat_le (b : List Byte) (off n hi : Nat) :
    decide (blockNat b off n ≤ hi) = true ↔ fieldBetween off n 0 hi b := by
  simp only [decide_eq_true_eq, fieldBetween, Nat.zero_le, true_and]
  rfl

theorem sourceInRange_iff (b : List Byte) (i : Fin 5) :
    sourceInRange b i = true ↔
      fieldBetween (900 + 5 * i.val) 1 0 (if i = 4 then 2 else 1) b
        ∧ fieldBetween (901 + 5 * i.val) 1 0 7 b ∧ fieldBetween (902 + 5 * i.val) 1 0 7 b
        ∧ fieldBetween (903 + 5 * i.val) 1 0 1 b ∧ fieldBetween (904 + 5 * i.val) 1 0 7 b := by
  have place (k : Nat) : 900 + 5 * i.val + k = 900 + k + 5 * i.val := by omega
  have last : i.val = 4 ↔ i = 4 := ⟨fun h => Fin.ext h, fun h => h ▸ rfl⟩
  simp only [sourceInRange, place, blockNat, fieldBetween, Bool.and_eq_true, Bool.or_eq_true, decide_eq_true_eq,
    beq_iff_eq, last, and_assoc, Nat.zero_le, true_and, Nat.reduceAdd]
  refine and_congr_left fun _ => ?_
  split_ifs with h <;> simp [h]
  omega

/-- Each field's check is its row of Table 11-2. -/
theorem fieldInRange_iff (b : List Byte) (n : Nat) : fieldInRange b n = true ↔ inTableRange b n := by
  unfold fieldInRange inTableRange
  dsimp only
  split
  case h_1 => simp [readBlock, readCell, blockInt]
  case h_2 =>
    simp only [within, Bool.and_eq_true, decide_eq_true_eq]
    rfl
  case h_3 => simp [readBlock, readSlot, inTravel_blockV3, Nat.add_right_comm]
  case h_4 => simp only [readBlock, Bool.and_eq_true, softInRange_readSoft, and_assoc]
  case h_5 => exact within_blockNat b _ _ _ _
  case h_6 => exact inTravel_blockV3 b _
  case h_7 =>
    simp only [readBlock, Bool.and_eq_true, and_assoc]
    exact and_congr (within_blockNat b _ _ _ _)
      (and_congr (within_blockNat b _ _ _ _) (within_blockNat b _ _ _ _))
  case h_8 => exact within_blockNat b _ _ _ _
  case h_9 => exact within_blockNat b _ _ _ _
  case h_10 => exact blockNat_le b _ _ _
  case h_11 => exact blockNat_le b _ _ _
  case h_12 =>
    simp only [V3.all, Bool.and_eq_true, and_assoc]
    exact and_congr (blockNat_le b _ _ _) (and_congr (blockNat_le b _ _ _) (blockNat_le b _ _ _))
  case h_13 =>
    simp only [List.all_eq_true, List.mem_finRange, true_imp_iff, Bool.and_eq_true, blockNat_le,
      Nat.add_right_comm]
  case h_14 => simp [sourceInRange_iff]
  case h_15 => exact blockNat_le b _ _ _
  case h_16 =>
    have level_iff : within 8 64 (readBlock b).holdLevel = true ↔ fieldBetween 927 1 8 64 b :=
      within_blockNat b _ _ _ _
    split_ifs with level
    · have zero : field 927 1 b = 0 := level
      simp only [zero, beq_iff_eq, true_and, not_lt_zero, and_false, or_false]
      rfl
    · have nonzero : ¬ field 927 1 b = 0 := level
      simp only [nonzero, level_iff, Bool.and_eq_true, decide_eq_true_eq, false_and, false_or]
      rfl
  case h_17 =>
    simp only [readBlock, Bool.and_eq_true]
    exact and_congr (within_blockNat b _ _ _ _) (within_blockNat b _ _ _ _)
  case h_18 => simp

theorem firstBadField_eq_some (b : List Byte) (n : Nat) :
    firstBadField b = some n ↔
      1 ≤ n ∧ n ≤ 17 ∧ ¬ inTableRange b n ∧ ∀ m, 1 ≤ m → m < n → inTableRange b m := by
  simp only [firstBadField, List.find?_range'_eq_some, Bool.not_eq_true', Bool.not_eq_false',
    List.mem_range'_1, ← fieldInRange_iff, Bool.not_eq_true]
  constructor
  · rintro ⟨bad, ⟨lo, hi⟩, before⟩
    exact ⟨lo, by omega, bad, before⟩
  · rintro ⟨lo, hi, bad, before⟩
    exact ⟨bad, ⟨lo, by omega⟩, before⟩

theorem firstBadField_eq_none (b : List Byte) :
    firstBadField b = none ↔ ∀ n, 1 ≤ n → n ≤ 17 → inTableRange b n := by
  simp only [firstBadField, List.find?_range'_eq_none, Bool.not_not, fieldInRange_iff]
  exact forall_congr' fun n => imp_congr_right fun _ => imp_congr_left (by omega)

/-! ## The last part (R213, R214) -/

theorem blockCrcOk_iff (b : List Byte) : blockCrcOk b = true ↔ (crc16 (b.take 931)).toNat = field 931 2 b := by
  rw [blockCrcOk, beq_iff_eq]

theorem configure_last {last : List Byte} {s : State} (config : s.station.state = .config)
    (next : s.station.assembly.next = 16) (size : last.length = 5) :
    configure (one 16 ++ one 17 ++ last) s = checkBlock (s.station.assembly.content ++ last) s := by
  rw [configure_in_config config (by simp [size]) (by simp [size]),
    takePart_in_place (by decide) (by rw [size]; rfl) (.inr next.symm), if_neg (by decide), if_pos rfl]

theorem acceptBlock_channel (b : List Byte) (s : State) (c : Chan) :
    (acceptBlock b s).temps.channels.get c
      = (s.temps.channels.get c).configure ((readBlock b).channels.get c) := by
  change ((s.temps.channels.mapIx fun i c => c.configure ((readBlock b).channels.get i)).get c) = _
  exact Vec.get_mapIx _ _ _

/-- What a block makes of a channel (R116). -/
theorem Channel.configure_eq (old : Channel) (k : ChanConfig) :
    let new := old.configure k
    new.kind = some k.kind ∧ new.shared = k.shared
      ∧ (k.kind = .unused → new.state = .unused)
      ∧ (k.kind ≠ .unused → old.kind ≠ some k.kind →
          new.state = .starting ∧ new.window = [] ∧ new.reading = none ∧ new.invalidRun = 0)
      ∧ (k.kind ≠ .unused → old.kind = some k.kind → new = { old with shared := k.shared }) := by
  unfold Channel.configure
  split_ifs with unused same
  · simp [unused]
  · simp [unused, same]
  · simp [unused, same]

/-- Settles O5: the ranges by their rows, and the three outcomes of the block's check. -/
theorem lastPartIsCheckedAndAccepted : Obligations.LastPartIsCheckedAndAccepted := by
  refine ⟨firstBadField_eq_some, firstBadField_eq_none, fun last s config next size => ?_⟩
  intro b command dropped
  have run : exec command s = .next (checkBlock b s) := congrArg Host.Outcome.next (configure_last config next size)
  refine ⟨fun bad => ?_, fun good n first => ?_, fun good inRange => ⟨acceptBlock b s, ?_, ?_⟩⟩
  · rw [run, checkBlock, if_neg (mt (blockCrcOk_iff b).mp bad)]
    rfl
  · rw [run, checkBlock, if_pos ((blockCrcOk_iff b).mpr good), first]
    rfl
  · rw [run, checkBlock, if_pos ((blockCrcOk_iff b).mpr good), inRange]
  · refine ⟨?_, rfl, rfl, fun c => ?_⟩
    · intro p outside
      cases p <;> simp at outside <;> rfl
    · dsimp only
      rw [acceptBlock_channel]
      exact Channel.configure_eq _ _

/-! ## START (R215) -/

/-- With no window running and an empty list, a report is listed at once. -/
theorem offerPresence_listed {s : State} (state : s.link.state = .listening) (list : s.link.list = [])
    (windows : s.zone.windows = []) :
    offerPresence s
      = (s.setLink { s.link with list := [{ frame := .presence, attempts := 0, sending := false }] }).setPeers
          { s.peers with presenceDue := none } := by
  have released : s.holdsReports = false := by simp [State.holdsReports, windows]
  simp [offerPresence, released, offer, state, list, TxFrame.kind, placeFrame, insertTx]

theorem forgetHolders_cell (s : State) (c : Cell) :
    (forgetHolders s).cell c = if (s.cell c).state = .held s.own then s.cell c
      else { s.cell c with state := .heldUnknown, lost := false, owed := none } := Vec.get_mapIx _ _ _

/-- The station that START makes, before its reports and the answer (R215). -/
def State.joining (s : State) : State :=
  { s with
    station := { s.station with state := .joining, assembly := { content := [], next := 0 } }
    motion := .idle
    probes := { s.probes with change := none }
    axes := { s.axes with chan := s.axes.chan.map AxisChan.start }
    link := { state := .listening, list := [], run := 0, waitIdle := true, lineOut := none,
              listeningDue := some (s.clock + 1200) } }

theorem startUp_eq (s : State) : startUp s = answerNumbered .ok [] (offerPresence (forgetHolders s.joining)) := rfl

/-- Settles O6: the station joining with its one report listed, or the refusal. -/
theorem startJoinsTheRoom : Obligations.StartJoinsTheRoom := by
  intro s
  refine ⟨fun config accepted windows => ⟨startUp s, ?_, ?_⟩, fun barred => ?_⟩
  · have allowed : s.station.state = .config ∧ s.station.config.isSome := ⟨config, accepted⟩
    exact congrArg Host.Outcome.next (if_pos allowed)
  · have listed := offerPresence_listed (s := forgetHolders s.joining) rfl rfl windows
    rw [startUp_eq, listed]
    refine ⟨?_, rfl, rfl, rfl, rfl, rfl, rfl, fun a => ?_, rfl, rfl, forgetHolders_cell s.joining, rfl⟩
    · intro p outside
      cases p <;> simp at outside <;> rfl
    · exact V3.get_map _ _ _
  · have refused : ¬ (s.station.state = .config ∧ s.station.config.isSome) := by
      rcases barred with started | none_accepted
      · exact fun h => started h.1
      · exact fun h => by simp [none_accepted] at h
    exact congrArg Host.Outcome.next (if_neg refused)

end Sys2Proof.Machine
end

section
/-! PROOFS. Profiles and interpolation (R34, R35): the profile is cut into its four pieces, each the entries of a
range of periods, and the rounded quotient of a path stays between its ends. -/

namespace Sys2Proof.Machine

/-! ## The four pieces of a profile (R34) -/

/-- The step velocities of a ramp up. -/
def rampUp (feed accel r : Nat) : List Nat := (List.range r).map fun i => min feed ((i + 1) * accel)

theorem sum_rampUp (feed accel r : Nat) : (rampUp feed accel r).sum = rampSum feed accel r :=
  (rampSum_eq_sum feed accel r).symm

theorem reverse_rampUp (feed accel r : Nat) :
    (rampUp feed accel r).reverse = (List.range r).map fun i => stepVelocity feed accel (r - i) := by
  refine List.ext_getElem (by simp [rampUp]) fun i hi _ => ?_
  have below : i < r := by simpa [rampUp] using hi
  have index : r - 1 - i + 1 = r - i := by omega
  simp [rampUp, stepVelocity, index]

/-- A profile has one period more where a distance remains after the cruise. -/
def remainderPeriods (len feed accel : Nat) : Nat := if remainder len feed accel = 0 then 0 else 1

theorem profileLength_eq (len feed accel : Nat) :
    profileLength len feed accel = rampSteps len feed accel + cruisePeriods len feed accel
      + remainderPeriods len feed accel + rampSteps len feed accel := by
  rw [profileLength, remainderPeriods]
  omega

theorem profileEntry_ramp {len feed accel i : Nat} (h : i < rampSteps len feed accel) :
    profileEntry len feed accel (i + 1) = min feed ((i + 1) * accel) := if_pos h

theorem profileEntry_cruise {len feed accel i : Nat} (h : i < cruisePeriods len feed accel) :
    profileEntry len feed accel (rampSteps len feed accel + i + 1) = cruise len feed accel := by
  rw [profileEntry, if_neg (by omega), if_pos (by omega)]

theorem profileEntry_remainder {len feed accel : Nat} (h : remainder len feed accel ≠ 0) :
    profileEntry len feed accel (rampSteps len feed accel + cruisePeriods len feed accel + 1)
      = remainder len feed accel := by
  rw [profileEntry, if_neg (by omega), if_neg (by omega), if_pos ⟨h, rfl⟩]

theorem profileEntry_down {len feed accel i : Nat} (h : i < rampSteps len feed accel) :
    profileEntry len feed accel (rampSteps len feed accel + cruisePeriods len feed accel
        + remainderPeriods len feed accel + i + 1)
      = stepVelocity feed accel (rampSteps len feed accel - i) := by
  have index : profileLength len feed accel + 1 - (rampSteps len feed accel + cruisePeriods len feed accel
      + remainderPeriods len feed accel + i + 1) = rampSteps len feed accel - i := by
    rw [profileLength_eq]
    omega
  have behind : ¬ (remainder len feed accel ≠ 0 ∧ rampSteps len feed accel + cruisePeriods len feed accel
      + remainderPeriods len feed accel + i + 1
        = rampSteps len feed accel + cruisePeriods len feed accel + 1) := by
    rintro ⟨left, same⟩
    rw [remainderPeriods, if_neg left] at same
    omega
  rw [profileEntry, if_neg (by omega), if_neg (by omega), if_neg behind, index]

/-- The remainder's period, or none. -/
theorem remainder_piece (len feed accel : Nat) :
    (List.range (remainderPeriods len feed accel)).map (fun i => profileEntry len feed accel
        (rampSteps len feed accel + cruisePeriods len feed accel + i + 1))
      = if remainder len feed accel = 0 then [] else [remainder len feed accel] := by
  rw [remainderPeriods]
  split_ifs with none_left
  · rfl
  · rw [← profileEntry_remainder none_left]
    rfl

theorem profile_eq (len feed accel : Nat) :
    profile len feed accel
      = rampUp feed accel (rampSteps len feed accel)
        ++ List.replicate (cruisePeriods len feed accel) (cruise len feed accel)
        ++ (if remainder len feed accel = 0 then [] else [remainder len feed accel])
        ++ (rampUp feed accel (rampSteps len feed accel)).reverse := by
  have up : (List.range (rampSteps len feed accel)).map (fun i => profileEntry len feed accel (i + 1))
      = rampUp feed accel (rampSteps len feed accel) :=
    List.map_congr_left fun i hi => profileEntry_ramp (List.mem_range.mp hi)
  have level : (List.range (cruisePeriods len feed accel)).map
      (fun i => profileEntry len feed accel (rampSteps len feed accel + i + 1))
      = List.replicate (cruisePeriods len feed accel) (cruise len feed accel) := by
    rw [List.map_congr_left fun i hi => profileEntry_cruise (List.mem_range.mp hi), List.map_const',
      List.length_range]
  have down : (List.range (rampSteps len feed accel)).map (fun i => profileEntry len feed accel
      (rampSteps len feed accel + cruisePeriods len feed accel + remainderPeriods len feed accel + i + 1))
      = (rampUp feed accel (rampSteps len feed accel)).reverse := by
    rw [reverse_rampUp]
    exact List.map_congr_left fun i hi => profileEntry_down (List.mem_range.mp hi)
  simp only [profile, profileLength_eq, List.range_add, List.map_append, List.map_map, Function.comp_def,
    up, level, down, remainder_piece]

/-! ## Sum and bounds -/

theorem cruise_pos {len feed accel : Nat} (hf : 0 < feed) (ha : 0 < accel) : 0 < cruise len feed accel :=
  lt_min hf (Nat.mul_pos (Nat.succ_pos _) ha)

theorem sum_profile (len feed accel : Nat) : (profile len feed accel).sum = len := by
  have ramps := two_mul_rampSum_rampSteps_le len feed accel
  have division : cruise len feed accel * cruisePeriods len feed accel + remainder len feed accel
      = middle len feed accel := Nat.div_add_mod _ _
  have rest : (if remainder len feed accel = 0 then [] else [remainder len feed accel]).sum
      = remainder len feed accel := by
    split_ifs with none_left
    · exact none_left.symm
    · exact List.sum_singleton
  rw [mul_comm] at division
  simp only [profile_eq, List.sum_append, List.sum_replicate, List.sum_reverse, sum_rampUp, rest, smul_eq_mul]
  unfold middle at division
  omega

theorem mem_rampUp {feed accel r e : Nat} (hf : 0 < feed) (ha : 0 < accel) (h : e ∈ rampUp feed accel r) :
    1 ≤ e ∧ e ≤ feed := by
  obtain ⟨i, -, rfl⟩ := List.mem_map.mp h
  exact ⟨lt_min hf (Nat.mul_pos (Nat.succ_pos i) ha), min_le_left _ _⟩

theorem mem_profile {len feed accel e : Nat} (hf : 0 < feed) (ha : 0 < accel) (h : e ∈ profile len feed accel) :
    1 ≤ e ∧ e ≤ feed := by
  have slow : cruise len feed accel ≤ feed := min_le_left _ _
  have positive : 0 < cruise len feed accel := cruise_pos hf ha
  simp only [profile_eq, List.mem_append, List.mem_reverse] at h
  rcases h with ((up | level) | rest) | down
  · exact mem_rampUp hf ha up
  · rw [List.eq_of_mem_replicate level]
    exact ⟨positive, slow⟩
  · split_ifs at rest with none_left
    · cases rest
    · rw [List.mem_singleton.mp rest]
      exact ⟨Nat.pos_of_ne_zero none_left, (Nat.mod_lt _ positive).le.trans slow⟩
  · exact mem_rampUp hf ha down

/-- Settles O20: the pieces, their sum by the division of the middle distance, and the bounds piece by piece. -/
theorem profileSumsToThePathLength : Obligations.ProfileSumsToThePathLength := by
  intro len feed accel hf ha r up v m
  have ramp : up.sum = rampSum feed accel r := sum_rampUp feed accel r
  have middle_eq : m = middle len feed accel := by
    change len - 2 * up.sum = len - 2 * rampSum feed accel r
    rw [ramp]
  refine ⟨?_, ?_, sum_profile len feed accel, fun e => mem_profile hf ha, by simp [profile], ?_⟩
  · rw [ramp]
    exact two_mul_rampSum_rampSteps_le len feed accel
  · rw [middle_eq]
    exact profile_eq len feed accel
  · rintro rfl
    by_contra some_period
    obtain ⟨e, rest, cut⟩ := List.exists_cons_of_ne_nil some_period
    have positive := (mem_profile hf ha (cut ▸ List.mem_cons_self)).1
    have total := sum_profile 0 feed accel
    rw [cut, List.sum_cons] at total
    omega

/-! ## Interpolation (R35) -/

theorem pathPoint_get (start target : V3 Int) (len d : Nat) (a : Axis) :
    (pathPoint start target len d).get a
      = count32 (start.get a + roundDiv ((target.get a - start.get a) * d) len) := by
  cases a <;> rfl

/-- The rounded part of a move lies between nothing and the whole move. -/
theorem roundDiv_between {n : Int} {len d : Nat} (hl : 0 < len) (hd : d ≤ len) :
    min 0 n ≤ roundDiv (n * d) len ∧ roundDiv (n * d) len ≤ max 0 n := by
  have part : (d : Int) ≤ len := by exact_mod_cast hd
  have nonneg : (0 : Int) ≤ d := Int.natCast_nonneg d
  constructor
  · refine le_roundDiv hl ?_
    rcases le_total 0 n with up | down
    · rw [min_eq_left up]
      nlinarith
    · rw [min_eq_right down]
      nlinarith
  · refine roundDiv_le hl ?_
    rcases le_total 0 n with up | down
    · rw [max_eq_right up]
      nlinarith
    · rw [max_eq_left down]
      nlinarith

theorem roundDiv_mul_self (n : Int) {len : Nat} (hl : 0 < len) : roundDiv (n * len) len = n :=
  le_antisymm (roundDiv_le hl le_rfl) (le_roundDiv hl le_rfl)

theorem fits32_between {x y z : Int} (hx : fits32 x = true) (hz : fits32 z = true) (lo : min x z ≤ y)
    (hi : y ≤ max x z) : fits32 y = true := by
  rw [fits32_iff] at *
  omega

/-- Settles O21: each axis by the rounded quotient of its move. -/
theorem pathRunsFromStartToTarget : Obligations.PathRunsFromStartToTarget := by
  intro start target len d hl hd fit
  refine ⟨V3.ext_get fun a => ?_, V3.ext_get fun a => ?_, fun a => ?_⟩
  · rw [pathPoint_get, Nat.cast_zero, mul_zero, roundDiv_zero_left, add_zero, count32_of_fits (fit a).1]
  · rw [pathPoint_get, roundDiv_mul_self _ hl, add_sub_cancel, count32_of_fits (fit a).2]
  · obtain ⟨lo, hi⟩ := roundDiv_between (n := target.get a - start.get a) hl hd
    rw [pathPoint_get]
    have low : min (start.get a) (target.get a)
        ≤ start.get a + roundDiv ((target.get a - start.get a) * d) len := by omega
    have high : start.get a + roundDiv ((target.get a - start.get a) * d) len
        ≤ max (start.get a) (target.get a) := by omega
    rw [count32_of_fits (fits32_between (fit a).1 (fit a).2 low high)]
    exact ⟨low, high⟩

end Sys2Proof.Machine
end

section
/-! PROOFS. The fault stop and the scale faults (R2, R3, R11, R13): what a fault stop makes of the axes, the events and
the zone, once for every reason, and a scale fault as the removal of what has not started with a fault stop behind it. -/

namespace Sys2Proof.Machine

/-! ## The fault stop (R11, R13) -/

theorem faultStop_of_faulted {r : FaultReason} {s : State} (h : s.motion.state = .faulted) : faultStop r s = s :=
  if_pos h

/-- Every axis is frozen at its scale count. -/
theorem faultStop_axis {r : FaultReason} {s : State} (h : s.motion.state ≠ .faulted) (a : Axis) :
    (faultStop r s).axis a = (s.axis a).freeze := by
  have axes : (faultStop r s).axes.chan = s.axes.chan.map AxisChan.freeze := by
    unfold faultStop
    rw [if_neg h]
    by_cases changing : s.motion.state = .changing <;> by_cases flying : s.flying.isSome = true <;>
      simp [changing, flying]
  rw [State.axis, axes, V3.get_map, State.axis]

theorem faultStop_state {r : FaultReason} {s : State} (h : s.motion.state ≠ .faulted) :
    (faultStop r s).motion.state = .faulted := by rw [faultStop_motion h]

/-- MOTION FAULT is raised with the reason and the tag of a host segment in flight. -/
theorem faultStop_events {r : FaultReason} {s : State} (h : s.motion.state ≠ .faulted) :
    (faultStop r s).events.pends .motionFault = true
      ∧ (faultStop r s).events.kept.motionFault = some (r, s.faultTag) := by
  unfold faultStop
  rw [if_neg h]
  exact ⟨raiseMotionFault_pends _ _ _, rfl⟩

/-- Outside CHANGING the zone stays as it is. -/
theorem faultStop_zone {r : FaultReason} {s : State} (h : s.motion.state ≠ .changing) :
    (faultStop r s).zone = s.zone := by
  unfold faultStop
  by_cases faulted : s.motion.state = .faulted <;> by_cases flying : s.flying.isSome = true <;>
    simp [faulted, flying, h]

theorem sameBut_faultStop (r : FaultReason) (s : State) :
    s.sameBut (faultStop r s) [.axes, .motion, .zone, .probes, .events] := by
  intro p hp
  cases p <;> simp [State.sameIn] at hp ⊢

/-- Settles O15: each field of the state after the fault stop. -/
theorem faultStopFreezesEveryAxis : Obligations.FaultStopFreezesEveryAxis := by
  intro r s
  refine ⟨faultStop_of_faulted, fun working => ?_⟩
  have motion := faultStop_motion (r := r) working
  obtain ⟨pends, kept⟩ := faultStop_events (r := r) working
  refine ⟨sameBut_faultStop r s, fun a => ?_, faultStop_state working, ?_, ?_, ?_, ?_, ?_, ?_, faultStop_zone, ?_,
    (State.isPending_iff _ _).mpr pends, kept⟩
  · rw [faultStop_axis working]
    simp [AxisChan.freeze, AxisChan.faultEnable]
  all_goals simp [motion]

/-! ## Scale transitions (R2, R3) -/

theorem takeScaleCount_eq (a : Axis) (forward : Bool) (s : State) :
    takeScaleCount a forward s
      = if fits32 ((s.axis a).scale + (if forward then 1 else -1)) then
          s.setAxis a { s.axis a with scale := (s.axis a).scale + (if forward then 1 else -1) }
        else takeScaleFault a s := by
  have next : (if forward then (s.axis a).scale + 1 else (s.axis a).scale - 1)
      = (s.axis a).scale + (if forward then 1 else -1) := by cases forward <;> rfl
  simp only [takeScaleCount, next]

/-- The state that a scale fault leaves before its fault stop: the axis unreferenced, and where it was referenced
nothing queued that has not started (R3). -/
def scaleLost (a : Axis) (s : State) : State :=
  let lost := s.setAxis a { s.axis a with referenced := false }
  if (s.axis a).referenced then removeUnstarted lost else lost

theorem takeScaleFault_eq (a : Axis) (s : State) :
    takeScaleFault a s
      = if (s.axis a).mode = .idle ∨ (s.axis a).mode = .moving then faultStop .scale (scaleLost a s)
        else scaleLost a s := by
  change (match (s.axis a).mode with
    | .off => scaleLost a s
    | .idle => faultStop .scale (scaleLost a s)
    | .moving => faultStop .scale (scaleLost a s)
    | .fault => scaleLost a s) = _
  cases (s.axis a).mode <;> simp

theorem removeUnstarted_motion (s : State) :
    (removeUnstarted s).motion = { s.motion with queue := s.motion.queue.filter (·.state.flying) } := by
  unfold removeUnstarted
  split <;> simp

@[simp] theorem State.axis_setAxis_same (s : State) (a : Axis) (c : AxisChan) : (s.setAxis a c).axis a = c :=
  V3.get_set_same _ _ _

theorem State.axis_setAxis_other (s : State) {a b : Axis} (c : AxisChan) (h : b ≠ a) :
    (s.setAxis a c).axis b = s.axis b := V3.get_set_other _ _ h

theorem scaleLost_axis (a b : Axis) (s : State) :
    (scaleLost a s).axis b = (s.setAxis a { s.axis a with referenced := false }).axis b := by
  unfold scaleLost
  dsimp only
  split
  · simp [State.axis]
  · rfl

theorem scaleLost_state (a : Axis) (s : State) : (scaleLost a s).motion.state = s.motion.state := by
  unfold scaleLost
  dsimp only
  split <;> simp

theorem scaleLost_queue {a : Axis} {s : State} (referenced : (s.axis a).referenced = true) {g : Segment}
    (h : g ∈ (scaleLost a s).motion.queue) : g.state.flying = true := by
  rw [scaleLost, if_pos referenced, removeUnstarted_motion] at h
  exact (List.mem_filter.mp h).2

/-- A fault stop takes no reference and moves no count. -/
theorem faultStop_axis_keeps (r : FaultReason) (s : State) (b : Axis) :
    ((faultStop r s).axis b).referenced = (s.axis b).referenced
      ∧ ((faultStop r s).axis b).scale = (s.axis b).scale := by
  simp [State.axis]

theorem takeScaleFault_axis (a b : Axis) (s : State) :
    ((takeScaleFault a s).axis b).referenced = ((scaleLost a s).axis b).referenced
      ∧ ((takeScaleFault a s).axis b).scale = ((scaleLost a s).axis b).scale := by
  rw [takeScaleFault_eq]
  split
  · exact faultStop_axis_keeps .scale _ b
  · exact ⟨rfl, rfl⟩

theorem mem_faultStop_queue {r : FaultReason} {s : State} {g : Segment} (h : g ∈ (faultStop r s).motion.queue) :
    g ∈ s.motion.queue := by
  by_cases faulted : s.motion.state = .faulted
  · rwa [faultStop_of_faulted faulted] at h
  · rw [faultStop_motion faulted] at h
    dsimp only at h
    split at h
    · exact List.mem_of_mem_tail h
    · exact h

/-- Settles O14: the transitions of the phase lines, the count within its range, and the fault at its end or by an
illegal transition. -/
theorem scaleTransitionsCountOrFault : Obligations.ScaleTransitionsCountOrFault := by
  refine ⟨fun a x y => ?_, fun a forward s => ?_, fun a s => ⟨takeScaleFault a s, rfl, ?_⟩⟩
  · cases x <;> cases y <;> exact ⟨rfl, rfl, rfl, rfl⟩
  · have run : exec (.scaleCount a forward) s = .next (takeScaleCount a forward s) := rfl
    rw [run, takeScaleCount_eq]
    refine ⟨fun lo hi => ?_, fun beyond => ?_⟩
    · rw [if_pos ((fits32_iff _).mpr ⟨lo, hi⟩)]
    · have outside : ¬ fits32 ((s.axis a).scale + (if forward then 1 else -1)) = true := by
        rw [fits32_iff]
        omega
      rw [if_neg outside]
      rfl
  · have axis (b : Axis) := takeScaleFault_axis a b s
    have lost (b : Axis) := scaleLost_axis a b s
    refine ⟨sameBut_takeScaleFault a s, ?_, fun b => ?_, fun b other => ?_, fun referenced g queued => ?_,
      fun mode working => ?_, fun mode => ?_⟩
    · rw [(axis a).1, lost, State.axis_setAxis_same]
    · rw [(axis b).2, lost]
      by_cases same : b = a
      · rw [same, State.axis_setAxis_same]
      · rw [State.axis_setAxis_other _ _ same]
    · rw [(axis b).1, lost, State.axis_setAxis_other _ _ other]
    · rw [takeScaleFault_eq] at queued
      split at queued
      · exact scaleLost_queue referenced (mem_faultStop_queue queued)
      · exact scaleLost_queue referenced queued
    · have still_working : (scaleLost a s).motion.state ≠ .faulted := by rwa [scaleLost_state]
      obtain ⟨pends, kept⟩ := faultStop_events (r := .scale) still_working
      rw [takeScaleFault_eq, if_pos mode]
      exact ⟨faultStop_state still_working, (State.isPending_iff _ _).mpr pends, _, kept⟩
    · have none_stopped : ¬ ((s.axis a).mode = .idle ∨ (s.axis a).mode = .moving) := by
        rcases mode with off | fault <;> simp [*]
      rw [takeScaleFault_eq, if_neg none_stopped, scaleLost_state]

end Sys2Proof.Machine
end

section
/-! PROOFS. Offers and hand-overs (R68, R70, R94): where an offered frame with none of its kind listed goes, what the
zone view shows after a change of its cells, and the hand-over of a keep set as the statements say it. -/

namespace Sys2Proof.Machine

/-! ## The transmit list (R94) -/

theorem mem_insertTx {e x : TxEntry} {l : List TxEntry} : x ∈ insertTx e l ↔ x = e ∨ x ∈ l := by
  induction l with
  | nil => simp [insertTx]
  | cons y rest ih =>
    unfold insertTx
    split
    · simp only [List.mem_cons, ih]
      tauto
    · simp

/-- An entry of the list that is newly placed. -/
def TxFrame.placed (f : TxFrame) : TxEntry := { frame := f, attempts := 0, sending := false }

theorem placeFrame_of_room {f : TxFrame} {s : State} (room : s.link.list.length < 8) :
    placeFrame f s = (.placed, s.setLink { s.link with list := insertTx f.placed s.link.list }) := if_pos room

theorem placeFrame_of_full {f : TxFrame} {s : State} (full : ¬ s.link.list.length < 8) :
    placeFrame f s = (.refused, raiseLinkFault .listFull (some f.kind) s) := if_neg full

/-- A kind that R95 never merges is placed or refused, and so is any kind of which none is listed. -/
theorem offer_eq_placeFrame {f : TxFrame} {s : State} (linked : s.link.state ≠ .silent)
    (unmerged : (f.kind ≠ .release ∧ f.kind ≠ .wait ∧ f.kind ≠ .presence)
      ∨ ∀ e ∈ s.link.list, e.frame.kind ≠ f.kind) : offer f s = placeFrame f s := by
  unfold offer
  rw [if_neg linked]
  rcases unmerged with ⟨noRelease, noWait, noPresence⟩ | unlisted
  · cases kind : f.kind <;> simp_all
  · have none_pending : s.link.list.any (·.pendingKind f.kind) = false := by
      simp only [List.any_eq_false, TxEntry.pendingKind, Bool.and_eq_true, beq_iff_eq]
      exact fun e listed same => unlisted e listed same.1
    simp only [none_pending]
    cases f.kind <;> rfl

theorem offer_listed {f : TxFrame} {s : State} (linked : s.link.state ≠ .silent) (room : s.link.list.length < 8)
    (unmerged : (f.kind ≠ .release ∧ f.kind ≠ .wait ∧ f.kind ≠ .presence)
      ∨ ∀ e ∈ s.link.list, e.frame.kind ≠ f.kind) : (offer f s).2.listed f := by
  rw [offer_eq_placeFrame linked unmerged, placeFrame_of_room room]
  exact mem_insertTx.mpr (.inl rfl)

/-! ## The view's cells -/

@[simp] theorem State.cell_mapCells (s : State) (f : Cell → CellEntry → CellEntry) (c : Cell) :
    (s.mapCells f).cell c = f c (s.cell c) := Vec.get_mapIx _ _ _

theorem State.has_cellsWhere (s : State) (p : CellEntry → Bool) (c : Cell) :
    (s.cellsWhere p).has c = p (s.cell c) := CellSet.has_of _ _

@[simp] theorem State.has_heldSet (s : State) (c : Cell) :
    s.heldSet.has c = ((s.cell c).state == .held s.own) := s.has_cellsWhere _ c

@[simp] theorem State.has_freeSet (s : State) (c : Cell) : s.freeSet.has c = ((s.cell c).state == .free) :=
  s.has_cellsWhere _ c

@[simp] theorem State.has_owedSet (s : State) (c : Cell) :
    s.owedSet.has c = ((s.cell c).state == .held s.own && (s.cell c).owed.isSome) := s.has_cellsWhere _ c

@[simp] theorem State.has_deferred (s : State) (c : Cell) : s.deferred.has c = (s.cell c).deferral.isSome :=
  s.has_cellsWhere _ c

@[simp] theorem State.has_ownSet (s : State) (c : Cell) :
    s.ownSet.has c = ((s.cell c).state == .held s.own || (s.cell c).claimedBy s.own) := s.has_cellsWhere _ c

/-- Where view and number agree, so do the sets that are read off the view. -/
theorem State.cellsWhere_congr {s t : State} (cells : t.zone.cells = s.zone.cells) (p : CellEntry → Bool) :
    t.cellsWhere p = s.cellsWhere p := by
  simp only [State.cellsWhere, State.cell, cells]

theorem State.heldSet_congr {s t : State} (cells : t.zone.cells = s.zone.cells) (own : t.own = s.own) :
    t.heldSet = s.heldSet := by
  rw [State.heldSet, own, State.cellsWhere_congr cells, State.heldSet]

theorem State.owedSet_congr {s t : State} (cells : t.zone.cells = s.zone.cells) (own : t.own = s.own) :
    t.owedSet = s.owedSet := by
  rw [State.owedSet, own, State.cellsWhere_congr cells, State.owedSet]

/-! ## The hand-over of a keep set (R68, R70) -/

/-- A released cell is held by no station. -/
theorem releasedState_ne_held (s : State) (p : Station) : s.releasedState ≠ .held p := by
  unfold State.releasedState
  split <;> simp

/-- The cell of the view after its release. -/
def State.released (s : State) (c : Cell) : CellEntry :=
  { s.cell c with
    state := s.releasedState
    owed := none
    deferral := match (s.cell c).owed with
      | some o => some { waiter := o.waiter, since := s.clock }
      | none => (s.cell c).deferral }

theorem handOver_of_nothing {keep : CellSet} {s : State} (h : s.releaseSet keep = 0#20) : handOver keep s = s :=
  if_pos h

theorem handOver_cell (keep : CellSet) (s : State) (c : Cell) :
    (handOver keep s).cell c = if (s.releaseSet keep).has c then s.released c else s.cell c := by
  by_cases nothing : s.releaseSet keep = 0#20
  · rw [handOver_of_nothing nothing, nothing, CellSet.has_zero]
    rfl
  · rw [handOver, if_neg nothing]
    have view (f : TxFrame) (t : State) : (offer f t).2.cell c = t.cell c := by simp [State.cell]
    rw [view, State.cell_mapCells]
    rfl

/-- A hand-over changes the view, the list and the events for a full list alone. -/
theorem handOver_handsOver (keep : CellSet) (s : State) : s.handsOver keep (handOver keep s) := by
  have own : (handOver keep s).own = s.own := by simp [State.own]
  refine ⟨CellSet.ext_has fun c => ?_, fun c kept => ?_, fun on c released => ?_,
    fun some_released linked room unlisted => ?_, fun nothing => ?_⟩
  · change _ = CellSet.has (CellSet.minus s.heldSet (s.releaseSet keep)) c
    rw [State.has_heldSet, CellSet.has_minus, State.has_heldSet, handOver_cell, own]
    cases (s.releaseSet keep).has c
    · simp
    · simp [State.released, releasedState_ne_held]
  · change (s.releaseSet keep).has c = false at kept
    rw [handOver_cell, kept]
    rfl
  · change (s.releaseSet keep).has c = true at released
    rw [handOver_cell, released, if_pos rfl, State.released, State.releasedState, on] <;> rfl
  · change s.releaseSet keep ≠ 0#20 at some_released
    rw [handOver, if_neg some_released]
    exact offer_listed (by simpa using linked) (by simpa using room) (.inr (by simpa [TxFrame.kind] using unlisted))
  · rw [handOver_of_nothing nothing]
    exact ⟨rfl, rfl⟩

/-- A hand-over is read off the view, the link, the number and the clock. -/
theorem State.handsOver_congr {s u t : State} {keep : CellSet}
    (same : u.zone = s.zone ∧ u.link = s.link ∧ u.station = s.station ∧ u.clock = s.clock) :
    u.handsOver keep t ↔ s.handsOver keep t := by
  obtain ⟨zone, link, station, clock⟩ := same
  have own : u.own = s.own := congrArg StationBlock.number station
  have held : u.heldSet = s.heldSet := State.heldSet_congr (by rw [zone]) own
  have owed : u.owedSet = s.owedSet := State.owedSet_congr (by rw [zone]) own
  have cell (c : Cell) : u.cell c = s.cell c := by rw [State.cell, zone, State.cell]
  simp only [State.handsOver, held, owed, cell, link, zone, clock]

/-- What follows a hand-over leaves what it did, where view, link and number stay. -/
theorem State.handsOver_trans {s t u : State} {keep : CellSet} (h : s.handsOver keep t)
    (same : u.zone = t.zone ∧ u.link = t.link ∧ u.own = t.own) : s.handsOver keep u := by
  obtain ⟨zone, link, own⟩ := same
  have held : u.heldSet = t.heldSet := State.heldSet_congr (by rw [zone]) own
  have cell (c : Cell) : u.cell c = t.cell c := by rw [State.cell, zone, State.cell]
  simpa only [State.handsOver, State.listed, held, cell, zone, link] using h

end Sys2Proof.Machine
end

section
/-! PROOFS. The motion period (R6, R16, R35, R39, R40, R44): the sampled levels, a period in which no watch trips,
and the setpoints and the record of the segment in flight, state by state. -/

namespace Sys2Proof.Machine

/-! ## Setpoints and records -/

theorem AxisChan.ext_fields {c d : AxisChan}
    (same : c.scale = d.scale ∧ c.referenced = d.referenced ∧ c.mode = d.mode ∧ c.setpoint = d.setpoint
      ∧ c.lower = d.lower ∧ c.upper = d.upper ∧ c.ready = d.ready ∧ c.enable = d.enable) : c = d := by
  cases c
  cases d
  simpa using same

theorem State.axis_sendSetpoints (s : State) (p : V3 Int) (a : Axis) :
    (s.sendSetpoints p).axis a = { s.axis a with setpoint := p.get a } := V3.get_zip _ _ _ a

theorem State.get_setpoints (s : State) (a : Axis) : s.setpoints.get a = (s.axis a).setpoint := V3.get_map _ _ a

theorem State.get_scales (s : State) (a : Axis) : s.scales.get a = (s.axis a).scale := V3.get_map _ _ a

theorem State.setpoints_congr {s t : State} (h : ∀ a, (t.axis a).setpoint = (s.axis a).setpoint) :
    t.setpoints = s.setpoints := by
  refine V3.ext_get fun a => ?_
  rw [State.get_setpoints, State.get_setpoints, h]

theorem State.current_of_head {s : State} {g : Segment} {rest : List Segment} (host : s.motion.state ≠ .changing)
    (queue : s.motion.queue = g :: rest) : s.current = some g := by
  rw [State.current, if_neg host, queue, List.head?_cons]

theorem State.flying_of_head {s : State} {g : Segment} {rest : List Segment} (host : s.motion.state ≠ .changing)
    (queue : s.motion.queue = g :: rest) (flying : g.state.flying = true) : s.flying = some g := by
  rw [State.flying, s.current_of_head host queue, Option.filter_some, if_pos flying]

theorem State.setCurrent_of_head {s : State} {g : Segment} {rest : List Segment} (host : s.motion.state ≠ .changing)
    (queue : s.motion.queue = g :: rest) (g' : Segment) :
    s.setCurrent g' = s.setMotion { s.motion with queue := g' :: rest } := by
  rw [State.setCurrent, if_neg host, queue]

/-! ## What is sampled -/

/-- The state in a motion period before its setpoints: 1 ms later, the levels sampled. -/
def State.sampledIn (s : State) (v : Samples) : State := sampleLevels v (s.setClock (s.clock + 1))

theorem State.axis_sampledIn (s : State) (v : Samples) (a : Axis) :
    (s.sampledIn v).axis a
      = { s.axis a with lower := v.lower.get a, upper := v.upper.get a, ready := v.ready.get a } := by
  cases a <;> rfl

theorem motionPeriod_eq (v : Samples) (order : List Watch) (s : State) :
    motionPeriod v order s
      = ((watchOrder order).foldl (fun t w => watch v w t) (advance (s.sampledIn v))).setAxes
          { ((watchOrder order).foldl (fun t w => watch v w t) (advance (s.sampledIn v))).axes with
            chan := ((watchOrder order).foldl (fun t w => watch v w t)
              (advance (s.sampledIn v))).axes.chan.map AxisChan.track } := rfl

/-- The setpoints of a period move nothing of an axis but its setpoint. -/
theorem advance_axis (s : State) (a : Axis) :
    (advance s).axis a = { s.axis a with setpoint := ((advance s).axis a).setpoint } :=
  AxisChan.ext_fields (by simp [State.axis])

/-! ## A period in which no watch trips -/

theorem foldl_fixed {α β : Type} {f : β → α → β} {b : β} (fixed : ∀ a, f b a = b) (l : List α) :
    l.foldl f b = b := by
  induction l with
  | nil => rfl
  | cons a l ih => rw [List.foldl_cons, fixed, ih]

/-- With no level bad, the seated line as it was and every axis within the following limit a watch does nothing. -/
theorem watch_of_quiet {v : Samples} {s : State} (quiet : s.quiet v)
    (near : ∀ a, ((s.axis a).setpoint - (s.axis a).scale).natAbs ≤ s.cfg.followLimit) (w : Watch) :
    watch v w s = s := by
  obtain ⟨levels, seated⟩ := quiet
  cases w with
  | limit a => simp [watch, watchLevel, levels a]
  | drive a => simp [watch, watchLevel, levels a]
  | following a =>
    have within : followingBad a s = false := decide_eq_false (not_lt.mpr (near a))
    simp only [watch, watchFollowing, within]
    split <;> rfl
  | seated => exact if_pos seated

theorem AxisChan.track_of_running {c : AxisChan} (h : c.mode = .idle ∨ c.mode = .moving) : c.track = c :=
  if_neg (by rcases h with idle | moving <;> simp [*])

/-- Then the period leaves the advanced setpoints. -/
theorem motionPeriod_of_quiet {v : Samples} {s : State} {p : V3 Int} (order : List Watch) (quiet : s.quiet v)
    (modes : ∀ a, (s.axis a).mode = .idle ∨ (s.axis a).mode = .moving)
    (setpoints : ∀ a, ((advance (s.sampledIn v)).axis a).setpoint = p.get a) (follows : s.follows p) :
    motionPeriod v order s = advance (s.sampledIn v)
      ∧ (∀ a, (advance (s.sampledIn v)).axis a
          = { s.axis a with setpoint := p.get a, lower := false, upper := false, ready := true })
      ∧ (advance (s.sampledIn v)).axes.retracted = v.retracted
      ∧ (advance (s.sampledIn v)).clock = s.clock + 1 := by
  obtain ⟨levels, seated⟩ := quiet
  have axis (a : Axis) : (advance (s.sampledIn v)).axis a
      = { s.axis a with setpoint := p.get a, lower := false, upper := false, ready := true } := by
    obtain ⟨lower, upper, ready⟩ := levels a
    rw [advance_axis, setpoints, State.axis_sampledIn, lower, upper, ready]
  have near (a : Axis) : (((advance (s.sampledIn v)).axis a).setpoint
      - ((advance (s.sampledIn v)).axis a).scale).natAbs ≤ (advance (s.sampledIn v)).cfg.followLimit := by
    have cfg : (advance (s.sampledIn v)).cfg = s.cfg := by simp [State.cfg, State.sampledIn]
    rw [axis, cfg]
    exact follows a
  have fixed := foldl_fixed (f := fun t w => watch v w t) (watch_of_quiet
      ⟨levels, by simpa [State.sampledIn] using seated⟩ near) (watchOrder order)
  have tracked : (advance (s.sampledIn v)).axes.chan.map AxisChan.track = (advance (s.sampledIn v)).axes.chan := by
    refine V3.ext_get fun a => ?_
    rw [V3.get_map]
    refine AxisChan.track_of_running ?_
    change ((advance (s.sampledIn v)).axis a).mode = .idle ∨ ((advance (s.sampledIn v)).axis a).mode = .moving
    rw [axis]
    exact modes a
  refine ⟨?_, axis, ?_, ?_⟩
  · rw [motionPeriod_eq, fixed, tracked]
    rfl
  · simp [State.sampledIn, sampleLevels]
  · simp [State.sampledIn]

theorem sameBut_advance_sampledIn (v : Samples) (s : State) :
    s.sameBut (advance (s.sampledIn v)) [.clock, .axes, .motion, .probes] := by
  intro p outside
  cases p <;> simp [State.sameIn, State.sampledIn] at outside ⊢

/-! ## The segment in flight -/

theorem advance_of_running {s : State} {g : Segment} (running : s.motion.state = .running)
    (flying : s.flying = some g) :
    advance s = match g.state with
      | .running => match g.decel with
        | some vel => stopPeriod g vel s
        | none => runPeriod g s
      | .touched => touchedPeriod g s
      | .retracting => backOffPeriod g s
      | .settling => s
      | .queued => s
      | .waitingZone => s := by
  have still : advanceReference s = s := by simp [advanceReference, State.referenceRun, running]
  rw [advance, still, advanceSegment, flying] <;> rfl

/-- A period along a profile: the record advances, the axes are sent a point, and with the last entry the segment
settles. -/
def travelOn (g : Segment) (p : V3 Int) (last : Bool) (s : State) : State :=
  if last then enterSettling g ((s.setCurrent g).sendSetpoints p) else (s.setCurrent g).sendSetpoints p

theorem runPeriod_eq (g : Segment) (s : State) :
    runPeriod g s = travelOn
      { g with sent := g.sent + 1, dist := g.dist + profileEntry g.len g.feed s.cfg.accel (g.sent + 1) }
      (g.pointAt (g.dist + profileEntry g.len g.feed s.cfg.accel (g.sent + 1)))
      (decide (profileLength g.len g.feed s.cfg.accel ≤ g.sent + 1)) s := by
  simp only [travelOn, decide_eq_true_eq]
  rfl

theorem backOffPeriod_eq (g : Segment) (s : State) :
    backOffPeriod g s = travelOn
      { g with back := g.back + profileEntry (g.backOffLen s) g.feed s.cfg.accel (g.backSent + 1)
               backSent := g.backSent + 1 }
      (g.pointAt (g.touchedAt.getD 0
        - (g.back + profileEntry (g.backOffLen s) g.feed s.cfg.accel (g.backSent + 1))))
      (decide (profileLength (g.backOffLen s) g.feed s.cfg.accel ≤ g.backSent + 1)) s := by
  simp only [travelOn, decide_eq_true_eq]
  rfl

theorem axis_travelOn (g : Segment) (p : V3 Int) (last : Bool) (s : State) (a : Axis) :
    ((travelOn g p last s).axis a).setpoint = p.get a := by
  have sent : (((s.setCurrent g).sendSetpoints p).axis a).setpoint = p.get a := by rw [State.axis_sendSetpoints]
  unfold travelOn
  split
  · have axes : (enterSettling g ((s.setCurrent g).sendSetpoints p)).axis a
        = ((s.setCurrent g).sendSetpoints p).axis a := by simp [State.axis]
    rw [axes, sent]
  · exact sent

theorem enterSettlingAt_motion {period : Nat} {g h : Segment} {rest : List Segment} {s : State}
    (host : s.motion.state ≠ .changing) (queue : s.motion.queue = h :: rest) :
    (enterSettlingAt period g s).motion = { s.motion with
      queue := { g with state := .settling, decel := none, settleSince := period } :: rest } := by
  simp [enterSettlingAt, State.setCurrent_of_head host queue]

theorem travelOn_last {g h : Segment} {rest : List Segment} {s : State} (p : V3 Int)
    (host : s.motion.state ≠ .changing) (queue : s.motion.queue = h :: rest) :
    (travelOn g p true s).motion = { s.motion with
      queue := { g with state := .settling, decel := none, settleSince := s.clock } :: rest } := by
  have sent : ((s.setCurrent g).sendSetpoints p).motion = { s.motion with queue := g :: rest } := by
    simp [State.setCurrent_of_head host queue, State.sendSetpoints]
  have clock : ((s.setCurrent g).sendSetpoints p).clock = s.clock := by simp [State.sendSetpoints]
  rw [travelOn, if_pos rfl, enterSettling, enterSettlingAt_motion (by rwa [sent]) (by rw [sent]), sent, clock]

theorem travelOn_on {g h : Segment} {rest : List Segment} {s : State} (p : V3 Int)
    (host : s.motion.state ≠ .changing) (queue : s.motion.queue = h :: rest) :
    (travelOn g p false s).motion = { s.motion with queue := g :: rest } ∧ (travelOn g p false s).probes = s.probes
        := by
  simp [travelOn, State.setCurrent_of_head host queue, State.sendSetpoints]

theorem Segment.pointAt_of_geom {g : Segment} {geo : Geom} (h : g.geom = some geo) (d : Nat) :
    g.pointAt d = pathPoint geo.start g.target geo.len d := by rw [Segment.pointAt, h]

theorem Segment.len_of_geom {g : Segment} {geo : Geom} (h : g.geom = some geo) : g.len = geo.len := by
  rw [Segment.len, h]
  rfl

theorem Segment.backOffLen_of_touched {g : Segment} {d : Nat} (h : g.touchedAt = some d) (s : State) :
    g.backOffLen s = min s.cfg.backOff d := by rw [Segment.backOffLen, h, Option.getD_some]

/-! ## One period of the segment in flight -/

/-- The state follows a running one by a quiet period that sends a point. -/
def State.sentTo (s : State) (v : Samples) (order : List Watch) (p : V3 Int) (t : State) : Prop :=
  exec (.motionPeriod v order) s = .next t
    ∧ s.sameBut t [.clock, .axes, .motion, .probes] ∧ t.clock = s.clock + 1
    ∧ (∀ a, t.axis a = { s.axis a with setpoint := p.get a, lower := false, upper := false, ready := true })
    ∧ t.axes.retracted = v.retracted
    ∧ ∀ a, t.outputs.setpointWord.get a = some (msbBits 32 (p.get a % 2 ^ 32).toNat)

theorem outputs_setpointWord {s : State} {a : Axis} (on : (s.axis a).mode ≠ .off) :
    s.outputs.setpointWord.get a = some (msbBits 32 ((s.axis a).setpoint % 2 ^ 32).toNat) :=
  (V3.get_map _ _ a).trans (if_neg on)

theorem sentTo_of_advance {s : State} {v : Samples} {p : V3 Int} (order : List Watch)
    (modes : ∀ a, (s.axis a).mode = .moving) (quiet : s.quiet v)
    (setpoints : ∀ a, ((advance (s.sampledIn v)).axis a).setpoint = p.get a) (follows : s.follows p) :
    s.sentTo v order p (advance (s.sampledIn v)) := by
  obtain ⟨run, axis, retracted, clock⟩ := motionPeriod_of_quiet order quiet (fun a => .inr (modes a)) setpoints follows
  refine ⟨congrArg Host.Outcome.next run, sameBut_advance_sampledIn v s, clock, axis, retracted, fun a => ?_⟩
  rw [outputs_setpointWord (by rw [axis, modes]; decide), axis]

/-- Settles O22: the period of each state of the segment in flight. -/
theorem motionPeriodAdvancesTheSegment : Obligations.MotionPeriodAdvancesTheSegment := by
  intro g rest v order s running queue modes quiet moved
  have host : s.motion.state ≠ .changing := by simp [running]
  have sampled_motion : (s.sampledIn v).motion = s.motion := by simp [State.sampledIn]
  have sampled_probes : (s.sampledIn v).probes = s.probes := by simp [State.sampledIn]
  have sampled_cfg : (s.sampledIn v).cfg = s.cfg := by simp [State.sampledIn, State.cfg]
  have sampled_clock : (s.sampledIn v).clock = s.clock + 1 := by simp [State.sampledIn]
  have sampled_host : (s.sampledIn v).motion.state ≠ .changing := by rwa [sampled_motion]
  have sampled_queue : (s.sampledIn v).motion.queue = g :: rest := by rwa [sampled_motion]
  have flying (inFlight : g.state.flying = true) : (s.sampledIn v).flying = some g :=
    State.flying_of_head sampled_host sampled_queue inFlight
  have advanced (inFlight : g.state.flying = true) :=
    advance_of_running (by rwa [sampled_motion]) (flying inFlight)
  have unmoved : (s.sampledIn v).setpoints = s.setpoints :=
    State.setpoints_congr fun a => by rw [State.axis_sampledIn]
  have goes {p : V3 Int} (setpoints : ∀ a, ((advance (s.sampledIn v)).axis a).setpoint = p.get a)
      (follows : s.follows p) : moved (advance (s.sampledIn v)) p :=
    sentTo_of_advance order modes quiet setpoints follows
  refine ⟨fun geo state decel geom => ?_, fun geo vel state decel geom fast => ?_, fun state resent follows => ?_,
    fun geo d state resent decel geom touched back backSent => ?_, fun state follows => ?_,
    fun geo d state decel geom touched => ?_⟩
  · have along := advanced (by rw [state]; rfl)
    rw [state, decel] at along
    dsimp only at along
    rw [runPeriod_eq, sampled_cfg, Segment.pointAt_of_geom geom, Segment.len_of_geom geom] at along
    intro k d p follows
    refine ⟨_, goes (fun a => by rw [along, axis_travelOn]) follows, fun more => ?_, fun last => ?_⟩
    · rw [along, decide_eq_false (not_le.mpr more), ← sampled_motion, ← sampled_probes]
      exact travelOn_on p sampled_host sampled_queue
    · rw [along, decide_eq_true last, travelOn_last p sampled_host sampled_queue, sampled_motion, sampled_clock]
      simp only [decel]
      rfl
  · have along := advanced (by rw [state]; rfl)
    rw [state, decel] at along
    intro d p follows
    have still_fast : vel - s.cfg.accel ≠ 0 := by omega
    have stopped : advance (s.sampledIn v)
        = ((s.sampledIn v).setCurrent { g with dist := d, decel := some (vel - s.cfg.accel) }).sendSetpoints p := by
      rw [along]
      simp only [stopPeriod, sampled_cfg, Segment.len_of_geom geom]
      rw [if_neg still_fast]
      exact congrArg _ (Segment.pointAt_of_geom geom d)
    refine ⟨_, goes (fun a => by rw [stopped, State.axis_sendSetpoints]) follows, ?_, ?_⟩
    · simp [stopped, State.sendSetpoints, sampled_probes]
    · simp [stopped, State.sendSetpoints, State.setCurrent_of_head sampled_host sampled_queue, sampled_motion]
  · have along := advanced (by rw [state]; rfl)
    rw [state] at along
    have again : advance (s.sampledIn v) = (s.sampledIn v).setCurrent { g with resent := true } := by
      rw [along]
      simp [touchedPeriod, resent]
    refine ⟨_, goes (fun a => ?_) follows, ?_, ?_⟩
    · rw [again, ← unmoved, State.get_setpoints]
      simp [State.axis]
    · simp [again, State.setCurrent_of_head sampled_host sampled_queue, sampled_motion]
    · simp [again, sampled_probes]
  · have along := advanced (by rw [state]; rfl)
    rw [state] at along
    have length : g.backOffLen (s.sampledIn v) = min s.cfg.backOff d := by
      rw [Segment.backOffLen_of_touched touched, sampled_cfg]
    intro length_r u p
    refine ⟨fun none_back follows => ?_, fun some_back follows => ?_⟩
    · have settled : advance (s.sampledIn v) = enterSettlingAt s.clock g (s.sampledIn v) := by
        rw [along]
        simp only [touchedPeriod, resent, length, sampled_clock, Nat.add_sub_cancel, Bool.not_true]
        exact if_pos none_back
      refine ⟨_, goes (fun a => ?_) follows, ?_⟩
      · rw [settled, ← unmoved, State.get_setpoints]
        simp [State.axis]
      · rw [settled, enterSettlingAt_motion sampled_host sampled_queue, sampled_motion]
        simp only [decel]
    · have begins : advance (s.sampledIn v)
          = travelOn { g with state := .retracting, back := u, backSent := 1 } p
              (decide (profileLength length_r g.feed s.cfg.accel ≤ 1)) (s.sampledIn v) := by
        rw [along]
        simp only [touchedPeriod, resent, length, Bool.not_true]
        rw [if_neg (by decide), if_neg some_back, backOffPeriod_eq]
        have point : Segment.pointAt { g with state := .retracting } (d - u) = p :=
          Segment.pointAt_of_geom (g := { g with state := .retracting }) geom _
        simp only [sampled_cfg, back, backSent, touched, Nat.zero_add, Option.getD_some]
        exact congrArg (travelOn _ · _ _) point
      refine ⟨_, goes (fun a => by rw [begins, axis_travelOn]) follows, fun more => ?_, fun last => ?_⟩
      · rw [begins, decide_eq_false (not_le.mpr more), ← sampled_motion, ← sampled_probes]
        exact travelOn_on p sampled_host sampled_queue
      · rw [begins, decide_eq_true last, travelOn_last p sampled_host sampled_queue, sampled_motion, sampled_clock]
        simp only [decel]
  · have along := advanced (by rw [state]; rfl)
    rw [state] at along
    refine ⟨_, goes (fun a => ?_) follows, ?_, ?_⟩
    · rw [along, ← unmoved, State.get_setpoints]
    · rw [along, sampled_motion]
    · rw [along, sampled_probes]
  · have along := advanced (by rw [state]; rfl)
    rw [state] at along
    dsimp only at along
    have top : g.touchedAt.getD 0 = d := by rw [touched, Option.getD_some]
    rw [backOffPeriod_eq, Segment.backOffLen_of_touched touched, sampled_cfg, top,
      Segment.pointAt_of_geom geom] at along
    intro length_r k u p follows
    refine ⟨_, goes (fun a => by rw [along, axis_travelOn]) follows, fun more => ?_, fun last => ?_⟩
    · rw [along, decide_eq_false (not_le.mpr more), ← sampled_motion, ← sampled_probes]
      exact travelOn_on p sampled_host sampled_queue
    · rw [along, decide_eq_true last, travelOn_last p sampled_host sampled_queue, sampled_motion, sampled_clock]
      simp only [decel]
      rfl

end Sys2Proof.Machine
end

section
/-! PROOFS. The reference of an axis (R15 to R18): when it may begin, its mark, its two ends, and its motion
periods. -/

namespace Sys2Proof.Machine

/-! ## The command (R15) -/

theorem heldSet_eq_all_iff (s : State) : s.heldSet = CellSet.all ↔ ∀ c, (s.cell c).state = .held s.own := by
  constructor
  · intro all c
    have held := s.has_heldSet c
    rw [all, CellSet.has_all] at held
    simpa using held.symm
  · intro held
    exact CellSet.ext_has fun c => by simp [held c]

/-- What R15 asks before a reference begins. -/
def State.referenceAllowed (s : State) : Prop :=
  s.motion.state = .idle ∧ (∀ b, (s.axis b).mode = .idle) ∧ s.motion.queue = []
    ∧ (s.axes.retracted = true ∨ ∀ c, (s.cell c).state = .held s.own)

theorem mayReference_iff_allowed (s : State) : s.mayReference = true ↔ s.referenceAllowed := by
  rw [mayReference_iff, heldSet_eq_all_iff]
  rfl

theorem axisOf_axisNum (a : Axis) : axisOf (axisNum a) = some a := by cases a <;> rfl

theorem axisNum_lt (a : Axis) : axisNum a < 256 := by cases a <;> decide

theorem referenceAxis_of_axis (a : Axis) (s : State) :
    referenceAxis (one (axisNum a)) s
      = if s.mayReference then (beginReference a s).answer .ok [] else s.answer .wrongState [] := by
  rw [referenceAxis, withLength_eq (length_one _), field_one (axisNum_lt a), axisOf_axisNum]

theorem referenceAxis_no_axis {n : Nat} (beyond : 3 ≤ n) (byte : n < 256) (s : State) :
    referenceAxis (one n) s = s.answer .outOfRange [] := by
  rw [referenceAxis, withLength_eq (length_one _), field_one byte, axisOf_none beyond]

/-! ## The reference in progress (R16 to R18) -/

theorem referenceRun_of_state {s : State} {r : RefRun} (state : s.motion.state = .referencing)
    (run : s.motion.reference = some r) : s.referenceRun = some r := by
  rw [State.referenceRun, if_pos state, run]

theorem takeReferenceMark_first {s : State} {r : RefRun} (run : s.referenceRun = some r) (unmarked : r.marked = false) :
    takeReferenceMark r.axis s
      = (s.setAxis r.axis { s.axis r.axis with
            scale := s.cfg.refValues.get r.axis
            setpoint := count32 ((s.axis r.axis).setpoint
              + (s.cfg.refValues.get r.axis - (s.axis r.axis).scale)) }).setMotion
          { s.motion with reference := some { r with marked := true } } := by
  have first : r.axis = r.axis ∧ (!r.marked) = true := ⟨rfl, by rw [unmarked]; rfl⟩
  rw [takeReferenceMark, run]
  exact if_pos first

theorem takeReferenceMark_other {s : State} {r : RefRun} {a : Axis} (run : s.referenceRun = some r)
    (other : a ≠ r.axis ∨ r.marked = true) : takeReferenceMark a s = s := by
  have not_first : ¬ (r.axis = a ∧ (!r.marked) = true) := by
    rcases other with axis | marked
    · exact fun h => axis h.1.symm
    · simp [marked]
  rw [takeReferenceMark, run]
  exact if_neg not_first

theorem atRest_iff (r : RefRun) (s : State) : r.atRest s = true ↔ r.vel ≤ s.cfg.accel := decide_eq_true_iff

theorem endReference_of_rest {s : State} {r : RefRun} (run : s.referenceRun = some r) (marked : r.marked = true)
    (travelling : r.stopping = false) (rest : r.vel ≤ s.cfg.accel) :
    endReference s = handOverIfEmpty (leaveReference r true .idle s) := by
  rw [endReference, run]
  exact if_pos (by simp [marked, travelling, (atRest_iff r s).mpr rest])

theorem endReferenceStop_of_rest {s : State} {r : RefRun} (run : s.referenceRun = some r) (stopping : r.stopping = true)
    (rest : r.vel ≤ s.cfg.accel) : endReferenceStop s = leaveReference r false .held s := by
  rw [endReferenceStop, run]
  exact if_pos (by simp [stopping, (atRest_iff r s).mpr rest])

theorem leaveReference_axis_same (r : RefRun) (v : Bool) (m : MotionState) (s : State) :
    (leaveReference r v m s).axis r.axis = { s.axis r.axis with referenced := v, mode := .idle } :=
  State.axis_setAxis_same s r.axis _

theorem leaveReference_axis_other (r : RefRun) (v : Bool) (m : MotionState) (s : State) {b : Axis} (h : b ≠ r.axis) :
    (leaveReference r v m s).axis b = s.axis b := State.axis_setAxis_other s _ h

theorem leaveReference_setpoints (r : RefRun) (v : Bool) (m : MotionState) (s : State) :
    (leaveReference r v m s).setpoints = s.setpoints := by
  refine State.setpoints_congr fun b => ?_
  by_cases same : b = r.axis
  · rw [same, leaveReference_axis_same]
  · rw [leaveReference_axis_other r v m s same]

theorem allReferenced_iff (s : State) : s.allReferenced = true ↔ ∀ a, (s.axis a).referenced = true := by
  rw [State.allReferenced, V3.all_iff]
  rfl

/-- With another axis unreferenced no cell is handed over (R47). -/
theorem handOverIfEmpty_of_unreferenced {s : State} (h : ∃ a,
    (s.axis a).referenced = false) : handOverIfEmpty s = s := by
  obtain ⟨a, unreferenced⟩ := h
  have notAll : s.allReferenced = false := by
    rw [← Bool.not_eq_true, allReferenced_iff]
    intro all
    simp [all a] at unreferenced
  simp [handOverIfEmpty, State.emptyHandOverDue, notAll]

theorem abandoned_of_none {s : State} (h : s.zone.claim = none) : s.abandoned = none := by
  rw [State.abandoned, h]

/-- The rest set is handed over at once where no claim stands (R47). -/
theorem handOverIfEmpty_of_due {s : State} (due : s.emptyHandOverDue = true) (noClaim : s.zone.claim = none) :
    handOverIfEmpty s = handOver s.restHere s := by
  rw [handOverIfEmpty, if_pos due, abandoned_of_none noClaim]
  rfl

theorem flying_of_empty {s : State} (host : s.motion.state ≠ .changing) (queue : s.motion.queue = []) :
    s.flying = none := by
  rw [State.flying, State.current, if_neg host, queue]
  rfl

/-! ## The motion periods of a reference (R16 to R18) -/

theorem RefRun.advance_eq (r : RefRun) (feed accel : Nat) :
    r.advance feed accel = { r with
      vel := if r.marked ∨ r.stopping then r.vel - accel else min feed ((r.k + 1) * accel)
      k := if r.marked ∨ r.stopping then r.k else r.k + 1 } := by
  unfold RefRun.advance
  split_ifs <;> simp_all

theorem advance_of_reference {s : State} {r : RefRun} (state : s.motion.state = .referencing)
    (run : s.motion.reference = some r) (queue : s.motion.queue = []) :
    advance s = (s.setAxis r.axis { s.axis r.axis with
        setpoint := count32 ((s.axis r.axis).setpoint - ((r.advance s.cfg.refFeed s.cfg.accel).vel : Nat)) }).setMotion
      { s.motion with reference := some (r.advance s.cfg.refFeed s.cfg.accel) } := by
  have travelled : advanceReference s
      = (s.setAxis r.axis { s.axis r.axis with
          setpoint := count32 ((s.axis r.axis).setpoint
            - ((r.advance s.cfg.refFeed s.cfg.accel).vel : Nat)) }).setMotion
        { s.motion with reference := some (r.advance s.cfg.refFeed s.cfg.accel) } := by
    rw [advanceReference, referenceRun_of_state state run]
    rfl
  rw [advance, travelled, advanceSegment, flying_of_empty (by simp [state]) (by simpa using queue)]

/-- Settles O16: the command, the mark, the two ends and the periods. -/
theorem referenceFromStartToEnd : Obligations.ReferenceFromStartToEnd := by
  refine ⟨fun s => ⟨fun a => ?_, fun n beyond byte => ?_⟩, fun r s state run => ?_⟩
  · intro allowed
    have may : s.mayReference = true ↔ allowed := mayReference_iff_allowed s
    have begun : exec (.referenceAxis (one (axisNum a))) s = .next (if s.mayReference then
        (beginReference a s).answer .ok [] else s.answer .wrongState []) :=
      congrArg Host.Outcome.next (referenceAxis_of_axis a s)
    refine ⟨fun ready => ?_, fun barred => ?_⟩
    · rw [if_pos (may.mpr ready)] at begun
      exact ⟨_, begun, exec_sameBut begun, State.axis_setAxis_same s a _,
        fun b other => State.axis_setAxis_other s _ other, rfl, rfl, rfl⟩
    · rw [begun, if_neg (mt may.mp barred)]
  · exact congrArg Host.Outcome.next (referenceAxis_no_axis beyond byte s)
  have inProgress := referenceRun_of_state state run
  refine ⟨fun unmarked fit => ?_, fun a other => congrArg Host.Outcome.next (takeReferenceMark_other inProgress other),
    fun marked travelling rest => ?_, fun stopping rest => ?_, fun v order queue modes quiet => ?_⟩
  · have marks : exec (.referenceMark r.axis) s = .next (takeReferenceMark r.axis s) := rfl
    rw [takeReferenceMark_first inProgress unmarked, count32_of_fits fit] at marks
    have axis := State.axis_setAxis_same s r.axis { s.axis r.axis with
      scale := s.cfg.refValues.get r.axis
      setpoint := (s.axis r.axis).setpoint + (s.cfg.refValues.get r.axis - (s.axis r.axis).scale) }
    refine ⟨_, marks, exec_sameBut marks, congrArg AxisChan.scale axis, ?_,
      fun b other => State.axis_setAxis_other s _ other, rfl⟩
    refine (congrArg₂ (· - ·) (congrArg AxisChan.setpoint axis) (congrArg AxisChan.scale axis)).trans ?_
    dsimp only
    ring
  · have ends : exec .referenceEnd s = .next (endReference s) := rfl
    rw [endReference_of_rest inProgress marked travelling rest] at ends
    have axis (b : Axis) : (handOverIfEmpty (leaveReference r true .idle s)).axis b
        = (leaveReference r true .idle s).axis b := by simp [State.axis]
    refine ⟨_, ends, exec_sameBut ends, (axis _).trans (leaveReference_axis_same r true .idle s),
      fun b other => (axis b).trans (leaveReference_axis_other r true .idle s other), by simp [leaveReference],
      by simp [leaveReference], by simp [leaveReference], fun unreferenced => ?_, fun referenced queue calm => ?_⟩
    · obtain ⟨b, other, notYet⟩ := unreferenced
      rw [handOverIfEmpty_of_unreferenced ⟨b, by rwa [leaveReference_axis_other r true .idle s other]⟩]
      intro p outside
      cases p <;> simp at outside <;> rfl
    · have all : (leaveReference r true .idle s).allReferenced = true := by
        rw [allReferenced_iff]
        intro b
        by_cases same : b = r.axis
        · rw [same, leaveReference_axis_same]
        · rw [leaveReference_axis_other r true .idle s same]
          exact referenced b same
      have due : (leaveReference r true .idle s).emptyHandOverDue = true := by
        have idle : (leaveReference r true .idle s).motion.state = .idle := rfl
        have still : (leaveReference r true .idle s).flying = none := flying_of_empty (by simp [idle]) queue
        simpa [State.emptyHandOverDue, all, still, idle] using queue
      have rest : (leaveReference r true .idle s).restHere = restSet s.cfg s.setpoints := by
        rw [State.restHere, leaveReference_setpoints]
        rfl
      rw [handOverIfEmpty_of_due due calm.1, rest]
      exact (State.handsOver_congr ⟨rfl, rfl, rfl, rfl⟩).mp (handOver_handsOver _ _)
  · have ends : exec .referenceStopEnd s = .next (endReferenceStop s) := rfl
    rw [endReferenceStop_of_rest inProgress stopping rest] at ends
    exact ⟨_, ends, fun p outside => by cases p <;> simp at outside <;> rfl,
      leaveReference_axis_same r false .held s, fun b => leaveReference_axis_other r false .held s, rfl⟩
  · intro vel p fit follows
    have moved : advance (s.sampledIn v)
        = ((s.sampledIn v).setAxis r.axis { (s.sampledIn v).axis r.axis with
            setpoint := p.get r.axis }).setMotion
          { s.motion with reference := some (r.advance s.cfg.refFeed s.cfg.accel) } := by
      have cfg : (s.sampledIn v).cfg = s.cfg := by simp [State.sampledIn, State.cfg]
      have motion : (s.sampledIn v).motion = s.motion := by simp [State.sampledIn]
      have point : p.get r.axis = (s.axis r.axis).setpoint - ((r.advance s.cfg.refFeed s.cfg.accel).vel : Nat) := by
        rw [RefRun.advance_eq]
        exact V3.get_set_same _ _ _
      have step : count32 (((s.sampledIn v).axis r.axis).setpoint
          - ((r.advance s.cfg.refFeed s.cfg.accel).vel : Nat)) = p.get r.axis := by
        rw [point] at fit ⊢
        rw [State.axis_sampledIn]
        exact count32_of_fits fit
      rw [advance_of_reference (by rwa [motion]) (by rwa [motion]) (by rwa [motion]), cfg, motion, step]
    have setpoints (a : Axis) : ((advance (s.sampledIn v)).axis a).setpoint = p.get a := by
      rw [moved]
      by_cases same : a = r.axis
      · rw [same]
        exact congrArg AxisChan.setpoint (State.axis_setAxis_same _ _ _)
      · refine (congrArg AxisChan.setpoint (State.axis_setAxis_other _ _ same)).trans ?_
        rw [State.axis_sampledIn]
        exact (s.get_setpoints a).symm.trans (V3.get_set_other _ _ same).symm
    obtain ⟨period, axis, retracted, clock⟩ := motionPeriod_of_quiet order quiet modes setpoints follows
    refine ⟨_, congrArg Host.Outcome.next period, ?_, clock, axis, retracted, ?_⟩
    · intro part outside
      rw [moved]
      cases part <;> simp at outside <;> rfl
    · rw [moved, RefRun.advance_eq]
      rfl

end Sys2Proof.Machine
end

section
/-! PROOFS. Touches, finished computations and the reading of points (Table 2-4, R39, R164, R183 to R185, R193): each
effect is read off its operation, and the hold that follows the hold count leaves it. -/

namespace Sys2Proof.Machine

/-! ## The hold that follows -/

/-- Where the hold count has not changed, nothing follows. -/
theorem holdChanged_of_eq {before : Nat} {s : State} (same : s.holdCount = before) : holdChanged before s = s := by
  have flag : (updateHold before s).points.hold = s.points.hold := by
    rw [updateHold_hold, same, holdAfter]
    simp
  rw [holdChanged_of_le same.ge, updateHold]
  rw [updateHold_hold] at flag
  simp [flag]
  rfl

/-- With the hold off a fall of the hold count changes nothing. -/
theorem holdChanged_of_off {before : Nat} {s : State} (off : s.points.hold = false) (fall : s.holdCount ≤ before) :
    holdChanged before s = s := by
  have flag : holdAfter s.cfg.holdLevel s.cfg.hysteresis before s.holdCount s.points.hold = false := by
    rw [off, holdAfter]
    simp [not_lt.mpr fall]
  have still : s.setPoints { s.points with hold := false } = s := by rw [← off]; rfl
  have update : updateHold before s = s := by
    rw [updateHold, flag, still]
    rfl
  rw [holdChanged, update, off]
  rfl

theorem takeWork_idle {s : State} (latch : s.probes.latch = none) (request : s.corr.request = none) :
    takeWork s = s := by
  simp [takeWork, latch, request]

theorem takeWork_busy {s : State} (busy : s.corr.computing.isSome) : takeWork s = s := if_pos busy

/-- The latch is taken where no request waits or the latch was filled first (R164). -/
theorem takeWork_latch {s : State} {l : Latch} (idle : s.corr.computing = none) (latch : s.probes.latch = some l)
    (first : s.corr.request = none ∨ s.corr.requestFirst = false) :
    takeWork s = (s.setProbes { s.probes with latch := none }).setCorr
      { s.corr with computing := some (.touch l), requestFirst := s.corr.request.isSome } := by
  rw [takeWork, idle, latch]
  cases request : s.corr.request with
  | none => rfl
  | some r =>
    rcases first with none_waits | filled
    · simp [request] at none_waits
    · simp [filled]

/-- The request is taken where it alone waits or was filled before the latch (R164). -/
theorem takeWork_request {s : State} {r : NoContact} (idle : s.corr.computing = none)
    (request : s.corr.request = some r) (first : s.probes.latch = none ∨ s.corr.requestFirst = true) :
    takeWork s = s.setCorr { computing := some (.noContact r), request := none, requestFirst := false } := by
  rw [takeWork, idle, request]
  cases latch : s.probes.latch with
  | none => rfl
  | some l =>
    rcases first with none_waits | filled
    · simp [latch] at none_waits
    · simp [filled]

/-! ## A touch (Table 2-4) -/

theorem touchOutcome_of_flying {s : State} {g : Segment} (state : s.motion.state ≠ .referencing)
    (flying : s.flying = some g) : touchOutcome s = if g.kind = .probe then probeTouch g else .collision := by
  rw [touchOutcome, if_neg state, flying]

theorem touchOutcome_stray {s : State} (state : s.motion.state ≠ .referencing) (still : s.flying = none) :
    touchOutcome s = .stray := by
  rw [touchOutcome, if_neg state, still]

theorem takeTouch_collision {s : State} (c : V3 Int) (h : touchOutcome s = .collision) :
    takeTouch c s = faultStop .collision s := by
  unfold takeTouch
  rw [h]

theorem takeTouch_stray {s : State} (c : V3 Int) (h : touchOutcome s = .stray) :
    takeTouch c s = raiseStrayTouch s := by
  unfold takeTouch
  rw [h]

theorem takeTouch_ignored {s : State} (c : V3 Int) (h : touchOutcome s = .ignored) : takeTouch c s = s := by
  unfold takeTouch
  rw [h]

theorem takeTouch_latched {s : State} {g : Segment} (c : V3 Int) (h : touchOutcome s = .latched)
    (flying : s.flying = some g) : takeTouch c s = latchTouch g c s := by
  unfold takeTouch
  rw [h, flying]

/-- What R39 and R160 do at a latched touch, before the Correction Unit is offered the latch. -/
def State.touchedBy (s : State) (g : Segment) (rest : List Segment) (e : LibEntry) (bank : Bank) (l : Latch) : State :=
  { s with
    probes := { s.probes with
      library := replaceEntry (e.withSet bank l.set) s.probes.library
      latch := some l }
    motion := { s.motion with
      queue := g.touch :: rest
      stopPending := s.motion.stopPending || g.decel.isSome } }

/-- The hold count has risen by the latch, so the hold may set, and work is offered. -/
theorem latchTouch_of_known {s : State} {g : Segment} {rest : List Segment} {i : Ident} {e : LibEntry} (c : V3 Int)
    (host : s.motion.state ≠ .changing) (queue : s.motion.queue = g :: rest) (current : s.probes.current = .known i)
    (found : s.entry i = some e) (empty : s.probes.latch = none) :
    latchTouch g c s = takeWork (updateHold s.holdCount (s.touchedBy g rest e (g.bank.getD s.probes.live)
      (latchOf g i (g.bank.getD s.probes.live) (e.set (g.bank.getD s.probes.live)).touch c s))) := by
  have rise : s.holdCount ≤ (s.touchedBy g rest e (g.bank.getD s.probes.live)
      (latchOf g i (g.bank.getD s.probes.live) (e.set (g.bank.getD s.probes.live)).touch c s)).holdCount := by
    simp only [State.holdCount, State.owedCount, empty, count1, State.touchedBy]
    split_ifs <;> simp_all
  rw [← holdChanged_of_le rise]
  unfold latchTouch
  rw [current, empty]
  dsimp only
  rw [found]
  dsimp only
  rw [State.setCurrent_of_head (by simpa using host) (by simpa using queue)]
  rfl

theorem sameBut_takeWork_updateHold (before : Nat) (s : State) :
    s.sameBut (takeWork (updateHold before s)) [.probes, .corr, .points, .events] := by
  intro p outside
  cases p <;> simp [State.sameIn] at outside ⊢

/-- Settles O28: the outcome by what is in flight, and the latched touch with what the Correction Unit takes. -/
theorem touchByWhatIsInFlight : Obligations.TouchByWhatIsInFlight := by
  intro c s
  have run : exec (.touch c) s = .next (takeTouch (c.map BitVec.toInt) s) := rfl
  refine ⟨fun g rest geo i e running queue geom probe state current found empty noRequest => ?_,
    fun state still => ?_, fun g state flying probe touched => ?_, fun collides => ?_⟩
  · intro bank used latch
    have host : s.motion.state ≠ .changing := by simp [running]
    have flying : s.flying = some g := by
      refine State.flying_of_head host queue ?_
      rcases state with state | ⟨state, -⟩ <;> rw [state] <;> rfl
    have outcome : touchOutcome s = .latched := by
      rw [touchOutcome_of_flying (by simp [running]) flying, if_pos probe, probeTouch]
      rcases state with state | ⟨state, untouched⟩
      · rw [state]
      · rw [state, untouched]
        rfl
    have filled : latchOf g i bank used (c.map BitVec.toInt) s = latch := by
      simp only [latchOf, geom, Segment.len_of_geom geom]
      rfl
    have latched := latchTouch_of_known (c.map BitVec.toInt) host queue current found empty
    rw [takeTouch_latched _ outcome flying, latched] at run
    change exec (.touch c) s = .next (takeWork (updateHold s.holdCount (s.touchedBy g rest e bank
      (latchOf g i bank used (c.map BitVec.toInt) s)))) at run
    rw [filled] at run
    refine ⟨_, run, ?_, ?_, fun idle => ?_, fun busy => ?_, ?_, ?_⟩
    · refine State.sameBut_mono (ps := [.probes, .motion] ++ [.probes, .corr, .points, .events])
        (State.sameBut_trans ?_ (sameBut_takeWork_updateHold _ _)) (by simp)
      intro p outside
      cases p <;> simp at outside <;> rfl
    · have ident : (e.withSet bank used).ident = i := (e.withSet_ident bank used).trans (entry_ident found)
      simp only [takeWork_leaves, updateHold_keeps, State.touchedBy, replaceEntry]
      refine List.map_congr_left fun x _ => ?_
      change (if x.ident = (e.withSet bank used).ident then _ else _) = _
      rw [ident]
    · rw [takeWork_latch (l := latch) (by simpa [State.touchedBy] using idle) (by simp [State.touchedBy])
        (.inl (by simpa [State.touchedBy] using noRequest))]
      exact ⟨rfl, rfl⟩
    · rw [takeWork_busy (by simpa [State.touchedBy] using busy)]
      simp [State.touchedBy]
    · simp [State.touchedBy, Segment.touch, Segment.len_of_geom geom]
    · simp [State.touchedBy]
  · rw [run, takeTouch_stray _ (touchOutcome_stray state still)]
  · have outcome : touchOutcome s = .ignored := by
      rw [touchOutcome_of_flying state flying, if_pos probe, probeTouch]
      rcases touched with state | ⟨state, touched⟩
      · rw [state]
      · obtain ⟨d, at_d⟩ := Option.isSome_iff_exists.mp touched
        rw [state, at_d]
        rfl
    rw [run, takeTouch_ignored _ outcome]
  · have outcome : touchOutcome s = .collision := by
      rcases collides with referencing | ⟨-, g, flying, what⟩
      · exact if_pos referencing
      · by_cases referencing : s.motion.state = .referencing
        · exact if_pos referencing
        · rw [touchOutcome_of_flying referencing flying]
          rcases what with noProbe | retracting
          · exact if_neg noProbe
          · rw [probeTouch, retracting, ite_self]
    have working : s.motion.state ≠ .faulted := by
      rcases collides with referencing | ⟨working, -⟩
      · simp [referencing]
      · exact working
    rw [takeTouch_collision _ outcome] at run
    exact ⟨_, s.faultTag, run, faultStop_state working, (faultStop_events working).2, by simp, by simp, by simp,
      by simp⟩

/-! ## A finished computation (R164, R182 to R184) -/

/-- The record of the computation has arrived, and the Correction Unit is idle. -/
def State.delivered (s : State) (w : Work) : State :=
  arrive (recordOf s.cfg w) (s.setCorr { s.corr with computing := none })

theorem endCorrection_of_computing {s : State} {w : Work} (h : s.corr.computing = some w) :
    endCorrection s = holdChanged s.holdCount (takeWork (s.delivered w)) := by
  rw [endCorrection, h]
  rfl

theorem arrive_of_room {r : RawRecord} {s : State} (room : s.points.records.length < 64) :
    arrive r s = raisePointReady s.points.counter (s.setPoints { s.points with
      records := s.points.records ++ [{ sequence := s.points.counter, raw := r }]
      counter := s.points.counter + 1
      suspect := suspectOf (s.points.records ++ [{ sequence := s.points.counter, raw := r }]) }) := if_pos room

theorem arrive_of_full {r : RawRecord} {s : State} (full : ¬ s.points.records.length < 64) :
    arrive r s = raiseOverrun s.points.counter (s.setPoints { s.points with
      counter := s.points.counter + 1, overrun := min 255 (s.points.overrun + 1) }) := if_neg full

theorem delivered_leaves (s : State) (w : Work) :
    (s.delivered w).probes = s.probes ∧ (s.delivered w).corr = { s.corr with computing := none } := by
  unfold State.delivered arrive
  dsimp only
  split <;> simp

theorem delivered_counter (s : State) (w : Work) : (s.delivered w).points.counter = s.points.counter + 1 := by
  unfold State.delivered arrive
  dsimp only
  split <;> rfl

theorem delivered_records {s : State} (w : Work) (room : s.points.records.length < 64) :
    (s.delivered w).points.records
      = s.points.records ++ [{ sequence := s.points.counter, raw := recordOf s.cfg w }] := by
  rw [State.delivered, arrive_of_room (by simpa using room)]
  rfl

/-- With room in the queue the hold count stays: the computation goes and its record comes (R187). -/
theorem delivered_holdCount {s : State} {w : Work} (computing : s.corr.computing = some w)
    (room : s.points.records.length < 64) : (s.delivered w).holdCount = s.holdCount := by
  obtain ⟨probes, corr⟩ := delivered_leaves s w
  simp only [State.holdCount, State.owedCount, probes, corr, delivered_records w room, computing, count1,
    List.length_append, List.length_singleton, Option.isSome_some, Option.isSome_none, if_true]
  simp
  omega

/-- The hold that follows raises no OVERRUN of its own. -/
theorem holdChanged_overrun (before : Nat) (s : State) :
    (holdChanged before s).events.kept.overrun = s.events.kept.overrun := by
  have update : (updateHold before s).events.kept.overrun = s.events.kept.overrun := by
    unfold updateHold
    dsimp only
    split <;> rfl
  have weighed (t : State) : (weigh t).events.kept.overrun = t.events.kept.overrun := by
    unfold weigh
    repeat' split
    all_goals simp [refuseNoProbe, raiseProbeRefused, State.raise]
  unfold holdChanged
  dsimp only
  split
  · rw [weighed, update]
  · exact update

/-- Settles O29: the delivery, what is taken behind it, and the hold that follows. -/
theorem correctionEndDeliversTheRecord : Obligations.CorrectionEndDeliversTheRecord := by
  have run {w : Work} {s : State} (computing : s.corr.computing = some w) :
      exec .correctionEnd s = .next (holdChanged s.holdCount (takeWork (s.delivered w))) :=
    congrArg Host.Outcome.next (endCorrection_of_computing computing)
  refine ⟨fun w s computing => ⟨fun l latch first => ?_, fun r request first => ?_⟩,
    fun w s computing latch request => ?_⟩
  · obtain ⟨probes, corr⟩ := delivered_leaves s w
    have taken := takeWork_latch (s := s.delivered w) (l := l) (by rw [corr]) (by rwa [probes]) (by rwa [corr])
    have runs := run computing
    rw [taken] at runs
    refine ⟨_, runs, exec_sameBut runs, ?_, ?_, ?_, fun waits => ?_, ?_, fun room => ?_⟩
    · simp
    · simp
    · simp [corr]
    · simpa [corr] using waits
    · simp [delivered_counter]
    · simp [delivered_records w room]
  · obtain ⟨probes, corr⟩ := delivered_leaves s w
    have taken := takeWork_request (s := s.delivered w) (r := r) (by rw [corr]) (by rwa [corr])
      (by rwa [probes, corr])
    have runs := run computing
    rw [taken] at runs
    refine ⟨_, runs, exec_sameBut runs, ?_, ?_, ?_, ?_, fun room => ?_⟩
    · simp
    · simp
    · simp [probes]
    · simp [delivered_counter]
    · simp [delivered_records w room]
  · obtain ⟨probes, corr⟩ := delivered_leaves s w
    have runs := run computing
    rw [takeWork_idle (by rwa [probes]) (by rwa [corr])] at runs
    refine ⟨fun room => ?_, fun full => ?_⟩
    · rw [holdChanged_of_eq (delivered_holdCount computing room), State.delivered,
        arrive_of_room (by simpa using room)] at runs
      exact ⟨_, runs, fun p outside => by cases p <;> simp at outside <;> rfl, rfl, rfl, rfl⟩
    · have records : (s.delivered w).points = { s.points with
          counter := s.points.counter + 1, overrun := min 255 (s.points.overrun + 1) } := by
        rw [State.delivered, arrive_of_full (by simpa using full)]
        rfl
      have raised : (s.delivered w).events.pends .overrun = true
          ∧ (s.delivered w).events.kept.overrun = some s.points.counter := by
        rw [State.delivered, arrive_of_full (by simpa using full)]
        exact ⟨raiseOverrun_pends _ _, rfl⟩
      refine ⟨_, runs, exec_sameBut runs, ?_, ?_, ?_, ?_, ?_, (State.isPending_iff _ _).mpr ?_, ?_⟩
      · simp [corr]
      · simp [records]
      · simp [records]
      · simp [records]
      · simp [records]
      · exact holdChanged_pends _ _ raised.1
      · rw [holdChanged_overrun, raised.2]

/-! ## Reading points (R185, R193) -/

theorem holdCount_withRecords (s : State) (rs : List PointRecord) :
    (s.setPoints (s.points.withRecords rs)).holdCount = rs.length + s.owedCount := rfl

/-- With the hold off a read of the queue leaves the flag, the arm and the work as they are. -/
theorem sameBut_read {s : State} {rs : List PointRecord} {code : Code} {data : List Byte}
    (fewer : rs.length ≤ s.points.records.length) (off : s.points.hold = false) :
    s.sameBut ((holdChanged s.holdCount (s.setPoints (s.points.withRecords rs))).answer code data)
      [.points, .port] := by
  have still : holdChanged s.holdCount (s.setPoints (s.points.withRecords rs))
      = s.setPoints (s.points.withRecords rs) := by
    refine holdChanged_of_off off ?_
    rw [holdCount_withRecords, State.holdCount]
    exact Nat.add_le_add_right fewer _
  rw [still]
  intro p outside
  cases p <;> simp at outside <;> rfl

/-- Settles O32: the empty queue, the head taken, and all records taken. -/
theorem pointsLeaveTheQueue : Obligations.PointsLeaveTheQueue := by
  intro s
  refine ⟨fun empty => ?_, fun r rest records => ?_, ?_⟩
  · refine congrArg Host.Outcome.next ?_
    rw [readPoint, withLength_eq List.length_nil, empty]
    exact congrArg (s.answer .empty) (List.append_nil _)
  · have runs : exec (.readPoint []) s = .next (readPoint [] s) := rfl
    rw [readPoint, withLength_eq List.length_nil, records] at runs
    refine ⟨_, runs, exec_sameBut runs, ?_, ?_, ?_, ?_, rfl, sameBut_read (by simp [records])⟩
    · simp [Points.withRecords]
    · simp [Points.withRecords]
    · simp [Points.withRecords]
    · simp [Points.withRecords, suspectOf]
  · have runs : exec (.flushPoints []) s = .next (flushPoints [] s) := rfl
    rw [flushPoints, withLength_eq List.length_nil] at runs
    refine ⟨_, runs, exec_sameBut runs, ?_, ?_, ?_, ?_, rfl, sameBut_read (by simp)⟩
    · simp [Points.withRecords]
    · simp [Points.withRecords]
    · simp [Points.withRecords]
    · simp [Points.withRecords, suspectOf]

end Sys2Proof.Machine
end

section
/-! PROOFS. The watches of a motion period (R5, R7 to R9, R144, Table 7-3): an axis that works until a fault stop
freezes it, through every watch of the period, and the seated line with what may still come behind it. -/

namespace Sys2Proof.Machine

/-! ## A working axis -/

/-- Motion is not FAULTED, and the axis is in IDLE or MOVING. -/
def State.works (s : State) (a : Axis) : Prop :=
  s.motion.state ≠ .faulted ∧ ((s.axis a).mode = .idle ∨ (s.axis a).mode = .moving)

theorem State.works.of_same {s t : State} {a : Axis} (h : s.works a)
    (same : t.motion.state = s.motion.state ∧ t.axes = s.axes) : t.works a := by
  obtain ⟨state, axes⟩ := same
  rwa [State.works, State.axis, state, axes]

theorem State.works.held {s t : State} {a : Axis} (h : s.works a)
    (same : t.motion.state = .held ∧ t.axes = s.axes) : t.works a := by
  obtain ⟨state, axes⟩ := same
  refine ⟨by simp [state], ?_⟩
  rw [State.axis, axes]
  exact h.2

theorem State.works.startSegment {s : State} {a : Axis} (h : s.works a) (g : Segment) :
    (startSegment g s).works a := by
  have modes (t : State) : ((t.setModes .moving).axis a).mode = .moving :=
    congrArg AxisChan.mode (V3.get_map _ _ a)
  have moving : (if s.motion.state = .changing then s.setModes .moving
      else (s.setModes .moving).setMotionState .running).works a := by
    split
    · exact ⟨h.1, .inr (modes s)⟩
    · exact ⟨by simp [State.setMotionState], .inr (modes s)⟩
  unfold Machine.startSegment
  dsimp only
  split
  · exact moving.of_same (by simp)
  · exact moving.of_same (by simp)

theorem State.works.weigh {s : State} {a : Axis} (h : s.works a) : (weigh s).works a := by
  unfold Machine.weigh
  split
  · exact h
  · next g _ =>
    repeat' split
    · exact h
    · exact h.startSegment g
    · exact h.held (by simp [refuseNoProbe, State.setMotionState])
    · exact h.of_same (by simp)
    · exact h.startSegment g
    · exact h.startSegment g
    · exact h.of_same (by simp)

theorem State.works.fixGeometry {s : State} {a : Axis} (h : s.works a) (g : Segment) : (fixGeometry g s).works a := by
  unfold Machine.fixGeometry
  dsimp only
  repeat' split
  · exact h.held (by simp [refuseZeroLength, State.setMotionState])
  · exact State.works.weigh (h.of_same (by simp))
  · exact h.of_same (by simp)

theorem State.works.becomeCurrent {s : State} {a : Axis} (h : s.works a) : (becomeCurrent s).works a := by
  unfold Machine.becomeCurrent
  dsimp only
  repeat' split
  · exact h
  · exact h.of_same (by simp)
  · exact h
  · exact h
  · exact State.works.fixGeometry (h.of_same (by simp)) _

theorem State.works.completeDrop {s : State} {a : Axis} (h : s.works a) (ch : Change) : (completeDrop ch s).works a := by
  unfold Machine.completeDrop beginLeaving handInternal
  dsimp only
  exact State.works.becomeCurrent (h.of_same (by split <;> simp))

theorem State.works.completePick {s : State} {a : Axis} (h : s.works a) (ch : Change) : (completePick ch s).works a :=
  h.of_same (by simp)

/-! ## A frozen station -/

/-- Motion is FAULTED with MOTION FAULT pending, every axis in FAULT at the count it had. -/
def State.frozenFrom (s t : State) : Prop :=
  t.motion.state = .faulted ∧ t.events.pends .motionFault = true
    ∧ ∀ b, (t.axis b).mode = .fault ∧ (t.axis b).setpoint = (s.axis b).scale
        ∧ (t.axis b).scale = (s.axis b).scale

/-- The counts have not changed. -/
def State.countsFrom (s t : State) : Prop := ∀ b, (t.axis b).scale = (s.axis b).scale

theorem State.frozenFrom.of_same {s t u : State} (h : s.frozenFrom t) (state : u.motion.state = t.motion.state)
    (pends : u.events.pends .motionFault = true)
    (axis : ∀ b, (u.axis b).mode = (t.axis b).mode ∧ (u.axis b).setpoint = (t.axis b).setpoint
      ∧ (u.axis b).scale = (t.axis b).scale) : s.frozenFrom u := by
  obtain ⟨faulted, -, frozen⟩ := h
  refine ⟨state.trans faulted, pends, fun b => ?_⟩
  obtain ⟨mode, setpoint, scale⟩ := axis b
  rw [mode, setpoint, scale]
  exact frozen b

theorem faultStop_frozenFrom {s t : State} (r : FaultReason) (working : t.motion.state ≠ .faulted)
    (counts : s.countsFrom t) : s.frozenFrom (faultStop r t) := by
  refine ⟨faultStop_state working, (faultStop_events working).1, fun b => ?_⟩
  rw [faultStop_axis working]
  exact ⟨rfl, counts b, counts b⟩

theorem becomeCurrent_of_faulted {s : State} (h : s.motion.state = .faulted) : becomeCurrent s = s :=
  if_pos (by simp [h])

/-- Once FAULTED a drop that completes hands over a segment that does not start. -/
theorem completeDrop_of_faulted {s : State} (ch : Change) (h : s.motion.state = .faulted) :
    (completeDrop ch s).motion.state = .faulted ∧ (completeDrop ch s).axes = s.axes := by
  unfold completeDrop beginLeaving handInternal
  dsimp only
  rw [becomeCurrent_of_faulted (by split <;> simpa using h)]
  split <;> simp [h]

/-! ## The watches one by one -/

/-- What the seated line's change does first: level, read and the current probe (Table 7-2, R144). -/
def State.reseated (s : State) (level : Bool) : State := (noteSeated level s).setCurrentProbe (seatedProbe level)

/-- What one watch of a period can do. -/
theorem watch_cases (v : Samples) (w : Watch) (s : State) :
    watch v w s = s ∨ (∃ a, (s.axis a).mode = .fault ∧ watch v w s = enableOff a s) ∨ (∃ r, watch v w s = faultStop r s)
      ∨ v.seated ≠ s.probes.seated ∧ w = .seated
        ∧ (watch v w s = faultStop .probeLost (s.reseated v.seated)
          ∨ watch v w s = raiseSeatedChange v.seated (s.reseated v.seated)
          ∨ ∃ ch, watch v w s = completeDrop ch (noteSeated v.seated s)
            ∨ watch v w s = completePick ch (noteSeated v.seated s)) := by
  cases w with
  | limit a =>
    simp only [watch, watchLevel]
    repeat' split
    all_goals first | exact .inl rfl | exact .inr (.inr (.inl ⟨_, rfl⟩)) | exact .inr (.inl ⟨a, ‹_›, rfl⟩)
  | drive a =>
    simp only [watch, watchLevel]
    repeat' split
    all_goals first | exact .inl rfl | exact .inr (.inr (.inl ⟨_, rfl⟩)) | exact .inr (.inl ⟨a, ‹_›, rfl⟩)
  | following a =>
    simp only [watch, watchFollowing]
    repeat' split
    all_goals first | exact .inl rfl | exact .inr (.inr (.inl ⟨_, rfl⟩))
  | seated =>
    simp only [watch, watchSeated]
    split
    · exact .inl rfl
    · next changed =>
      refine .inr (.inr (.inr ⟨changed, trivial, ?_⟩))
      split
      · next ch _ =>
        unfold seatedInChange
        split
        · exact .inr (.inr ⟨ch, .inl rfl⟩)
        · exact .inr (.inr ⟨ch, .inr rfl⟩)
        · exact .inl rfl
      · unfold seatedOutside
        dsimp only
        split
        · exact .inl rfl
        · exact .inr (.inl rfl)

theorem reseated_leaves (s : State) (level : Bool) :
    (s.reseated level).motion = s.motion ∧ (s.reseated level).axes = s.axes
      ∧ (s.reseated level).events = s.events ∧ (s.reseated level).probes.change = s.probes.change
      ∧ (s.reseated level).probes.seated = level ∧ (s.reseated level).probes.current = seatedProbe level := by
  simp [State.reseated, noteSeated, State.setCurrentProbe]

/-- No watch moves a count or an input of an axis. -/
theorem watch_axis (v : Samples) (w : Watch) (s : State) (b : Axis) :
    ((watch v w s).axis b).scale = (s.axis b).scale ∧ ((watch v w s).axis b).lower = (s.axis b).lower
      ∧ ((watch v w s).axis b).upper = (s.axis b).upper ∧ ((watch v w s).axis b).ready = (s.axis b).ready := by
  simp [State.axis]

/-- A frozen station stays frozen through every watch. -/
theorem State.frozenFrom.watch {s t : State} (h : s.frozenFrom t) (v : Samples) (w : Watch) :
    s.frozenFrom (watch v w t) := by
  have ⟨faulted, pends, _⟩ := h
  obtain ⟨motion, axes, events, -⟩ := reseated_leaves t v.seated
  rcases watch_cases v w t with still | ⟨a, -, off⟩ | ⟨r, stop⟩ | ⟨-, -, lost | raised | ⟨ch, drop | pick⟩⟩
  · rwa [still]
  · rw [off]
    exact h.of_same rfl pends fun b => by
      by_cases same : b = a
      · rw [same, enableOff, State.axis_setAxis_same]
        exact ⟨rfl, rfl, rfl⟩
      · rw [enableOff, State.axis_setAxis_other _ _ same]
        exact ⟨rfl, rfl, rfl⟩
  · rwa [stop, faultStop_of_faulted faulted]
  · rw [lost, faultStop_of_faulted (by rwa [motion])]
    exact h.of_same (by rw [motion]) (by rwa [events]) fun b => by simp only [State.axis, axes, and_self]
  · rw [raised]
    refine h.of_same (by simp [motion]) (raiseSeatedChange_keeps_pends _ _ (by rwa [events])) fun b => ?_
    simp [State.axis, axes]
  · have noted : (noteSeated v.seated t).motion.state = .faulted := by simpa using faulted
    obtain ⟨state, kept⟩ := completeDrop_of_faulted ch noted
    rw [drop]
    refine h.of_same (state.trans faulted.symm) (by simp [pends]) fun b => ?_
    simp [State.axis, kept]
  · rw [pick]
    exact h.of_same (by simp) (by simp [pends]) fun b => by simp [State.axis]

/-- The reason of the fault stop stays through every watch. -/
def State.keepsReason (s : State) (x : FaultReason × Option Tag) : Prop :=
  s.motion.state = .faulted ∧ s.events.kept.motionFault = some x

theorem offer_motionFault (f : TxFrame) (s : State) :
    (offer f s).2.events.kept.motionFault = s.events.kept.motionFault := by
  unfold offer placeFrame
  dsimp only
  repeat' split
  all_goals rfl

theorem offerNote_motionFault (k : SlotIx) (c : Ident) (s : State) :
    (offerNote k c s).events.kept.motionFault = s.events.kept.motionFault := by
  have offered := offer_motionFault (.rackNote k c) s
  unfold offerNote
  split <;> simp_all [markUnsent, State.setSlot]

theorem applyNote_motionFault (k : SlotIx) (c : Ident) (src : NotedBy) (s : State) :
    (applyNote k c src s).events.kept.motionFault = s.events.kept.motionFault := by
  unfold applyNote
  split <;> rfl

theorem completeDrop_motionFault {s : State} (ch : Change) (h : s.motion.state = .faulted) :
    (completeDrop ch s).events.kept.motionFault = s.events.kept.motionFault := by
  unfold completeDrop beginLeaving handInternal
  dsimp only
  rw [becomeCurrent_of_faulted (by split <;> simpa using h)]
  split
  · exact (offerNote_motionFault _ _ _).trans (applyNote_motionFault _ _ _ _)
  · rfl

theorem completePick_motionFault (ch : Change) (s : State) :
    (completePick ch s).events.kept.motionFault = s.events.kept.motionFault := by
  unfold completePick
  dsimp only
  split
  · exact (offerNote_motionFault _ _ _).trans (applyNote_motionFault _ _ _ _)
  · rfl

theorem State.keepsReason.watch {s : State} {x : FaultReason × Option Tag} (h : s.keepsReason x) (v : Samples)
    (w : Watch) : (watch v w s).keepsReason x := by
  obtain ⟨faulted, kept⟩ := h
  obtain ⟨motion, -, events, -⟩ := reseated_leaves s v.seated
  rcases watch_cases v w s with still | ⟨a, -, off⟩ | ⟨r, stop⟩ | ⟨-, -, lost | raised | ⟨ch, drop | pick⟩⟩
  · rw [still]
    exact ⟨faulted, kept⟩
  · rw [off]
    exact ⟨faulted, kept⟩
  · rw [stop, faultStop_of_faulted faulted]
    exact ⟨faulted, kept⟩
  · rw [lost, faultStop_of_faulted (by rwa [motion])]
    exact ⟨by rwa [motion], by rwa [events]⟩
  · rw [raised]
    exact ⟨by simpa [motion] using faulted, by simpa [raiseSeatedChange, State.raise, events] using kept⟩
  · have noted : (noteSeated v.seated s).motion.state = .faulted := by simpa using faulted
    rw [drop]
    exact ⟨(completeDrop_of_faulted ch noted).1, (completeDrop_motionFault ch noted).trans kept⟩
  · rw [pick]
    exact ⟨by simpa using faulted, (completePick_motionFault ch _).trans kept⟩

/-- A working axis works on, or its station is frozen with the drive enable that its inputs give. -/
theorem State.works.watch {s t : State} {a : Axis} (h : t.works a) (counts : s.countsFrom t) (v : Samples) (w : Watch) :
    (watch v w t).works a ∨ s.frozenFrom (watch v w t) ∧ ((watch v w t).axis a).enable = (t.axis a).faultEnable := by
  obtain ⟨motion, axes, -⟩ := reseated_leaves t v.seated
  have stops (r : FaultReason) (u : State) (state : u.motion.state = t.motion.state) (same : u.axes = t.axes) :
      s.frozenFrom (faultStop r u) ∧ ((faultStop r u).axis a).enable = (t.axis a).faultEnable := by
    have working : u.motion.state ≠ .faulted := by rw [state]; exact h.1
    have axis (b : Axis) : u.axis b = t.axis b := by rw [State.axis, same, State.axis]
    refine ⟨faultStop_frozenFrom r working fun b => by rw [axis]; exact counts b, ?_⟩
    rw [faultStop_axis working, axis]
    rfl
  rcases watch_cases v w t with still | ⟨b, fault, off⟩ | ⟨r, stop⟩ | ⟨-, -, lost | raised | ⟨ch, drop | pick⟩⟩
  · rw [still]
    exact .inl h
  · rw [off]
    refine .inl ⟨h.1, ?_⟩
    have other : a ≠ b := by
      rintro rfl
      rcases h.2 with idle | moving <;> simp_all
    rw [enableOff, State.axis_setAxis_other _ _ other]
    exact h.2
  · rw [stop]
    exact .inr (stops r t rfl rfl)
  · rw [lost]
    exact .inr (stops _ _ (by rw [motion]) axes)
  · rw [raised]
    exact .inl (h.of_same (by simp [motion, axes]))
  · rw [drop]
    exact .inl (State.works.completeDrop (h.of_same (by simp)) ch)
  · rw [pick]
    exact .inl (State.works.completePick (h.of_same (by simp)) ch)

/-! ## All the watches of a period -/

theorem mem_watchOrder (order : List Watch) (w : Watch) : w ∈ watchOrder order := by
  have every : w ∈ allWatches := by
    cases w with
    | limit a => cases a <;> decide
    | drive a => cases a <;> decide
    | following a => cases a <;> decide
    | seated => decide
  by_cases given : w ∈ order
  · exact List.mem_append_left _ given
  · exact List.mem_append_right _ (List.mem_filter.mpr ⟨every, by simpa using given⟩)

theorem watchOrder_of_head {order : List Watch} {w : Watch} (h : order.head? = some w) :
    ∃ rest, watchOrder order = w :: rest := by
  obtain ⟨rest, rfl⟩ := List.head?_eq_some_iff.mp h
  exact ⟨_, rfl⟩

/-- What every step keeps, the whole fold keeps. -/
theorem foldl_invariant {α β : Type} {P : β → Prop} {f : β → α → β} (keeps : ∀ b a, P b → P (f b a)) :
    ∀ (l : List α) {b : β}, P b → P (l.foldl f b)
  | [], _, h => h
  | a :: l, _, h => foldl_invariant keeps l (keeps _ a h)

/-- What one step of the fold brings about, and every step keeps, stands at its end. -/
theorem foldl_reaches {α β : Type} {P Q : β → Prop} {f : β → α → β} {x : α} (keeps : ∀ b a, P b → P (f b a))
    (reaches : ∀ b, P b → Q (f b x)) (stays : ∀ b a, Q b → Q (f b a)) :
    ∀ (l : List α) {b : β}, x ∈ l → P b → Q (l.foldl f b)
  | a :: l, b, mem, h => by
    rcases List.mem_cons.mp mem with rfl | later
    · exact foldl_invariant stays l (reaches b h)
    · exact foldl_reaches keeps reaches stays l later (keeps b a h)

/-- The period before its released axes track their scales. -/
def watched (v : Samples) (order : List Watch) (s : State) : State :=
  (watchOrder order).foldl (fun t w => watch v w t) (advance (s.sampledIn v))

theorem motionPeriod_eq_watched (v : Samples) (order : List Watch) (s : State) :
    motionPeriod v order s = (watched v order s).setAxes
      { (watched v order s).axes with chan := (watched v order s).axes.chan.map AxisChan.track } := rfl

theorem axis_motionPeriod (v : Samples) (order : List Watch) (s : State) (a : Axis) :
    (motionPeriod v order s).axis a = ((watched v order s).axis a).track := V3.get_map _ _ a

theorem AxisChan.track_frozen (c : AxisChan) :
    c.track.mode = c.mode ∧ c.track.scale = c.scale ∧ c.track.enable = c.enable
      ∧ (c.setpoint = c.scale → c.track.setpoint = c.scale) := by
  unfold AxisChan.track
  split <;> simp

theorem frozenFrom_motionPeriod {v : Samples} {order : List Watch} {s : State} (h : s.frozenFrom (watched v order s)) :
    s.frozenFrom (motionPeriod v order s) := by
  obtain ⟨faulted, pends, frozen⟩ := h
  refine ⟨faulted, pends, fun b => ?_⟩
  obtain ⟨mode, setpoint, scale⟩ := frozen b
  obtain ⟨same_mode, same_scale, -, at_scale⟩ := ((watched v order s).axis b).track_frozen
  rw [axis_motionPeriod, same_mode, same_scale, at_scale (setpoint.trans scale.symm)]
  exact ⟨mode, scale, scale⟩

/-- The moved setpoints leave modes, counts and motion state, and the inputs are those sampled. -/
theorem works_moved {v : Samples} {s : State} {a : Axis} (h : s.works a) : (advance (s.sampledIn v)).works a := by
  refine ⟨by simpa [State.sampledIn] using h.1, ?_⟩
  rw [advance_axis, State.axis_sampledIn]
  exact h.2

theorem countsFrom_moved (v : Samples) (s : State) : s.countsFrom (advance (s.sampledIn v)) := by
  intro b
  rw [advance_axis, State.axis_sampledIn]

theorem countsFrom_watch {s t : State} (h : s.countsFrom t) (v : Samples) (w : Watch) : s.countsFrom (watch v w t) :=
  fun b => (watch_axis v w t b).1.trans (h b)

/-! ## Limits, drives and following errors (R7 to R9) -/

/-- The inputs of an axis bar CLEAR FAULT: at a fault stop its enable is off (R5). -/
def State.barred (s : State) (a : Axis) : Prop := (s.axis a).faultEnable = false

theorem barred_watch {s : State} {a : Axis} (h : s.barred a) (v : Samples) (w : Watch) : (watch v w s).barred a := by
  obtain ⟨-, lower, upper, ready⟩ := watch_axis v w s a
  rw [State.barred, AxisChan.faultEnable, lower, upper, ready]
  exact h

theorem barred_moved {v : Samples} {s : State} {a : Axis}
    (bad : v.lower.get a = true ∨ v.upper.get a = true ∨ v.ready.get a = false) :
    (advance (s.sampledIn v)).barred a := by
  rw [State.barred, AxisChan.faultEnable, advance_axis, State.axis_sampledIn]
  rcases bad with lower | upper | ready <;> simp [*]

/-- The watch on a bad level freezes a station whose axis works, and the axis is released. -/
theorem watchLevel_of_works {s : State} {a : Axis} (r : FaultReason) (h : s.works a) :
    watchLevel r a true s = faultStop r s := by
  rw [watchLevel, if_pos rfl]
  rcases h.2 with idle | moving
  · rw [idle]
  · rw [moving]

theorem watchLevel_of_frozen {s t : State} {a : Axis} (r : FaultReason) (h : s.frozenFrom t) :
    s.frozenFrom (watchLevel r a true t) ∧ ((watchLevel r a true t).axis a).enable = false := by
  have off : watchLevel r a true t = enableOff a t := by
    rw [watchLevel, if_pos rfl, (h.2.2 a).1]
  rw [off]
  refine ⟨h.of_same rfl h.2.1 fun b => ?_, ?_⟩
  · by_cases same : b = a
    · rw [same, enableOff, State.axis_setAxis_same]
      exact ⟨rfl, rfl, rfl⟩
    · rw [enableOff, State.axis_setAxis_other _ _ same]
      exact ⟨rfl, rfl, rfl⟩
  · rw [enableOff, State.axis_setAxis_same]

/-- The axis works on its barred inputs, or the station is frozen with the axis released. -/
def State.barredRun (s : State) (a : Axis) (t : State) : Prop :=
  s.countsFrom t ∧ t.barred a ∧ (t.works a ∨ s.frozenFrom t ∧ (t.axis a).enable = false)

theorem enable_watch {t : State} {a : Axis} (off : (t.axis a).enable = false) (faulted : t.motion.state = .faulted)
    (v : Samples) (w : Watch) : ((watch v w t).axis a).enable = false := by
  obtain ⟨motion, axes, -⟩ := reseated_leaves t v.seated
  rcases watch_cases v w t with still | ⟨b, -, released⟩ | ⟨r, stop⟩ | ⟨-, -, lost | raised | ⟨ch, drop | pick⟩⟩
  · rwa [still]
  · rw [released]
    by_cases same : a = b
    · rw [same, enableOff, State.axis_setAxis_same]
    · rwa [enableOff, State.axis_setAxis_other _ _ same]
  · rwa [stop, faultStop_of_faulted faulted]
  · rw [lost, faultStop_of_faulted (by rwa [motion]), State.axis, axes]
    exact off
  · rw [raised]
    simpa [State.axis, axes] using (show (t.axes.chan.get a).enable = false from off)
  · rw [drop, State.axis, (completeDrop_of_faulted ch (by simpa using faulted)).2]
    simpa using (show (t.axes.chan.get a).enable = false from off)
  · rw [pick, State.axis]
    simpa using (show (t.axes.chan.get a).enable = false from off)

theorem State.barredRun.watch {s t : State} {a : Axis} (h : s.barredRun a t) (v : Samples) (w : Watch) :
    s.barredRun a (watch v w t) := by
  obtain ⟨counts, bars, runs⟩ := h
  refine ⟨countsFrom_watch counts v w, barred_watch bars v w, ?_⟩
  rcases runs with works | ⟨frozen, off⟩
  · rcases works.watch counts v w with works | ⟨frozen, enable⟩
    · exact .inl works
    · exact .inr ⟨frozen, enable.trans bars⟩
  · exact .inr ⟨frozen.watch v w, enable_watch off frozen.1 v w⟩

/-- A bad level that is watched leaves the station frozen and the axis released at the end of the period. -/
theorem watched_of_bad {v : Samples} {s : State} {a : Axis} {r : FaultReason} {w : Watch} (order : List Watch)
    (works : s.works a) (bad : v.lower.get a = true ∨ v.upper.get a = true ∨ v.ready.get a = false)
    (watches : ∀ t, watch v w t = watchLevel r a true t) :
    s.frozenFrom (watched v order s) ∧ ((watched v order s).axis a).enable = false := by
  refine foldl_reaches (P := s.barredRun a) (Q := fun t => s.frozenFrom t ∧ (t.axis a).enable = false) (x := w)
    (fun t x h => h.watch v x) (fun t h => ?_) (fun t x h => ⟨h.1.watch v x, enable_watch h.2 h.1.1 v x⟩) _
    (mem_watchOrder order w) ⟨countsFrom_moved v s, barred_moved bad, .inl (works_moved works)⟩
  obtain ⟨counts, bars, works | ⟨frozen, -⟩⟩ := h
  · rw [watches, watchLevel_of_works r works]
    refine ⟨faultStop_frozenFrom r works.1 counts, ?_⟩
    rw [faultStop_axis works.1]
    exact bars
  · rw [watches]
    exact watchLevel_of_frozen r frozen

/-- The watch taken first gives the reason, and freezes the station. -/
theorem watched_of_first {v : Samples} {order : List Watch} {s : State} {w : Watch} {r : FaultReason}
    (working : s.motion.state ≠ .faulted) (first : order.head? = some w)
    (stops : watch v w (advance (s.sampledIn v)) = faultStop r (advance (s.sampledIn v))) :
    s.frozenFrom (watched v order s) ∧ ∃ tag, (watched v order s).events.kept.motionFault = some (r, tag) := by
  obtain ⟨rest, cut⟩ := watchOrder_of_head first
  have still_working : (advance (s.sampledIn v)).motion.state ≠ .faulted := by simpa [State.sampledIn] using working
  rw [watched, cut, List.foldl_cons, stops]
  refine ⟨foldl_invariant (P := s.frozenFrom) (fun t x h => h.watch v x) rest
    (faultStop_frozenFrom r still_working (countsFrom_moved v s)),
    (advance (s.sampledIn v)).faultTag, ?_⟩
  have kept := foldl_invariant (f := fun t w => watch v w t)
    (P := fun t : State => t.keepsReason (r, (advance (s.sampledIn v)).faultTag))
    (fun t x h => h.watch v x) rest ⟨faultStop_state still_working, (faultStop_events (r := r) still_working).2⟩
  exact kept.2

theorem watchFollowing_of_works {s : State} {a : Axis} (h : s.works a) (far : followingBad a s = true) :
    watchFollowing a s = faultStop .following s := by
  rw [watchFollowing]
  rcases h.2 with idle | moving
  · rw [idle]
    exact if_pos far
  · rw [moving]
    exact if_pos far

/-- The setpoints of the period: those before at rest, the next point of the path where a segment is RUNNING. -/
theorem moved_setpoint {v : Samples} {s : State} {p : V3 Int}
    (h : s.flying = none ∧ s.motion.state ≠ .referencing ∧ p = s.setpoints
      ∨ s.motion.state = .running ∧ ∃ g rest geo, s.motion.queue = g :: rest
          ∧ g.state = .running ∧ g.decel = none ∧ g.geom = some geo
          ∧ p = pathPoint geo.start g.target geo.len
              (g.dist + profileEntry geo.len g.feed s.cfg.accel (g.sent + 1))) (a : Axis) :
    ((advance (s.sampledIn v)).axis a).setpoint = p.get a := by
  have motion : (s.sampledIn v).motion = s.motion := by simp [State.sampledIn]
  rcases h with ⟨still, notReferencing, rfl⟩ | ⟨running, g, rest, geo, queue, state, decel, geom, rfl⟩
  · have flying : (s.sampledIn v).flying = none := by
      rw [← still]
      simp only [State.flying, State.current, motion]
    have rests : advance (s.sampledIn v) = s.sampledIn v := by
      have reference : advanceReference (s.sampledIn v) = s.sampledIn v := by
        simp [advanceReference, State.referenceRun, motion, notReferencing]
      rw [advance, reference, advanceSegment, flying]
    rw [rests, State.axis_sampledIn, State.get_setpoints]
  · have cfg : (s.sampledIn v).cfg = s.cfg := by simp [State.sampledIn, State.cfg]
    have flying : (s.sampledIn v).flying = some g :=
      State.flying_of_head (by simp [motion, running]) (by rwa [motion]) (by rw [state]; rfl)
    rw [advance_of_running (by rwa [motion]) flying, state, decel]
    dsimp only
    rw [runPeriod_eq, axis_travelOn, cfg, Segment.pointAt_of_geom geom, Segment.len_of_geom geom]

/-! ## The seated line (R144, Table 7-3) -/

/-- A change of the seated line, taken first in the period. -/
def seatedFirst (v : Samples) (s : State) : State := watch v .seated (advance (s.sampledIn v))

theorem moved_probes (v : Samples) (s : State) :
    (advance (s.sampledIn v)).probes.seated = s.probes.seated
      ∧ (advance (s.sampledIn v)).probes.change = s.probes.change := by
  simp [State.sampledIn]

theorem seatedFirst_eq {v : Samples} {s : State} (changed : v.seated ≠ s.probes.seated) :
    seatedFirst v s = match s.probes.change with
      | some ch => seatedInChange ch v.seated (noteSeated v.seated (advance (s.sampledIn v)))
      | none => seatedOutside v.seated (noteSeated v.seated (advance (s.sampledIn v))) := by
  obtain ⟨seated, change⟩ := moved_probes v s
  have noted : (noteSeated v.seated (advance (s.sampledIn v))).probes.change = s.probes.change := change
  rw [seatedFirst, watch, watchSeated, if_neg (by rwa [seated])]
  dsimp only
  rw [noted] <;> rfl

theorem watched_seated (v : Samples) (rest : List Watch) (s : State) :
    watched v (.seated :: rest) s
      = (rest ++ allWatches.filter fun w => !(Watch.seated :: rest).contains w).foldl (fun t w => watch v w t)
          (seatedFirst v s) := rfl

/-- With the seated line as noted, a watch releases an axis or makes a fault stop. -/
theorem watch_of_seated {v : Samples} {s : State} (noted : v.seated = s.probes.seated) (w : Watch) :
    watch v w s = s ∨ (∃ a, watch v w s = enableOff a s) ∨ ∃ r, watch v w s = faultStop r s := by
  rcases watch_cases v w s with still | ⟨a, -, off⟩ | stop | ⟨changed, -⟩
  · exact .inl still
  · exact .inr (.inl ⟨a, off⟩)
  · exact .inr (.inr stop)
  · exact absurd noted changed

/-- What the host reads of a seated change: the level, the current probe, and no read of IDENTIFY PROBE where the
probe has gone. -/
def State.showsSeated (s : State) (level : Bool) : Prop :=
  s.probes.seated = level ∧ s.probes.current = seatedProbe level
    ∧ (level = false → ∀ r, s.probes.read = some r → r.forChange = true)

theorem reseated_shows (s : State) (level : Bool) : (s.reseated level).showsSeated level := by
  refine ⟨rfl, rfl, fun off r read => ?_⟩
  have kept : s.probes.read.filter (·.forChange) = some r := by
    rw [off] at read
    exact read
  exact (Option.filter_eq_some_iff.mp kept).2

/-- A fault stop ends no read but that of a change. -/
theorem faultStop_read {r : FaultReason} {s : State} {x : IdentRead} (h : (faultStop r s).probes.read = some x) :
    s.probes.read = some x := by
  have failed (t : State) (read : (failChange t).probes.read = some x) : t.probes.read = some x := by
    unfold failChange at read
    split at read
    · exact read
    · exact (Option.filter_eq_some_iff.mp read).1
  unfold faultStop at h
  split at h
  · exact h
  · dsimp only at h
    repeat' split at h
    all_goals simp at h
    all_goals first | exact h | simpa using failed _ h

theorem State.showsSeated.faultStop {s : State} {level : Bool} (h : s.showsSeated level) (r : FaultReason) :
    (faultStop r s).showsSeated level :=
  ⟨by simpa using h.1, by simpa using h.2.1, fun off x read => h.2.2 off x (faultStop_read read)⟩

/-- A fault stop raises MOTION FAULT and CHANGE FAILED alone. -/
theorem faultStop_seatedChange (r : FaultReason) (s : State) :
    (faultStop r s).events.kept.seatedChange = s.events.kept.seatedChange := by
  have failed (t : State) : (failChange t).events.kept.seatedChange = t.events.kept.seatedChange := by
    unfold failChange
    split <;> rfl
  unfold faultStop
  dsimp only
  repeat' split
  all_goals simp [raiseMotionFault, State.raise, failed]

/-- A fault stop of a change in progress ends it with reason FAULT (R158). -/
theorem faultStop_changing {r : FaultReason} {s : State} {ch : Change} (changing : s.motion.state = .changing)
    (change : s.probes.change = some ch) :
    (faultStop r s).probes.change = none
      ∧ (faultStop r s).events.kept.changeFailed = some (.fault, ch.target) := by
  have failed (t : State) (stands : t.probes.change = some ch) :
      (failChange t).events.kept.changeFailed = some (.fault, ch.target) := by
    rw [failChange, stands]
    rfl
  refine ⟨faultStop_change (by simp [changing]) fun other => absurd changing other, ?_⟩
  unfold faultStop
  rw [if_neg (by simp [changing])]
  dsimp only
  rw [if_pos changing]
  simp only [raiseMotionFault, State.raise, State.setEvents_events, settleBank_keeps, State.setMotion_events]
  split
  · exact failed _ (by simpa using change)
  · exact failed _ (by simpa using change)

/-- What no watch behind the seated line changes once the station is FAULTED. -/
theorem watch_of_faulted {v : Samples} {s : State} (noted : v.seated = s.probes.seated)
    (faulted : s.motion.state = .faulted) (w : Watch) :
    (watch v w s).probes = s.probes ∧ (watch v w s).events = s.events
      ∧ (watch v w s).motion = s.motion := by
  rcases watch_of_seated noted w with still | ⟨a, off⟩ | ⟨r, stop⟩
  · rw [still]
    exact ⟨rfl, rfl, rfl⟩
  · rw [off]
    exact ⟨rfl, rfl, rfl⟩
  · rw [stop, faultStop_of_faulted faulted]
    exact ⟨rfl, rfl, rfl⟩

/-- A seated change that stops the station is seen, and the station is frozen for it. -/
theorem watched_seated_stop {v : Samples} {rest : List Watch} {s : State} (working : s.motion.state ≠ .faulted)
    (stops : seatedFirst v s = faultStop .probeLost ((advance (s.sampledIn v)).reseated v.seated)) :
    s.frozenFrom (watched v (.seated :: rest) s)
      ∧ (watched v (.seated :: rest) s).showsSeated v.seated
      ∧ (∃ tag, (watched v (.seated :: rest) s).events.kept.motionFault = some (.probeLost, tag))
      ∧ (watched v (.seated :: rest) s).probes.change
          = (faultStop .probeLost ((advance (s.sampledIn v)).reseated v.seated)).probes.change
      ∧ (watched v (.seated :: rest) s).events.kept.changeFailed
          = (faultStop .probeLost ((advance (s.sampledIn v)).reseated v.seated)).events.kept.changeFailed := by
  obtain ⟨motion, axes, -⟩ := reseated_leaves (advance (s.sampledIn v)) v.seated
  have still_working : ((advance (s.sampledIn v)).reseated v.seated).motion.state ≠ .faulted := by
    rw [motion]
    simpa [State.sampledIn] using working
  have counts : s.countsFrom ((advance (s.sampledIn v)).reseated v.seated) := by
    intro b
    rw [State.axis, axes]
    exact countsFrom_moved v s b
  have frozen := faultStop_frozenFrom .probeLost still_working counts
  have shows := (reseated_shows (advance (s.sampledIn v)) v.seated).faultStop .probeLost
  have kept := (faultStop_events (r := .probeLost) still_working).2
  generalize ended : faultStop .probeLost ((advance (s.sampledIn v)).reseated v.seated) = u at *
  have same := foldl_invariant (P := fun t => t.probes = u.probes ∧ t.events = u.events ∧ t.motion = u.motion)
    (f := fun t w => watch v w t) (fun t w h => by
      obtain ⟨probes, events, motion⟩ := h
      obtain ⟨probes', events', motion'⟩ := watch_of_faulted (v := v) (s := t) (by rw [probes, shows.1])
        (by rw [motion, frozen.1]) w
      exact ⟨probes'.trans probes, events'.trans events, motion'.trans motion⟩)
    (rest ++ allWatches.filter fun w => !(Watch.seated :: rest).contains w) ⟨rfl, rfl, rfl⟩
  rw [watched_seated, stops]
  refine ⟨foldl_invariant (P := s.frozenFrom) (fun t x h => h.watch v x) _ frozen, ?_,
    ⟨((advance (s.sampledIn v)).reseated v.seated).faultTag, ?_⟩, ?_, ?_⟩
  · rwa [State.showsSeated, same.1]
  · rw [same.2.1, kept]
  · rw [same.1]
  · rw [same.2.1]

/-- A seated change that stops nothing is seen and raised, whatever the watches behind it find. -/
theorem watched_seated_raise {v : Samples} {rest : List Watch} {s : State}
    (raises : seatedFirst v s = raiseSeatedChange v.seated ((advance (s.sampledIn v)).reseated v.seated)) :
    (watched v (.seated :: rest) s).showsSeated v.seated
      ∧ (watched v (.seated :: rest) s).events.pends .seatedChange = true
      ∧ (watched v (.seated :: rest) s).events.kept.seatedChange = some v.seated := by
  rw [watched_seated, raises]
  refine foldl_invariant (f := fun t w => watch v w t) (P := fun t : State => t.showsSeated v.seated ∧ t.events.pends .seatedChange = true
      ∧ t.events.kept.seatedChange = some v.seated) (fun t w h => ?_) _
    ⟨reseated_shows _ _, raiseSeatedChange_pends _ _, rfl⟩
  obtain ⟨shows, pends, kept⟩ := h
  rcases watch_of_seated shows.1.symm w with still | ⟨a, off⟩ | ⟨r, stop⟩
  · rw [still]
    exact ⟨shows, pends, kept⟩
  · rw [off]
    exact ⟨shows, pends, kept⟩
  · rw [stop]
    exact ⟨shows.faultStop r, by simp [pends], (faultStop_seatedChange r t).trans kept⟩

theorem State.flying_setCurrent {s : State} {g g' : Segment} (flying : s.flying = some g)
    (flies : g'.state.flying = true) : (s.setCurrent g').flying.isSome = s.flying.isSome := by
  rw [flying, State.flying, State.current_setCurrent (State.current_of_flying flying).1, Option.filter_some,
    if_pos flies]
  rfl

theorem enterSettlingAt_flying {s : State} {g : Segment} (period : Nat) (g' : Segment) (flying : s.flying = some g) :
    (enterSettlingAt period g' s).flying.isSome = s.flying.isSome := by
  rw [← State.flying_setCurrent (g' := { g' with state := .settling, decel := none, settleSince := period })
    flying rfl]
  exact congrArg Option.isSome (State.flying_congr (by simp [enterSettlingAt]))

theorem travelOn_flying {s : State} {g g' : Segment} (p : V3 Int) (last : Bool) (flying : s.flying = some g)
    (flies : g'.state.flying = true) : (travelOn g' p last s).flying.isSome = s.flying.isSome := by
  have sent : ((s.setCurrent g').sendSetpoints p).flying = (s.setCurrent g').flying :=
    State.flying_congr (by simp [State.sendSetpoints])
  unfold travelOn
  split
  · obtain ⟨h, still⟩ := Option.isSome_iff_exists.mp
      ((State.flying_setCurrent flying flies).trans (by rw [flying]; rfl))
    rw [enterSettling, enterSettlingAt_flying _ _ (sent.trans still), sent, still, flying]
    rfl
  · rw [sent, State.flying_setCurrent flying flies]

/-- A segment in flight stays in flight through the setpoints of a period. -/
theorem advanceSegment_flying (s : State) : (advanceSegment s).flying.isSome = s.flying.isSome := by
  unfold advanceSegment
  split
  · rfl
  · next g flying =>
    have sent (u : State) (p : V3 Int) : (u.sendSetpoints p).flying = u.flying :=
      State.flying_congr (by simp [State.sendSetpoints])
    cases state : g.state with
    | running =>
      cases decel : g.decel with
      | some vel =>
        unfold stopPeriod
        dsimp only
        split
        · exact State.flying_setCurrent flying (by simp [state, SegState.flying])
        · rw [sent]
          exact State.flying_setCurrent flying (by simp [state, SegState.flying])
      | none =>
        dsimp only
        rw [runPeriod_eq]
        exact travelOn_flying _ _ flying (by simp [state, SegState.flying])
    | touched =>
      dsimp only
      unfold touchedPeriod
      repeat' split
      · exact State.flying_setCurrent flying (by simp [state, SegState.flying])
      · exact enterSettlingAt_flying _ _ flying
      · rw [backOffPeriod_eq]
        exact travelOn_flying _ _ flying rfl
    | retracting =>
      dsimp only
      rw [backOffPeriod_eq]
      exact travelOn_flying _ _ flying (by simp [state, SegState.flying])
    | settling => rfl
    | queued => rfl
    | waitingZone => rfl

theorem moved_flying_isSome (v : Samples) (s : State) :
    (advance (s.sampledIn v)).flying.isSome = s.flying.isSome := by
  have reference : (advanceReference (s.sampledIn v)).flying = s.flying := by
    refine State.flying_congr ?_
    unfold advanceReference
    split <;> simp [State.sampledIn]
  rw [advance, advanceSegment_flying, reference]

/-- A watched axis that works meets its bad level with a fault stop of that watch (R7, R8, R9, R11). -/
theorem stops_for_level {v : Samples} {order : List Watch} {s : State} {a : Axis} {r : FaultReason} {w : Watch}
    (works : s.works a) (first : order.head? = some w) (watches : ∀ t, watch v w t = watchLevel r a true t) :
    ∃ tag, (motionPeriod v order s).events.kept.motionFault = some (r, tag) :=
  (watched_of_first works.1 first (by rw [watches, watchLevel_of_works r (works_moved works)])).2

/-- The frozen station of the period, as the host sees it. -/
theorem State.frozenFrom.shown {s t : State} (h : s.frozenFrom t) : t.motion.state = .faulted
    ∧ t.isPending .motionFault ∧ ∀ b, (t.axis b).mode = .fault ∧ (t.axis b).setpoint = (s.axis b).scale
      ∧ (t.axis b).scale = (s.axis b).scale :=
  ⟨h.1, (State.isPending_iff _ _).mpr h.2.1, h.2.2⟩

theorem moved_motion_state (v : Samples) (s : State) :
    (advance (s.sampledIn v)).motion.state = s.motion.state := by simp [State.sampledIn]

/-- In CHANGING a seated change that no phase waits for is a fault stop (Table 7-3). -/
theorem seatedFirst_in_change {v : Samples} {s : State} {ch : Change} (changed : v.seated ≠ s.probes.seated)
    (change : s.probes.change = some ch) (noDrop : ¬ (ch.phase = .dropping ∧ v.seated = false))
    (noPick : ¬ (ch.phase = .picking ∧ v.seated = true)) :
    seatedFirst v s = faultStop .probeLost ((advance (s.sampledIn v)).reseated v.seated) := by
  rw [seatedFirst_eq changed, change]
  dsimp only
  unfold seatedInChange
  split
  · exact absurd ⟨‹_›, ‹_›⟩ noDrop
  · exact absurd ⟨‹_›, ‹_›⟩ noPick
  · rfl

/-- Outside CHANGING a seated change stops what moves with the probe gone, and is else raised (Table 7-3). -/
theorem seatedFirst_outside {v : Samples} {s : State} (changed : v.seated ≠ s.probes.seated)
    (change : s.probes.change = none) :
    seatedFirst v s = if (!v.seated && (s.flying.isSome || s.motion.state == .referencing)) = true
      then faultStop .probeLost ((advance (s.sampledIn v)).reseated v.seated)
      else raiseSeatedChange v.seated ((advance (s.sampledIn v)).reseated v.seated) := by
  have flying : (noteSeated v.seated (advance (s.sampledIn v))).flying.isSome = s.flying.isSome :=
    (congrArg Option.isSome (State.flying_congr (by simp))).trans (moved_flying_isSome v s)
  have state : (noteSeated v.seated (advance (s.sampledIn v))).motion.state = s.motion.state :=
    (congrArg Motion.state (by simp)).trans (moved_motion_state v s)
  rw [seatedFirst_eq changed, change]
  dsimp only
  rw [seatedOutside, flying, state]
  rfl

/-- What the period of a seated change shows. -/
theorem State.showsSeated.shown {v : Samples} {rest : List Watch} {s : State}
    (h : (watched v (.seated :: rest) s).showsSeated v.seated) :
    exec (.motionPeriod v (.seated :: rest)) s = .next (motionPeriod v (.seated :: rest) s)
      ∧ (motionPeriod v (.seated :: rest) s).probes.seated = v.seated
      ∧ (motionPeriod v (.seated :: rest) s).probes.current = (if v.seated then .unknown 0xFFFF#16 else .none)
      ∧ (v.seated = false → ∀ r, (motionPeriod v (.seated :: rest) s).probes.read = some r → r.forChange = true) :=
  ⟨rfl, h⟩

/-- Settles O23: the level watches and the following error from `watched_of_bad` and `watched_of_first`, the seated
line from `watched_seated_stop` and `watched_seated_raise`. -/
theorem limitSwitchMakesAFaultStop : Obligations.LimitSwitchMakesAFaultStop := by
  refine ⟨fun a v order s mode working => ?_, fun v rest s changed => ?_⟩
  · have works : s.works a := ⟨working, mode⟩
    have limits (bad : v.lower.get a = true ∨ v.upper.get a = true) (t : State) :
        watch v (.limit a) t = watchLevel .limit a true t := by
      rw [watch, Bool.or_eq_true_iff.mpr bad]
    have drives (bad : v.ready.get a = false) (t : State) : watch v (.drive a) t = watchLevel .drive a true t := by
      rw [watch, bad]
      rfl
    refine ⟨fun bad => ?_, fun p sent far first => ?_⟩
    · have frozen : s.frozenFrom (watched v order s) ∧ ((watched v order s).axis a).enable = false := by
        by_cases limit : v.lower.get a = true ∨ v.upper.get a = true
        · exact watched_of_bad order works bad (limits limit)
        · exact watched_of_bad order works bad (drives (by tauto))
      refine ⟨_, rfl, (frozenFrom_motionPeriod frozen.1).shown, ?_,
        fun bad first => stops_for_level works first (limits bad),
        fun bad first => stops_for_level works first (drives bad)⟩
      rw [axis_motionPeriod, ((watched v order s).axis a).track_frozen.2.2.1]
      exact frozen.2
    · have tooFar : followingBad a (advance (s.sampledIn v)) = true := by
        have cfg : (advance (s.sampledIn v)).cfg = s.cfg := by simp [State.cfg, State.sampledIn]
        rw [followingBad, decide_eq_true_eq, moved_setpoint sent, countsFrom_moved v s a, cfg]
        exact far
      obtain ⟨frozen, reason⟩ := watched_of_first working first
        (watchFollowing_of_works (works_moved works) tooFar)
      exact ⟨_, rfl, (frozenFrom_motionPeriod frozen).shown, reason⟩
  · refine ⟨fun ch changing change noDrop noPick => ?_, fun change working off moving => ?_, fun change quiet => ?_⟩
    · obtain ⟨frozen, shows, reason, same_change, same_failed⟩ := watched_seated_stop (rest := rest)
        (by simp [changing]) (seatedFirst_in_change changed change noDrop noPick)
      obtain ⟨motion, -, -, kept, -⟩ := reseated_leaves (advance (s.sampledIn v)) v.seated
      obtain ⟨ended, failed⟩ := faultStop_changing (r := .probeLost)
        (s := (advance (s.sampledIn v)).reseated v.seated) (ch := ch)
        (by rw [motion, moved_motion_state, changing]) (by rw [kept, (moved_probes v s).2, change])
      exact ⟨_, shows.shown, (frozenFrom_motionPeriod frozen).shown, reason, same_change.trans ended,
        same_failed.trans failed⟩
    · obtain ⟨frozen, shows, reason, -⟩ := watched_seated_stop (rest := rest) working
        ((seatedFirst_outside changed change).trans (if_pos (by
          rcases moving with flying | referencing <;> simp [*])))
      exact ⟨_, shows.shown, (frozenFrom_motionPeriod frozen).shown, reason⟩
    · obtain ⟨shows, pends, kept⟩ := watched_seated_raise (rest := rest)
        ((seatedFirst_outside changed change).trans (if_neg (by
          rcases quiet with on | ⟨still, notReferencing⟩ <;> simp [*])))
      exact ⟨_, shows.shown, (State.isPending_iff _ _).mpr pends, kept⟩

end Sys2Proof.Machine
end

section
/-! PROOFS. The move commands of the host (R23, R24, R43, R45, R46): QUEUE MOVE with its checks in order, and STOP,
RESUME and FLUSH MOVES by motion state. -/

namespace Sys2Proof.Machine

/-! ## Checks in order -/

/-- The reply of the first check of a list that fails, check by check. -/
theorem find?_check (b : Bool) (c : Code) (l : List (Bool × Code)) :
    (((b, c) :: l).find? (·.1)).map (·.2) = if b = true then some c else (l.find? (·.1)).map (·.2) := by
  cases b <;> rfl

/-! ## QUEUE MOVE (R23, R24) -/

theorem length_moveData (tag : Tag) (kind : Nat) (target : V3 Int) (feed : Nat) :
    (moveData tag kind target feed).length = 17 := by simp [moveData]

theorem fieldWord_moveData (tag : Tag) (kind : Nat) (target : V3 Int) (feed : Nat) :
    fieldWord 0 (moveData tag kind target feed) = tag := by
  simp only [moveData, List.append_assoc, fieldWord_word_append]

theorem field_kind_moveData (tag : Tag) {kind : Nat} (byte : kind < 256) (target : V3 Int) (feed : Nat) :
    field 2 1 (moveData tag kind target feed) = kind := by
  simp only [moveData, List.append_assoc]
  rw [← List.append_assoc, field_slice (slice_after (length_word tag) (length_one kind)), beNat_one byte]

theorem field_feed_moveData (tag : Tag) (kind : Nat) (target : V3 Int) {feed : Nat} (small : feed < 65536) :
    field 15 2 (moveData tag kind target feed) = feed := by
  rw [moveData, field_slice (slice_tail (by simp) (length_beBytes 2 feed)), beNat_beBytes_of_lt (by simpa using small)]

theorem fieldV3_moveData (tag : Tag) (kind : Nat) {target : V3 Int} (fits : ∀ a, fits32 (target.get a) = true)
    (feed : Nat) : fieldV3 3 (moveData tag kind target feed) = target := by
  have bounds (a : Axis) := (fits32_iff _).mp (fits a)
  have x : fieldInt32 3 (moveData tag kind target feed) = target.x := by
    refine fieldInt32_slice ?_ (bounds .x).1 (bounds .x).2
    rw [moveData, List.append_assoc, List.append_assoc]
    exact slice_after (by simp) (by simp)
  have y : fieldInt32 7 (moveData tag kind target feed) = target.y := by
    refine fieldInt32_slice ?_ (bounds .y).1 (bounds .y).2
    rw [moveData, List.append_assoc]
    exact slice_after (by simp) (by simp)
  have z : fieldInt32 11 (moveData tag kind target feed) = target.z :=
    fieldInt32_slice (slice_after (by simp) (by simp)) (bounds .z).1 (bounds .z).2
  rw [fieldV3, x, y, z]

theorem moveKindOf_eq_none (n : Nat) : moveKindOf n = none ↔ 1 < n := by
  match n with
  | 0 => simp [moveKindOf]
  | 1 => simp [moveKindOf]
  | n + 2 => simp [moveKindOf]

theorem moveKindOf_eq_probe (n : Nat) : moveKindOf n = some .probe ↔ n = 1 := by
  match n with
  | 0 => simp [moveKindOf]
  | 1 => simp [moveKindOf]
  | n + 2 => simp [moveKindOf]

theorem inSoftLimits_iff (p : V3 Int) (s : State) : s.inSoftLimits p = true ↔
    s.cfg.soft.x.lower ≤ p.x ∧ p.x ≤ s.cfg.soft.x.upper ∧ s.cfg.soft.y.lower ≤ p.y ∧ p.y ≤ s.cfg.soft.y.upper
      ∧ s.cfg.soft.z.lower ≤ p.z ∧ p.z ≤ s.cfg.soft.z.upper := by
  simp [State.inSoftLimits, inSoft, and_assoc]

/-- The checks of Table 2-3 in order, each with its reply. -/
def moveChecks (kind : Nat) (target : V3 Int) (asked : Nat) (s : State) : List (Bool × Code) :=
  [(decide (1 < kind ∨ asked = 0), .outOfRange),
   (decide (s.station.state ≠ .active), .wrongState),
   (!((s.axis .x).referenced && (s.axis .y).referenced && (s.axis .z).referenced), .notReferenced),
   (decide (16 ≤ s.motion.queue.length), .queueFull),
   (decide (¬ (s.cfg.soft.x.lower ≤ target.x ∧ target.x ≤ s.cfg.soft.x.upper
      ∧ s.cfg.soft.y.lower ≤ target.y ∧ target.y ≤ s.cfg.soft.y.upper
      ∧ s.cfg.soft.z.lower ≤ target.z ∧ target.z ≤ s.cfg.soft.z.upper)), .outOfRange),
   (decide (kind = 1 ∧ target = s.expectedStart), .outOfRange)]

theorem moveRefusal_eq (kind : Nat) (target : V3 Int) (asked : Nat) (s : State) :
    moveRefusal (moveKindOf kind) target asked s = ((moveChecks kind target asked s).find? (·.1)).map (·.2) := by
  have referenced : s.allReferenced
      = ((s.axis .x).referenced && (s.axis .y).referenced && (s.axis .z).referenced) := by
    simp [State.allReferenced, V3.all, State.axis, V3.get]
  have limits : (!s.inSoftLimits target) = true ↔ ¬ (s.cfg.soft.x.lower ≤ target.x ∧ target.x ≤ s.cfg.soft.x.upper
      ∧ s.cfg.soft.y.lower ≤ target.y ∧ target.y ≤ s.cfg.soft.y.upper
      ∧ s.cfg.soft.z.lower ≤ target.z ∧ target.z ≤ s.cfg.soft.z.upper) := by
    rw [← inSoftLimits_iff, Bool.not_eq_true', Bool.not_eq_true]
  simp only [moveChecks, find?_check, List.find?_nil, Option.map_none, decide_eq_true_eq, moveRefusal,
    moveKindOf_eq_none, moveKindOf_eq_probe, referenced, limits]

theorem queueMove_moveData (tag : Tag) {kind : Nat} {target : V3 Int} {asked : Nat} (s : State) (byte : kind < 256)
    (small : asked < 65536) (fits : ∀ a, fits32 (target.get a) = true) :
    queueMove (moveData tag kind target asked) s = match moveRefusal (moveKindOf kind) target asked s with
      | some c => s.answer c []
      | none =>
        (appendMove (newSegment (some tag) ((moveKindOf kind).getD .rapid) target
            (min asked (feedMax s.cfg ((moveKindOf kind).getD .rapid)))) s).answer
          (if min asked (feedMax s.cfg ((moveKindOf kind).getD .rapid)) = asked then .ok else .clamped)
          (one (s.motion.queue.length + 1)
            ++ beBytes 2 (min asked (feedMax s.cfg ((moveKindOf kind).getD .rapid)))) := by
  rw [queueMove, withLength_eq (length_moveData tag kind target asked), field_kind_moveData tag byte,
    fieldV3_moveData tag kind fits, field_feed_moveData tag kind target small, fieldWord_moveData] <;> rfl

theorem appendMove_behind {g : Segment} {s : State} (behind : s.motion.queue ≠ [] ∨ s.motion.state ≠ .idle) :
    appendMove g s = s.setMotion { s.motion with queue := s.motion.queue ++ [g] } := by
  rw [appendMove, if_neg]
  simp only [Bool.and_eq_true, List.isEmpty_iff, beq_iff_eq]
  tauto

/-- Settles O24: the checks by `moveRefusal_eq`, the appended record by `appendMove_behind`. -/
theorem queueMoveChecksAndAppends : Obligations.QueueMoveChecksAndAppends := by
  intro tag kind target asked s byte small fits expected outside checks most feed
  have command := queueMove_moveData tag s byte small fits
  have refusal : moveRefusal (moveKindOf kind) target asked s = (checks.find? (·.1)).map (·.2) :=
    moveRefusal_eq kind target asked s
  rw [refusal] at command
  refine ⟨fun b c failing => ?_, fun passing behind => ?_⟩
  · rw [failing] at command
    exact congrArg Host.Outcome.next command
  · have kinds : (moveKindOf kind).getD .rapid = (if kind = 0 then .rapid else .probe) := by
      have known : ¬ 1 < kind := by
        intro unknown
        simp [checks, unknown] at passing
      obtain rfl | rfl : kind = 0 ∨ kind = 1 := by omega
      · rfl
      · rfl
    have maximum : feedMax s.cfg (if kind = 0 then .rapid else .probe) = most := by
      by_cases rapid : kind = 0 <;> simp [most, feedMax, rapid]
    rw [passing, kinds, maximum] at command
    dsimp only [Option.map_none] at command
    rw [appendMove_behind behind] at command
    simp only [min_eq_left_iff] at command
    exact congrArg Host.Outcome.next command

/-! ## STOP (R43) -/

theorem stop_nil (s : State) : stop [] s = (stopEffect s).answer .ok (optional 2 word (stopTag s)) := rfl

/-- A STOP that decelerates no host segment carries no tag. -/
theorem stop_untagged {s : State} (untagged : stopTag s = none) :
    stop [] s = (stopEffect s).answer .ok [0#8, 0#8, 0#8] := by
  rw [stop_nil, untagged]
  rfl

theorem stopTag_of_not_running {s : State} (h : s.motion.state ≠ .running) : stopTag s = none := by
  unfold stopTag
  split
  · exact absurd ‹_› h
  · rfl

theorem stopTag_of_running {s : State} {g : Segment} (running : s.motion.state = .running)
    (flying : s.flying = some g) :
    stopTag s = if g.state = .running ∧ g.decel = none then g.tag else none := by
  rw [stopTag, running, flying]

theorem stopEffect_of_running {s : State} {g : Segment} (running : s.motion.state = .running)
    (flying : s.flying = some g) : stopEffect s = stopSegment g s := by
  rw [stopEffect, running]
  dsimp only
  rw [flying]

/-! ## RESUME and FLUSH MOVES (R45, R46) -/

theorem resume_nil (s : State) : resume [] s = if s.motion.state = .held then
    (becomeCurrent (shedAbortedClaim (s.setMotionState .idle))).answer .ok [] else s.answer .wrongState [] := rfl

theorem shedAbortedClaim_of_none {s : State} (h : s.zone.claim = none) : shedAbortedClaim s = s := by
  rw [shedAbortedClaim, h]

theorem becomeCurrent_of_empty {s : State} (noClaim : s.zone.claim = none) (still : s.current = none) :
    becomeCurrent s = s := by
  unfold becomeCurrent
  rw [abandoned_of_none noClaim, still]
  split <;> rfl

/-- FLUSH MOVES but for its reply. -/
def flushed (s : State) : State :=
  if s.unstarted = 0 then removeUnstarted s else handOverIfEmpty (removeUnstarted s)

theorem flushMoves_nil (s : State) : flushMoves [] s = (flushed s).answer .ok (one s.unstarted) := rfl

theorem flushed_motion (s : State) : (flushed s).motion.queue = s.motion.queue.filter (·.state.flying)
    ∧ (flushed s).motion.state = s.motion.state ∧ (flushed s).motion.internal = s.motion.internal := by
  unfold flushed
  split <;> simp [removeUnstarted_motion]

/-- Settles O26: STOP state by state, RESUME and FLUSH MOVES. -/
theorem stopResumeAndFlushMoves : Obligations.StopResumeAndFlushMoves := by
  refine ⟨fun s => ⟨fun idle => ?_, fun still => ?_, fun g rest tag geo running queue geom tagged => ?_,
    fun r referencing run => ?_⟩, fun s => ⟨fun notHeld => ?_, fun held queue calm => ?_, ?_⟩⟩
  · refine congrArg Host.Outcome.next ((stop_untagged (stopTag_of_not_running (by simp [idle]))).trans ?_)
    rw [stopEffect, idle]
    rfl
  · refine congrArg Host.Outcome.next ((stop_untagged (stopTag_of_not_running ?_)).trans ?_)
    · rcases still with held | faulted <;> simp [*]
    · rcases still with held | faulted
      · rw [stopEffect, held]
      · rw [stopEffect, faulted]
  · have host : s.motion.state ≠ .changing := by simp [running]
    have flying (inFlight : g.state.flying = true) : s.flying = some g := State.flying_of_head host queue inFlight
    refine ⟨fun state decel begun => ?_, fun state => ?_⟩
    · have flying := flying (by rw [state]; rfl)
      have named : stopTag s = some tag := by
        rw [stopTag_of_running running flying, if_pos ⟨state, decel⟩, tagged]
      refine congrArg Host.Outcome.next ?_
      rw [stop_nil, named, stopEffect_of_running running flying, stopSegment, if_pos state, decelerate, decel,
        if_neg (by simp), if_neg (by omega), State.setCurrent_of_head host queue, Segment.len_of_geom geom]
      rfl
    · have flying := flying (by rcases state with state | state | state <;> rw [state] <;> rfl)
      have other : g.state ≠ .running := by rcases state with state | state | state <;> simp [state]
      refine congrArg Host.Outcome.next ((stop_untagged ?_).trans ?_)
      · rw [stopTag_of_running running flying, if_neg fun h => other h.1]
      · rw [stopEffect_of_running running flying, stopSegment, if_neg other]
  · refine congrArg Host.Outcome.next ((stop_untagged (stopTag_of_not_running (by simp [referencing]))).trans ?_)
    rw [stopEffect, referencing]
    dsimp only
    rw [run]
    rfl
  · exact congrArg Host.Outcome.next ((resume_nil s).trans (if_neg notHeld))
  · obtain ⟨noClaim, -⟩ := calm
    have still : (s.setMotionState .idle).current = none := by
      simp [State.setMotionState, State.current, queue]
    refine congrArg Host.Outcome.next ((resume_nil s).trans ((if_pos held).trans ?_))
    have same : becomeCurrent (shedAbortedClaim (s.setMotionState .idle)) = s.setMotionState .idle := by
      rw [shedAbortedClaim_of_none (by exact noClaim), becomeCurrent_of_empty (by exact noClaim) still]
    rw [same]
    rfl
  · obtain ⟨left, state, internal⟩ := flushed_motion s
    have run : exec (.flushMoves []) s = .next ((flushed s).answer .ok (one s.unstarted)) :=
      congrArg Host.Outcome.next (flushMoves_nil s)
    refine ⟨_, run, exec_sameBut run, left, state, internal, ?_⟩
    rw [List.countP_eq_length_filter]
    rfl

end Sys2Proof.Machine
end

section
/-! PROOFS. The current segment starts, asks for its cells, waits or is refused (R26 to R29, R51 to R56, R188): each
operation on a head that is not in flight, and the statement case by case. -/

namespace Sys2Proof.Machine

/-! ## Need and rest sets (R51 to R53) -/

theorem has_needSet (cfg : Block) (p q : V3 Int) (c : Cell) : (needSet cfg p q).has c = true ↔
    (cfg.cells.get c).lo ≤ 80000000 ∧ 0 < (cfg.cells.get c).hi
      ∧ (cfg.cells.get c).lo ≤ max p.x q.x + cfg.guardBand
      ∧ min p.x q.x - cfg.guardBand < (cfg.cells.get c).hi ∧ (cfg.cells.get c).z < max p.z q.z := by
  rw [needSet, CellSet.has_of]
  simp [needs, CellMap.inTravel, and_assoc]

/-! ## The head becomes current (R26) -/

theorem State.setMotion_deferCurrent_none {s : State} (h : s.motion.deferCurrent = none) :
    s.setMotion { s.motion with deferCurrent := none } = s := by
  rw [← h]
  rfl

theorem State.setZone_heldBack_none {s : State} (h : s.zone.heldBack = none) :
    s.setZone { s.zone with heldBack := none } = s := by
  rw [← h]
  rfl

/-- With nothing waiting for a claim the geometry of the current segment is fixed at once. -/
theorem becomeCurrent_of_current {s : State} {g : Segment} (calm : s.calm)
    (able : s.motion.state ≠ .held ∧ s.motion.state ≠ .faulted) (current : s.current = some g)
    (grounded : g.state.flying = false) : becomeCurrent s = fixGeometry g s := by
  obtain ⟨noClaim, heldBack, deferCurrent, -⟩ := calm
  unfold becomeCurrent
  rw [if_neg (by simp [able]), abandoned_of_none noClaim, current]
  dsimp only
  rw [if_neg (by simp), if_neg (by simp [grounded]), State.setMotion_deferCurrent_none deferCurrent,
    State.setZone_heldBack_none heldBack]

/-- A segment that has a length, or need have none. -/
def Segment.travels (g : Segment) (s : State) : Prop := g.kind = .probe → pathLength s.setpoints g.target ≠ 0

theorem fixGeometry_of_held {s : State} {g : Segment} (travels : g.travels s)
    (held : CellSet.minus (needSet s.cfg s.setpoints g.target) s.heldSet = 0#20) :
    fixGeometry g s = weigh (s.setCurrent { g with geom := some (geometry g s), state := .queued }) := by
  unfold fixGeometry
  dsimp only
  rw [if_neg fun h => travels h.1 h.2]
  exact if_pos held

theorem fixGeometry_of_missing {s : State} {g : Segment} (travels : g.travels s)
    (missing : CellSet.minus (needSet s.cfg s.setpoints g.target) s.heldSet ≠ 0#20) :
    fixGeometry g s = requestCells (CellSet.minus (needSet s.cfg s.setpoints g.target) s.heldSet)
      (s.setCurrent { g with geom := some (geometry g s), state := .waitingZone }) := by
  unfold fixGeometry
  dsimp only
  rw [if_neg fun h => travels h.1 h.2]
  exact if_neg missing

theorem cellsHeld_of_geom {s : State} {g : Segment} {geo : Geom} (geom : g.geom = some geo)
    (held : CellSet.minus geo.need s.heldSet = 0#20) : g.cellsHeld s = true := by
  rw [Segment.cellsHeld, geom]
  exact beq_iff_eq.mpr held

/-- A head with its cells held is weighed in motion IDLE (R27 to R29). -/
theorem weigh_of_head {s : State} {g : Segment} {rest : List Segment} (idle : s.motion.state = .idle)
    (queue : s.motion.queue = g :: rest) (grounded : g.state.flying = false) (held : g.cellsHeld s = true) :
    weigh s = if g.kind = .probe then
        if !s.probeUsable then refuseNoProbe g s
        else if s.points.hold then s.setCurrent { g with state := .queued }
        else startSegment g s
      else startSegment g s := by
  rw [weigh, s.current_of_head (by simp [idle]) queue]
  dsimp only
  rw [if_neg (by simp [grounded, held]), if_neg (by simp [idle]), if_pos idle]

/-- The record of a segment that has started and is RUNNING (R27). -/
def Segment.started (g : Segment) (bank : Option Bank) : Segment :=
  { g with
    bank := bank, dist := 0, sent := 0, decel := none, touchedAt := none, resent := false, back := 0
    backSent := 0, state := .running }

theorem startSegment_of_head {s : State} {g h : Segment} {rest : List Segment} (host : s.motion.state ≠ .changing)
    (queue : s.motion.queue = h :: rest) (profile : profileLength g.len g.feed s.cfg.accel ≠ 0) :
    startSegment g s = (s.setModes .moving).setMotion { s.motion with
      state := .running
      queue := g.started (if g.kind = .probe then some s.probes.live else none) :: rest } := by
  have some_period : g.profileEmpty s = false := beq_eq_false_iff_ne.mpr profile
  unfold startSegment
  dsimp only
  rw [if_neg host, some_period, if_neg (by simp),
    State.setCurrent_of_head (g := h) (rest := rest) (by simp [State.setMotionState])
        (by simpa [State.setMotionState] using queue)]
  rfl

theorem axis_setModes (s : State) (m : Mode) (a : Axis) : (s.setModes m).axis a = { s.axis a with mode := m } :=
  V3.get_map _ _ a

/-! ## A request for cells (R55, R56) -/

theorem length_insertTx (e : TxEntry) (l : List TxEntry) : (insertTx e l).length = l.length + 1 := by
  induction l with
  | nil => rfl
  | cons x rest ih =>
    unfold insertTx
    split
    · simp [ih]
    · rfl

/-- The record of a claim just sent (R55). -/
def Claim.sentAs (c : Claim) (n : Byte) : Claim := { c with number := some n, waitingState := false, waiting := 0#20 }

theorem sendClaim_placed {c : Claim} {s : State} (linked : s.link.state ≠ .silent) (room : s.link.list.length < 8) :
    sendClaim c s = (s.setZone { s.zone with
        claim := some (c.sentAs s.zone.nextNumber), nextNumber := s.zone.nextNumber + 1 }).setLink
      { s.link with list := insertTx (TxFrame.claim s.zone.nextNumber c.cells).placed s.link.list } := by
  unfold sendClaim
  dsimp only
  rw [offer_eq_placeFrame (by exact linked) (.inl (by simp [TxFrame.kind])), placeFrame_of_room (by exact room)]
  rfl

theorem requestCells_sends {s : State} {cs : CellSet} (some_cells : cs ≠ 0#20) (noClaim : s.zone.claim = none)
    (on : s.link.state = .on) (free : s.deferred = 0#20) :
    requestCells cs s = sendClaim (newClaim s.requester cs s) s := by
  rw [requestCells, if_neg some_cells, noClaim, if_neg (by simp), if_pos on, free, if_neg (by simp)]

/-- A request of a calm station with the link ON claims the cells under the next number (R55, R56). -/
theorem requestCells_claims {s : State} {cs : CellSet} (some_cells : cs ≠ 0#20) (noClaim : s.zone.claim = none)
    (on : s.link.state = .on) (free : s.deferred = 0#20) (room : s.link.list.length < 8) :
    (requestCells cs s).zone = { s.zone with
        claim := some ((newClaim s.requester cs s).sentAs s.zone.nextNumber), nextNumber := s.zone.nextNumber + 1 }
      ∧ (requestCells cs s).listed (.claim s.zone.nextNumber cs)
      ∧ (requestCells cs s).link.list.length = s.link.list.length + 1
      ∧ (requestCells cs s).motion = s.motion ∧ (requestCells cs s).events = s.events := by
  have placed := sendClaim_placed (c := newClaim s.requester cs s) (by simp [on]) room
  rw [requestCells_sends some_cells noClaim on free, placed]
  exact ⟨rfl, mem_insertTx.mpr (.inl rfl), length_insertTx _ _, rfl, rfl⟩

/-! ## A queued move on an empty queue (R23) -/

/-- A move that passes the checks in motion IDLE with the queue empty becomes current at once. -/
theorem queueMove_accepted (tag : Tag) {kind : Nat} {k : SegKind} {target : V3 Int} {asked : Nat} {s : State}
    (names : kind < 256 ∧ moveKindOf kind = some k) (fits : ∀ a, fits32 (target.get a) = true)
    (feed : 0 < asked ∧ asked ≤ feedMax s.cfg k ∧ asked < 65536) (active : s.station.state = .active)
    (referenced : ∀ a, (s.axis a).referenced = true) (queue : s.motion.queue = []) (idle : s.motion.state = .idle)
    (limits : s.inSoftLimits target = true) (moves : k = .probe → target ≠ s.setpoints) :
    exec (.queueMove (moveData tag kind target asked)) s
      = .next ((becomeCurrent (s.setMotion { s.motion with queue := [newSegment (some tag) k target asked] })).answer
          .ok (one 1 ++ beBytes 2 asked)) := by
  obtain ⟨byte, kind_eq⟩ := names
  obtain ⟨positive, most, small⟩ := feed
  have start : s.expectedStart = s.setpoints := by rw [State.expectedStart, queue]; rfl
  have passes : moveRefusal (some k) target asked s = none := by
    have all := (allReferenced_iff s).mpr referenced
    unfold moveRefusal
    rw [if_neg (by simp; omega), if_neg (by simp [active]), if_neg (by simp [all]), if_neg (by simp [queue]),
      if_neg (by simp [limits]), if_neg]
    rintro ⟨probe, still⟩
    exact moves (Option.some_injective _ probe) (still.trans start)
  have command := queueMove_moveData tag s byte small fits
  rw [kind_eq, passes] at command
  dsimp only [Option.getD_some] at command
  simp only [min_eq_left most, if_true] at command
  rw [appendMove, queue, if_pos (by simp [idle])] at command
  exact congrArg Host.Outcome.next command

/-- The state with one record in the queue. -/
def State.headed (s : State) (m : MotionState) (g : Segment) : State :=
  s.setMotion { s.motion with state := m, queue := [g] }

/-- The record of a queued move as it becomes current with its geometry fixed. -/
def queuedMove (tag : Tag) (k : SegKind) (target : V3 Int) (asked : Nat) (s : State) : Segment :=
  { newSegment (some tag) k target asked with
    geom := some { start := s.setpoints, len := pathLength s.setpoints target
                   need := needSet s.cfg s.setpoints target } }

/-- The move becomes current on the queue that was empty: it is weighed with its cells held, and asks for them
else. -/
theorem becomeCurrent_of_queued {tag : Tag} {k : SegKind} {target : V3 Int} {asked : Nat} {s : State} (calm : s.calm)
    (idle : s.motion.state = .idle) (moves : k = .probe → target ≠ s.setpoints) :
    (CellSet.minus (needSet s.cfg s.setpoints target) s.heldSet = 0#20 →
      becomeCurrent (s.setMotion { s.motion with queue := [newSegment (some tag) k target asked] })
        = weigh (s.headed .idle (queuedMove tag k target asked s)))
    ∧ (CellSet.minus (needSet s.cfg s.setpoints target) s.heldSet ≠ 0#20 →
      becomeCurrent (s.setMotion { s.motion with queue := [newSegment (some tag) k target asked] })
        = requestCells (CellSet.minus (needSet s.cfg s.setpoints target) s.heldSet)
            (s.headed .idle { queuedMove tag k target asked s with state := .waitingZone })) := by
  have headed (g : Segment) : s.setMotion { s.motion with queue := [g] } = s.headed .idle g := by
    rw [State.headed, ← idle]
  have set (g h : Segment) : (s.headed .idle g).setCurrent h = s.headed .idle h :=
    State.setCurrent_of_head (s := s.headed .idle g) (rest := []) (by simp [State.headed]) rfl h
  have travels : (newSegment (some tag) k target asked).travels
      (s.headed .idle (newSegment (some tag) k target asked)) := fun probe none_to_go =>
    moves probe (pathLength_eq_zero_iff.mp none_to_go).symm
  have fixed := becomeCurrent_of_current (s := s.headed .idle (newSegment (some tag) k target asked))
    (g := newSegment (some tag) k target asked) calm (by simp [State.headed])
    (State.current_of_head (rest := []) (by simp [State.headed]) rfl) rfl
  rw [headed, fixed]
  refine ⟨fun held => ?_, fun missing => ?_⟩
  · rw [fixGeometry_of_held travels (by exact held), set]
    rfl
  · rw [fixGeometry_of_missing travels (by exact missing), set]
    rfl

theorem weigh_headed {s : State} {g : Segment} {geo : Geom} (grounded : g.state.flying = false)
    (geom : g.geom = some geo) (held : CellSet.minus geo.need s.heldSet = 0#20) :
    weigh (s.headed .idle g) = if g.kind = .probe then
        if !s.probeUsable then refuseNoProbe g (s.headed .idle g)
        else if s.points.hold then s.headed .idle { g with state := .queued }
        else startSegment g (s.headed .idle g)
      else startSegment g (s.headed .idle g) :=
  weigh_of_head (s := s.headed .idle g) (rest := []) rfl rfl grounded (cellsHeld_of_geom geom held)

theorem refuseNoProbe_headed {s : State} {g : Segment} {tag : Tag} (tagged : g.tag = some tag) :
    refuseNoProbe g (s.headed .idle g) = raiseProbeRefused .noProbe tag (s.headed .held { g with state
        := .queued }) := by
  have set : (s.headed .idle g).setCurrent { g with state := .queued } = s.headed .idle { g with state := .queued } :=
    State.setCurrent_of_head (s := s.headed .idle g) (rest := []) (by simp [State.headed]) rfl _
  rw [refuseNoProbe, set, tagged]
  rfl

theorem runningWait_headed {s : State} {g : Segment} {geo : Geom} (probe : g.kind = .probe) (queued : g.state = .queued)
    (geom : g.geom = some geo) (held : CellSet.minus geo.need s.heldSet = 0#20) (usable : s.probeUsable = true)
    (hold : s.points.hold = true) : (s.headed .idle g).runningWait = true := by
  have cells : g.cellsHeld (s.headed .idle g) = true := cellsHeld_of_geom (s := s.headed .idle g) geom held
  have usable : (s.headed .idle g).probeUsable = true := usable
  have head : (s.headed .idle g).motion.queue.head? = some g := rfl
  simp only [State.runningWait, usable, head, cells]
  simp [State.headed, hold, probe, queued]

theorem startSegment_headed {s : State} {g : Segment} (profile : profileLength g.len g.feed s.cfg.accel ≠ 0) :
    startSegment g (s.headed .idle g)
      = (s.setModes .moving).headed .running (g.started (if g.kind = .probe then some s.probes.live else none)) :=
  startSegment_of_head (s := s.headed .idle g) (rest := []) (by simp [State.headed]) rfl profile

/-! ## RESUME on a PROBE of length 0 (R28) -/

theorem refuseZeroLength_behind {s : State} {g h : Segment} {rest : List Segment} {tag : Tag} (calm : s.calm)
    (host : s.motion.state ≠ .changing) (queue : s.motion.queue = g :: h :: rest) (tagged : g.tag = some tag) :
    refuseZeroLength g s
      = raiseProbeRefused .zeroLength tag (s.setMotion { s.motion with state := .held, queue := h :: rest }) := by
  obtain ⟨noClaim, heldBack, -⟩ := calm
  have dropped : s.dropCurrent.setMotionState .held
      = s.setMotion { s.motion with state := .held, queue := h :: rest } := by
    rw [State.dropCurrent, if_neg host, queue]
    rfl
  have changed (t : State) (zone : t.zone = s.zone) : currentChanged t = t := by
    have claim : t.zone.claim = none := by rw [zone, noClaim]
    have still : t.setZone { t.zone with heldBack := none } = t :=
      State.setZone_heldBack_none (by rw [zone, heldBack])
    unfold currentChanged
    rw [still]
    dsimp only
    rw [claim]
  unfold refuseZeroLength
  dsimp only
  rw [dropped, changed _ (by rfl), tagged, handOverIfEmpty, if_neg]
  · rfl
  · simp [State.emptyHandOverDue, raiseProbeRefused, State.raise]

/-! ## A hold that clears (R188) -/

theorem holdChanged_of_fall {before : Nat} {s : State} (on : s.points.hold = true) (level : s.cfg.holdLevel ≠ 0)
    (fall : s.holdCount < before) (low : s.holdCount + s.cfg.hysteresis ≤ s.cfg.holdLevel) :
    holdChanged before s = weigh (s.setPoints { s.points with hold := false }) := by
  have flag : holdAfter s.cfg.holdLevel s.cfg.hysteresis before s.holdCount s.points.hold = false := by
    simp [holdAfter, on, level, fall, low]
  have update : updateHold before s = s.setPoints { s.points with hold := false } := by
    unfold updateHold
    dsimp only
    rw [flag]
    rfl
  unfold holdChanged
  dsimp only
  rw [update, on]
  rfl

/-- Settles O25: a queued RAPID and PROBE by `becomeCurrent_of_queued`, ZERO LENGTH by `refuseZeroLength_behind`, the
hold that clears by `holdChanged_of_fall`. -/
theorem queuedRapidStartsOrClaims : Obligations.QueuedRapidStartsOrClaims := by
  refine ⟨fun cfg p q c => ⟨has_needSet cfg p q c, rfl⟩,
    fun tag target asked s positive most small fits active referenced queue idle calm limits => ?_,
    fun tag target asked s positive most small fits active referenced queue idle calm limits moves => ?_,
    fun g tag rest s held queue grounded probe tagged stands more calm => ?_,
    fun g geo rest r left s idle queue probe queued geom held usable hold records level low profile => ?_⟩
  · intro len need missing geo command
    have run := queueMove_accepted tag (kind := 0) (k := .rapid) ⟨by decide, rfl⟩ fits ⟨positive, most, small⟩ active
      referenced queue idle limits (by simp)
    have becomes := becomeCurrent_of_queued (tag := tag) (k := .rapid) (target := target) (asked := asked) calm idle
      (by simp)
    refine ⟨fun all profile => ?_, fun some_missing on free room => ?_⟩
    · rw [becomes.1 all, weigh_headed (g := queuedMove tag .rapid target asked s) rfl rfl all,
        if_neg (by simp [queuedMove, newSegment]),
        startSegment_headed (g := queuedMove tag .rapid target asked s) profile] at run
      refine ⟨_, run, fun p outside => ?_, fun a => axis_setModes s .moving a, rfl, rfl, rfl⟩
      cases p <;> simp [State.sameIn, State.headed] at outside ⊢
    · obtain ⟨zone, listed, length, motion, events⟩ := requestCells_claims (cs := missing)
        (s := s.headed .idle { queuedMove tag .rapid target asked s with state := .waitingZone })
        some_missing calm.1 on free room
      rw [becomes.2 some_missing] at run
      refine ⟨_, run, fun p outside => ?_, ?_, zone, listed, length⟩
      · cases p <;> simp [State.sameIn, State.headed] at outside ⊢
        exact events
      · refine motion.trans ?_
        rw [State.headed, ← idle]
        rfl
  · intro len need g command reply all
    have run := queueMove_accepted tag (kind := 1) (k := .probe) ⟨by decide, rfl⟩ fits ⟨positive, most, small⟩ active
      referenced queue idle limits fun _ => moves
    have becomes := (becomeCurrent_of_queued (tag := tag) (k := .probe) (target := target) (asked := asked) calm idle
      fun _ => moves).1 all
    rw [becomes, weigh_headed (g := queuedMove tag .probe target asked s) rfl rfl all, if_pos (by rfl)] at run
    refine ⟨fun usable free profile => ?_, fun usable hold => ?_, fun unusable => ?_⟩
    · rw [usable, free, startSegment_headed (g := queuedMove tag .probe target asked s) profile] at run
      refine ⟨_, run, fun p outside => ?_, fun a => axis_setModes s .moving a, rfl, rfl⟩
      cases p <;> simp [State.sameIn, State.headed] at outside ⊢
    · rw [usable, hold] at run
      refine ⟨_, run, fun p outside => ?_, ?_, ?_, rfl⟩
      · cases p <;> simp [State.sameIn, State.headed] at outside ⊢
      · change (s.headed .idle g).motion = _
        rw [State.headed, ← idle]
        rfl
      · exact runningWait_headed (s := s) (g := g) rfl rfl rfl all usable hold
    · rw [unusable] at run
      rw [if_pos (by rfl), refuseNoProbe_headed (tag := tag) rfl] at run
      refine ⟨_, run, fun p outside => ?_, rfl, ?_, rfl, rfl⟩
      · cases p <;> simp [State.sameIn, State.headed] at outside ⊢
      · exact (State.isPending_iff _ _).mpr (raiseProbeRefused_pends .noProbe tag _)
  · have run : exec (.resume []) s = .next (resume [] s) := rfl
    obtain ⟨h, rest, rfl⟩ := List.exists_cons_of_ne_nil more
    have idled : (s.setMotionState .idle).calm := calm
    have zero : fixGeometry g (s.setMotionState .idle) = refuseZeroLength g (s.setMotionState .idle) :=
      if_pos ⟨probe, pathLength_eq_zero_iff.mpr stands.symm⟩
    rw [resume_nil, if_pos held, shedAbortedClaim_of_none (by exact calm.1),
      becomeCurrent_of_current idled (by simp [State.setMotionState])
        (State.current_of_head (by simp [State.setMotionState]) queue) grounded, zero,
      refuseZeroLength_behind idled (by simp [State.setMotionState]) queue tagged] at run
    refine ⟨_, run, fun p outside => ?_, ?_, ?_, rfl, rfl⟩
    · cases p <;> simp [State.sameIn, State.setMotionState] at outside ⊢
    · rw [← held]
      rfl
    · exact (State.isPending_iff _ _).mpr (raiseProbeRefused_pends .zeroLength tag _)
  · have run : exec (.readPoint []) s
        = .next ((holdChanged s.holdCount (s.setPoints (s.points.withRecords left))).answer .ok
            (pointReply left.length s.points.overrun (some r))) := by
      refine congrArg Host.Outcome.next ?_
      rw [readPoint, withLength_eq List.length_nil, records]
    have count : s.holdCount = left.length + 1 + s.owedCount := by rw [State.holdCount, records, List.length_cons]
    have taken := holdCount_withRecords s left
    have cleared : holdChanged s.holdCount (s.setPoints (s.points.withRecords left))
        = weigh (s.setPoints { s.points.withRecords left with hold := false }) :=
      holdChanged_of_fall hold level (by omega) (by
        rw [taken]
        change _ + s.cfg.hysteresis ≤ s.cfg.holdLevel
        omega)
    have started : weigh (s.setPoints { s.points.withRecords left with hold := false })
        = startSegment g (s.setPoints { s.points.withRecords left with hold := false }) := by
      rw [weigh_of_head (s := s.setPoints { s.points.withRecords left with hold
          := false }) idle queue (by rw [queued]; rfl) (cellsHeld_of_geom geom (by exact held)), if_pos probe,
        if_neg, if_neg (by simp)]
      rw [Bool.not_eq_true', Bool.not_eq_false]
      exact usable
    have host : s.motion.state ≠ .changing := by simp [idle]
    rw [cleared, started, startSegment_of_head (s := s.setPoints { s.points.withRecords left with hold := false })
      host queue
      (by rw [Segment.len_of_geom geom]; exact profile), if_pos probe] at run
    refine ⟨_, _, run, fun p outside => ?_, rfl, rfl, rfl, rfl, rfl, rfl, rfl, rfl, rfl, rfl, rfl, fun a => ?_⟩
    · cases p <;> simp [State.sameIn] at outside ⊢
    · exact congrArg AxisChan.mode (axis_setModes _ .moving a)

end Sys2Proof.Machine
end

section
/-! PROOFS. How a segment ends (R36 to R38, R41, R44, R152 to R157): the last host segment with its hand-over and its
NO CONTACT request, the internal segments of a change, the position timeout and the end of a STOP deceleration. -/

namespace Sys2Proof.Machine

/-! ## A request for cells leaves the cells held (R55, R62) -/

theorem takeBack_heldSet (p : Station) (n : Byte) (s : State) : (takeBack p n s).heldSet = s.heldSet := by
  refine CellSet.ext_has fun c => ?_
  rw [State.has_heldSet, State.has_heldSet, takeBack, State.cell_mapCells]
  split
  · next claimed =>
    rw [claimed]
    rfl
  · rfl

theorem takeBackClaim_heldSet (c : Claim) (s : State) : (takeBackClaim c s).heldSet = s.heldSet := by
  unfold takeBackClaim
  split
  · exact takeBack_heldSet _ _ _
  · rfl

theorem offer_heldSet (f : TxFrame) (s : State) : (offer f s).2.heldSet = s.heldSet :=
  State.heldSet_congr (by simp) (by simp [State.own])

theorem claimToWaiting_heldSet (cs : CellSet) (s : State) : (claimToWaiting cs s).heldSet = s.heldSet := by
  unfold claimToWaiting
  split
  · rfl
  · next c _ =>
    have waits (w : Claim) : (offerWait cs (raiseZoneWait cs ((takeBackClaim c s).setClaim (some w)))).heldSet
        = s.heldSet := by
      rw [← takeBackClaim_heldSet c s]
      unfold offerWait
      split
      · exact offer_heldSet _ _
      · rfl
    dsimp only
    split
    · exact waits _
    · exact waits _

theorem sendClaim_heldSet (c : Claim) (s : State) : (sendClaim c s).heldSet = s.heldSet := by
  have undelivered (t : State) : (claimUndelivered t).heldSet = t.heldSet := by
    unfold claimUndelivered
    split
    · rfl
    · exact claimToWaiting_heldSet _ _
  unfold sendClaim
  dsimp only
  generalize made : s.setZone _ = u
  have same : u.heldSet = s.heldSet := by
    rw [← made]
    exact State.heldSet_congr rfl rfl
  have offered := offer_heldSet (.claim s.zone.nextNumber c.cells) u
  generalize offer (.claim s.zone.nextNumber c.cells) u = x at *
  obtain ⟨result, t⟩ := x
  cases result with
  | placed => exact offered.trans same
  | refused => exact (undelivered t).trans (offered.trans same)
  | discarded => exact offered.trans same

theorem requestCells_heldSet (cs : CellSet) (s : State) : (requestCells cs s).heldSet = s.heldSet := by
  unfold requestCells
  repeat' split
  · rfl
  · rfl
  · rfl
  · exact sendClaim_heldSet _ _
  · rfl

/-- What is left to the station of a hand-over (R68). -/
theorem minus_released (held keep owed : CellSet) :
    CellSet.minus held (CellSet.minus held keep ||| owed) = CellSet.minus (held &&& keep) owed := by
  refine CellSet.ext_has fun c => ?_
  simp only [CellSet.has_minus, CellSet.has_or, CellSet.has_and]
  cases held.has c <;> cases keep.has c <;> rfl

theorem handOver_heldSet (keep : CellSet) (s : State) :
    (handOver keep s).heldSet = CellSet.minus (s.heldSet &&& keep) s.owedSet := by
  obtain ⟨left, -⟩ := handOver_handsOver keep s
  rw [← minus_released, left]

/-! ## The segment in flight has arrived (R36) -/

theorem inPosition_iff {g : Segment} (untouched : g.touchedAt = none) (s : State) : g.inPosition s = true ↔
    ∀ a, ((s.axis a).scale - g.target.get a).natAbs ≤ s.cfg.band := by
  have target : g.settleTarget = g.target := by
    unfold Segment.settleTarget
    rw [untouched]
    split <;> simp_all
  have axes : (∀ a, ((s.axis a).scale - g.target.get a).natAbs ≤ s.cfg.band)
      ↔ ((s.axis .x).scale - g.target.x).natAbs ≤ s.cfg.band ∧ ((s.axis .y).scale - g.target.y).natAbs ≤ s.cfg.band
        ∧ ((s.axis .z).scale - g.target.z).natAbs ≤ s.cfg.band :=
    ⟨fun near => ⟨near .x, near .y, near .z⟩, fun ⟨x, y, z⟩ a => by cases a; exacts [x, y, z]⟩
  rw [axes, Segment.inPosition, target]
  simp only [Bool.and_eq_true, decide_eq_true_eq, and_assoc]
  rfl

theorem arrived_of_near {g : Segment} {s : State} (settling : g.state = .settling) (untouched : g.touchedAt = none)
    (near : ∀ a, ((s.axis a).scale - g.target.get a).natAbs ≤ s.cfg.band) : g.arrived s = true := by
  rw [Segment.arrived, settling, (inPosition_iff untouched s).mpr near]
  rfl

/-- With no claim and no request held back, R30 has nothing to do. -/
theorem currentChanged_of_calm {s : State} (noClaim : s.zone.claim = none) (heldBack : s.zone.heldBack = none) :
    currentChanged s = s := by
  unfold currentChanged
  rw [State.setZone_heldBack_none heldBack]
  dsimp only
  rw [noClaim]

theorem setModes_setpoints (s : State) (m : Mode) : (s.setModes m).setpoints = s.setpoints :=
  State.setpoints_congr fun a => by rw [axis_setModes]

/-! ## The last host segment (R38, R41, R68) -/

/-- A completed host segment with nothing behind it: what it asked, its event, and the hand-over to IDLE. -/
def endedHost (tag : Tag) (asked : State) : State :=
  let idle := (raiseSegmentDone tag asked).setModes .idle
  (handOver idle.restHere idle).setMotionState .idle

theorem completeHost_last {g : Segment} {tag : Tag} {s asked : State}
    (calm : s.zone.claim = none ∧ s.zone.heldBack = none)
    (noStop : s.motion.stopPending = false) (tagged : g.tag = some tag)
    (asks : (if g.untouchedProbe then requestNoContact g s.dropCurrent else s.dropCurrent) = asked)
    (same : asked.zone = s.zone ∧ asked.motion.queue = []) : completeHost g s = endedHost tag asked := by
  obtain ⟨noClaim, heldBack⟩ := calm
  obtain ⟨zone, queue⟩ := same
  have changed : currentChanged (raiseSegmentDone tag asked) = raiseSegmentDone tag asked :=
    currentChanged_of_calm (by simp [zone, noClaim]) (by simp [zone, heldBack])
  unfold completeHost
  dsimp only
  rw [asks, tagged, Option.getD_some, changed, if_neg (by simp [noStop])]
  have head : ((raiseSegmentDone tag asked).setModes .idle).motion.queue.head? = none := by simp [queue]
  rw [head]
  refine becomeCurrent_of_empty ?_ ?_
  · simp [State.setMotionState, zone, noClaim]
  · simp [State.setMotionState, State.current, queue]

theorem endedHost_heldSet (tag : Tag) (asked : State) :
    (endedHost tag asked).heldSet
      = CellSet.minus (asked.heldSet &&& restSet asked.cfg asked.setpoints) asked.owedSet := by
  have handed := handOver_heldSet (restSet asked.cfg asked.setpoints) ((raiseSegmentDone tag asked).setModes .idle)
  have rest : ((raiseSegmentDone tag asked).setModes .idle).restHere = restSet asked.cfg asked.setpoints := by
    rw [State.restHere, setModes_setpoints]
    rfl
  unfold endedHost
  dsimp only
  rw [rest]
  exact handed

/-- The NO CONTACT request of an untouched PROBE (R41, R166). -/
theorem noContactOf_known {g : Segment} {i : Ident} {e : LibEntry} {tag : Tag} {s : State}
    (current : s.probes.current = .known i) (found : s.entry i = some e) (tagged : g.tag = some tag) :
    ∃ r, noContactOf g s = some r ∧ r.tag = tag ∧ r.ident = i ∧ r.snap = snapshot s := by
  rw [noContactOf, current]
  dsimp only
  rw [found, tagged]
  exact ⟨_, rfl, rfl, rfl, rfl⟩

/-- A request handed to the idle Correction Unit is taken at once (R164). -/
theorem requestNoContact_taken {g : Segment} {s : State} {r : NoContact} (asks : noContactOf g s = some r)
    (idle : s.corr.computing = none) (empty : s.probes.latch = none) (noRequest : s.corr.request = none) :
    (requestNoContact g s).corr = { computing := some (.noContact r), request := none, requestFirst := false }
      ∧ (requestNoContact g s).motion = s.motion ∧ (requestNoContact g s).zone = s.zone
      ∧ (requestNoContact g s).points.records = s.points.records := by
  have rise : s.holdCount
      ≤ (s.setCorr { s.corr with request := some r, requestFirst := s.probes.latch.isNone }).holdCount := by
    simp [State.holdCount, State.owedCount, noRequest, count1, idle, empty]
  unfold requestNoContact
  rw [asks]
  dsimp only
  rw [holdChanged_of_le rise, takeWork_request (r := r) (by simpa using idle) (by simp) (by simp [empty])]
  simp

/-! ## An internal segment is handed over (R152) -/

/-- What an internal segment that is handed over leaves of a state: the probes but for a pending bank, the queue and
the cells held; it stands in CHANGING. -/
def State.handed (s : State) (kind : SegKind) (target : V3 Int) (t : State) : Prop :=
  (s.probes.pendingBank = none → t.probes = s.probes) ∧ t.motion.queue = s.motion.queue ∧ t.heldSet = s.heldSet
    ∧ t.motion.state = .changing
    ∧ ∃ h, t.motion.internal = some h ∧ h.kind = kind ∧ h.target = target
      ∧ h.feed = (if kind = .dock then s.cfg.dockMax else s.cfg.rapidMax) ∧ h.tag = none

theorem setCurrent_of_changing {s : State} (changing : s.motion.state = .changing) (g : Segment) :
    s.setCurrent g = s.setMotion { s.motion with internal := some g } := if_pos changing

theorem settleBank_keeps_internal (s : State) : (settleBank s).motion.internal = s.motion.internal := by simp

/-- A started internal segment keeps its kind, target, feed and tag, settling at once or RUNNING. -/
theorem startSegment_handed {s : State} {g : Segment} (changing : s.motion.state = .changing) :
    (s.probes.pendingBank = none → (startSegment g s).probes = s.probes) ∧ (startSegment g s).motion.queue = s.motion.queue
      ∧ (startSegment g s).motion.state = .changing ∧ (startSegment g s).zone = s.zone
      ∧ ∃ h, (startSegment g s).motion.internal = some h ∧ h.kind = g.kind ∧ h.target = g.target
        ∧ h.feed = g.feed ∧ h.tag = g.tag := by
  unfold startSegment
  dsimp only
  rw [if_pos changing]
  split
  · rw [enterSettling, enterSettlingAt, setCurrent_of_changing (by simpa using changing)]
    refine ⟨fun noBank => ?_, by simp, by simp [changing], by simp, _, settleBank_keeps_internal _, rfl, rfl, rfl, rfl⟩
    rw [settleBank_of_none (by simpa using noBank)]
    simp
  · rw [setCurrent_of_changing (by simpa using changing)]
    exact ⟨by simp, by simp, by simp [changing], by simp, _, rfl, rfl, rfl, rfl, rfl⟩

/-- An internal segment with its cells held starts at once (R27). -/
theorem weigh_of_internal {s : State} {g : Segment} (changing : s.motion.state = .changing)
    (internal : s.motion.internal = some g) (grounded : g.state.flying = false) (held : g.cellsHeld s = true) :
    weigh s = startSegment g s := by
  have current : s.current = some g := (if_pos changing).trans internal
  rw [weigh, current]
  dsimp only
  rw [if_neg (by simp [grounded, held]), if_pos changing]

theorem handInternal_handed {s : State} {kind : SegKind} (target : V3 Int) (travels : kind ≠ .probe) (calm : s.calm)
    (changing : s.motion.state = .changing) : s.handed kind target (handInternal kind target s) := by
  generalize fresh : newSegment none kind target (if kind = .dock then s.cfg.dockMax else s.cfg.rapidMax) = g
  have facts : g.kind = kind ∧ g.target = target
      ∧ g.feed = (if kind = .dock then s.cfg.dockMax else s.cfg.rapidMax) ∧ g.tag = none
      ∧ g.state.flying = false := by
    rw [← fresh]
    exact ⟨rfl, rfl, rfl, rfl, rfl⟩
  obtain ⟨kind_eq, target_eq, feed_eq, tag_eq, grounded⟩ := facts
  generalize handed : s.setMotion { s.motion with internal := some g } = u
  have becomes : handInternal kind target s = fixGeometry g u := by
    unfold handInternal
    dsimp only
    rw [fresh, handed]
    refine becomeCurrent_of_current ?_ ?_ ?_ grounded
    · rw [← handed]
      exact calm
    · simp [← handed, changing]
    · simp [← handed, State.current, changing]
  have u_changing : u.motion.state = .changing := by simp [← handed, changing]
  have same : u.probes = s.probes ∧ u.motion.queue = s.motion.queue ∧ u.heldSet = s.heldSet := by
    refine ⟨by simp [← handed], by simp [← handed], ?_⟩
    rw [← handed]
    exact State.heldSet_congr rfl rfl
  obtain ⟨probes, queue, held⟩ := same
  have goes : g.travels u := fun probe => absurd (kind_eq.symm.trans probe) travels
  rw [becomes]
  by_cases missing : CellSet.minus (needSet u.cfg u.setpoints g.target) u.heldSet = 0#20
  · rw [fixGeometry_of_held goes missing, setCurrent_of_changing u_changing]
    have starts := weigh_of_internal
      (s := u.setMotion { u.motion with internal := some { g with geom := some (geometry g u), state := .queued } })
      u_changing rfl rfl (cellsHeld_of_geom rfl (by exact missing))
    rw [starts]
    obtain ⟨kept, still, state, zone, h, internal, same_kind, same_target, same_feed, same_tag⟩ :=
      startSegment_handed (g := { g with geom := some (geometry g u), state := .queued })
        (s := u.setMotion { u.motion with internal := some { g with geom := some (geometry g u), state := .queued } })
        u_changing
    refine ⟨fun noBank => (kept (by simpa [probes] using noBank)).trans probes, still.trans queue, ?_, state, h, internal, same_kind.trans kind_eq,
      same_target.trans target_eq, same_feed.trans feed_eq, same_tag.trans tag_eq⟩
    rw [← held]
    exact State.heldSet_congr (congrArg Zone.cells zone) (by simp [State.own])
  · rw [fixGeometry_of_missing goes missing, setCurrent_of_changing u_changing]
    generalize CellSet.minus (needSet u.cfg u.setpoints g.target) u.heldSet = cs
    have kept (w : State) : (requestCells cs w).motion = w.motion := by simp
    refine ⟨fun _ => by simp [probes], by simp [queue], ?_, by simp [u_changing],
      { g with geom := some (geometry g u), state := .waitingZone }, by rw [kept]; rfl, kind_eq, target_eq, feed_eq,
      tag_eq⟩
    rw [requestCells_heldSet, ← held]
    exact State.heldSet_congr rfl rfl

/-! ## The internal segments of a change (R152 to R157) -/

/-- The state behind an internal segment in position: its record gone, the axes at rest. -/
def State.landed (s : State) : State := (s.setMotion { s.motion with internal := none }).setModes .idle

theorem completeSegment_internal {s : State} {g : Segment} {ch : Change} (changing : s.motion.state = .changing)
    (internal : s.motion.internal = some g) (change : s.probes.change = some ch) (settling : g.state = .settling)
    (arrived : g.arrived s = true) (noClaim : s.zone.claim = none) (heldBack : s.zone.heldBack = none) :
    completeSegment s = if ch.failure = some .aborted then endChange ch (handOver s.landed.restHere s.landed)
      else if g.kind = .rapid then continueTravel ch s.landed else endPhase ch s.landed := by
  have current : s.current = some g := (if_pos changing).trans internal
  have flying : s.flying = some g := by
    rw [State.flying, current, Option.filter_some, if_pos (by rw [settling]; rfl)]
  have dropped : s.dropCurrent = s.setMotion { s.motion with internal := none } := if_pos changing
  have landed : (currentChanged s.dropCurrent).setModes .idle = s.landed := by
    rw [dropped, currentChanged_of_calm (by exact noClaim) (by exact heldBack)]
    rfl
  rw [completeSegment, flying]
  dsimp only
  rw [if_pos arrived, if_pos changing, change]
  dsimp only
  rw [completeInternal, landed]

/-- Behind an internal segment nothing has been claimed, and the cells and setpoints are those before. -/
theorem landed_leaves (s : State) : s.landed.zone = s.zone ∧ s.landed.heldSet = s.heldSet
    ∧ s.landed.owedSet = s.owedSet ∧ s.landed.setpoints = s.setpoints
        ∧ s.landed.restHere = restSet s.cfg s.setpoints := by
  have setpoints : s.landed.setpoints = s.setpoints := setModes_setpoints _ _
  refine ⟨rfl, State.heldSet_congr rfl rfl, State.owedSet_congr rfl rfl, setpoints, ?_⟩
  rw [State.restHere, setpoints]
  rfl

theorem handOver_landed_heldSet (keep : CellSet) (s : State) :
    (handOver keep s.landed).heldSet = CellSet.minus (s.heldSet &&& keep) s.owedSet := by
  obtain ⟨-, held, owed, -⟩ := landed_leaves s
  rw [handOver_heldSet, held, owed]

/-- The end of a change before its event (R156). -/
def changeLeft (s : State) : State :=
  ((s.setChange none).setModes .idle).setMotion
    { s.motion with state := .idle, internal := none, stopPending := false }

/-- With the queue empty a change ends with its event alone (R156). -/
theorem endChange_of_empty {ch : Change} {s : State} (noClaim : s.zone.claim = none) (queue : s.motion.queue = []) :
    endChange ch s = match ch.outcome with
      | none => raiseChangeDone ch.target (changeLeft s)
      | some r => raiseChangeFailed r ch.target (changeLeft s) := by
  unfold endChange
  dsimp only
  cases ch.outcome with
  | none => exact becomeCurrent_of_empty noClaim (by simp [State.current, queue])
  | some r => exact becomeCurrent_of_empty noClaim (by simp [State.current, queue])

/-- What the end of a change leaves, whatever its event. -/
theorem endChange_to_empty {ch : Change} {s : State} (noClaim : s.zone.claim = none) (queue : s.motion.queue = []) :
    s.sameBut (endChange ch s) [.axes, .motion, .probes, .events]
      ∧ (endChange ch s).motion = { s.motion with state := .idle, internal := none, stopPending := false }
      ∧ (∀ a, (endChange ch s).axis a = { s.axis a with mode := .idle })
      ∧ (endChange ch s).probes = { s.probes with change := none } := by
  rw [endChange_of_empty noClaim queue]
  cases ch.outcome with
  | none =>
    refine ⟨fun p outside => ?_, rfl, fun a => axis_setModes (s.setChange none) .idle a, rfl⟩
    cases p <;> simp [State.sameIn, changeLeft] at outside ⊢
  | some r =>
    refine ⟨fun p outside => ?_, rfl, fun a => axis_setModes (s.setChange none) .idle a, rfl⟩
    cases p <;> simp [State.sameIn, changeLeft] at outside ⊢

theorem endChange_done {ch : Change} {s : State} (noClaim : s.zone.claim = none) (queue : s.motion.queue = [])
    (outcome : ch.outcome = none) : (endChange ch s).isPending .changeDone
      ∧ (endChange ch s).events.kept.changeDone = some ch.target := by
  rw [endChange_of_empty noClaim queue, outcome]
  exact ⟨(State.isPending_iff _ _).mpr (raiseChangeDone_pends _ _), rfl⟩

theorem endChange_failed {ch : Change} {s : State} {r : FailReason} (noClaim : s.zone.claim = none)
    (queue : s.motion.queue = []) (outcome : ch.outcome = some r) : (endChange ch s).isPending .changeFailed
      ∧ (endChange ch s).events.kept.changeFailed = some (r, ch.target) := by
  rw [endChange_of_empty noClaim queue, outcome]
  exact ⟨(State.isPending_iff _ _).mpr (raiseChangeFailed_pends _ _ _), rfl⟩

/-- A hand-over leaves a calm station calm. -/
theorem State.calm.handOver {s : State} (h : s.calm) (keep : CellSet) : (handOver keep s).calm := by
  simpa [State.calm] using h

/-- While CHANGING a sound bank selector has nothing pending where the segment settles (R139). -/
theorem pendingBank_of_settling {s : State} {g : Segment} (bank : s.BankSound) (changing : s.motion.state = .changing)
    (internal : s.motion.internal = some g) (settling : g.state = .settling) : s.probes.pendingBank = none := by
  have quiet : s.probeBusy = false := by
    have current : s.current = some g := (if_pos changing).trans internal
    rw [State.probeBusy, State.flying, current, Option.filter_some, if_pos (by rw [settling]; rfl)]
    simp [settling]
  rw [← Option.not_isSome_iff_eq_none]
  intro pending
  rw [bank pending] at quiet
  cases quiet

/-- An internal segment in position, its surplus cells handed over, as DROPPING or PICKING begins (R153, R154). -/
theorem landed_at_seat (s : State) (p : Probes) :
    s.sameBut ((handOver s.landed.restHere s.landed).setProbes p) [.axes, .motion, .zone, .link, .probes, .events]
      ∧ ((handOver s.landed.restHere s.landed).setProbes p).motion = { s.motion with internal := none }
      ∧ (∀ a, (((handOver s.landed.restHere s.landed).setProbes p).axis a).mode = .idle)
      ∧ ((handOver s.landed.restHere s.landed).setProbes p).heldSet
          = CellSet.minus (s.heldSet &&& restSet s.cfg s.setpoints) s.owedSet := by
  refine ⟨fun q outside => ?_, ?_, fun a => ?_, ?_⟩
  · cases q <;> simp [State.sameIn, State.landed] at outside ⊢
  · simp [State.landed]
  · have axes : ((handOver s.landed.restHere s.landed).setProbes p).axis a = s.landed.axis a := by simp [State.axis]
    rw [axes, State.landed, axis_setModes]
  · rw [← handOver_landed_heldSet, ← (landed_leaves s).2.2.2.2]
    exact State.heldSet_congr rfl rfl

/-! ## The statement -/

theorem completeSegment_host {s : State} {g : Segment} {rest : List Segment} (running : s.motion.state = .running)
    (queue : s.motion.queue = g :: rest) (settling : g.state = .settling) (arrived : g.arrived s = true) :
    completeSegment s = completeHost g s := by
  have host : s.motion.state ≠ .changing := by simp [running]
  rw [completeSegment, State.flying_of_head host queue (by rw [settling]; rfl)]
  dsimp only
  rw [if_pos arrived, if_neg host]

theorem offer_segmentDone (f : TxFrame) (s : State) :
    (offer f s).2.events.kept.segmentDone = s.events.kept.segmentDone := by
  unfold offer placeFrame
  dsimp only
  repeat' split
  all_goals rfl

theorem endedHost_segmentDone (tag : Tag) (asked : State) :
    (endedHost tag asked).isPending .segmentDone ∧ (endedHost tag asked).events.kept.segmentDone = some tag := by
  have kept (keep : CellSet) (s : State) :
      (handOver keep s).events.kept.segmentDone = s.events.kept.segmentDone := by
    unfold handOver
    dsimp only
    split
    · rfl
    · exact offer_segmentDone _ _
  refine ⟨(State.isPending_iff _ _).mpr ?_, kept _ _⟩
  simp [endedHost, State.setMotionState]

/-- The end of a STOP deceleration outside a change: the record goes, motion is HELD, the bank is settled (R44). -/
theorem stopDecelerationEnd_of_slow {s : State} {g : Segment} {rest : List Segment} {vel : Nat}
    (running : s.motion.state = .running) (queue : s.motion.queue = g :: rest) (state : g.state = .running)
    (decel : g.decel = some vel) (slow : vel ≤ s.cfg.accel) (calm : s.calm) : stopDecelerationEnd s = settleBank
      ((s.setModes .idle).setMotion { s.motion with state := .held, queue := rest, stopPending := false }) := by
  have host : s.motion.state ≠ .changing := by simp [running]
  have flying : s.flying = some g := State.flying_of_head host queue (by rw [state]; rfl)
  have dropped : s.dropCurrent.setMotionState .held = s.setMotion { s.motion with state := .held, queue := rest } := by
    rw [State.dropCurrent, if_neg host, queue]
    rfl
  rw [stopDecelerationEnd, flying]
  dsimp only
  rw [if_pos (by simp [Segment.stopped, state, decel, slow]), endDeceleration, if_neg host, dropped]
  dsimp only
  rw [currentChanged_of_calm (by exact calm.1) (by exact calm.2.1)]
  rfl

/-- Settles O27: the last host segment by `completeHost_last`, the internal ones by `completeSegment_internal`, the
position timeout by the fault stop, and the end of a STOP deceleration. -/
theorem segmentEndsByCompletionTimeoutOrStop : Obligations.SegmentEndsByCompletionTimeoutOrStop := by
  refine ⟨fun g tag s running queue settling untouched tagged calm noStop near => ?_,
    fun g ch s changing internal change settling untouched calm near => ?_,
    fun g rest s running queue => ⟨fun a settling untouched far => ?_, fun v state decel slow calm => ?_⟩⟩
  · have host : s.motion.state ≠ .changing := by simp [running]
    have dropped : s.dropCurrent = s.setMotion { s.motion with queue := [] } := by
      rw [State.dropCurrent, if_neg host, queue]
      rfl
    have run : exec .segmentComplete s = .next (completeHost g s) :=
      congrArg Host.Outcome.next (completeSegment_host running queue settling (arrived_of_near settling untouched near))
    refine ⟨fun rapid => ?_, fun i e probe current found idle noRequest empty => ?_⟩
    · have asks : (if g.untouchedProbe then requestNoContact g s.dropCurrent else s.dropCurrent)
          = s.setMotion { s.motion with queue := [] } := by
        rw [if_neg (by simp [Segment.untouchedProbe, rapid]), dropped]
      rw [completeHost_last ⟨calm.1, calm.2.1⟩ noStop tagged asks ⟨rfl, rfl⟩] at run
      obtain ⟨pends, kept⟩ := endedHost_segmentDone tag (s.setMotion { s.motion with queue := [] })
      refine ⟨_, run, fun p outside => ?_, ?_, fun a => ?_, pends, kept,
        endedHost_heldSet tag (s.setMotion { s.motion with queue := [] })⟩
      · cases p <;> simp [State.sameIn, endedHost, State.setMotionState] at outside ⊢
      · simp [endedHost, State.setMotionState]
      · refine Eq.trans ?_ (axis_setModes s .idle a)
        simp [State.axis, endedHost, State.setMotionState, State.setModes]
    · obtain ⟨r, asked, same_tag, same_ident, same_snap⟩ := noContactOf_known (g := g)
        (s := s.setMotion { s.motion with queue := [] }) current found tagged
      obtain ⟨corr, motion, zone, records⟩ := requestNoContact_taken asked idle empty noRequest
      have asks : (if g.untouchedProbe then requestNoContact g s.dropCurrent else s.dropCurrent)
          = requestNoContact g (s.setMotion { s.motion with queue := [] }) := by
        rw [if_pos (by simp [Segment.untouchedProbe, probe, untouched]), dropped]
      generalize requestNoContact g (s.setMotion { s.motion with queue := [] }) = u at *
      rw [completeHost_last ⟨calm.1, calm.2.1⟩ noStop tagged asks ⟨zone, by rw [motion]; rfl⟩] at run
      refine ⟨_, r, run, ?_, ?_, same_tag, same_ident, same_snap, ?_, (endedHost_segmentDone tag u).2, ?_⟩
      · simp [endedHost, State.setMotionState, corr]
      · simp [endedHost, State.setMotionState, corr]
      · simp [endedHost, State.setMotionState, motion]
      · simp [endedHost, State.setMotionState, records]
  · intro keeps next atSeat goesOn
    have whole := completeSegment_internal changing internal change settling
      (arrived_of_near settling untouched near) calm.1 calm.2.1
    have run : exec .segmentComplete s = .next (completeSegment s) := rfl
    have landed_calm : s.landed.calm := calm
    obtain ⟨-, -, -, setpoints, rest⟩ := landed_leaves s
    have noBank (sound : s.BankSound) : s.probes.pendingBank = none :=
      pendingBank_of_settling sound changing internal settling
    refine ⟨fun k notAborted rapid sound slot => ?_, fun notAborted dock => ⟨fun phase => ?_, fun phase => ?_,
      fun k phase on pick sound => ?_⟩, fun ends empty => ?_⟩
    · rw [if_neg notAborted, if_pos rapid] at whole
      have at_slot : s.slotPoints (if ch.phase = .goingToPick then ch.pick else ch.drop) = s.cfg.slots.get k := by
        rcases slot with ⟨phase, some_slot⟩ | ⟨phase, some_slot⟩ <;> simp [phase, some_slot, State.slotPoints]
      have travels : completeSegment s = handInternal .dock (s.cfg.slots.get k).dock
          (handOver (needSet s.cfg s.setpoints (s.cfg.slots.get k).dock) s.landed) := by
        rw [whole, ← at_slot, ← setpoints]
        rfl
      obtain ⟨probes, queue, held, state, h, now, kind, target, feed, untagged⟩ :=
        handInternal_handed (kind := .dock) (s.cfg.slots.get k).dock (by simp) (landed_calm.handOver _)
          (by simp [State.landed, changing])
      rw [travels] at run
      refine ⟨_, run, ?_, ⟨state, h, now, kind, target, ?_, untagged⟩, held.trans (handOver_landed_heldSet _ _), ?_⟩
      · simpa [State.landed] using probes (by simpa [State.landed] using noBank sound)
      · simpa [State.cfg, State.landed] using feed
      · simpa [State.landed] using queue
    · rw [if_neg notAborted, if_neg (by simp [dock]), endPhase, phase] at whole
      obtain ⟨same, motion, modes, held⟩ := landed_at_seat s { s.probes with
        latchOpen := true, change := some { ch with phase := .dropping, seatDue := some (s.clock + 300) } }
      have dropping : completeSegment s = (handOver s.landed.restHere s.landed).setProbes { s.probes with
          latchOpen := true, change := some { ch with phase := .dropping, seatDue := some (s.clock + 300) } } := by
        rw [whole]
        simp [beginDropping, State.landed]
      rw [dropping] at run
      exact ⟨_, run, same, rfl, motion, modes, held, by rw [motion]⟩
    · rw [if_neg notAborted, if_neg (by simp [dock]), endPhase, phase] at whole
      obtain ⟨same, motion, modes, held⟩ := landed_at_seat s { s.probes with
        latchOpen := false, change := some { ch with phase := .picking, seatDue := some (s.clock + 300) } }
      have picking : completeSegment s = (handOver s.landed.restHere s.landed).setProbes { s.probes with
          latchOpen := false, change := some { ch with phase := .picking, seatDue := some (s.clock + 300) } } := by
        rw [whole]
        simp [beginPicking, State.landed]
      rw [picking] at run
      exact ⟨_, run, same, rfl, motion, modes, held, by rw [motion]⟩
    · obtain ⟨noFailure, noAbort, -⟩ := on
      rw [if_neg notAborted, if_neg (by simp [dock]), endPhase, phase] at whole
      dsimp only at whole
      rw [if_neg (by simp [noFailure, noAbort, pick])] at whole
      have travels : completeSegment s = handInternal .rapid (s.cfg.slots.get k).clear
          ((handOver s.landed.restHere s.landed).setProbes
            { s.probes with change := some { ch with phase := .goingToPick } }) := by
        rw [whole, beginTravel]
        simp [State.setChange, State.landed, pick, State.slotPoints, State.cfg]
      obtain ⟨-, motion, -, left⟩ := landed_at_seat s
        { s.probes with change := some { ch with phase := .goingToPick } }
      obtain ⟨probes, queue, held, state, h, now, kind, target, feed, untagged⟩ :=
        handInternal_handed (kind := .rapid) (s.cfg.slots.get k).clear
          (s := (handOver s.landed.restHere s.landed).setProbes
            { s.probes with change := some { ch with phase := .goingToPick } })
          (by simp) (landed_calm.handOver s.landed.restHere) (by rw [motion, changing])
      rw [travels] at run
      refine ⟨_, run, probes (noBank sound), ⟨state, h, now, kind, target, ?_, untagged⟩, held.trans left, ?_⟩
      · simpa [State.cfg, State.landed] using feed
      · rw [queue, motion]
    · have ended : completeSegment s = endChange ch (handOver s.landed.restHere s.landed) := by
        by_cases aborted : ch.failure = some .aborted
        · rw [whole, if_pos aborted]
        · obtain ⟨dock, phase⟩ := ends.resolve_left aborted
          rw [whole, if_neg aborted, if_neg (by simp [dock]), endPhase]
          rcases phase with phase | ⟨phase, stop⟩
          · rw [phase]
          · rw [phase]
            dsimp only
            rw [if_pos]
            by_contra on
            simp only [Bool.or_eq_true, not_or, Bool.not_eq_true,
              Option.isSome_eq_false_iff, Option.isNone_iff_eq_none] at on
            obtain ⟨⟨noFailure, noAbort⟩, pick⟩ := on
            exact stop ⟨noFailure, noAbort, Option.isSome_iff_ne_none.mpr pick⟩
      have claim : (handOver s.landed.restHere s.landed).zone.claim = none := (landed_calm.handOver _).1
      have queue : (handOver s.landed.restHere s.landed).motion.queue = [] := by simp [State.landed, empty]
      obtain ⟨same, motion, axes, probes⟩ := endChange_to_empty (ch := ch) claim queue
      rw [ended] at run
      refine ⟨_, run, fun p outside => ?_, ?_, fun a => ?_, ?_, ⟨?_, ?_⟩, fun noFailure noAbort => ?_,
        fun r reason => ?_⟩
      · have left : s.sameBut (handOver s.landed.restHere s.landed) [.axes, .motion, .zone, .link, .events] := by
          intro q outside
          cases q <;> simp [State.sameIn, State.landed] at outside ⊢
        exact State.sameBut_mono (State.sameBut_trans left same) (by simp) p outside
      · rw [motion]
        simp [State.landed]
      · have landed : (handOver s.landed.restHere s.landed).axis a = { s.axis a with mode := .idle } := by
          refine Eq.trans ?_ (axis_setModes s .idle a)
          simp [State.axis, State.landed, State.setModes]
        rw [axes, landed]
      · rw [probes]
        simp [State.landed]
      · have kept : (endChange ch (handOver s.landed.restHere s.landed)).heldSet
            = (handOver s.landed.restHere s.landed).heldSet := by
          have zone := same .zone (by simp)
          have station := same .station (by simp)
          exact State.heldSet_congr (congrArg Zone.cells zone) (congrArg StationBlock.number station)
        rw [kept, handOver_landed_heldSet, rest]
      · rw [motion, queue, empty]
      · exact endChange_done claim queue (by simp [Change.outcome, noFailure, noAbort])
      · refine endChange_failed claim queue ?_
        rcases reason with failed | ⟨noFailure, abort, rfl⟩
        · simp [Change.outcome, failed]
        · simp [Change.outcome, noFailure, abort]
  · have host : s.motion.state ≠ .changing := by simp [running]
    have flying : s.flying = some g := State.flying_of_head host queue (by rw [settling]; rfl)
    have out : g.inPosition s = false := by
      rw [← Bool.not_eq_true, inPosition_iff untouched]
      exact fun near => absurd (near a) (not_le.mpr far)
    have stops : exec .positionTimeout s
        = .next (faultStop .positionTimeout (s.reach (g.settleSince + 500))) := by
      refine congrArg Host.Outcome.next ?_
      rw [positionTimeout, flying]
      exact if_pos ⟨settling, by simp [out]⟩
    obtain ⟨same, -, state, -, -, -, records, -, -, zone, -, -, reason⟩ :=
      (faultStopFreezesEveryAxis .positionTimeout (s.reach (g.settleSince + 500))).2 (by simp [State.reach, running])
    have reached : (s.reach (g.settleSince + 500)).flying = some g := flying
    refine ⟨_, stops, fun p outside => ?_, state, ?_, ?_, same .clock (by simp)⟩
    · by_cases part : p = .zone
      · rw [part]
        exact zone host
      · have kept := same p (by simp_all)
        cases p <;> simp_all [State.sameIn, State.reach]
    · rw [records, if_pos ⟨host, by rw [reached]; rfl⟩]
      exact congrArg List.tail queue
    · rw [reason, if_neg (by exact host), reached]
      rfl
  · have ends : exec .stopDecelerationEnd s = _ := congrArg Host.Outcome.next
      (stopDecelerationEnd_of_slow running queue state decel slow calm)
    refine ⟨_, ends, fun p outside => ?_, ?_, fun a => ?_⟩
    · cases p <;> simp [State.sameIn] at outside ⊢
    · simp
    · refine Eq.trans ?_ (axis_setModes s .idle a)
      simp [State.axis, State.setModes]

end Sys2Proof.Machine
end

section
/-! PROOFS. What the zone statements share (R57 to R66, R101): a peer heard again, what follows an event that leaves no
claim to follow, a claim that goes to WAITING, and a zone conflict. -/

namespace Sys2Proof.Machine

/-! ## The view -/

/-- A change of the view that changes no entry changes nothing. -/
theorem State.mapCells_of_fixed {s : State} {f : Cell → CellEntry → CellEntry} (fixed : ∀ c, f c
    (s.cell c) = s.cell c) :
    s.mapCells f = s := by
  have cells : s.zone.cells.mapIx f = s.zone.cells := Vec.ext_get fun c => (Vec.get_mapIx _ _ _).trans (fixed c)
  rw [State.mapCells, cells]
  rfl

theorem State.freeSet_congr {s t : State} (cells : t.zone.cells = s.zone.cells) : t.freeSet = s.freeSet :=
  State.cellsWhere_congr cells _

theorem State.ownSet_congr {s t : State} (cells : t.zone.cells = s.zone.cells) (own : t.own = s.own) :
    t.ownSet = s.ownSet := by
  rw [State.ownSet, own, State.cellsWhere_congr cells, State.ownSet]

theorem State.deferred_congr {s t : State} (cells : t.zone.cells = s.zone.cells) : t.deferred = s.deferred :=
  State.cellsWhere_congr cells _

theorem State.cell_congr {s t : State} (cells : t.zone.cells = s.zone.cells) (c : Cell) : t.cell c = s.cell c := by
  rw [State.cell, cells, State.cell]

theorem takeBack_cell (p : Station) (n : Byte) (s : State) (c : Cell) :
    (takeBack p n s).cell c = if (s.cell c).state = .claimed p n
      then { s.cell c with state := .free, owed := none } else s.cell c := State.cell_mapCells _ _ _

/-! ## A peer is heard (R101, R104) -/

theorem hear_own (s : State) : hear s.own s = s := if_pos rfl

/-- The run of receive errors as a frame of a peer leaves it (R92). -/
def State.runCleared (s : State) : State := if s.judges then s.setLink { s.link with run := 0 } else s

theorem State.runCleared_peers (s : State) : s.runCleared.peers = s.peers := by
  unfold State.runCleared
  split <;> rfl

theorem State.runCleared_sameBut (s : State) : s.sameBut s.runCleared [.link] := by
  intro p outside
  unfold State.runCleared
  split <;> cases p <;> simp [State.sameIn] at outside ⊢

/-- A peer's frame with its entry absent, or present and perhaps lost (R101, R104). -/
theorem hear_absent {p : Station} {s : State} (other : p ≠ s.own) (absent : s.peer p = none) :
    hear p s = s.runCleared.setPeer p (some { lost := false, lastHeard := s.runCleared.clock, report := none }) := by
  have entry : s.runCleared.peer p = none := by rwa [State.peer, s.runCleared_peers]
  unfold hear
  rw [if_neg other]
  change (match s.runCleared.peer p with | none => _ | some e => _) = _
  rw [entry] <;> rfl

theorem hear_present {p : Station} {s : State} {e : Peer} (other : p ≠ s.own) (present : s.peer p = some e) :
    hear p s = if e.lost
      then evaluate (clearLostMarks p
        (s.runCleared.setPeer p (some { e with lost := false, lastHeard := s.runCleared.clock })))
      else s.runCleared.setPeer p (some { e with lost := false, lastHeard := s.runCleared.clock }) := by
  have entry : s.runCleared.peer p = some e := by rwa [State.peer, s.runCleared_peers]
  unfold hear
  rw [if_neg other]
  change (match s.runCleared.peer p with | none => _ | some e => _) = _
  rw [entry] <;> rfl

/-- The sender's entry is fresh, and no other entry changes. -/
theorem hear_peer {p : Station} {s : State} (other : p ≠ s.own) :
    (∃ e, (hear p s).peer p = some e ∧ e.lost = false ∧ e.lastHeard = s.clock)
      ∧ ∀ q, q ≠ p → (hear p s).peer q = s.peer q := by
  have clock : s.runCleared.clock = s.clock := s.runCleared_sameBut .clock (by simp)
  have kept (e : Option Peer) : (s.runCleared.setPeer p e).peer p = e
      ∧ ∀ q, q ≠ p → (s.runCleared.setPeer p e).peer q = s.peer q := by
    refine ⟨Vec.get_set_same _ _ _, fun q different => ?_⟩
    rw [State.peer, State.peer, ← s.runCleared_peers]
    exact Vec.get_set_other _ _ different
  cases entry : s.peer p with
  | none =>
    rw [hear_absent other entry]
    exact ⟨⟨_, (kept _).1, rfl, clock⟩, (kept _).2⟩
  | some e =>
    rw [hear_present other entry]
    split
    · exact ⟨⟨_, (kept _).1, rfl, clock⟩, (kept _).2⟩
    · exact ⟨⟨_, (kept _).1, rfl, clock⟩, (kept _).2⟩

/-- A frame of a station that is not lost changes its entry and the run of receive errors alone. -/
theorem hear_of_notLost {p : Station} {s : State} (h : s.notLost p) : s.sameBut (hear p s) [.link, .peers] := by
  have fresh (e : Option Peer) : s.sameBut (s.runCleared.setPeer p e) [.link, .peers] := by
    intro q outside
    have kept := s.runCleared_sameBut q (by simp_all)
    cases q <;> simp_all [State.sameIn]
  by_cases own : p = s.own
  · rw [own, hear_own]
    exact fun q _ => by cases q <;> rfl
  · cases entry : s.peer p with
    | none =>
      rw [hear_absent own entry]
      exact fresh _
    | some e =>
      rw [State.notLost, State.isLost, entry] at h
      rw [hear_present own entry, if_neg (by simpa using h)]
      exact fresh _

/-! ## What follows -/

/-- With no claim to withdraw and nothing waiting for the end of one, nothing follows (R30, R47, R63). -/
theorem afterClaim_of_settled {s : State} (stands : ∀ c, s.zone.claim = some c → c.orphan = false ∨ c.waitingState = false)
    (deferCurrent : s.motion.deferCurrent = none) (deferHandOver : s.motion.deferHandOver = none) :
    afterClaim s = s := by
  have keeps : dropOrphan s = s := by
    unfold dropOrphan
    split
    · next c claim =>
      refine if_neg ?_
      rcases stands c claim with orphan | waiting <;> simp [*]
    · rfl
  have handOver : followHandOver s = s := if_neg (by simp [deferHandOver, State.windowOver])
  rw [afterClaim, keeps, followClaim, handOver]
  exact if_neg (by simp [deferCurrent, State.windowOver])

theorem retryCheck_of_none {s : State} (noClaim : s.zone.claim = none) : retryCheck s = s := by
  rw [retryCheck, noClaim]

theorem deferralsEnded_of_none {before : CellSet} {s : State} (noClaim : s.zone.claim = none)
    (heldBack : s.zone.heldBack = none) : deferralsEnded before s = s := by
  rw [deferralsEnded, takeUpHeldBack, heldBack]
  dsimp only
  rw [noClaim]

/-! ## A zone conflict (R58, R61, R72) -/

/-- The axes frozen and the segment in flight dropped, as a fault stop leaves them (R11). -/
def State.halted (s : State) : State :=
  if s.flying.isSome then (s.setAxes { s.axes with chan := s.axes.chan.map AxisChan.freeze }).dropCurrent
  else s.setAxes { s.axes with chan := s.axes.chan.map AxisChan.freeze }

theorem halted_leaves (s : State) : s.halted.events = s.events ∧ s.halted.zone = s.zone
    ∧ s.halted.probes = s.probes := by
  unfold State.halted
  split <;> simp

/-- What a fault stop makes of the change in progress, where there is one (R158). -/
def State.changeFaulted (s : State) : State := if s.motion.state = .changing then failChange s.halted else s.halted

theorem faultStop_eq {r : FaultReason} {s : State} (working : s.motion.state ≠ .faulted) :
    faultStop r s = raiseMotionFault r s.faultTag (settleBank (s.changeFaulted.setMotion
      { s.changeFaulted.motion with
        state := .faulted, internal := none, stopPending := false, reference := none })) := if_neg working

theorem changeFaulted_kept (s : State) : (∃ c, s.changeFaulted.events.kept = { s.events.kept with changeFailed := c })
    ∧ (s.zone.heldBack = none → s.changeFaulted.zone.heldBack = none) := by
  obtain ⟨events, zone, -⟩ := halted_leaves s
  unfold State.changeFaulted failChange
  split
  · split
    · exact ⟨⟨_, by rw [events]⟩, by rw [zone]; exact id⟩
    · next ch _ =>
      refine ⟨⟨some (.fault, ch.target), ?_⟩, fun _ => rfl⟩
      rw [← events]
      rfl
  · exact ⟨⟨_, by rw [events]⟩, by rw [zone]; exact id⟩

/-- A fault stop keeps the data of every event but MOTION FAULT and CHANGE FAILED. -/
theorem faultStop_kept (r : FaultReason) (s : State) : ∃ m c,
    (faultStop r s).events.kept = { s.events.kept with motionFault := m, changeFailed := c } := by
  by_cases faulted : s.motion.state = .faulted
  · rw [faultStop_of_faulted faulted]
    exact ⟨_, _, rfl⟩
  · obtain ⟨⟨c, kept⟩, -⟩ := changeFaulted_kept s
    refine ⟨some (r, s.faultTag), c, ?_⟩
    rw [faultStop_eq faulted]
    simp [raiseMotionFault, State.raise, kept]

theorem faultStop_heldBack {r : FaultReason} {s : State} (h : s.zone.heldBack = none) :
    (faultStop r s).zone.heldBack = none := by
  by_cases faulted : s.motion.state = .faulted
  · rwa [faultStop_of_faulted faulted]
  · rw [faultStop_eq faulted]
    simpa [raiseMotionFault, State.raise] using (changeFaulted_kept s).2 h

/-- A zone conflict stops the station and names the other station and the cells; the view and the claim stay. -/
theorem zoneConflict_spec (p : Station) (cs : CellSet) (s : State) :
    (zoneConflict p cs s).motion.state = .faulted ∧ (zoneConflict p cs s).isPending .zoneConflict
      ∧ (zoneConflict p cs s).events.kept.zoneConflict = some (p, cs)
      ∧ (zoneConflict p cs s).events.kept.linkFault = s.events.kept.linkFault
      ∧ (s.motion.state ≠ .faulted →
          ∃ tag, (zoneConflict p cs s).events.kept.motionFault = some (.zoneConflict, tag)) := by
  obtain ⟨m, c, kept⟩ := faultStop_kept .zoneConflict (raiseZoneConflict p cs s)
  refine ⟨?_, (State.isPending_iff _ _).mpr ?_, ?_, ?_, fun working => ?_⟩
  · by_cases faulted : s.motion.state = .faulted
    · rw [zoneConflict, faultStop_of_faulted (by exact faulted)]
      exact faulted
    · exact faultStop_state (by exact faulted)
  · exact faultStop_pends _ _ (raiseZoneConflict_pends _ _ _)
  · rw [zoneConflict, kept]
    rfl
  · rw [zoneConflict, kept]
    rfl
  · exact ⟨_, (faultStop_events (by exact working)).2⟩

end Sys2Proof.Machine
end

section
/-! PROOFS. The zone frames and timers (R57 to R67, R69, R70): a peer's CLAIM judged, WAIT and RELEASE, the end of a
deferral, the limits and the retry, and an OBJECT inside its window and after it. -/

namespace Sys2Proof.Machine

/-! ## A peer's CLAIM (R57, R58) -/

theorem claimCells_cell (p : Station) (n : Byte) (cs : CellSet) (s : State) (c : Cell) :
    (claimCells p n cs s).cell c = if cs.within s.freeSet = true ∧ cs.has c = true
      then { s.cell c with state := .claimed p n } else s.cell c := by
  unfold claimCells
  split
  · next free =>
    rw [State.cell_mapCells]
    simp only [free, true_and]
  · next taken => simp [taken]

theorem claimCells_of_taken {p : Station} {n : Byte} {cs : CellSet} {s : State}
    (taken : CellSet.minus cs s.freeSet ≠ 0#20) : claimCells p n cs s = s
        := if_neg (by simpa [CellSet.within] using taken)

/-- The marks toward a station end where there are any; with no deferral none do (R70). -/
theorem endDeferrals_of_none {p : Station} {cs : CellSet} {s : State} (h : s.deferred = 0#20) :
    endDeferrals p cs s = s := by
  refine State.mapCells_of_fixed fun c => if_neg fun marked => ?_
  have none_marked := s.has_deferred c
  rw [h, CellSet.has_zero] at none_marked
  obtain ⟨-, mark⟩ := marked
  cases deferral : (s.cell c).deferral <;> simp_all

/-- A set of FREE cells holds none of the station's own. -/
theorem ownSet_apart {cs : CellSet} {s : State} (within : cs.within s.freeSet = true) : s.ownSet &&& cs = 0#20 := by
  refine CellSet.ext_has fun c => ?_
  rw [CellSet.has_and, CellSet.has_zero]
  cases named : cs.has c with
  | false => exact Bool.and_false _
  | true =>
    have is_free := (CellSet.within_iff _ _).mp within c named
    rw [State.has_freeSet, beq_iff_eq] at is_free
    rw [State.has_ownSet, CellEntry.claimedBy, is_free]
    rfl

/-- The window of a CLAIM with its cells shown CLAIMED where all are FREE (R57). -/
def claimOpened (p : Station) (n : Byte) (cs : CellSet) (s : State) : State := openWindow p n (claimCells p n cs s)

theorem claimOpened_leaves (p : Station) (n : Byte) (cs : CellSet) (s : State) :
    s.sameBut (claimOpened p n cs s) [.zone]
      ∧ (claimOpened p n cs s).zone.windows = s.zone.windows ++ [{ station := p, number := n, since := s.clock }]
      ∧ (claimOpened p n cs s).zone.claim = s.zone.claim ∧ (claimOpened p n cs s).zone.heldBack = s.zone.heldBack
      ∧ (claimOpened p n cs s).deferred = s.deferred
      ∧ ∀ c, (claimOpened p n cs s).cell c = (claimCells p n cs s).cell c := by
  have zone : (claimCells p n cs s).zone.windows = s.zone.windows ∧ (claimCells p n cs s).zone.claim = s.zone.claim
      ∧ (claimCells p n cs s).zone.heldBack = s.zone.heldBack ∧ (claimCells p n cs s).clock = s.clock := by
    unfold claimCells
    split
    · exact ⟨rfl, rfl, rfl, rfl⟩
    · exact ⟨rfl, rfl, rfl, rfl⟩
  obtain ⟨windows, claim, heldBack, clock⟩ := zone
  refine ⟨fun q outside => ?_, ?_, claim, heldBack, ?_, fun c => rfl⟩
  · unfold claimOpened openWindow claimCells
    split <;> cases q <;> simp [State.sameIn] at outside ⊢
  · rw [← windows, ← clock]
    rfl
  · refine CellSet.ext_has fun c => ?_
    rw [State.has_deferred, State.has_deferred]
    change ((claimCells p n cs s).cell c).deferral.isSome = _
    rw [claimCells_cell]
    split <;> rfl

/-- With nothing deferred and no claim standing a peer's CLAIM is judged by its window and its OBJECT alone. -/
theorem takeClaim_of_peer {p : Station} {n : Byte} {cs : CellSet} {s t : State} (other : p ≠ s.own)
    (frames : s.frames = true)
    (judged : (if (hear p s).ownSet &&& cs = 0#20 then claimOpened p n cs (hear p s)
      else sendObject p n ((hear p s).ownSet &&& cs) (claimOpened p n cs (hear p s))) = t)
    (free : t.deferred = 0#20) (noClaim : t.zone.claim = none) (heldBack : t.zone.heldBack = none)
    (deferCurrent : t.motion.deferCurrent = none) (deferHandOver : t.motion.deferHandOver = none) :
    takeClaim p n cs s = t := by
  have peer : judgePeerClaim p n cs (hear p s) = t := by
    have unfolded : judgePeerClaim p n cs (hear p s)
        = deferralsEnded t.deferred (endDeferrals p cs t) := by rw [← judged]; rfl
    rw [unfolded, endDeferrals_of_none free, deferralsEnded_of_none noClaim heldBack]
  rw [takeClaim, if_pos frames, if_neg other, peer]
  exact afterClaim_of_settled (by simp [noClaim]) deferCurrent deferHandOver

/-- An OBJECT of its own kind alone is placed where the list has room, with the link not DEAF. -/
theorem sendObject_placed {p : Station} {n : Byte} {cs : CellSet} {s : State}
    (linked : s.link.state ≠ .silent ∧ s.link.state ≠ .deaf) (room : s.link.list.length < 8) :
    sendObject p n cs s
      = s.setLink { s.link with list := insertTx (TxFrame.object p n cs).placed s.link.list } := by
  rw [sendObject, if_neg linked.2, offer_eq_placeFrame linked.1 (.inl (by simp [TxFrame.kind])),
    placeFrame_of_room room]

/-- An OBJECT that cannot be placed makes a zone conflict (R58, R75). -/
theorem sendObject_unplaced {p : Station} {n : Byte} {cs : CellSet} {s : State} (linked : s.link.state ≠ .silent)
    (unplaced : s.link.state = .deaf ∨ 8 ≤ s.link.list.length) :
    ∃ u, sendObject p n cs s = zoneConflict p cs u ∧ s.sameBut u [.events]
      ∧ (s.link.state ≠ .deaf → u.events.kept.linkFault = some (.listFull, some .object)) := by
  by_cases deaf : s.link.state = .deaf
  · exact ⟨s, if_pos deaf, fun q _ => by cases q <;> rfl, fun hears => absurd deaf hears⟩
  · have full : ¬ s.link.list.length < 8 := not_lt.mpr (unplaced.resolve_left deaf)
    refine ⟨raiseLinkFault .listFull (some .object) s, ?_, fun q outside => ?_, fun _ => rfl⟩
    · rw [sendObject, if_neg deaf, offer_eq_placeFrame linked (.inl (by simp [TxFrame.kind])),
        placeFrame_of_full full]
      rfl
    · cases q <;> simp [State.sameIn] at outside ⊢

theorem linked_of_frames {s : State} (frames : s.frames = true) : s.link.state ≠ .silent := by
  intro silent
  simp [State.frames, silent] at frames

/-- Settles O33: the cells and the window by `claimOpened_leaves`, the OBJECT placed, or the zone conflict. -/
theorem peerClaimIsJudged : Obligations.PeerClaimIsJudged := by
  intro p n cs s other frames calm free notLost opened
  obtain ⟨noClaim, heldBack, deferCurrent, deferHandOver⟩ := calm
  have heard := hear_of_notLost notLost
  obtain ⟨fresh, others⟩ := hear_peer other
  have zone : (hear p s).zone = s.zone := heard .zone (by simp)
  have own : (hear p s).own = s.own := congrArg StationBlock.number (heard .station (by simp))
  have clock : (hear p s).clock = s.clock := heard .clock (by simp)
  have motion : (hear p s).motion = s.motion := heard .motion (by simp)
  have list : (hear p s).link.list = s.link.list := by simp
  have link_state : (hear p s).link.state = s.link.state := by simp
  have mine : (hear p s).ownSet = s.ownSet := State.ownSet_congr (by rw [zone]) own
  have freeSet : (hear p s).freeSet = s.freeSet := State.freeSet_congr (by rw [zone])
  have cell (c : Cell) : (hear p s).cell c = s.cell c := State.cell_congr (by rw [zone]) c
  obtain ⟨same, windows, claim, held, deferred, cells⟩ := claimOpened_leaves p n cs (hear p s)
  have run (t : State) (taken : takeClaim p n cs s = t) : exec (.claimAccepted p n cs) s = .next t :=
    congrArg Host.Outcome.next taken
  rw [zone, clock] at windows
  rw [zone, noClaim] at claim
  rw [zone, heldBack] at held
  rw [State.deferred_congr (s := s) (t := hear p s) (by rw [zone]), free] at deferred
  have opens (t : State) (t_windows : t.zone.windows = (claimOpened p n cs (hear p s)).zone.windows)
      (t_claim : t.zone.claim = (claimOpened p n cs (hear p s)).zone.claim) (t_peers : t.peers = (hear p s).peers) :
      opened t := by
    refine ⟨t_windows.trans windows, t_claim.trans claim, ?_, fun q different => ?_⟩
    · simpa only [State.peer, t_peers] using fresh
    · simpa only [State.peer, t_peers] using others q different
  have peers : (claimOpened p n cs (hear p s)).peers = (hear p s).peers := same .peers (by simp)
  have opened_motion : (claimOpened p n cs (hear p s)).motion = s.motion := (same .motion (by simp)).trans motion
  have opened_link : (claimOpened p n cs (hear p s)).link = (hear p s).link := same .link (by simp)
  have parts : s.sameBut (claimOpened p n cs (hear p s)) [.zone, .link, .peers] :=
    State.sameBut_mono (State.sameBut_trans heard same) (by simp)
  have judged (t : State) (object : (if s.ownSet &&& cs = 0#20 then claimOpened p n cs (hear p s)
        else sendObject p n (s.ownSet &&& cs) (claimOpened p n cs (hear p s))) = t)
      (t_cells : t.zone.cells = (claimOpened p n cs (hear p s)).zone.cells)
      (t_claim : t.zone.claim = (claimOpened p n cs (hear p s)).zone.claim)
      (t_held : t.zone.heldBack = none)
      (t_defer : t.motion.deferCurrent = s.motion.deferCurrent ∧ t.motion.deferHandOver = s.motion.deferHandOver) :
      exec (.claimAccepted p n cs) s = .next t :=
    congrArg Host.Outcome.next (takeClaim_of_peer other frames (by rw [mine]; exact object)
      ((State.deferred_congr t_cells).trans deferred) (t_claim.trans claim) t_held (t_defer.1.trans deferCurrent)
      (t_defer.2.trans deferHandOver))
  refine ⟨fun all_free => ?_, fun taken apart => ?_, fun overlap hears room => ?_, fun overlap speechless => ?_⟩
  · have within : cs.within (hear p s).freeSet = true := by rw [freeSet]; exact beq_iff_eq.mpr all_free
    have apart := ownSet_apart (s := s) (by rwa [freeSet] at within)
    refine ⟨_, judged _ (if_pos apart) rfl rfl held (by rw [opened_motion]; exact ⟨rfl, rfl⟩), parts,
      opens _ rfl rfl peers, by rw [opened_link, list], fun c => ?_⟩
    rw [cells, claimCells_cell, within, cell]
    simp only [true_and]
  · have kept : claimCells p n cs (hear p s) = hear p s := claimCells_of_taken (by rw [freeSet]; exact taken)
    refine ⟨_, judged _ (if_pos apart) rfl rfl held (by rw [opened_motion]; exact ⟨rfl, rfl⟩), parts,
      opens _ rfl rfl peers, by rw [opened_link, list], ?_⟩
    rw [claimOpened, kept, ← zone]
    rfl
  · have kept : claimCells p n cs (hear p s) = hear p s :=
      claimCells_of_taken fun free => overlap (ownSet_apart (by rw [← freeSet]; exact beq_iff_eq.mpr free))
    have placed := sendObject_placed (p := p) (n := n) (cs := s.ownSet &&& cs) (s := claimOpened p n cs (hear p s))
      (by rw [opened_link, link_state]; exact ⟨linked_of_frames frames, hears⟩) (by rw [opened_link, list]; exact room)
    refine ⟨_, judged _ ((if_neg overlap).trans placed) rfl rfl held (by rw [← opened_motion]; exact ⟨rfl, rfl⟩),
      fun q outside => ?_, opens _ rfl rfl peers, ?_, mem_insertTx.mpr (.inl rfl), ?_⟩
    · have part := parts q outside
      cases q <;> simp [State.sameIn] at part outside ⊢ <;> assumption
    · rw [claimOpened, kept, ← zone]
      rfl
    · rw [← list, ← opened_link]
      exact length_insertTx _ _
  · have kept : claimCells p n cs (hear p s) = hear p s :=
      claimCells_of_taken fun free => overlap (ownSet_apart (by rw [← freeSet]; exact beq_iff_eq.mpr free))
    obtain ⟨u, conflict, but_events, full⟩ := sendObject_unplaced (p := p) (n := n) (cs := s.ownSet &&& cs)
      (s := claimOpened p n cs (hear p s)) (by rw [opened_link, link_state]; exact linked_of_frames frames)
      (by rw [opened_link, link_state, list]; exact speechless)
    obtain ⟨faulted, pends, named, linkFault, reason⟩ := zoneConflict_spec p (s.ownSet &&& cs) u
    have u_zone : u.zone = (claimOpened p n cs (hear p s)).zone := but_events .zone (by simp)
    have u_motion : u.motion = s.motion := (but_events .motion (by simp)).trans opened_motion
    have u_peers : u.peers = (hear p s).peers := (but_events .peers (by simp)).trans peers
    have u_link : u.link = (hear p s).link := (but_events .link (by simp)).trans opened_link
    have stays : (zoneConflict p (s.ownSet &&& cs) u).zone.cells = u.zone.cells
        ∧ (zoneConflict p (s.ownSet &&& cs) u).zone.claim = u.zone.claim
        ∧ (zoneConflict p (s.ownSet &&& cs) u).zone.windows = u.zone.windows
        ∧ (zoneConflict p (s.ownSet &&& cs) u).peers = u.peers
        ∧ (zoneConflict p (s.ownSet &&& cs) u).link = u.link
        ∧ (zoneConflict p (s.ownSet &&& cs) u).motion.deferCurrent = u.motion.deferCurrent
        ∧ (zoneConflict p (s.ownSet &&& cs) u).motion.deferHandOver = u.motion.deferHandOver := by
      simp [zoneConflict]
    obtain ⟨t_cells, t_claim, t_windows, t_peers, t_link, t_current, t_handOver⟩ := stays
    refine ⟨_, judged _ ((if_neg overlap).trans conflict) (by rw [t_cells, u_zone]) (by rw [t_claim, u_zone])
      (faultStop_heldBack (by rw [← held, ← u_zone]; rfl)) (by rw [t_current, t_handOver, u_motion]; exact ⟨rfl, rfl⟩),
      opens _ (by rw [t_windows, u_zone]) (by rw [t_claim, u_zone]) (t_peers.trans u_peers), ?_, ?_, faulted, pends,
      named, fun working => reason (by rwa [u_motion]), fun hears => ?_⟩
    · rw [t_cells, u_zone, claimOpened, kept, ← zone]
      rfl
    · rw [t_link, u_link, list]
    · rw [linkFault]
      exact full (by rwa [opened_link, link_state])

/-! ## WAIT, RELEASE and the end of a deferral (R64, R69, R70) -/

/-- With no claim standing a RELEASE frees what it names and nothing follows. -/
theorem takeRelease_of_calm {p : Station} {cs : CellSet} {s : State} (frames : s.frames = true) (notLost : s.notLost p)
    (calm : s.calm) : takeRelease p cs s = if p = s.own then s else freeReleased p cs (hear p s) := by
  obtain ⟨noClaim, heldBack, deferCurrent, deferHandOver⟩ := calm
  have heard := hear_of_notLost notLost
  have follows (t : State) (claim : t.zone.claim = none) (same : t.motion = s.motion) :
      afterClaim (retryCheck t) = t := by
    rw [retryCheck_of_none claim]
    exact afterClaim_of_settled (by simp [claim]) (by rw [same, deferCurrent]) (by rw [same, deferHandOver])
  rw [takeRelease, if_pos frames]
  by_cases own : p = s.own
  · rw [if_pos own, own, hear_own]
    dsimp only
    rw [if_pos rfl]
    exact follows s noClaim rfl
  · have number : (hear p s).own = s.own := congrArg StationBlock.number (heard .station (by simp))
    dsimp only
    rw [if_neg own, if_neg own]
    exact follows _ (by simp [freeReleased, noClaim]) (by simp [freeReleased])

/-- Settles O36: the marks of a WAIT, the cells of a RELEASE, and the one mark whose 10 ms have passed. -/
theorem waitReleaseAndDeferral : Obligations.WaitReleaseAndDeferral := by
  intro p cs s frames notLost calm
  have heard := hear_of_notLost notLost
  have zone : (hear p s).zone = s.zone := heard .zone (by simp)
  have own : (hear p s).own = s.own := congrArg StationBlock.number (heard .station (by simp))
  have clock : (hear p s).clock = s.clock := heard .clock (by simp)
  have cell (c : Cell) : (hear p s).cell c = s.cell c := State.cell_congr (by rw [zone]) c
  have mapped (f : Cell → CellEntry → CellEntry) : s.sameBut ((hear p s).mapCells f) [.zone, .link, .peers] := by
    intro q outside
    have kept := heard q (by simp_all)
    cases q <;> simp_all [State.sameIn]
  refine ⟨fun other => ?_, fun mine => ?_, fun other => ?_, fun mine => ?_, fun k d marked => ?_⟩
  · refine ⟨_, congrArg Host.Outcome.next ((if_pos frames).trans (if_neg other)), mapped _, fun c => ?_⟩
    rw [State.cell_mapCells, cell, State.ownSet_congr (s := s) (by rw [zone]) own, clock]
    simp only [Bool.and_eq_true, Option.isNone_iff_eq_none, and_assoc]
  · refine congrArg Host.Outcome.next ((if_pos frames).trans ((if_pos mine).trans ?_))
    rw [mine, hear_own]
  · refine ⟨_, congrArg Host.Outcome.next (takeRelease_of_calm frames notLost calm), ?_, fun c => ?_⟩
    · rw [if_neg other]
      exact mapped _
    · rw [if_neg other, freeReleased, State.cell_mapCells, cell]
  · refine ⟨_, congrArg Host.Outcome.next (takeRelease_of_calm frames notLost calm), ?_⟩
    rw [if_pos mine]
  · obtain ⟨noClaim, heldBack, deferCurrent, deferHandOver⟩ := calm
    have expires : deferralExpiry k s = (s.reach (d.since + 10)).mapCells fun j e =>
        if j = k then { e with deferral := none } else e := by
      rw [deferralExpiry, marked]
      dsimp only
      rw [deferralsEnded_of_none (by exact noClaim) (by exact heldBack)]
      exact afterClaim_of_settled (by simp [State.reach, noClaim]) deferCurrent deferHandOver
    refine ⟨_, congrArg Host.Outcome.next expires, fun q outside => ?_, rfl, fun j => State.cell_mapCells _ _ j⟩
    cases q <;> simp [State.sameIn, State.reach] at outside ⊢

/-! ## The limits and the retry (R66, R67) -/

/-- A retry with room in the list claims the cells again under the next number (R66). -/
theorem retryCheck_sends {s : State} {c : Claim} (claim : s.zone.claim = some c)
    (waits : c.waitingState = true ∧ c.orphan = false) (on : s.link.state = .on)
    (free : CellSet.minus c.cells s.freeSet = 0#20) (deferred : s.deferred &&& c.cells = 0#20) :
    retryCheck s = sendClaim c s := by
  rw [retryCheck, claim]
  refine if_pos ?_
  simp [waits, on, CellSet.within, free, deferred]

/-- Settles O37: each event by its mark, and the retry by `retryCheck_sends`. -/
theorem waitLimitsAndRetry : Obligations.WaitLimitsAndRetry := by
  intro s
  refine ⟨fun c claim waits => ⟨fun first => ?_, fun again => ?_,
    fun kept awaited on room free deferred deferCurrent deferHandOver => ?_⟩, fun k o owed => ⟨fun first => ?_,
    fun again => ?_⟩⟩
  · refine congrArg Host.Outcome.next ?_
    rw [waitTimeout, claim]
    exact if_pos (by simp [waits, first])
  · refine congrArg Host.Outcome.next ?_
    rw [waitTimeout, claim]
    exact if_neg (by simp [again])
  · have nothing : s.deferred &&& c.cells = 0#20 := by
      rw [deferred]
      exact BitVec.zero_and
    have placed := sendClaim_placed (c := c) (s := s.setZone { s.zone with retryAwaited := false })
      (by simp [on]) room
    have sends := (retryCheck_sends (s := s.setZone { s.zone with retryAwaited := false }) claim ⟨waits, kept⟩ on free
      nothing).trans placed
    have retries := (if_pos (by simp [awaited, room]) : retryRoom s = afterClaim (retryCheck _)).trans
      ((congrArg afterClaim sends).trans (afterClaim_of_settled (fun w standing => ?_) deferCurrent deferHandOver))
    refine ⟨_, congrArg Host.Outcome.next retries, fun q outside => ?_, rfl, mem_insertTx.mpr (.inl rfl)⟩
    · cases q <;> simp [State.sameIn] at outside ⊢
    · rw [← Option.some.inj standing]
      exact .inr rfl
  · have marks : overstay k s = raiseZoneOverstay k o.waiter
        ((s.reach (o.since + s.cfg.yieldLimit * 1000 + 1)).mapCells fun d e =>
          if d = k then { e with owed := some { o with overstayed := true } } else e) := by
      rw [overstay, owed]
      exact if_neg (by simp [first])
    refine ⟨_, congrArg Host.Outcome.next marks, fun q outside => ?_, rfl, fun j => State.cell_mapCells _ _ j,
      (State.isPending_iff _ _).mpr (raiseZoneOverstay_pends _ _ _), rfl⟩
    cases q <;> simp [State.sameIn, State.reach] at outside ⊢
  · refine congrArg Host.Outcome.next ?_
    rw [overstay, owed]
    exact if_pos again

end Sys2Proof.Machine
end

section
/-! PROOFS. A claim that is objected to (R60 to R63, R66): a claim that goes to WAITING, the retry behind it, an abandoned
claim withdrawn, and an OBJECT that comes too late. -/

namespace Sys2Proof.Machine

/-! ## A claim goes to WAITING (R62) -/

/-- An offer keeps the data of every event but LINK FAULT. -/
theorem offer_kept (f : TxFrame) (s : State) : ∃ x, (offer f s).2.events.kept = { s.events.kept with linkFault
    := x } := by
  unfold offer placeFrame
  dsimp only
  repeat' split
  all_goals exact ⟨_, rfl⟩

/-- What an offer makes of the list is read off the link. -/
theorem offer_link_congr {f : TxFrame} {s t : State} (link : t.link = s.link) :
    (offer f t).2.link = (offer f s).2.link := by
  unfold offer placeFrame
  rw [link]
  dsimp only
  repeat' split
  all_goals first | exact link | rfl

theorem offerWait_link_congr {cs : CellSet} {s t : State} (link : t.link = s.link) :
    (offerWait cs t).link = (offerWait cs s).link := by
  unfold offerWait
  rw [link]
  split
  · exact offer_link_congr link
  · exact link

theorem offerWait_placed {cs : CellSet} {s : State} (some_cells : cs ≠ 0#20) (on : s.link.state = .on)
    (room : s.link.list.length < 8) (none_waits : ∀ e ∈ s.link.list, e.frame.kind ≠ .wait) :
    (offerWait cs s).link = { s.link with list := insertTx (TxFrame.wait cs).placed s.link.list } := by
  rw [offerWait, if_pos ⟨on, some_cells⟩, offer_eq_placeFrame (by simp [on]) (.inr none_waits),
    placeFrame_of_room room]
  rfl

/-- The claim WAITING for its blocking cells, with ZONE WAIT and the WAIT offered (R62). -/
theorem claimToWaiting_spec {s : State} {c : Claim} {cs : CellSet} (claim : s.zone.claim = some c) :
    (∃ b, (claimToWaiting cs s).zone.claim
        = some { c with waitingState := true, waiting := cs, timeout := b })
      ∧ (claimToWaiting cs s).zone.cells = (takeBackClaim c s).zone.cells
      ∧ (claimToWaiting cs s).link = (offerWait cs s).link
      ∧ (claimToWaiting cs s).isPending .zoneWait ∧ (claimToWaiting cs s).events.kept.zoneWait = some cs := by
  generalize offered : offerWait cs (raiseZoneWait cs ((takeBackClaim c s).setClaim
    (some { c with waitingState := true, waiting := cs }))) = t
  have waits : claimToWaiting cs s = if (!c.timeout && c.overdue t) = true
      then markTimeout { c with waitingState := true, waiting := cs } t else t := by
    rw [claimToWaiting, claim]
    dsimp only
    rw [offered]
  have zone : t.zone.claim = some { c with waitingState := true, waiting := cs }
      ∧ t.zone.cells = (takeBackClaim c s).zone.cells := by
    have kept (u : State) : (offerWait cs u).zone = u.zone := by simp
    rw [← offered, kept]
    exact ⟨rfl, rfl⟩
  have link : t.link = (offerWait cs s).link := by
    rw [← offered]
    exact offerWait_link_congr (by simp)
  have events : t.events.pends .zoneWait = true ∧ t.events.kept.zoneWait = some cs := by
    rw [← offered, offerWait]
    split
    · obtain ⟨x, kept⟩ := offer_kept (.wait cs) (raiseZoneWait cs ((takeBackClaim c s).setClaim
        (some { c with waitingState := true, waiting := cs })))
      refine ⟨by simp, ?_⟩
      rw [kept]
      rfl
    · exact ⟨by simp, rfl⟩
  rw [waits]
  split
  · exact ⟨⟨true, rfl⟩, zone.2, link, (State.isPending_iff _ _).mpr (by simp [markTimeout, events.1]), events.2⟩
  · exact ⟨⟨c.timeout, zone.1⟩, zone.2, link, (State.isPending_iff _ _).mpr events.1, events.2⟩

theorem claimToWaiting_sameBut (cs : CellSet) (s : State) : s.sameBut (claimToWaiting cs s) [.zone, .link, .events]
    := by
  intro q outside
  cases q <;> simp [State.sameIn] at outside ⊢

/-! ## An OBJECT inside the window (R60, R63, R66) -/

theorem takeBackClaim_of_number {c : Claim} {n : Byte} (number : c.number = some n) (s : State) :
    takeBackClaim c s = takeBack s.own n s := by rw [takeBackClaim, number]

/-- Cells once taken back are not taken back again. -/
theorem takeBack_cell_again {p : Station} {n : Byte} {s t : State} (cells : t.zone.cells = (takeBack p n s).zone.cells)
    (k : Cell) : (takeBack p n t).cell k = (takeBack p n s).cell k := by
  rw [takeBack_cell, State.cell_congr cells, if_neg]
  rw [takeBack_cell]
  split
  · simp
  · assumption

theorem retryCheck_of_orphan {s : State} {c : Claim} (claim : s.zone.claim = some c) (orphan : c.orphan = true) :
    retryCheck s = s := by
  rw [retryCheck, claim]
  exact if_neg (by simp [orphan])

theorem retryCheck_of_taken {s : State} {c : Claim} (claim : s.zone.claim = some c)
    (taken : ∃ k, c.cells.has k = true ∧ (s.cell k).state ≠ .free) : retryCheck s = s := by
  obtain ⟨k, named, notFree⟩ := taken
  have outside : c.cells.within s.freeSet = false := by
    rw [← Bool.not_eq_true, CellSet.within_iff]
    intro all_free
    have free := all_free k named
    rw [State.has_freeSet, beq_iff_eq] at free
    exact notFree free
  rw [retryCheck, claim]
  exact if_neg (by simp [outside])

/-- An abandoned claim that waits is withdrawn, and with nothing else to follow the report is offered (R63). -/
theorem afterClaim_of_orphan {s : State} {c : Claim} (claim : s.zone.claim = some c)
    (waits : c.orphan = true ∧ c.waitingState = true) (deferCurrent : s.motion.deferCurrent = none)
    (deferHandOver : s.motion.deferHandOver = none) : afterClaim s = withdrawClaim s := by
  have drops : dropOrphan s = withdrawClaim s := by
    rw [dropOrphan, claim]
    exact if_pos (by simp [waits])
  have motion : (withdrawClaim s).motion = s.motion := by simp [withdrawClaim]
  have settled := afterClaim_of_settled (s := withdrawClaim s) (by simp [withdrawClaim])
    (by rw [motion, deferCurrent]) (by rw [motion, deferHandOver])
  have gone : dropOrphan (withdrawClaim s) = withdrawClaim s := by
    have none_stands : (withdrawClaim s).zone.claim = none := by simp [withdrawClaim]
    rw [dropOrphan, none_stands]
  rw [afterClaim, gone] at settled
  rw [afterClaim, drops, settled]

theorem withdrawClaim_spec (s : State) : s.sameBut (withdrawClaim s) [.zone, .link, .peers, .events]
    ∧ (withdrawClaim s).zone = { s.zone with claim := none, kept := none }
    ∧ (s.holdsReports = true → (withdrawClaim s).peers.heldBack = true) := by
  refine ⟨fun q outside => ?_, ?_, fun holds => ?_⟩
  · cases q <;> simp [State.sameIn, withdrawClaim] at outside ⊢
  · simp [withdrawClaim]
  · have still : (s.setZone { s.zone with claim := none, kept := none }).holdsReports = true := holds
    rw [withdrawClaim, offerPresence, if_pos still]
    rfl

theorem hear_window (q p : Station) (n : Byte) (s : State) : (hear q s).window p n = s.window p n := by
  simp [State.window]

theorem takeObject_inTime {sender target : Station} {n : Byte} {cs : CellSet} {s : State} (frames : s.frames = true)
    (runs : (s.window target n).isSome) :
    takeObject sender target n cs s = afterClaim (retryCheck (takeBack target n
      (if target = (hear sender s).own then objectClaim n cs (hear sender s) else hear sender s))) := by
  rw [takeObject, if_pos frames]
  dsimp only
  rw [hear_window, if_pos runs]
  rfl

theorem takeObject_late {sender target : Station} {n : Byte} {cs : CellSet} {s : State} (frames : s.frames = true)
    (closed : s.window target n = none) :
    takeObject sender target n cs s = afterClaim (retryCheck (objectLate sender target cs (hear sender s))) := by
  rw [takeObject, if_pos frames]
  dsimp only
  rw [hear_window, closed, if_neg (by simp)]

/-- With no claim to follow an OBJECT's effect stands as it is. -/
theorem settled_of_none {s t : State} (noClaim : t.zone.claim = none) (deferCurrent : s.motion.deferCurrent = none)
    (deferHandOver : s.motion.deferHandOver = none)
    (motion : t.motion.deferCurrent = s.motion.deferCurrent ∧ t.motion.deferHandOver = s.motion.deferHandOver) :
    afterClaim (retryCheck t) = t := by
  rw [retryCheck_of_none noClaim]
  exact afterClaim_of_settled (by simp [noClaim]) (motion.1.trans deferCurrent) (motion.2.trans deferHandOver)

/-- The claim told of an objection stands WAITING, and its CLAIMED cells are taken back (R60). -/
theorem objected_spec {c : Claim} {n : Byte} {cs : CellSet} {s : State} (claim : s.zone.claim = some c)
    (number : c.number = some n) :
    (∃ w, (takeBack s.own n (objectClaim n cs s)).zone.claim = some w
        ∧ w = { c with waitingState := true, waiting := w.waiting, timeout := w.timeout })
      ∧ (∀ k, (takeBack s.own n (objectClaim n cs s)).cell k = (takeBack s.own n s).cell k)
      ∧ s.sameBut (takeBack s.own n (objectClaim n cs s)) [.zone, .link, .events]
      ∧ (takeBack s.own n (objectClaim n cs s)).zone.kept = s.zone.kept
      ∧ (takeBack s.own n (objectClaim n cs s)).zone.windows = s.zone.windows
      ∧ (takeBack s.own n (objectClaim n cs s)).link.state = s.link.state := by
  have kept (t : State) : (takeBack s.own n t).zone.claim = t.zone.claim ∧ (takeBack s.own n t).zone.kept = t.zone.kept
      ∧ (takeBack s.own n t).zone.windows = t.zone.windows := ⟨rfl, rfl, rfl⟩
  by_cases waits : c.waitingState = true
  · have told : objectClaim n cs s = s.setClaim (some { c with waiting := c.waiting ||| (cs &&& c.cells) }) := by
      rw [objectClaim, claim]
      dsimp only
      rw [if_pos number, if_pos waits]
    rw [told]
    refine ⟨⟨_, rfl, by rw [waits]⟩, fun k => ?_, fun q outside => ?_, rfl, rfl, rfl⟩
    · rw [takeBack_cell, takeBack_cell]
      rfl
    · cases q <;> simp [State.sameIn] at outside ⊢
  · have told : objectClaim n cs s = claimToWaiting (cs &&& c.cells) s := by
      rw [objectClaim, claim]
      dsimp only
      rw [if_pos number, if_neg waits]
    obtain ⟨⟨b, waiting⟩, cells, -⟩ := claimToWaiting_spec (cs := cs &&& c.cells) claim
    rw [takeBackClaim_of_number number] at cells
    rw [told]
    refine ⟨⟨_, waiting, rfl⟩, takeBack_cell_again cells, fun q outside => ?_,
      (kept _).2.1.trans (by simp), (kept _).2.2.trans (by simp), by simp⟩
    cases q <;> simp [State.sameIn] at outside ⊢

/-- The claim that an OBJECT takes back inside its window is claimed again under the next number, behind ZONE WAIT and
the WAIT that names the cells objected to (R60, R62, R66). -/
theorem objected_retries {c : Claim} {n : Byte} {cs : CellSet} {s : State} (claim : s.zone.claim = some c)
    (number : c.number = some n) (kept : c.orphan = false) (claiming : c.waitingState = false)
    (claimed : ∀ k, c.cells.has k = true → (s.cell k).state = .claimed s.own n) (on : s.link.state = .on)
    (room : s.link.list.length < 7) (deferred : s.deferred = 0#20) (named : cs &&& c.cells ≠ 0#20)
    (none_waits : ∀ e ∈ s.link.list, e.frame.kind ≠ .wait) :
    ∃ t, retryCheck (takeBack s.own n (objectClaim n cs s)) = t ∧ s.sameBut t [.zone, .link, .events]
      ∧ (∀ k, t.cell k = (takeBack s.own n s).cell k)
      ∧ (∃ b, t.zone.claim = some { c with
          number := some s.zone.nextNumber, waitingState := false, waiting := 0#20, timeout := b })
      ∧ t.zone.nextNumber = s.zone.nextNumber + 1
      ∧ t.isPending .zoneWait ∧ t.events.kept.zoneWait = some (cs &&& c.cells)
      ∧ t.listed (.wait (cs &&& c.cells)) ∧ t.listed (.claim s.zone.nextNumber c.cells) := by
  have told : objectClaim n cs s = claimToWaiting (cs &&& c.cells) s := by
    rw [objectClaim, claim]
    dsimp only
    rw [if_pos number, if_neg (by simp [claiming])]
  obtain ⟨⟨b, waiting⟩, cells, link, pends, data⟩ := claimToWaiting_spec (cs := cs &&& c.cells) claim
  rw [takeBackClaim_of_number number] at cells
  rw [offerWait_placed named on (by omega) none_waits] at link
  have nextNumber : (claimToWaiting (cs &&& c.cells) s).zone.nextNumber = s.zone.nextNumber := by simp
  have parts := claimToWaiting_sameBut (cs &&& c.cells) s
  rw [told]
  generalize claimToWaiting (cs &&& c.cells) s = u at *
  have view := takeBack_cell_again cells
  have free : CellSet.minus c.cells (takeBack s.own n u).freeSet = 0#20 := by
    refine beq_iff_eq.mp ((CellSet.within_iff _ _).mpr fun k member => ?_)
    rw [State.has_freeSet, view, takeBack_cell, if_pos (claimed k member)]
    rfl
  have undeferred : (takeBack s.own n u).deferred &&& c.cells = 0#20 := by
    have none_deferred : (takeBack s.own n u).deferred = s.deferred := by
      refine CellSet.ext_has fun k => ?_
      rw [State.has_deferred, State.has_deferred, view, takeBack_cell]
      split <;> rfl
    rw [none_deferred, deferred]
    exact BitVec.zero_and
  have sends := (retryCheck_sends (s := takeBack s.own n u)
      (c := { c with waitingState := true, waiting := cs &&& c.cells, timeout := b }) waiting ⟨rfl, kept⟩ (by
      change u.link.state = .on
      rw [link, on]) free undeferred).trans (sendClaim_placed (by
      change u.link.state ≠ .silent
      simp [link, on]) (by
      change u.link.list.length < 8
      rw [link, length_insertTx]
      omega))
  refine ⟨_, sends, fun q outside => ?_, view, ⟨b, ?_⟩, congrArg (· + 1) nextNumber, pends, data, ?_, ?_⟩
  · have part := parts q outside
    cases q <;> simp_all [State.sameIn]
  · rw [← nextNumber]
    rfl
  · refine mem_insertTx.mpr (.inr ?_)
    change _ ∈ u.link.list
    rw [link]
    exact mem_insertTx.mpr (.inl rfl)
  · rw [← nextNumber]
    exact mem_insertTx.mpr (.inl rfl)

/-! ## The statement -/

/-- Settles O35: inside the window by `objected_spec` and `objected_retries`, after it by the zone conflict. -/
theorem objectionTakesAClaimBack : Obligations.ObjectionTakesAClaimBack := by
  intro sender target n cs s frames notLost deferCurrent deferHandOver freed
  have heard := hear_of_notLost notLost
  have zone : (hear sender s).zone = s.zone := heard .zone (by simp)
  have own : (hear sender s).own = s.own := congrArg StationBlock.number (heard .station (by simp))
  have motion : (hear sender s).motion = s.motion := heard .motion (by simp)
  have link_state : (hear sender s).link.state = s.link.state := by simp
  have list : (hear sender s).link.list = s.link.list := by simp
  have cell (k : Cell) : (hear sender s).cell k = s.cell k := State.cell_congr (by rw [zone]) k
  have view (p : Station) (k : Cell) : (takeBack p n (hear sender s)).cell k
      = if (s.cell k).state = .claimed p n then { s.cell k with state := .free, owed := none } else s.cell k := by
    rw [takeBack_cell, cell]
  have parts {t : State} {ps : List Part} (after : (hear sender s).sameBut t ps) :
      s.sameBut t ([.link, .peers] ++ ps) := State.sameBut_trans heard after
  have keeps {t : State} (same : t.motion = (hear sender s).motion) :
      t.motion.deferCurrent = s.motion.deferCurrent ∧ t.motion.deferHandOver = s.motion.deferHandOver := by
    rw [same, motion]
    exact ⟨rfl, rfl⟩
  have inside (runs : (s.window s.own n).isSome) : takeObject sender s.own n cs s = afterClaim (retryCheck
      (takeBack (hear sender s).own n (objectClaim n cs (hear sender s)))) := by
    rw [takeObject_inTime frames runs, if_pos own.symm, own]
  have late (p : Station) (named : CellSet) (noClaim : s.zone.claim = none) :
      afterClaim (retryCheck (zoneConflict p named (hear sender s))) = zoneConflict p named (hear sender s)
        ∧ (zoneConflict p named (hear sender s)).zone.cells = s.zone.cells := by
    refine ⟨settled_of_none (by simp [zoneConflict, noClaim]) deferCurrent deferHandOver ?_,
      by simp [zoneConflict, zone]⟩
    simp [zoneConflict]
  refine ⟨fun other noClaim runs => ?_, fun c mine claim number runs kept => ⟨fun claiming claimed on room free named
    none_waits => ?_, fun waits taken => ?_⟩, fun c mine claim number runs orphan => ?_, fun mine noClaim closed named =>
    ?_, fun other noClaim closed => ⟨fun objector => ?_, fun stranger => ?_⟩⟩
  · have takes : takeObject sender target n cs s = takeBack target n (hear sender s) := by
      rw [takeObject_inTime frames runs, if_neg (by rw [own]; exact other)]
      exact settled_of_none (by simp [takeBack, noClaim]) deferCurrent deferHandOver (keeps rfl)
    refine ⟨_, congrArg Host.Outcome.next takes, State.sameBut_mono (parts (ps
        := [.zone]) fun q outside => ?_) (by simp),
      by simp [takeBack], view target⟩
    cases q <;> simp [State.sameIn, takeBack] at outside ⊢
  · subst mine
    obtain ⟨t, retries, same, cells, ⟨b, standing⟩, next, pends, data, wait, again⟩ :=
      objected_retries (s := hear sender s) (c := c) (n := n) (cs := cs) (by rw [zone, claim]) number kept claiming
        (by simpa only [cell, own] using claimed) (by rw [link_state, on]) (by rw [list]; exact room)
        ((State.deferred_congr (by rw [zone])).trans free) named (by rw [list]; exact none_waits)
    have takes : takeObject sender s.own n cs s = t := by
      rw [inside runs, retries]
      refine afterClaim_of_settled (fun w stands => .inr ?_) ?_ ?_
      · rw [standing] at stands
        rw [← Option.some.inj stands]
      · rw [same .motion (by simp), motion, deferCurrent]
      · rw [same .motion (by simp), motion, deferHandOver]
    rw [zone] at standing next again
    refine ⟨t, _, congrArg Host.Outcome.next takes, State.sameBut_mono (parts same) (by simp), fun k => ?_, standing,
      rfl, rfl, rfl, rfl, rfl, rfl, next, pends, data, wait, again⟩
    rw [cells, view, own]
  · subst mine
    obtain ⟨k, member, notFree, notClaimed⟩ := taken
    have told : objectClaim n cs (hear sender s)
        = (hear sender s).setClaim (some { c with waiting := c.waiting ||| (cs &&& c.cells) }) := by
      rw [objectClaim, zone, claim]
      dsimp only
      rw [if_pos number, if_pos waits]
    have stays (k : Cell) : (takeBack s.own n ((hear sender s).setClaim
        (some { c with waiting := c.waiting ||| (cs &&& c.cells) }))).cell k = _ := view s.own k
    have takes : takeObject sender s.own n cs s = takeBack s.own n ((hear sender s).setClaim
        (some { c with waiting := c.waiting ||| (cs &&& c.cells) })) := by
      rw [inside runs, told, own, retryCheck_of_taken
        (c := { c with waiting := c.waiting ||| (cs &&& c.cells) }) rfl
        ⟨k, member, by rwa [stays, if_neg notClaimed]⟩]
      refine afterClaim_of_settled (fun w stands => .inl ?_) ?_ ?_
      · rw [← Option.some.inj stands]
        exact kept
      · exact (congrArg Motion.deferCurrent motion).trans deferCurrent
      · exact (congrArg Motion.deferHandOver motion).trans deferHandOver
    refine ⟨_, congrArg Host.Outcome.next takes, State.sameBut_mono (parts (ps
        := [.zone]) fun q outside => ?_) (by simp),
      stays, list, rfl⟩
    cases q <;> simp [State.sameIn, takeBack] at outside ⊢
  · subst mine
    obtain ⟨⟨w, standing, waiting⟩, cells, same, -, windows, state⟩ := objected_spec (s := hear sender s) (c
        := c) (n := n)
      (cs := cs) (by rw [zone, claim]) number
    have takes := inside runs
    generalize takeBack (hear sender s).own n (objectClaim n cs (hear sender s)) = u at *
    have u_motion : u.motion = s.motion := (same .motion (by simp)).trans motion
    rw [retryCheck_of_orphan standing (by rw [waiting]; exact orphan),
      afterClaim_of_orphan standing (by rw [waiting]; exact ⟨orphan, rfl⟩) (by rw [u_motion, deferCurrent])
        (by rw [u_motion, deferHandOver])] at takes
    obtain ⟨after, withdrawn, holds⟩ := withdrawClaim_spec u
    refine ⟨_, congrArg Host.Outcome.next takes, State.sameBut_mono (parts (State.sameBut_trans same after)) (by simp),
      fun k => ?_, by rw [withdrawn], by rw [withdrawn], fun hears => holds ?_⟩
    · rw [State.cell_congr (s := u) (by rw [withdrawn]), cells, view, own]
    · obtain ⟨open_window, found⟩ := Option.isSome_iff_exists.mp runs
      have mine := List.find?_some found
      have listed := List.mem_of_find?_eq_some found
      simp only [Bool.and_eq_true] at mine
      rw [State.holdsReports, state, link_state, windows, zone, Bool.and_eq_true, List.any_eq_true]
      refine ⟨by simpa using hears, open_window, listed, ?_⟩
      rw [State.own, same .station (by simp), heard .station (by simp)]
      exact mine.1
  · subst mine
    have takes : takeObject sender s.own n cs s = zoneConflict sender (s.heldSet &&& cs) (hear sender s) := by
      have held : (hear sender s).heldAmong cs = s.heldSet &&& cs := by
        rw [State.heldAmong, State.heldSet_congr (by rw [zone]) own]
      rw [takeObject_late frames closed, objectLate, if_pos own.symm, held, if_neg named]
      exact (late _ _ noClaim).1
    obtain ⟨faulted, pends, data, -⟩ := zoneConflict_spec sender (s.heldSet &&& cs) (hear sender s)
    exact ⟨_, congrArg Host.Outcome.next takes, faulted, (late _ _ noClaim).2, pends, data⟩
  · have takes : takeObject sender target n cs s = zoneConflict target cs (hear sender s) := by
      rw [takeObject_late frames closed, objectLate, own, if_neg other, if_pos objector]
      exact (late _ _ noClaim).1
    obtain ⟨faulted, pends, data, -⟩ := zoneConflict_spec target cs (hear sender s)
    exact ⟨_, congrArg Host.Outcome.next takes, faulted, (late _ _ noClaim).2, pends, data⟩
  · have takes : takeObject sender target n cs s = hear sender s := by
      rw [takeObject_late frames closed, objectLate, own, if_neg other, if_neg stranger]
      exact settled_of_none (by rw [zone, noClaim]) deferCurrent deferHandOver (keeps rfl)
    exact ⟨_, congrArg Host.Outcome.next takes, heard⟩

end Sys2Proof.Machine
end

section
/-! PROOFS. Frames are sent, delivered and spoiled (R80, R84, R89, R91, R95, R96): the frame being sent in its place in
the list, delivery, and the attempts counted to the sixteenth with the owner told. -/

namespace Sys2Proof.Machine

/-! ## The frame being sent, in its place -/

/-- The list with one frame being sent: what stands before it and behind it is not. -/
def sendingAt (l pre : List TxEntry) (e : TxEntry) (post : List TxEntry) : Prop :=
  l = pre ++ e :: post ∧ e.sending = true ∧ ∀ x ∈ pre ++ post, x.sending = false

theorem sendingAt.entry {s : State} {pre post : List TxEntry} {e : TxEntry} (h : sendingAt s.link.list pre e post) :
    s.sendingEntry = some e := by
  obtain ⟨list, sending, others⟩ := h
  have before : pre.find? (·.sending) = none :=
    List.find?_eq_none.mpr fun x member => by simp [others x (List.mem_append_left _ member)]
  rw [State.sendingEntry, list, List.find?_append, before, Option.none_or, List.find?_cons, sending]

theorem sendingAt.removed {l pre post : List TxEntry} {e : TxEntry} (h : sendingAt l pre e post) :
    l.filter (fun x => !x.sending) = pre ++ post := by
  obtain ⟨list, sending, others⟩ := h
  have kept : (pre ++ post).filter (fun x => !x.sending) = pre ++ post :=
    List.filter_eq_self.mpr fun x member => by simp [others x member]
  rw [List.filter_append] at kept
  rw [list, List.filter_append, List.filter_cons_of_neg (by simp [sending]), kept]

/-- What maps the frame being sent alone leaves the others in their places. -/
theorem sendingAt.mapped {l pre post : List TxEntry} {e : TxEntry} (h : sendingAt l pre e post)
    {f : TxEntry → TxEntry} (others : ∀ x, x.sending = false → f x = x) : l.map f = pre ++ f e :: post := by
  obtain ⟨list, -, still⟩ := h
  have kept {k : List TxEntry} (within : ∀ x ∈ k, x ∈ pre ++ post) : k.map f = k := by
    rw [List.map_congr_left (g := id) fun x member => others x (still x (within x member)), List.map_id]
  rw [list, List.map_append, List.map_cons, kept fun x member => List.mem_append_left _ member,
    kept fun x member => List.mem_append_right _ member]

theorem removeSending_of_sendingAt {s : State} {pre post : List TxEntry} {e : TxEntry}
    (h : sendingAt s.link.list pre e post) :
    removeSending s = s.setLink { s.link with list := pre ++ post, lineOut := none } := by
  rw [removeSending, h.removed]

/-! ## Sending and delivery (R80, R89, R96, R108) -/

theorem presenceLeft_of_none {s : State} (none_listed : ∀ x ∈ s.link.list, x.frame ≠ .presence)
    (heldBack : s.peers.heldBack = false) :
    presenceLeft s = s.setPeers { s.peers with presenceDue := some (s.clock + 1000) } := by
  have unlisted : s.presenceListed = false := by
    rw [State.presenceListed, List.any_eq_false]
    intro x listed
    have other := none_listed x listed
    cases frame : x.frame <;> simp_all [TxFrame.kind]
  rw [presenceLeft, if_neg (by simp [unlisted, heldBack])]

theorem deliver_of_sendingAt {s : State} {pre post : List TxEntry} {e : TxEntry}
    (h : sendingAt s.link.list pre e post) :
    deliver s = toldDelivered e.frame (s.setLink { s.link with list := pre ++ post, lineOut := none }) := by
  rw [deliver, h.entry]
  dsimp only
  rw [removeSending_of_sendingAt h]

/-- What a delivery tells its owner changes the report period or the slots alone. -/
theorem sameBut_toldDelivered (f : TxFrame) (s : State) : s.sameBut (toldDelivered f s) [.peers, .probes] := by
  intro q outside
  cases q <;> simp [State.sameIn] at outside ⊢

theorem toldDelivered_other {f : TxFrame} (noPresence : f.kind ≠ .presence) (noNote : f.kind ≠ .rackNote) (s : State) :
    toldDelivered f s = s := by
  cases f <;> simp_all [TxFrame.kind, toldDelivered]

/-- Settles O38: the frame that begins, the frame delivered with its owner told, and the idle line. -/
theorem framesAreSentAndDelivered : Obligations.FramesAreSentAndDelivered := by
  intro s
  refine ⟨fun e rest hears idle list => ?_, fun e pre post list sending others => ?_, rfl⟩
  · have sendable_all (f : TxFrame) : sendable s.link.state f = true := by
      rcases hears with listening | on
      · rw [listening]
        rfl
      · rw [on]
        rfl
    have begins : startSending s = (s.setLink { s.link with waitIdle := false }).setLink { s.link with
        waitIdle := false, list := { e with sending := true } :: rest
        lineOut := some (encodeFrame s.own (e.frame.content s)) } := by
      have not_silent : s.link.state ≠ .silent := by rcases hears with h | h <;> simp [h]
      unfold startSending
      rw [if_neg (by simp [not_silent, idle]), list]
      dsimp only
      rw [List.find?_cons, sendable_all]
      dsimp only
      rw [markFirst, if_pos (sendable_all _)]
      rfl
    refine ⟨_, congrArg Host.Outcome.next begins, fun q outside => ?_, rfl⟩
    cases q <;> simp [State.sameIn] at outside ⊢
  · have at_place : sendingAt s.link.list pre e post := ⟨list, sending, others⟩
    have delivers := deliver_of_sendingAt at_place
    refine ⟨_, congrArg Host.Outcome.next delivers, fun q outside => ?_, ?_, fun presence none_left heldBack => ?_,
      fun k c note => ?_, fun noPresence noNote => ?_⟩
    · have told := sameBut_toldDelivered e.frame
        (s.setLink { s.link with list := pre ++ post, lineOut := none }) q (by simp_all)
      cases q <;> simp_all [State.sameIn]
    · exact (sameBut_toldDelivered e.frame _) .link (by simp)
    · rw [presence]
      exact congrArg State.peers (presenceLeft_of_none
        (s := s.setLink { s.link with list := pre ++ post, lineOut := none }) none_left heldBack)
    · rw [note]
      exact ⟨rfl, Vec.get_set_same _ _ _, fun j other => Vec.get_set_other _ _ other⟩
    · rw [toldDelivered_other noPresence noNote]
      intro q outside
      cases q <;> simp [State.sameIn] at outside ⊢

/-! ## Spoiled attempts (R84, R91, R95) -/

/-- The three ways in which an attempt of this station is spoiled. -/
def spoilsAttempt (c : Instr) : Prop :=
  c = .lineDriverFault ∨ (∃ own, c = .earlySpoil own) ∨ ∃ rx byOther, c = .frameSpoiled rx byOther

/-- Each counts the attempt, two of them wait for idle, and what a claim leaves to follow follows. -/
theorem spoiled_runs {c : Instr} {s : State} (spoils : spoilsAttempt c) (sending : s.sendingEntry.isSome) :
    exec c s = .next (afterClaim (attemptSpoiled s)) ∨ exec c s = .next (afterClaim (awaitIdle (attemptSpoiled s)))
        := by
  rcases spoils with rfl | ⟨own, rfl⟩ | ⟨rx, byOther, rfl⟩
  · exact .inr (congrArg Host.Outcome.next (if_pos sending))
  · exact .inr (congrArg Host.Outcome.next (if_pos sending))
  · exact .inl (congrArg Host.Outcome.next (if_pos sending))

/-- The spoiled attempt where no claim is left to follow, but for the wait for idle. -/
theorem spoiled_settles {c : Instr} {s t : State} (spoils : spoilsAttempt c) (sending : s.sendingEntry.isSome)
    (effect : attemptSpoiled s = t)
    (stands : ∀ w, t.zone.claim = some w → w.orphan = false ∨ w.waitingState = false)
    (deferCurrent : t.motion.deferCurrent = none) (deferHandOver : t.motion.deferHandOver = none) :
    ∃ u, exec c s = .next u ∧ t.sameBut u [.link] ∧ u.link.list = t.link.list ∧ u.link.lineOut = t.link.lineOut := by
  have runs := spoiled_runs spoils sending
  rw [effect, afterClaim_of_settled stands deferCurrent deferHandOver,
    afterClaim_of_settled (s := awaitIdle t) stands deferCurrent deferHandOver] at runs
  rcases runs with plain | awaiting
  · exact ⟨_, plain, fun q _ => by cases q <;> rfl, rfl, rfl⟩
  · refine ⟨_, awaiting, fun q outside => ?_, rfl, rfl⟩
    cases q <;> simp [State.sameIn, awaitIdle] at outside ⊢

theorem backToPending_unmerged {s : State} {pre post : List TxEntry} {e : TxEntry} {attempts : Nat}
    (h : sendingAt s.link.list pre e post)
    (unmerged : e.frame.kind ≠ .release ∧ e.frame.kind ≠ .wait ∧ e.frame.kind ≠ .presence) :
    backToPending attempts s = s.setLink { s.link with
      list := pre ++ { e with sending := false, attempts := attempts } :: post, lineOut := none } := by
  have back := h.mapped (f := fun x => if x.sending then { frame := e.frame, attempts := attempts, sending
      := false } else x)
    fun x still => if_neg (by simp [still])
  rw [if_pos h.2.1] at back
  obtain ⟨noRelease, noWait, noPresence⟩ := unmerged
  rw [backToPending, h.entry]
  dsimp only
  split
  · exact absurd ‹_› noRelease
  · exact absurd ‹_› noWait
  · exact absurd ‹_› noPresence
  · rw [back]

theorem attemptSpoiled_early {s : State} {e : TxEntry} (entry : s.sendingEntry = some e) (early : e.attempts < 15) :
    attemptSpoiled s = backToPending (e.attempts + 1) s := by
  rw [attemptSpoiled, entry]
  exact if_neg (by omega)

theorem attemptSpoiled_last {s : State} {e : TxEntry} (entry : s.sendingEntry = some e) (last : 15 ≤ e.attempts) :
    attemptSpoiled s = ownerTold e.frame (raiseLinkFault .spoiled (some e.frame.kind) (removeSending s)) := by
  rw [attemptSpoiled, entry]
  exact if_pos (by omega)

/-- A spoiled RELEASE or WAIT takes the cells of the later one of its kind, which leaves the list (R95). -/
theorem backToPending_merged {s : State} {pre rest : List TxEntry} {e later : TxEntry} {attempts : Nat}
    (h : sendingAt s.link.list pre e (later :: rest)) (merges : e.frame.kind = .release ∨ e.frame.kind = .wait)
    (same : later.frame.kind = e.frame.kind) (alone : ∀ x ∈ pre ++ rest, x.frame.kind ≠ e.frame.kind) :
    backToPending attempts s = s.setLink { s.link with
      list := pre ++ { frame := e.frame.addCells later.frame.cells, sending := false, attempts := attempts } :: rest
      lineOut := none } := by
  obtain ⟨list, sending, others⟩ := h
  have later_pends : later.pendingKind e.frame.kind = true := by
    simp [TxEntry.pendingKind, same, others later (by simp)]
  have e_sends : e.pendingKind e.frame.kind = false := by simp [TxEntry.pendingKind, sending]
  have other_pends : ∀ x ∈ pre ++ rest, x.pendingKind e.frame.kind = false := fun x member => by
    simp [TxEntry.pendingKind, alone x member]
  have none_of {k : List TxEntry} (within : ∀ x ∈ k, x ∈ pre ++ rest) :
      k.filter (·.pendingKind e.frame.kind) = [] ∧ k.filter (fun x => !x.pendingKind e.frame.kind) = k :=
    ⟨List.filter_eq_nil_iff.mpr fun x member => by simp [other_pends x (within x member)],
      List.filter_eq_self.mpr fun x member => by simp [other_pends x (within x member)]⟩
  have before := none_of (k := pre) fun x member => List.mem_append_left _ member
  have behind := none_of (k := rest) fun x member => List.mem_append_right _ member
  have some_pends : s.link.list.any (·.pendingKind e.frame.kind) = true :=
    List.any_eq_true.mpr ⟨later, by simp [list], later_pends⟩
  have cells : pendingCells e.frame.kind s.link.list = later.frame.cells := by
    rw [pendingCells, list, List.filter_append, before.1, List.filter_cons_of_neg (by simp [e_sends]),
      List.filter_cons_of_pos later_pends, behind.1]
    exact BitVec.zero_or
  have left : s.link.list.filter (fun x => !x.pendingKind e.frame.kind) = pre ++ e :: rest := by
    rw [list, List.filter_append, before.2, List.filter_cons_of_pos (by simp [e_sends]),
      List.filter_cons_of_neg (by simp [later_pends]), behind.2]
  have back := (show sendingAt (pre ++ e :: rest) pre e rest from
      ⟨rfl, sending, fun x member => others x (by simp only [List.mem_append, List.mem_cons] at member ⊢; tauto)⟩).mapped
    (f := fun x => if x.sending then
      { frame := e.frame.addCells later.frame.cells, attempts := attempts, sending := false } else x)
    fun x still => if_neg (by simp [still])
  rw [if_pos sending] at back
  rw [backToPending, (show sendingAt s.link.list pre e (later :: rest) from ⟨list, sending, others⟩).entry]
  dsimp only
  rw [some_pends, cells, left, back]
  rcases merges with release | wait
  · rw [release]
  · rw [wait]

/-! ## The sixteenth spoil (R91) -/

/-- The state after a frame is dropped at its sixteenth spoil, before its owner is told. -/
def frameDropped (k : FrameKind) (list : List TxEntry) (s : State) : State :=
  raiseLinkFault .spoiled (some k) (s.setLink { s.link with list := list, lineOut := none })

theorem frameDropped_leaves (k : FrameKind) (list : List TxEntry) (s : State) :
    s.sameBut (frameDropped k list s) [.link, .events] ∧ (frameDropped k list s).link.list = list
      ∧ (frameDropped k list s).link.lineOut = none ∧ (frameDropped k list s).events.pends .linkFault = true
      ∧ (frameDropped k list s).events.kept.linkFault = some (.spoiled, some k)
      ∧ (frameDropped k list s).link.state = s.link.state := by
  refine ⟨fun q outside => ?_, rfl, rfl, raiseLinkFault_pends _ _ _, rfl, rfl⟩
  cases q <;> simp [State.sameIn, frameDropped] at outside ⊢

theorem attemptSpoiled_drops {s : State} {pre post : List TxEntry} {e : TxEntry} (h : sendingAt s.link.list pre e post)
    (last : 15 ≤ e.attempts) :
    attemptSpoiled s = ownerTold e.frame (frameDropped e.frame.kind (pre ++ post) s) := by
  rw [attemptSpoiled_last h.entry last, removeSending_of_sendingAt h]
  rfl

/-- With room in the list an offer raises nothing. -/
theorem offer_events_of_room {f : TxFrame} {s : State} (room : s.link.list.length < 8) :
    (offer f s).2.events = s.events := by
  unfold offer placeFrame
  dsimp only
  repeat' split
  all_goals rfl

theorem claimToWaiting_linkFault {cs : CellSet} {s : State} (room : s.link.list.length < 8) :
    (claimToWaiting cs s).events.kept.linkFault = s.events.kept.linkFault := by
  have offered (u : State) (link : u.link = s.link) (events : u.events.kept.linkFault = s.events.kept.linkFault) :
      (offerWait cs u).events.kept.linkFault = s.events.kept.linkFault := by
    unfold offerWait
    split
    · rwa [offer_events_of_room (by rwa [link])]
    · exact events
  unfold claimToWaiting
  split
  · rfl
  · dsimp only
    split
    · exact offered _ (by simp) (by simp [raiseZoneWait, State.raise, State.setClaim])
    · exact offered _ (by simp) (by simp [raiseZoneWait, State.raise, State.setClaim])

/-- The claim of an undelivered CLAIM waits for its cells that are not FREE, with a WAIT that names them (R62). -/
theorem claimUndelivered_spec {c : Claim} {n : Byte} {s : State} (claim : s.zone.claim = some c)
    (number : c.number = some n) (room : s.link.list.length < 8) :
    (∃ b, (claimUndelivered s).zone.claim
        = some { c with waitingState := true, waiting := CellSet.minus c.cells s.freeSet, timeout := b })
      ∧ (claimUndelivered s).zone.retryAwaited = true ∧ s.sameBut (claimUndelivered s) [.zone, .link, .events]
      ∧ (claimUndelivered s).isPending .zoneWait
      ∧ (claimUndelivered s).events.kept.zoneWait = some (CellSet.minus c.cells s.freeSet)
      ∧ (claimUndelivered s).events.kept.linkFault = s.events.kept.linkFault
      ∧ (∀ k, (claimUndelivered s).cell k = if (s.cell k).state = .claimed s.own n
          then { s.cell k with state := .free, owed := none } else s.cell k)
      ∧ (s.link.state = .on → CellSet.minus c.cells s.freeSet ≠ 0#20 →
          (∀ x ∈ s.link.list, x.frame.kind ≠ .wait) →
          (claimUndelivered s).listed (.wait (CellSet.minus c.cells s.freeSet))) := by
  obtain ⟨standing, cells, link, pends, data⟩ := claimToWaiting_spec (cs := CellSet.minus c.cells s.freeSet) claim
  rw [takeBackClaim_of_number number] at cells
  have linkFault := claimToWaiting_linkFault (cs := CellSet.minus c.cells s.freeSet) room
  have parts := claimToWaiting_sameBut (CellSet.minus c.cells s.freeSet) s
  have undelivered : claimUndelivered s = (claimToWaiting (CellSet.minus c.cells s.freeSet) s).setZone
      { (claimToWaiting (CellSet.minus c.cells s.freeSet) s).zone with retryAwaited := true } := by
    rw [claimUndelivered, claim]
  rw [undelivered]
  refine ⟨standing, rfl, fun q outside => ?_, pends, data, linkFault, fun k => ?_, fun on some_cells none_waits => ?_⟩
  · have part := parts q outside
    cases q <;> simp_all [State.sameIn]
  · exact (State.cell_congr (s := takeBack s.own n s) cells k).trans (takeBack_cell _ _ _ _)
  · change _ ∈ (claimToWaiting (CellSet.minus c.cells s.freeSet) s).link.list
    rw [link, offerWait_placed some_cells on room none_waits]
    exact mem_insertTx.mpr (.inl rfl)

/-- Settles O39: the early spoils by `backToPending`, the sixteenth by what its owner is told, for each of the three
ways in which an attempt is spoiled. -/
theorem attemptsAreCountedToSixteen : Obligations.AttemptsAreCountedToSixteen := by
  intro e pre post s list sending others
  have at_place : sendingAt s.link.list pre e post := ⟨list, sending, others⟩
  have entry := at_place.entry
  have sends : s.sendingEntry.isSome = true := by rw [entry]; rfl
  refine ⟨?_, fun c spoils calm => ⟨fun early kinds => ?_, fun cs ds later early behind merges alone => ?_,
    fun last => ?_⟩, fun c n cs claim spoils last sent standing number claiming kept deferCurrent deferHandOver
    short => ?_⟩
  · have loses : loseArbitration s = s.setLink { s.link with
        list := pre ++ { e with sending := false } :: post, lineOut := none } := by
      rw [loseArbitration, if_pos sends, at_place.mapped (f := fun x => { x with sending := false })
        fun x still => by rw [← still]]
    refine ⟨_, congrArg Host.Outcome.next loses, fun q outside => ?_, rfl⟩
    cases q <;> simp [State.sameIn] at outside ⊢
  · have effect := (attemptSpoiled_early entry early).trans (backToPending_unmerged (attempts
      := e.attempts + 1) at_place
      (by rcases kinds with kind | kind | kind | kind <;> simp [kind]))
    obtain ⟨t, run, same, kept, lineOut⟩ := spoiled_settles spoils sends effect (by simp [calm.1]) calm.2.2.1 calm.2.2.2
    refine ⟨t, run, fun q outside => ?_, kept, lineOut⟩
    have part := same q outside
    cases q <;> simp_all [State.sameIn]
  · rw [behind] at at_place
    have kinds : (e.frame.kind = .release ∨ e.frame.kind = .wait) ∧ later.frame.kind = e.frame.kind
        ∧ later.frame.cells = ds := by
      rcases merges with ⟨release, again⟩ | ⟨wait, again⟩
      · rw [release, again]
        exact ⟨.inl rfl, rfl, rfl⟩
      · rw [wait, again]
        exact ⟨.inr rfl, rfl, rfl⟩
    obtain ⟨merging, same_kind, cells⟩ := kinds
    have effect := (attemptSpoiled_early entry early).trans
      (backToPending_merged (attempts := e.attempts + 1) at_place merging same_kind alone)
    obtain ⟨t, run, same, kept, -⟩ := spoiled_settles spoils sends effect (by simp [calm.1]) calm.2.2.1 calm.2.2.2
    refine ⟨t, run, fun q outside => ?_, ?_⟩
    · have part := same q outside
      clear behind
      cases q <;> simp_all [State.sameIn]
    · rw [kept, ← cells]
      rfl
  · have drops := attemptSpoiled_drops at_place last
    obtain ⟨base, base_list, base_out, base_pends, base_fault, -⟩ := frameDropped_leaves e.frame.kind (pre ++ post) s
    have settles {u : State} (told : ownerTold e.frame (frameDropped e.frame.kind (pre ++ post) s) = u)
        (claim : u.zone.claim = none) (motion : u.motion.deferCurrent = none ∧ u.motion.deferHandOver = none) :=
      spoiled_settles spoils sends (drops.trans told) (by simp [claim]) motion.1 motion.2
    intro dropped
    have was_dropped {t u : State} (run : exec c s = .next t) (same : u.sameBut t [.link])
        (link : u.link = (frameDropped e.frame.kind (pre ++ post) s).link) (t_list : t.link.list = u.link.list)
        (t_out : t.link.lineOut = u.link.lineOut) (pends : u.events.pends .linkFault = true)
        (fault : u.events.kept.linkFault = some (.spoiled, some e.frame.kind)) : dropped t := by
      have events : t.events = u.events := same .events (by simp)
      refine ⟨run, ?_, ?_, (State.isPending_iff _ _).mpr (by rw [events, pends]), by rw [events, fault]⟩
      · rw [t_list, link, base_list]
      · rw [t_out, link, base_out]
    refine ⟨fun silent => ?_, fun k content note => ?_, fun presence none_left heldBack => ?_,
      fun p n cs object working => ?_⟩
    · have told : ownerTold e.frame (frameDropped e.frame.kind (pre ++ post) s)
          = frameDropped e.frame.kind (pre ++ post) s := by
        cases frame : e.frame <;> simp_all [TxFrame.kind, ownerTold]
      obtain ⟨t, run, same, t_list, t_out⟩ := settles told calm.1 calm.2.2
      exact ⟨t, was_dropped run same rfl t_list t_out base_pends base_fault,
        State.sameBut_mono (State.sameBut_trans base same) (by simp)⟩
    · obtain ⟨t, run, same, t_list, t_out⟩ := settles (u := markUnsent k true
        (frameDropped e.frame.kind (pre ++ post) s)) (by rw [note]; rfl) calm.1 calm.2.2
      have probes : (frameDropped e.frame.kind (pre ++ post) s).sameBut
          (markUnsent k true (frameDropped e.frame.kind (pre ++ post) s)) [.probes] := by
        intro q outside
        cases q <;> simp [State.sameIn] at outside ⊢
      exact ⟨t, was_dropped run same rfl t_list t_out base_pends base_fault,
        State.sameBut_mono (State.sameBut_trans base (State.sameBut_trans probes same)) (by simp),
        same .probes (by simp)⟩
    · have told : ownerTold e.frame (frameDropped e.frame.kind (pre ++ post) s)
          = (frameDropped e.frame.kind (pre ++ post) s).setPeers
            { s.peers with presenceDue := some (s.clock + 1000) } := by
        rw [presence]
        exact presenceLeft_of_none (s := frameDropped TxFrame.presence.kind (pre ++ post) s) none_left heldBack
      obtain ⟨t, run, same, t_list, t_out⟩ := settles told calm.1 calm.2.2
      have peers : (frameDropped e.frame.kind (pre ++ post) s).sameBut
          ((frameDropped e.frame.kind (pre ++ post) s).setPeers
            { s.peers with presenceDue := some (s.clock + 1000) }) [.peers] := by
        intro q outside
        cases q <;> simp [State.sameIn] at outside ⊢
      exact ⟨t, was_dropped run same rfl t_list t_out base_pends base_fault,
        State.sameBut_mono (State.sameBut_trans base (State.sameBut_trans peers same)) (by simp),
        same .peers (by simp)⟩
    · obtain ⟨faulted, pends, data, fault, reason⟩ :=
        zoneConflict_spec p cs (frameDropped e.frame.kind (pre ++ post) s)
      obtain ⟨t, run, same, t_list, t_out⟩ := settles (u := zoneConflict p cs
        (frameDropped e.frame.kind (pre ++ post) s)) (by rw [object]; rfl)
        (by simpa [zoneConflict, frameDropped] using calm.1)
        (by simpa [zoneConflict, frameDropped] using calm.2.2)
      have events := same .events (by simp)
      refine ⟨t, was_dropped run same (by simp [zoneConflict]) t_list t_out
        (by simp [zoneConflict, base_pends]) (fault.trans base_fault), ?_, ?_, ?_, ?_, ?_⟩
      · rw [same .motion (by simp), faulted]
      · rw [State.isPending, events]
        exact pends
      · rw [events, data]
      · rw [events]
        exact reason working
      · rw [same .zone (by simp)]
        simp [zoneConflict, frameDropped]
  · intro blocking
    have drops := attemptSpoiled_drops at_place last
    obtain ⟨base, base_list, base_out, base_pends, base_fault, base_state⟩ :=
      frameDropped_leaves e.frame.kind (pre ++ post) s
    have told : ownerTold e.frame (frameDropped e.frame.kind (pre ++ post) s)
        = claimUndelivered (frameDropped e.frame.kind (pre ++ post) s) := by
      have stands : (frameDropped e.frame.kind (pre ++ post) s).zone.claim = some claim := standing
      rw [sent, ownerTold]
      rw [sent] at stands
      rw [stands]
      exact if_pos (by simp [number, claiming])
    have room : (frameDropped e.frame.kind (pre ++ post) s).link.list.length < 8 := by
      have whole : s.link.list.length = (pre ++ post).length + 1 := by simp [list]; omega
      rw [base_list]
      omega
    obtain ⟨⟨b, waiting⟩, awaited, parts, pends, data, fault, view, waits⟩ := claimUndelivered_spec
      (s := frameDropped e.frame.kind (pre ++ post) s) (c := claim) standing number room
    have more : (claimUndelivered (frameDropped e.frame.kind (pre ++ post) s)).events.pends .linkFault = true := by
      simp [base_pends]
    generalize claimUndelivered (frameDropped e.frame.kind (pre ++ post) s) = u at *
    obtain ⟨t, run, same, t_list, -⟩ := spoiled_settles spoils sends (drops.trans told)
      (fun w stands => .inl (by rw [waiting] at stands; rw [← Option.some.inj stands]; exact kept))
      (by rw [parts .motion (by simp)]; exact deferCurrent) (by rw [parts .motion (by simp)]; exact deferHandOver)
    have zone := same .zone (by simp)
    have events := same .events (by simp)
    refine ⟨t, _, run, State.sameBut_mono (State.sameBut_trans base (State.sameBut_trans parts same)) (by simp),
      by rw [zone, waiting], rfl, by rw [zone, awaited], ?_, by rw [events, data]; rfl, ?_, ?_, fun k => ?_,
      fun on some_cells none_waits => ?_⟩
    · rw [State.isPending, events]
      exact pends
    · exact (State.isPending_iff _ _).mpr (by rw [events, more])
    · rw [events, fault, base_fault, sent]
      rfl
    · exact (State.cell_congr (s := u) (by rw [zone]) k).trans (view k)
    · rw [State.listed, t_list]
      exact waits (base_state.trans on) some_cells none_waits

end Sys2Proof.Machine
end

section
/-! PROOFS. Presence reports and peers (R71, R72, R102, R103, R105, R108, R109, R111): the station's own report offered, a
peer's report applied to the view, and a peer lost or forgotten. -/

namespace Sys2Proof.Machine

/-! ## The own report and the sample call (R108, R109, R111) -/

theorem offerPresence_of_held {s : State} (holds : s.holdsReports = true) :
    offerPresence s = s.setPeers { s.peers with heldBack := true, presenceDue := none } := if_pos holds

theorem kind_presence_iff (f : TxFrame) : f.kind = .presence ↔ f = .presence := by cases f <;> simp [TxFrame.kind]

theorem offerPresence_placed {s : State} (free : s.holdsReports = false) (linked : s.link.state ≠ .silent)
    (room : s.link.list.length < 8) (unlisted : ∀ e ∈ s.link.list, e.frame ≠ .presence) :
    offerPresence s = (s.setLink { s.link with list := insertTx TxFrame.presence.placed s.link.list }).setPeers
      { s.peers with presenceDue := none } := by
  have placed := (offer_eq_placeFrame (f := .presence) linked
    (.inr fun e listed same => unlisted e listed ((kind_presence_iff _).mp same))).trans (placeFrame_of_room room)
  rw [offerPresence, if_neg (by simp [free]), placed]
  rfl

theorem endPresencePeriod_of_due {s : State} {due : Nat} (period : s.peers.presenceDue = some due) :
    endPresencePeriod s = offerPresence ((s.reach due).setPeers { s.peers with presenceDue := none }) := by
  rw [endPresencePeriod, period]
  rfl

/-- Settles O45: the report held back or placed, and the sample call placed or refused. -/
theorem reportsAndSampleCallsAreOffered : Obligations.ReportsAndSampleCallsAreOffered := by
  intro s
  refine ⟨fun due period => ⟨fun holds => ?_, fun free linked room unlisted => ?_⟩, fun silent => ?_,
    fun linked room => ?_, fun linked full => ?_⟩
  · have ends := (endPresencePeriod_of_due period).trans (offerPresence_of_held (by exact holds))
    refine ⟨_, congrArg Host.Outcome.next ends, fun q outside => ?_, rfl, rfl⟩
    cases q <;> simp [State.sameIn, State.reach] at outside ⊢
  · have ends := (endPresencePeriod_of_due period).trans (offerPresence_placed (by exact free) linked room unlisted)
    refine ⟨_, congrArg Host.Outcome.next ends, fun q outside => ?_, rfl, rfl, mem_insertTx.mpr (.inl rfl),
      length_insertTx _ _⟩
    cases q <;> simp [State.sameIn, State.reach] at outside ⊢
  · refine congrArg Host.Outcome.next ?_
    rw [callSample, withLength_eq List.length_nil, if_pos silent]
  · have calls : callSample [] s = (s.setLink { s.link with
        list := insertTx TxFrame.sampleCall.placed s.link.list }).answer .ok [] := by
      rw [callSample, withLength_eq List.length_nil, if_neg linked,
        offer_eq_placeFrame linked (.inl (by simp [TxFrame.kind])), placeFrame_of_room room]
    refine ⟨_, congrArg Host.Outcome.next calls, fun q outside => ?_, mem_insertTx.mpr (.inl rfl),
      length_insertTx _ _, rfl⟩
    cases q <;> simp [State.sameIn] at outside ⊢
  · refine congrArg Host.Outcome.next ?_
    rw [callSample, withLength_eq List.length_nil, if_neg linked,
      offer_eq_placeFrame linked (.inl (by simp [TxFrame.kind])), placeFrame_of_full (not_lt.mpr full)]
    rfl

/-! ## A peer lost or forgotten (R65, R70, R73, R103, R105) -/

/-- With no claim standing, a peer that is gone takes its owings and deferrals along and nothing follows. -/
theorem peerGone_of_calm {p : Station} {s : State} (calm : s.calm) :
    peerGone p s = dropDeferrals p (dropOwed p s) := by
  obtain ⟨noClaim, heldBack, deferCurrent, deferHandOver⟩ := calm
  have untaken : takeUpHeldBack s.deferred (dropDeferrals p (dropOwed p s)) = dropDeferrals p (dropOwed p s) := by
    have none_held : (dropDeferrals p (dropOwed p s)).zone.heldBack = none := by simp [heldBack]
    rw [takeUpHeldBack, none_held]
  rw [peerGone, untaken, noClaim]
  exact afterClaim_of_settled (by simp [noClaim]) deferCurrent deferHandOver

theorem losePeer_of_calm {p : Station} {s : State} {e : Peer} (calm : s.calm) (entry : s.peer p = some e)
    (present : e.lost = false) (linked : s.link.state ≠ .silent) :
    losePeer p s = evaluate (dropDeferrals p (dropOwed p (dropClaims p (markLost p (raisePeerLost p
      ((s.reach (e.lastHeard + 3000)).setPeer p (some { e with lost := true }))))))) := by
  rw [losePeer, entry]
  dsimp only
  rw [if_neg (by simp [present, linked]), peerGone_of_calm (by exact calm)]

theorem forgetPeer_one {p : Station} {s : State} : forgetPeer (one p.val) s = if s.isLost p then
    (evaluate (peerGone p (freeCellsOf p (s.setPeer p none)))).answer .ok [] else s.answer .wrongState [] := by
  rw [forgetPeer, withLength_eq (length_one _), field_one (by omega), indexOf_val]

theorem State.peer_setPeer_same (p : Station) (e : Option Peer) (s : State) : (s.setPeer p e).peer p = e :=
  Vec.get_set_same _ _ _

theorem State.peer_setPeer_other {p q : Station} (different : q ≠ p) (e : Option Peer) (s : State) :
    (s.setPeer p e).peer q = s.peer q := Vec.get_set_other _ _ different

theorem evaluate_cell (s : State) (c : Cell) : (evaluate s).cell c = s.cell c := rfl

theorem State.answer_cell (s : State) (code : Code) (data : List Byte) (c : Cell) :
    (s.answer code data).cell c = s.cell c := rfl

theorem markLost_cell (p : Station) (s : State) (c : Cell) : (markLost p s).cell c = { s.cell c with
    lost := if (s.cell c).state = .held p then true else (s.cell c).lost } := by
  rw [markLost, State.cell_mapCells]
  split <;> rfl

theorem dropClaims_cell (p : Station) (s : State) (c : Cell) : (dropClaims p s).cell c = { s.cell c with
    state := if (s.cell c).claimedBy p then .free else (s.cell c).state
    owed := if (s.cell c).claimedBy p then none else (s.cell c).owed } := by
  rw [dropClaims, State.cell_mapCells]
  split <;> rfl

theorem dropOwed_cell (p : Station) (s : State) (c : Cell) : (dropOwed p s).cell c = { s.cell c with
    owed := if (s.cell c).owed.map (·.waiter) = some p then none else (s.cell c).owed } := by
  rw [dropOwed, State.cell_mapCells]
  split <;> rfl

theorem dropDeferrals_cell (p : Station) (s : State) (c : Cell) : (dropDeferrals p s).cell c = { s.cell c with
    deferral := if (s.cell c).deferral.map (·.waiter) = some p then none else (s.cell c).deferral } := by
  rw [dropDeferrals, State.cell_mapCells]
  split <;> rfl

theorem freeCellsOf_cell (p : Station) (s : State) (c : Cell) : (freeCellsOf p s).cell c = { s.cell c with
    state := if (s.cell c).state = .held p then .free else (s.cell c).state
    lost := if (s.cell c).state = .held p then false else (s.cell c).lost } := by
  rw [freeCellsOf, State.cell_mapCells]
  split <;> rfl

/-- A cell as a lost peer leaves it: its own cells marked, its claims, its owings and its deferrals gone. -/
theorem losePeer_cell (p : Station) (s : State) (c : Cell) :
    let old := s.cell c
    let new := (dropDeferrals p (dropOwed p (dropClaims p (markLost p s)))).cell c
    new.state = (if old.claimedBy p then .free else old.state)
      ∧ new.lost = (if old.state = .held p then true else old.lost)
      ∧ new.last = old.last
      ∧ new.owed = (if old.owed.map (·.waiter) = some p ∨ old.claimedBy p then none else old.owed)
      ∧ new.deferral = (if old.deferral.map (·.waiter) = some p then none else old.deferral) := by
  intro old new
  have entry : new = _ := dropDeferrals_cell p _ c
  rw [dropOwed_cell, dropClaims_cell, markLost_cell] at entry
  have unmarked : CellEntry.claimedBy { s.cell c with
      lost := if (s.cell c).state = .held p then true else (s.cell c).lost } p = old.claimedBy p := rfl
  rw [entry]
  refine ⟨rfl, rfl, rfl, ?_, rfl⟩
  dsimp only
  rw [unmarked]
  by_cases claimed : old.claimedBy p = true <;> simp [claimed, old]

/-- A cell as a forgotten peer leaves it. -/
theorem forgetPeer_cell (p : Station) (s : State) (c : Cell) :
    let old := s.cell c
    let new := (dropDeferrals p (dropOwed p (freeCellsOf p s))).cell c
    new.state = (if old.state = .held p then .free else old.state) ∧ new.last = old.last
      ∧ new.owed = (if old.owed.map (·.waiter) = some p then none else old.owed)
      ∧ new.deferral = (if old.deferral.map (·.waiter) = some p then none else old.deferral) := by
  intro old new
  have entry : new = _ := dropDeferrals_cell p _ c
  rw [dropOwed_cell, freeCellsOf_cell] at entry
  rw [entry]
  exact ⟨rfl, rfl, rfl, rfl⟩

/-- Settles O43: the entry, and the view cell by cell through the marks that end. -/
theorem peerIsLostOrForgotten : Obligations.PeerIsLostOrForgotten := by
  intro p s calm
  refine ⟨fun e entry present linked => ?_, fun lost => ?_, fun present => ?_, fun n beyond byte => ?_⟩
  · refine ⟨_, congrArg Host.Outcome.next (losePeer_of_calm calm entry present linked), fun q outside => ?_, ?_, ?_,
      fun q other => ?_, ?_, fun c => ?_⟩
    · cases q <;> simp [State.sameIn, State.reach] at outside ⊢
    · simp [State.reach]
    · exact State.peer_setPeer_same p _ _
    · exact State.peer_setPeer_other other _ _
    · simp [raisePeerLost, State.raise, State.reach]
    · have view := losePeer_cell p (raisePeerLost p ((s.reach (e.lastHeard + 3000)).setPeer p
        (some { e with lost := true }))) c
      rw [evaluate_cell]
      exact view
  · have forgets : forgetPeer (one p.val) s
        = (evaluate (dropDeferrals p (dropOwed p (freeCellsOf p (s.setPeer p none))))).answer .ok [] := by
      rw [forgetPeer_one, if_pos lost, peerGone_of_calm (by exact calm)]
    refine ⟨_, congrArg Host.Outcome.next forgets, fun q outside => ?_, ?_, fun q other => ?_, rfl,
      fun c => ?_⟩
    · cases q <;> simp [State.sameIn] at outside ⊢
    · exact State.peer_setPeer_same p _ _
    · exact State.peer_setPeer_other other _ _
    · have view := forgetPeer_cell p (s.setPeer p none) c
      rw [State.answer_cell, evaluate_cell]
      exact view
  · exact congrArg Host.Outcome.next (forgetPeer_one.trans (if_neg (by simp [present])))
  · refine congrArg Host.Outcome.next ?_
    rw [forgetPeer, withLength_eq (length_one _), field_one byte, indexOf_none beyond]

/-! ## A peer's report (R71, R72, R102) -/

theorem recordReport_of_entry {p : Station} {r : Report} {s : State} {e : Peer} (entry : s.peer p = some e) :
    recordReport p r s = s.setPeer p (some { e with report := some r }) := by
  rw [recordReport, entry]

theorem claimsAmong_of_unclaimed {cs : CellSet} {s : State}
    (unclaimed : ∀ c, cs.has c = true → ∀ q m, (s.cell c).state ≠ .claimed q m) : claimsAmong cs s = [] := by
  refine List.filterMap_eq_nil_iff.mpr fun c _ => ?_
  split
  · next x m claimed =>
    refine if_neg fun listed => ?_
    exact unclaimed c listed x m claimed
  all_goals rfl

theorem takeClaims_of_unclaimed {cs : CellSet} {s : State}
    (unclaimed : ∀ c, cs.has c = true → ∀ q m, (s.cell c).state ≠ .claimed q m) : takeClaims cs s = s := by
  rw [takeClaims, claimsAmong_of_unclaimed unclaimed]
  rfl

/-- With no claim standing, claims taken away touch CLAIMED cells alone. -/
theorem takeClaims_of_calm {cs : CellSet} {s : State} (noClaim : s.zone.claim = none) :
    (takeClaims cs s).zone.claim = none ∧ (takeClaims cs s).motion = s.motion ∧ (takeClaims cs s).events = s.events
      ∧ ∀ c, (s.cell c).state = .held s.own → ((takeClaims cs s).cell c).state = .held s.own := by
  refine foldl_invariant (P := fun t : State => t.zone.claim = none ∧ t.motion = s.motion ∧ t.events = s.events
    ∧ ∀ c, (s.cell c).state = .held s.own → (t.cell c).state = .held s.own) (fun t x stands => ?_) _
    ⟨noClaim, rfl, rfl, fun c held => held⟩
  obtain ⟨none_t, motion, events, held⟩ := stands
  have kept : (takeBack x.1 x.2 t).zone.claim = none ∧ (takeBack x.1 x.2 t).motion = s.motion
      ∧ (takeBack x.1 x.2 t).events = s.events
      ∧ ∀ c, (s.cell c).state = .held s.own → ((takeBack x.1 x.2 t).cell c).state = .held s.own := by
    refine ⟨by simpa using none_t, by simpa using motion, by simpa using events, fun c own => ?_⟩
    rw [takeBack_cell, if_neg (by simp [held c own])]
    exact held c own
  split
  · split
    · next c claim => exact absurd (none_t.symm.trans claim) (by simp)
    · exact kept
  · exact kept

/-- With no claim standing nothing follows a report but the view it sets and the owings it ends. -/
theorem applyReport_of_calm {p : Station} {r : Report} {s : State} (noClaim : s.zone.claim = none)
    (deferCurrent : s.motion.deferCurrent = none) (deferHandOver : s.motion.deferHandOver = none)
    (on : s.link.state = .on) : applyReport p r s
      = endOwings p r.waiting (setHolder p r.held (takeClaims r.held (meetConflict p r.held s))) := by
  obtain ⟨none_taken, motion, -⟩ := takeClaims_of_calm (cs := r.held) (s := meetConflict p r.held s) (by simp [noClaim])
  have on_taken : (takeClaims r.held (meetConflict p r.held s)).link.state = .on := by
    simp [on]
  rw [applyReport, if_pos on_taken, retryCheck_of_none (by exact none_taken)]
  refine afterClaim_of_settled (fun c standing => ?_) ?_ ?_
  · exact absurd (none_taken.symm.trans standing) (by simp)
  · exact (congrArg Motion.deferCurrent motion).trans (by simp [deferCurrent])
  · exact (congrArg Motion.deferHandOver motion).trans (by simp [deferHandOver])

theorem setHolder_cell (p : Station) (cs : CellSet) (s : State) (c : Cell) :
    (setHolder p cs s).cell c = if cs.has c then
      if (s.cell c).state = .held s.own then s.cell c
      else { s.cell c with state := .held p, lost := false, last := some p }
    else if (s.cell c).state = .held p then { s.cell c with state := .free, lost := false } else s.cell c :=
  State.cell_mapCells _ _ _

theorem endOwings_cell (p : Station) (waiting : CellSet) (s : State) (c : Cell) :
    (endOwings p waiting s).cell c = { s.cell c with
      owed := if (s.cell c).owed.map (·.waiter) = some p ∧ waiting.has c = false then none
        else (s.cell c).owed } := by
  rw [endOwings, State.cell_mapCells]
  by_cases ends : (s.cell c).owed.map (·.waiter) = some p ∧ waiting.has c = false
  · rw [if_pos (by simp [ends]), if_pos ends]
  · rw [if_neg (by simpa using ends), if_neg ends]

/-- A cell as the report sets it, where the station itself does not hold it. -/
theorem reported_cell {p : Station} {cs waiting : CellSet} {s : State} {c : Cell}
    (apart : cs.has c = true → (s.cell c).state ≠ .held s.own) :
    let old := s.cell c
    let new := (endOwings p waiting (setHolder p cs s)).cell c
    new.state = (if cs.has c then .held p else if old.state = .held p then .free else old.state)
      ∧ new.last = (if cs.has c then some p else old.last) ∧ new.deferral = old.deferral
      ∧ new.owed = (if old.owed.map (·.waiter) = some p ∧ waiting.has c = false then none else old.owed) := by
  intro old new
  have entry : new = _ := endOwings_cell p waiting _ c
  rw [setHolder_cell] at entry
  rw [entry]
  by_cases listed : cs.has c = true
  · rw [if_pos listed, if_neg (apart listed), if_pos listed, if_pos listed]
    exact ⟨rfl, rfl, rfl, rfl⟩
  · rw [if_neg listed, if_neg listed, if_neg listed]
    by_cases mine : (s.cell c).state = .held p
    · rw [if_pos mine]
      exact ⟨(if_pos mine).symm, rfl, rfl, rfl⟩
    · rw [if_neg mine]
      exact ⟨(if_neg mine).symm, rfl, rfl, rfl⟩

/-- Settles O44: the view as `applyReport_of_calm` sets it, and the conflict over a cell the station holds. -/
theorem presenceSetsTheView : Obligations.PresenceSetsTheView := by
  intro p r s other frames on calm notLost wellFormed
  obtain ⟨noClaim, heldBack, deferCurrent, deferHandOver⟩ := calm
  have heard := hear_of_notLost notLost
  obtain ⟨⟨e, entry, present, fresh⟩, others⟩ := hear_peer other
  have on_heard : (hear p s).link.state = .on := by simpa using on
  let u := (hear p s).setPeer p (some { e with report := some r })
  have u_same : s.sameBut u [.link, .peers] := fun q outside => by
    have kept := heard q outside
    cases q <;> simp [State.sameIn, u] at outside kept ⊢ <;> exact kept
  have u_zone : u.zone = s.zone := heard .zone (by simp)
  have u_motion : u.motion = s.motion := heard .motion (by simp)
  have u_own : u.own = s.own := congrArg StationBlock.number (heard .station (by simp))
  have u_cell (c : Cell) : u.cell c = s.cell c := State.cell_congr (by rw [u_zone]) c
  have u_held : u.heldSet = s.heldSet := State.heldSet_congr (by rw [u_zone]) u_own
  have takes : takePresence p r s = evaluate
      (endOwings p r.waiting (setHolder p r.held (takeClaims r.held (meetConflict p r.held u)))) := by
    obtain ⟨⟨few, distinct⟩, inRange⟩ : (r.readings.length ≤ 8 ∧ channelsDistinct r.readings = true)
        ∧ (r.readings.all fun x => temperatureOk x.value) = true := by
      simpa [Report.wellFormed] using wellFormed
    rw [takePresence, if_pos (by simp [frames, other, few, distinct]; simpa using inRange),
      recordReport_of_entry entry, applyReport_of_calm (s := u) (by rw [u_zone, noClaim])
          (by rw [u_motion, deferCurrent])
        (by rw [u_motion, deferHandOver]) on_heard]
  refine ⟨fun free => ?_, fun conflict => ?_⟩
  · have none_held : u.heldAmong r.held = 0#20 := by
      rw [State.heldAmong, u_held]
      refine CellSet.ext_has fun c => ?_
      rw [CellSet.has_and, State.has_heldSet]
      by_cases listed : r.held.has c = true
      · rw [CellSet.has_zero, beq_false_of_ne (free c listed).1, Bool.false_and]
      · rw [CellSet.has_zero, Bool.eq_false_of_not_eq_true listed, Bool.and_false]
    have unclaimed (c : Cell) (listed : r.held.has c = true) (q : Station) (m : Byte) :
        (u.cell c).state ≠ .claimed q m := by
      rw [u_cell]
      exact (free c listed).2 q m
    have sets : takePresence p r s = evaluate (endOwings p r.waiting (setHolder p r.held u)) := by
      rw [takes, meetConflict, if_pos none_held, takeClaims_of_unclaimed unclaimed]
    refine ⟨_, congrArg Host.Outcome.next sets, fun q outside => ?_, ?_, fun q different => ?_, fun c => ?_⟩
    · have kept := u_same q (by simp at outside ⊢; exact ⟨outside.2.1, outside.2.2.1⟩)
      clear_value u
      cases q <;> simp [State.sameIn] at outside kept ⊢ <;> assumption
    · refine (State.peer_setPeer_same p _ _).trans ?_
      rw [← present, ← fresh]
    · exact (State.peer_setPeer_other different _ _).trans (others q different)
    · rw [evaluate_cell, ← u_cell c]
      refine reported_cell fun listed => ?_
      rw [u_cell, u_own]
      exact (free c listed).1
  · obtain ⟨faulted, pends, named, -⟩ := zoneConflict_spec p (s.heldSet &&& r.held) u
    have meets : meetConflict p r.held u = zoneConflict p (s.heldSet &&& r.held) u := by
      rw [meetConflict, State.heldAmong, u_held, if_neg conflict]
    rw [meets] at takes
    obtain ⟨-, motion, events, held⟩ := takeClaims_of_calm (cs := r.held)
      (s := zoneConflict p (s.heldSet &&& r.held) u) (by simp [u_zone, noClaim])
    have own : (zoneConflict p (s.heldSet &&& r.held) u).own = s.own := by simpa [State.own] using u_own
    have cells (c : Cell) : (zoneConflict p (s.heldSet &&& r.held) u).cell c = s.cell c :=
      (State.cell_congr (by simp) c).trans (u_cell c)
    have own_taken : (takeClaims r.held (zoneConflict p (s.heldSet &&& r.held) u)).own = s.own := by
      simpa [State.own] using own
    refine ⟨_, congrArg Host.Outcome.next takes, ?_, ?_, ?_, fun c mine => ?_⟩
    · exact (congrArg Motion.state motion).trans faulted
    · rw [State.isPending] at pends ⊢
      rw [← events] at pends
      exact pends
    · exact (congrArg (·.kept.zoneConflict) events).trans named
    · have stays := held c (by rw [cells, own]; exact mine)
      rw [evaluate_cell, endOwings_cell, setHolder_cell, own_taken]
      rw [own] at stays
      by_cases listed : r.held.has c = true
      · rw [if_pos listed, if_pos stays]
        exact stays
      · rw [if_neg listed, if_neg (by rw [stays]; simpa using other.symm)]
        exact stays

end Sys2Proof.Machine
end

section
/-! PROOFS. The Temperature Unit (chapter 6): a sample drives the channels and the quantities (R112, R117 to R127), and
CLEAR FIXED TEMPERATURE and SET PART (R125, R130). -/

namespace Sys2Proof.Machine

/-! ## The channels follow a sample (R117 to R120) -/

theorem validSample_iff (v : Option Int) (x : Int) : validSample v = some x ↔ v = some x ∧ -1000 ≤ x ∧ x ≤ 6000 := by
  simp [validSample, Option.filter_eq_some_iff, temperatureOk]

theorem pushWindow_eq (w : List Int) (x : Int) : pushWindow w x = w.drop (w.length - 3) ++ [x] := by
  unfold pushWindow
  split
  · next few =>
    rw [show w.length - 3 = 0 by omega, List.drop_zero]
  · rfl

theorem slewClamp_eq (r : Option Int) (x : Int) : slewClamp r x = match r with
    | some r => max (r - 50) (min (r + 50) x)
    | none => x := by
  cases r with
  | none => rfl
  | some r => exact clampInt_eq_max_min (by omega) x

theorem Channel.reject_valid {c : Channel} (h : c.state = .valid) :
    c.reject = { c with state := .holding, invalidRun := min 10 (c.invalidRun + 1) } := by
  rw [Channel.reject, h]

/-- An invalid sample of a STARTING or HOLDING channel: counted, or the tenth makes it FAILED. -/
theorem Channel.reject_counted {c : Channel} (h : c.state = .starting ∨ c.state = .holding) :
    (c.invalidRun < 9 → c.reject = { c with invalidRun := c.invalidRun + 1 })
      ∧ (9 ≤ c.invalidRun → c.reject = { c with state := .failed, window := [], reading := none, invalidRun
          := 10 }) := by
  have counts : c.reject = if min 10 (c.invalidRun + 1) = 10
      then { c with state := .failed, window := [], reading := none, invalidRun := min 10 (c.invalidRun + 1) }
      else { c with invalidRun := min 10 (c.invalidRun + 1) } := by
    rcases h with h | h <;> rw [Channel.reject, h]
  refine ⟨fun few => ?_, fun tenth => ?_⟩
  · rw [counts, if_neg (by omega), show min 10 (c.invalidRun + 1) = c.invalidRun + 1 by omega]
  · rw [counts, if_pos (by omega), show min 10 (c.invalidRun + 1) = 10 by omega]

theorem Channel.sampled_iff (c : Channel) : c.sampled = true ↔ ∃ k, c.kind = some k ∧ k ≠ .unused := by
  unfold Channel.sampled
  cases c.kind <;> simp

theorem Channel.followsSample_take (c : Channel) (v : Option Int) : c.followsSample v (c.take v) := by
  refine ⟨fun unsampled => if_neg fun sampled => ?_, fun k kind used => ?_⟩
  · obtain ⟨k, kind, used⟩ := (c.sampled_iff).mp sampled
    rcases unsampled with none_kind | unused
    · exact absurd (none_kind.symm.trans kind) (by simp)
    · exact used (Option.some.inj (kind.symm.trans unused))
  · have sampled : c.sampled = true := (c.sampled_iff).mpr ⟨k, kind, used⟩
    refine ⟨fun x sample low high => ?_, fun invalid => ?_⟩
    · have accepted : c.take v = c.accept x := by
        rw [Channel.take, if_pos sampled, (validSample_iff v x).mpr ⟨sample, low, high⟩]
      rw [accepted]
      refine ⟨rfl, rfl, rfl, rfl, ?_⟩
      rw [Channel.accept, pushWindow_eq, slewClamp_eq] <;> rfl
    · have rejected : c.take v = c.reject := by
        have none_valid : validSample v = none := by
          refine Option.eq_none_iff_forall_ne_some.mpr fun x valid => ?_
          obtain ⟨sample, low, high⟩ := (validSample_iff v x).mp valid
          rcases invalid x sample with below | above <;> omega
        rw [Channel.take, if_pos sampled, none_valid]
      rw [rejected]
      exact ⟨Channel.reject_valid, Channel.reject_counted⟩

/-! ## SENSOR FAULT (R120) -/

theorem mem_fullOrder {n : Nat} (order : List (Fin n)) (i : Fin n) : i ∈ fullOrder order := by
  by_cases listed : i ∈ order <;> simp [fullOrder, listed]

/-- A channel that the sample made FAILED is named by SENSOR FAULT. -/
theorem raiseFailures_raises {before : Vec 8 Channel} {order : List Chan} {s : State} {c : Chan} (mem : c ∈ order)
    (working : (before.get c).state ≠ .failed) (failed : (s.temps.channels.get c).state = .failed) :
    (raiseFailures before order s).isPending .sensorFault
      ∧ ∃ d, (raiseFailures before order s).events.kept.sensorFault = some d
        ∧ (s.temps.channels.get d).state = .failed := by
  refine foldl_reaches (P := fun _ => True)
    (Q := fun t : State => t.isPending .sensorFault ∧ ∃ d, t.events.kept.sensorFault = some d
      ∧ (s.temps.channels.get d).state = .failed) (x := c) (fun _ _ _ => trivial) (fun t _ => ?_)
    (fun t d raised => ?_) order mem trivial
  · rw [if_pos (by simp [working, failed])]
    exact ⟨(State.isPending_iff _ _).mpr (raiseSensorFault_pends _ _), c, rfl, failed⟩
  · split
    · next newly =>
      simp only [Bool.and_eq_true, beq_iff_eq] at newly
      exact ⟨(State.isPending_iff _ _).mpr (raiseSensorFault_pends _ _), d, rfl, newly.2⟩
    · exact raised

theorem raiseFailures_of_none {before : Vec 8 Channel} {order : List Chan} {s : State}
    (none_new : ∀ c, (before.get c).state = .failed ∨ (s.temps.channels.get c).state ≠ .failed) :
    raiseFailures before order s = s := by
  refine foldl_invariant (P := fun t : State => t = s) (fun t c same => ?_) order rfl
  rw [if_neg, same]
  rcases none_new c with failed | working <;> simp [*]

/-! ## The quantities after a sample (R126, R127) -/

theorem localFresh_congr {s t : State} (channels : t.temps.channels = s.temps.channels) : localFresh t = localFresh s := by
  unfold localFresh
  rw [channels]

theorem peerFresh_congr {s t : State} (entries : t.peers.entries = s.peers.entries) : peerFresh t = peerFresh s := by
  unfold peerFresh peerReading
  rw [entries]

theorem partMean_congr {s t : State} (channels : t.temps.channels = s.temps.channels)
    (entries : t.peers.entries = s.peers.entries) : partMean t = partMean s := by
  have same : partContributors t = partContributors s := by
    unfold partContributors
    rw [localFresh_congr channels, channels, entries]
  rw [partMean, same, partMean]

/-- The sources see the block in force, the channels and the peers alone. -/
theorem evalQuantity_congr {s t : State} (config : t.station.config = s.station.config)
    (channels : t.temps.channels = s.temps.channels) (entries : t.peers.entries = s.peers.entries) (i : Fin 5)
    (q : Quantity) : evalQuantity t i q = evalQuantity s i q := by
  have sources : sourceOf t = sourceOf s := by
    unfold sourceOf
    rw [config]
  have values : primaryValue t = primaryValue s := by
    unfold primaryValue
    rw [localFresh_congr channels, peerFresh_congr entries, partMean_congr channels entries]
  have primary : primaryOf t i = primaryOf s i := by rw [primaryOf, sources, values, primaryOf]
  have backup : backupOf t i = backupOf s i := by rw [backupOf, sources, localFresh_congr channels, backupOf]
  rw [evalQuantity, primary, backup, evalQuantity]

/-- What a sample leaves: channels that followed it, SENSOR FAULT for one that failed, quantities evaluated. -/
def State.sampledInto (v : Conversions) (s t : State) : Prop :=
  (∀ c, (s.temps.channels.get c).followsSample (v.get c) (t.temps.channels.get c))
    ∧ ((∃ c, (s.temps.channels.get c).state ≠ .failed ∧ (t.temps.channels.get c).state = .failed) →
      t.isPending .sensorFault ∧ ∃ c, t.events.kept.sensorFault = some c
        ∧ (t.temps.channels.get c).state = .failed)
    ∧ (∀ i, t.temps.quantities.get i = evalQuantity t i (s.temps.quantities.get i))
    ∧ t.temps.datum = s.temps.datum ∧ t.temps.partCoeff = s.temps.partCoeff

theorem takeSamples_channel (v : Conversions) (s : State) (c : Chan) :
    (takeSamples v s).temps.channels.get c = (s.temps.channels.get c).take (v.get c) := Vec.get_mapIx _ _ _

theorem sampleChannels_channels (v : Conversions) (order : List Chan) (s : State) :
    (sampleChannels v order s).temps.channels = (takeSamples v s).temps.channels := by
  simp [sampleChannels]

theorem sampleChannels_sampled (v : Conversions) (order : List Chan) (s : State) :
    s.sampledInto v (sampleChannels v order s) := by
  refine ⟨fun c => ?_, fun ⟨c, working, failed⟩ => ?_, fun i => ?_, by simp, by simp⟩
  · rw [sampleChannels_channels, takeSamples_channel]
    exact Channel.followsSample_take _ _
  · rw [sampleChannels_channels] at failed ⊢
    exact raiseFailures_raises (mem_fullOrder order c) working failed
  · have quantities : (raiseFailures s.temps.channels (fullOrder order) (takeSamples v s)).temps.quantities
        = s.temps.quantities := by simp [takeSamples]
    rw [sampleChannels, evaluate_quantity, quantities]
    exact (evalQuantity_congr rfl rfl rfl i _).symm

/-- A sample that makes no channel FAILED raises nothing. -/
theorem sampleChannels_events_of_none {v : Conversions} {order : List Chan} {s : State}
    (none_new : ∀ c, (s.temps.channels.get c).state = .failed
      ∨ ((sampleChannels v order s).temps.channels.get c).state ≠ .failed) :
    (sampleChannels v order s).events = s.events := by
  rw [sampleChannels_channels] at none_new
  rw [sampleChannels, raiseFailures_of_none none_new]
  rfl

theorem State.sampledInto.of_same {v : Conversions} {s s' t t' : State} (h : s.sampledInto v t)
    (temps : s'.temps.channels = s.temps.channels ∧ s'.temps.quantities = s.temps.quantities
      ∧ s'.temps.datum = s.temps.datum ∧ s'.temps.partCoeff = s.temps.partCoeff)
    (sampled : t'.temps = t.temps) (config : t'.station.config = t.station.config)
    (entries : t'.peers.entries = t.peers.entries) (pends : t.isPending .sensorFault → t'.isPending .sensorFault)
    (kept : t'.events.kept.sensorFault = t.events.kept.sensorFault) : s'.sampledInto v t' := by
  obtain ⟨channels, fault, quantities, datum, partCoeff⟩ := h
  obtain ⟨same_channels, same_quantities, same_datum, same_coeff⟩ := temps
  refine ⟨?_, ?_, fun i => ?_, ?_, ?_⟩
  · rw [same_channels, sampled]
    exact channels
  · rw [same_channels, sampled, kept]
    exact fun newly => ⟨pends (fault newly).1, (fault newly).2⟩
  · rw [evalQuantity_congr config (by rw [sampled]) entries, sampled, same_quantities]
    exact quantities i
  · rw [sampled, datum, same_datum]
  · rw [sampled, partCoeff, same_coeff]

/-! ## The report behind a sample (R112) -/

theorem offerPresence_free {s : State} (free : s.holdsReports = false) : (offerPresence s).link.list
    = (offer .presence s).2.link.list := by
  rw [offerPresence, if_neg (by simp [free])]
  split
  · next t offered => rw [offered]; rfl
  · next t offered => rw [offered]; simp
  · next t offered => rw [offered]; rfl

theorem offer_presence_listed {s : State} (linked : s.link.state ≠ .silent) (room : s.link.list.length < 8) :
    (offer .presence s).2.listed .presence := by
  cases pending : s.link.list.any (·.pendingKind .presence) with
  | true =>
    have replaces : (offer .presence s).2.link.list = insertTx { frame := .presence, attempts := 0, sending := false }
        (s.link.list.filter fun e => !e.pendingKind .presence) := by
      simp [offer, linked, TxFrame.kind, pending]
    rw [State.listed, replaces]
    exact mem_insertTx.mpr (.inl rfl)
  | false =>
    have places : (offer .presence s).2.link.list
        = insertTx { frame := .presence, attempts := 0, sending := false } s.link.list := by
      simp [offer, linked, TxFrame.kind, pending, placeFrame, room]
    rw [State.listed, places]
    exact mem_insertTx.mpr (.inl rfl)

theorem offer_sensorFault (f : TxFrame) (s : State) :
    (offer f s).2.events.kept.sensorFault = s.events.kept.sensorFault := by
  unfold offer placeFrame
  dsimp only
  repeat' split
  all_goals rfl

theorem offerPresence_sensorFault (s : State) :
    (offerPresence s).events.kept.sensorFault = s.events.kept.sensorFault := by
  rw [← offer_sensorFault .presence s, offerPresence]
  split
  · exact (offer_sensorFault .presence s).symm
  · split
    · next t offered => rw [offered]; rfl
    · next t offered => rw [offered]; simp
    · next t offered => rw [offered]; rfl

/-- Settles O48: the sample of the timer, and that of a SAMPLE CALL between the hearing and the report. -/
theorem samplesDriveTheChannels : Obligations.SamplesDriveTheChannels := by
  intro v order s
  dsimp only
  refine ⟨?_, fun p frames notLost => ?_⟩
  · let begun := (s.reach s.temps.sampleDue).setTemps { s.temps with sampleDue := s.temps.sampleDue + 100 }
    have sampled : s.sampledInto v (sampleChannels v order begun) :=
      (sampleChannels_sampled v order begun).of_same ⟨rfl, rfl, rfl, rfl⟩ rfl rfl rfl id rfl
    refine ⟨sampleChannels v order begun, rfl, fun q outside => ?_, fun none_new => ?_, sampled, ?_, ?_⟩
    · cases q <;> simp [State.sameIn, begun, State.reach] at outside ⊢
    · exact sampleChannels_events_of_none (s := begun) none_new
    · simp [begun, State.reach]
    · simp [begun]
  · have heard := hear_of_notLost notLost
    have temps : (hear p s).temps = s.temps := heard .temps (by simp)
    have takes : takeSampleCall p v order s = offerPresence (sampleChannels v order (hear p s)) := if_pos frames
    have sampled : s.sampledInto v (offerPresence (sampleChannels v order (hear p s))) := by
      refine (sampleChannels_sampled v order (hear p s)).of_same (by simp [temps]) (by simp) (by simp) (by simp)
        (fun pends => ?_) (offerPresence_sensorFault _)
      rw [State.isPending_iff] at pends ⊢
      exact offerPresence_pends _ pends
    refine ⟨_, congrArg Host.Outcome.next takes, fun q outside => ?_, sampled, by simp [temps],
      fun free room => ?_⟩
    · have kept := heard q (by simp at outside ⊢; exact ⟨outside.1, outside.2.1⟩)
      cases q <;> simp [State.sameIn] at outside kept ⊢ <;> assumption
    · have zone : (hear p s).zone = s.zone := heard .zone (by simp)
      have own : (hear p s).own = s.own := congrArg StationBlock.number (heard .station (by simp))
      have free_heard : (sampleChannels v order (hear p s)).holdsReports = false := by
        simpa [State.holdsReports, State.own, zone] using free
      have linked : (sampleChannels v order (hear p s)).link.state ≠ .silent := by
        simpa using linked_of_frames frames
      rw [offerPresence_free free_heard]
      exact ⟨_, offer_presence_listed linked (by simpa using room), rfl⟩

/-! ## CLEAR FIXED TEMPERATURE and SET PART (R125, R130) -/

/-- The override of a quantity taken off, before the evaluation that follows (R125). -/
def State.uncovered (s : State) (i : Fin 5) : State :=
  s.setTemps { s.temps with
    quantities := s.temps.quantities.set i { s.temps.quantities.get i with overrideOn := false } }

theorem clearFixedTemperature_one (i : Fin 5) (s : State) :
    clearFixedTemperature (one i.val) s = (evaluate (s.uncovered i)).answer .ok [] := by
  rw [clearFixedTemperature, withLength_eq (length_one _), field_one (by omega), indexOf_val]
  rfl

/-- The fields of a SET PART (Table 10-5). -/
theorem setPart_data {p : V3 Int} {coeff : Nat} (fits : ∀ a, fits32 (p.get a) = true) (small : coeff < 65536) :
    let data := beSigned 4 p.x ++ beSigned 4 p.y ++ beSigned 4 p.z ++ beBytes 2 coeff
    data.length = 14 ∧ fieldV3 0 data = p ∧ field 12 2 data = coeff := by
  have bounds (a : Axis) := (fits32_iff _).mp (fits a)
  intro data
  have x : fieldInt32 0 data = p.x := by
    refine fieldInt32_slice ?_ (bounds .x).1 (bounds .x).2
    simp only [data, List.append_assoc]
    exact slice_head (by simp)
  have y : fieldInt32 4 data = p.y := by
    refine fieldInt32_slice ?_ (bounds .y).1 (bounds .y).2
    simp only [data]
    rw [List.append_assoc (_ ++ _)]
    exact slice_after (by simp) (by simp)
  have z : fieldInt32 8 data = p.z :=
    fieldInt32_slice (slice_after (by simp) (by simp)) (bounds .z).1 (bounds .z).2
  refine ⟨by simp [data], by rw [fieldV3, x, y, z], ?_⟩
  rw [field_slice (slice_tail (by simp) (length_beBytes 2 coeff)), beNat_beBytes_of_lt (by simpa using small)]

/-- Settles O47: the evaluation with the override off, and the part setting by its range. -/
theorem fixedTemperatureIsClearedAndPartIsSet : Obligations.FixedTemperatureIsClearedAndPartIsSet := by
  intro s
  refine ⟨fun q => ?_, fun p coeff fits small => ?_⟩
  · have off : (s.uncovered q).temps.quantities.get q = { s.temps.quantities.get q with overrideOn := false } :=
      Vec.get_set_same _ _ _
    have primary : primaryOf (s.uncovered q) q = primaryOf s q := rfl
    have backup : backupOf (s.uncovered q) q = backupOf s q := rfl
    have evaluated : (evaluate (s.uncovered q)).temps.quantities.get q = evalQuantity (s.uncovered q) q
        { s.temps.quantities.get q with overrideOn := false } := by rw [evaluate_quantity, off]
    refine ⟨_, congrArg Host.Outcome.next (clearFixedTemperature_one q s), fun part outside => ?_, rfl, ?_⟩
    · cases part <;> simp [State.sameIn, State.uncovered] at outside ⊢
    · have answered : ((evaluate (s.uncovered q)).answer .ok []).temps = (evaluate (s.uncovered q)).temps := rfl
      obtain ⟨kept_on, kept_value⟩ := evalQuantity_keeps_override (s.uncovered q) q
        { s.temps.quantities.get q with overrideOn := false }
      rw [answered, evaluated]
      refine ⟨kept_on, kept_value, fun x fresh => ?_, fun x stale fresh => ?_, fun stale none_fresh => ?_⟩
      · rw [evalQuantity, if_neg (by simp), primary, fresh]
        exact ⟨rfl, rfl⟩
      · rw [evalQuantity, if_neg (by simp), primary, backup, stale, fresh]
        exact ⟨rfl, rfl⟩
      · rw [evalQuantity, if_neg (by simp), primary, backup, stale, none_fresh]
        exact ⟨rfl, rfl⟩
  · obtain ⟨length, datum, part⟩ := setPart_data fits small
    dsimp only
    have sets : setPart (beSigned 4 p.x ++ beSigned 4 p.y ++ beSigned 4 p.z ++ beBytes 2 coeff) s
        = if inTravel p && coeff ≤ 3000 then (s.setTemps { s.temps with datum := p, partCoeff := coeff }).answer .ok []
          else s.answer .outOfRange [] := by
      rw [setPart, withLength_eq length, datum, part]
    refine ⟨fun inRange => congrArg Host.Outcome.next (sets.trans (if_pos ?_)),
      fun outside => congrArg Host.Outcome.next (sets.trans (if_neg ?_))⟩
    · simpa [inTravel, and_assoc] using inRange
    · simpa [inTravel, and_assoc] using outside

end Sys2Proof.Machine
end

section
/-! PROOFS. The library, the bank selector and the rack view (7.1, 7.2, 7.5): the sets written and the entries freed
(R137, R138), the pending bank (R139) and the rack notes (R147 to R149). -/

namespace Sys2Proof.Machine

/-! ## A slot of the view -/

theorem State.get_setSlot (s : State) (k j : SlotIx) (v : Slot) :
    (s.setSlot k v).probes.slots.get j = if j = k then v else s.probes.slots.get j := by
  unfold State.setSlot
  by_cases same : j = k
  · simp [same]
  · simp [same, Vec.get_set_other]

/-- The slot as an applied note leaves it. -/
theorem applyNote_slot {k : SlotIx} {c : Ident} {src : NotedBy} {s : State}
    (free : c = 0x0000#16 ∨ c = 0xFFFF#16 ∨ s.probes.current.ident ≠ some c) (j : SlotIx) :
    (applyNote k c src s).probes.slots.get j
      = if j = k then { s.probes.slots.get j with content := c, notedBy := src }
        else if c ≠ 0x0000#16 ∧ c ≠ 0xFFFF#16 ∧ (s.probes.slots.get j).content = c
          then { s.probes.slots.get j with content := 0xFFFF#16, notedBy := src }
        else s.probes.slots.get j := by
  have open_note : ¬ (validIdent c && s.probes.current.ident == some c) = true := by
    rcases free with zero | unknown | other <;> simp [validIdent, *]
  rw [applyNote, if_neg open_note]
  refine (Vec.get_mapIx _ _ _).trans ?_
  by_cases named : j = k
  · simp [named]
  · simp [named, validIdent, and_assoc]

/-- A note that names the current probe leaves the slot UNKNOWN and is a conflict. -/
theorem applyNote_conflict {k : SlotIx} {c : Ident} {src : NotedBy} {s : State} (named : c ≠ 0x0000#16 ∧ c ≠ 0xFFFF#16)
    (current : s.probes.current.ident = some c) : applyNote k c src s = raiseRackConflict k c
      (s.setSlot k { s.probes.slots.get k with content := 0xFFFF#16, notedBy := src }) :=
  if_pos (by simp [validIdent, named, current])

/-- A note that meets no conflict raises nothing. -/
theorem applyNote_events {k : SlotIx} {c : Ident} {src : NotedBy} {s : State}
    (free : c = 0x0000#16 ∨ c = 0xFFFF#16 ∨ s.probes.current.ident ≠ some c) :
    (applyNote k c src s).events = s.events := by
  rw [applyNote, if_neg]
  · rfl
  · rcases free with zero | unknown | named <;> simp [validIdent, *]

theorem not_free_iff {c : Ident} {s : State} :
    ¬ (c = 0x0000#16 ∨ c = 0xFFFF#16 ∨ s.probes.current.ident ≠ some c)
      ↔ (c ≠ 0x0000#16 ∧ c ≠ 0xFFFF#16) ∧ s.probes.current.ident = some c := by
  simp [and_assoc]

/-- The slots as a free note sets them. -/
def State.notedFrom (s : State) (k : SlotIx) (c : Ident) (src : NotedBy) (t : State) : Prop :=
  ∀ j, (t.probes.slots.get j).content = (if j = k then c
        else if c ≠ 0x0000#16 ∧ c ≠ 0xFFFF#16 ∧ (s.probes.slots.get j).content = c then 0xFFFF#16
        else (s.probes.slots.get j).content)
    ∧ (t.probes.slots.get j).notedBy = (if j = k ∨ (c ≠ 0x0000#16 ∧ c ≠ 0xFFFF#16
          ∧ (s.probes.slots.get j).content = c) then src
        else (s.probes.slots.get j).notedBy)

theorem applyNote_notedFrom {k : SlotIx} {c : Ident} {src : NotedBy} {s : State}
    (free : c = 0x0000#16 ∨ c = 0xFFFF#16 ∨ s.probes.current.ident ≠ some c) :
    s.notedFrom k c src (applyNote k c src s)
      ∧ ∀ j, ((applyNote k c src s).probes.slots.get j).unsent = (s.probes.slots.get j).unsent := by
  refine ⟨fun j => ?_, fun j => ?_⟩
  · rw [applyNote_slot free]
    by_cases named : j = k
    · simp [named]
    · by_cases conflicts : c ≠ 0x0000#16 ∧ c ≠ 0xFFFF#16 ∧ (s.probes.slots.get j).content = c
      · rw [if_neg named, if_pos conflicts, if_neg named, if_pos conflicts, if_pos (.inr conflicts)]
        exact ⟨rfl, rfl⟩
      · rw [if_neg named, if_neg conflicts, if_neg named, if_neg conflicts, if_neg
          (by simp only [named, conflicts, or_self, not_false_eq_true])]
        exact ⟨rfl, rfl⟩
  · rw [applyNote_slot free]
    (repeat' split) <;> rfl

theorem State.notedFrom.of_marked {s t : State} {k : SlotIx} {c : Ident} {src : NotedBy} (h : s.notedFrom k c src t)
    (v : Bool) : s.notedFrom k c src (markUnsent k v t) := by
  intro j
  have slot := t.get_setSlot k j { t.probes.slots.get k with unsent := v }
  have marked : ((markUnsent k v t).probes.slots.get j).content = (t.probes.slots.get j).content
      ∧ ((markUnsent k v t).probes.slots.get j).notedBy = (t.probes.slots.get j).notedBy := by
    rw [markUnsent, slot]
    by_cases same : j = k <;> simp [same]
  rw [marked.1, marked.2]
  exact h j

theorem offerNote_of_room {k : SlotIx} {c : Ident} {s : State} (linked : s.link.state ≠ .silent)
    (room : s.link.list.length < 8) :
    offerNote k c s = s.setLink { s.link with list := insertTx (TxFrame.rackNote k c).placed s.link.list } := by
  rw [offerNote, offer_eq_placeFrame linked (.inl (by simp [TxFrame.kind])), placeFrame_of_room room]

/-- Settles O53: a peer's note applied behind the hearing, and the host's applied and offered. -/
theorem rackNotesSetTheView : Obligations.RackNotesSetTheView := by
  intro k c s
  refine ⟨fun p frames other notLost => ?_, fun free linked room => ?_, fun n beyond byte => ?_⟩
  · have heard := hear_of_notLost notLost
    have probes : (hear p s).probes = s.probes := heard .probes (by simp)
    have takes : takeRackNote p k c s = markUnsent k false (applyNote k c (.station p) (hear p s)) :=
      if_pos (by simp [frames, other])
    have keeps (q : Part) (outside : q ∉ [Part.link, .peers, .probes, .events]) :
        s.sameIn (markUnsent k false (applyNote k c (.station p) (hear p s))) q := by
      have kept := heard q (by simp at outside ⊢; exact ⟨outside.1, outside.2.1⟩)
      cases q <;> simp [State.sameIn] at outside kept ⊢ <;> assumption
    refine ⟨fun free => ?_, fun conflict => ?_⟩
    · obtain ⟨noted, unsent⟩ := applyNote_notedFrom (k := k) (src := .station p) (s
        := hear p s) (by rw [probes]; exact free)
      refine ⟨_, congrArg Host.Outcome.next takes, fun q outside => ?_, ?_, ?_, fun j different => ?_⟩
      · by_cases events : q = .events
        · subst events
          exact (applyNote_events (by rw [probes]; exact free)).trans (heard .events (by simp))
        · exact keeps q (by simp at outside ⊢; simp [outside, events])
      · have from_heard := noted.of_marked false
        rw [State.notedFrom, probes] at from_heard
        exact from_heard
      · rw [markUnsent, State.get_setSlot, if_pos rfl]
      · rw [markUnsent, State.get_setSlot, if_neg different, unsent, probes]
    · obtain ⟨named, current⟩ := not_free_iff.mp conflict
      have conflicts := applyNote_conflict (k := k) (src := .station p) named (s
          := hear p s) (by rw [probes]; exact current)
      refine ⟨_, congrArg Host.Outcome.next takes, keeps, ?_, fun j different => ?_, ?_, ?_⟩
      · rw [markUnsent, State.get_setSlot, if_pos rfl, conflicts]
        exact congrArg Slot.content ((State.get_setSlot _ _ _ _).trans (if_pos rfl))
      · rw [markUnsent, State.get_setSlot, if_neg different, conflicts, ← probes]
        exact (State.get_setSlot _ _ _ _).trans (if_neg different)
      · rw [conflicts]
        exact (State.isPending_iff _ _).mpr (raiseRackConflict_pends _ _ _)
      · rw [conflicts]
        rfl
  · obtain ⟨noted, -⟩ := applyNote_notedFrom (k := k) (src := .host) free
    have content : ((applyNote k c .host s).probes.slots.get k).content = c := by rw [(noted k).1, if_pos rfl]
    have sets : setRackSlot (one k.val ++ word c) s = ((applyNote k c .host s).setLink { s.link with
        list := insertTx (TxFrame.rackNote k c).placed s.link.list }).answer .ok (word c) := by
      have slot : fieldWord 1 (one k.val ++ word c) = c := by
        rw [fieldWord, field_slice (slice_tail (length_one _) (length_word c)), ofNat_beNat_word]
      rw [setRackSlot, withLength_eq (by simp), field_one_append (by omega), indexOf_val, slot]
      dsimp only
      rw [content, offerNote_of_room (by simpa using linked) (by simpa using room)]
      simp
    refine ⟨_, congrArg Host.Outcome.next sets, fun q outside => ?_, noted, mem_insertTx.mpr (.inl rfl), rfl⟩
    by_cases events : q = .events
    · subst events
      exact applyNote_events free
    · cases q <;> simp [State.sameIn] at outside events ⊢
  · refine congrArg Host.Outcome.next ?_
    rw [setRackSlot, withLength_eq (by simp), field_one_append byte, indexOf_none beyond]

/-! ## The library (R137, R138) -/

theorem validIdent_iff (i : Ident) : validIdent i = true ↔ i ≠ 0x0000#16 ∧ i ≠ 0xFFFF#16 := by
  simp [validIdent]

theorem fieldWord_setData (i : Ident) (bank : Bank) (q : QualSet) : fieldWord 0 (setData i bank q) = i := by
  simp only [setData, List.append_assoc, fieldWord_word_append]

theorem field_bank_setData (i : Ident) (bank : Bank) (q : QualSet) : field 2 1 (setData i bank q) = bank.num := by
  simp only [setData, List.append_assoc]
  rw [← List.append_assoc, field_slice (slice_after (length_word i) (length_one _)), beNat_one
      (by cases bank <;> decide)]

theorem field_valid_setData (i : Ident) (bank : Bank) (q : QualSet) :
    field 3 1 (setData i bank q) = if q.valid then 1 else 0 := by
  simp only [setData, List.append_assoc]
  rw [← List.append_assoc, ← List.append_assoc, field_slice (m := yesNo q.valid) (slice_after (by simp) (by simp))]
  cases q.valid <;> rfl

theorem fieldV3_setData {i : Ident} {bank : Bank} {q : QualSet} (fits : ∀ a, fits32 (q.offset.get a) = true) :
    fieldV3 4 (setData i bank q) = q.offset := by
  have bounds (a : Axis) := (fits32_iff _).mp (fits a)
  have x : fieldInt32 4 (setData i bank q) = q.offset.x := by
    refine fieldInt32_slice ?_ (bounds .x).1 (bounds .x).2
    rw [setData, List.append_assoc, List.append_assoc, List.append_assoc, List.append_assoc]
    exact slice_after (by simp) (by simp)
  have y : fieldInt32 8 (setData i bank q) = q.offset.y := by
    refine fieldInt32_slice ?_ (bounds .y).1 (bounds .y).2
    rw [setData, List.append_assoc, List.append_assoc, List.append_assoc]
    exact slice_after (by simp) (by simp)
  have z : fieldInt32 12 (setData i bank q) = q.offset.z := by
    refine fieldInt32_slice ?_ (bounds .z).1 (bounds .z).2
    rw [setData, List.append_assoc, List.append_assoc]
    exact slice_after (by simp) (by simp)
  rw [fieldV3, x, y, z]

/-- The set that the bytes of WRITE PROBE SET give, its touch count 0. -/
theorem givenSet_setData {i : Ident} {bank : Bank} {q : QualSet} (fits : ∀ a, fits32 (q.offset.get a) = true)
    (radius : q.radius < 65536) (low : -32768 ≤ q.qualTemp) (high : q.qualTemp ≤ 32767) (limit : q.limit < 65536) :
    givenSet (setData i bank q) = { q with count := 0 } := by
  have valid : (field 3 1 (setData i bank q) == 1) = q.valid := by
    rw [field_valid_setData]
    cases q.valid <;> rfl
  have radius_field : field 16 2 (setData i bank q) = q.radius := by
    rw [setData, List.append_assoc, field_slice (slice_after (by simp) (length_beBytes 2 q.radius)),
      beNat_beBytes_of_lt (by simpa using radius)]
  have temp_field : fieldInt16 18 (setData i bank q) = q.qualTemp :=
    fieldInt16_slice (slice_after (by simp) (by simp)) low high
  have limit_field : field 20 2 (setData i bank q) = q.limit := by
    rw [setData, field_slice (slice_tail (by simp) (length_beBytes 2 q.limit)), beNat_beBytes_of_lt
        (by simpa using limit)]
  rw [givenSet, valid, fieldV3_setData fits, radius_field, temp_field, limit_field]

theorem writeProbeSet_setData {i : Ident} {bank : Bank} {q : QualSet} (s : State)
    (given : givenSet (setData i bank q) = { q with count := 0 }) : writeProbeSet (setData i bank q) s
      = if !validIdent i || !setInRange (setData i bank q) then s.answer .outOfRange []
        else if bankInUse i bank s then s.answer .busy []
        else match s.entry i with
          | some e => (rewriteEntry e bank { q with count := 0 } s).answer .ok []
          | none => if 16 ≤ s.probes.library.length then s.answer .libraryFull []
            else (createEntry i bank { q with count := 0 } s).answer .ok [] := by
  rw [writeProbeSet, withLength_eq (by simp [setData]), fieldWord_setData, field_bank_setData, bankOf_num, given] <;> rfl

theorem setInRange_setData {i : Ident} {bank : Bank} {q : QualSet}
    (given : givenSet (setData i bank q) = { q with count := 0 }) : setInRange (setData i bank q) = true
      ↔ (∀ a, -5000000 ≤ q.offset.get a ∧ q.offset.get a ≤ 5000000) ∧ q.radius ≤ 50000
        ∧ -1000 ≤ q.qualTemp ∧ q.qualTemp ≤ 6000 := by
  have flag : field 3 1 (setData i bank q) ≤ 1 := by
    rw [field_valid_setData]
    split <;> omega
  have axes : (∀ a, -5000000 ≤ q.offset.get a ∧ q.offset.get a ≤ 5000000)
      ↔ (-5000000 ≤ q.offset.x ∧ q.offset.x ≤ 5000000) ∧ (-5000000 ≤ q.offset.y ∧ q.offset.y ≤ 5000000)
        ∧ (-5000000 ≤ q.offset.z ∧ q.offset.z ≤ 5000000) :=
    ⟨fun h => ⟨h .x, h .y, h .z⟩, fun ⟨x, y, z⟩ a => by cases a <;> assumption⟩
  rw [axes]
  simp only [setInRange, given, flag, within, temperatureOk, decide_true, Bool.true_and, Bool.and_eq_true,
    decide_eq_true_eq, and_assoc]

theorem bankInUse_iff (i : Ident) (bank : Bank) (s : State) : bankInUse i bank s = true
    ↔ s.probes.current.ident = some i ∧ ∃ g, s.flying = some g ∧ g.kind = .probe
      ∧ (bank = s.probes.live ∨ g.bank = some bank) := by
  unfold bankInUse
  cases s.flying <;> simp

theorem State.entry_ident {s : State} {i : Ident} {e : LibEntry} (entry : s.entry i = some e) : e.ident = i := by
  simpa using List.find?_some entry

/-- Where no slot shows an ident, nothing is expelled. -/
theorem expelIdent_of_absent {i : Ident} {s : State} (absent : ∀ k, (s.probes.slots.get k).content ≠ i) :
    expelIdent i s = s := by
  unfold expelIdent
  split
  · refine foldl_invariant (P := fun t => t = s) (fun t k same => ?_) _ rfl
    subst same
    exact if_neg (absent k)
  · rfl

/-- A set in range that meets no PROBE in flight is written into its entry, or into a new one. -/
theorem writeProbeSet_written {i : Ident} {bank : Bank} {q : QualSet} {s : State}
    (given : givenSet (setData i bank q) = { q with count := 0 }) (valid : validIdent i = true)
    (inRange : setInRange (setData i bank q) = true) (idle : bankInUse i bank s = false) :
    (∀ e, s.entry i = some e → writeProbeSet (setData i bank q) s
        = (s.setProbes { s.probes with library := s.probes.library.map fun x =>
            if x.ident = i then e.withSet bank { q with count := 0 } else x }).answer .ok [])
      ∧ (s.entry i = none → writeProbeSet (setData i bank q) s = if 16 ≤ s.probes.library.length
        then s.answer .libraryFull [] else (createEntry i bank { q with count := 0 } s).answer .ok []) := by
  have writes := writeProbeSet_setData s given
  rw [if_neg (by simp [valid, inRange]), if_neg (by simp [idle])] at writes
  refine ⟨fun e entry => ?_, fun absent => ?_⟩
  · rw [writes, entry]
    dsimp only
    rw [rewriteEntry, replaceEntry, LibEntry.withSet_ident, State.entry_ident entry]
  · rw [writes, absent]

theorem createEntry_of_other {i : Ident} {s : State} (other : s.probes.current ≠ .unknown i) (bank : Bank)
    (q : QualSet) : createEntry i bank q s = s.setProbes { s.probes with library := s.probes.library
      ++ [LibEntry.withSet { ident := i, setA := emptySet, setB := emptySet } bank q] } := if_neg other

theorem createEntry_of_unknown {i : Ident} {s : State} (current : s.probes.current = .unknown i)
    (absent : ∀ k, (s.probes.slots.get k).content ≠ i) (bank : Bank) (q : QualSet) :
    createEntry i bank q s = s.setProbes { s.probes with
      library := s.probes.library ++ [LibEntry.withSet { ident := i, setA := emptySet, setB := emptySet } bank q]
      current := .known i } := (if_pos current).trans (expelIdent_of_absent absent)

theorem deleteProbe_word (i : Ident) (s : State) : deleteProbe (word i) s
    = if !validIdent i then s.answer .outOfRange []
      else if (s.entry i).isNone then s.answer .unknownProbe []
      else if identInUse i s then s.answer .busy []
      else (s.setProbes { s.probes with library := s.probes.library.filter (·.ident != i) }).answer .ok [] := by
  rw [deleteProbe, withLength_eq (length_word i), fieldWord_word]

/-! ## The pending bank (R139) -/

theorem selectBank_one (bank : Bank) (s : State) : selectBank (one bank.num) s
    = (settleBank (s.setProbes { s.probes with pendingBank := some bank })).answer .ok
        (bankReply (settleBank (s.setProbes { s.probes with pendingBank := some bank })).probes) := by
  rw [selectBank, withLength_eq (length_one _), field_one (by cases bank <;> decide), bankOf_num]

theorem settleBank_of_pending {s : State} {bank : Bank} (pending : s.probes.pendingBank = some bank) : settleBank s
    = if s.probeBusy then s else s.setProbes { s.probes with live := bank, pendingBank := none } := by
  rw [settleBank, pending]

/-- The pending bank is live. -/
def State.liveBank (bank : Bank) (s : State) : Prop := s.probes.live = bank ∧ s.probes.pendingBank = none

/-- The bank stays pending while the live one is in use. -/
def State.waitsBank (live bank : Bank) (s : State) : Prop := s.probes.live = live ∧ s.probes.pendingBank = some bank

theorem settleBank_liveBank {s : State} {bank : Bank} (pending : s.probes.pendingBank = some bank)
    (free : s.probeBusy = false) : (settleBank s).liveBank bank := by
  rw [settleBank_of_pending pending, if_neg (by simp [free])]
  exact ⟨rfl, rfl⟩

theorem settleBank_of_liveBank {s : State} {bank : Bank} (live : s.liveBank bank) : (settleBank s).liveBank bank := by
  rw [settleBank, live.2]
  exact live

theorem State.probeBusy_of_head {s : State} {g : Segment} {rest : List Segment} (host : s.motion.state ≠ .changing)
    (queue : s.motion.queue = g :: rest) (flying : g.state.flying = true) :
    s.probeBusy = (g.kind == .probe && g.state != .settling) := by
  rw [State.probeBusy, State.flying_of_head host queue flying]

/-- With no record in flight no PROBE is. -/
theorem State.probeBusy_of_still {s : State} (host : s.motion.state ≠ .changing)
    (still : ∀ x ∈ s.motion.queue, x.state.flying = false) : s.probeBusy = false := by
  have none_flying : s.flying = none := by
    rw [State.flying, State.current, if_neg host]
    cases queue : s.motion.queue with
    | nil => rfl
    | cons x more => simp [Option.filter, still x (by simp [queue])]
  rw [State.probeBusy, none_flying]

/-- While its PROBE flies the bank waits, and it is live once that one settles or is gone (R139). -/
def State.banked (live bank : Bank) (rest : List Segment) (s : State) : Prop :=
  (∃ g, s.motion.state = .running ∧ s.motion.queue = g :: rest ∧ g.kind = .probe ∧ g.state.flying = true
    ∧ (g.state ≠ .settling → s.waitsBank live bank) ∧ (g.state = .settling → s.liveBank bank))
  ∨ s.motion.state = .faulted ∧ s.motion.queue = rest ∧ s.liveBank bank

theorem State.banked.of_same {live bank : Bank} {rest : List Segment} {s t : State} (h : s.banked live bank rest)
    (same : t.motion.state = s.motion.state ∧ t.motion.queue = s.motion.queue ∧ t.probes.live = s.probes.live
      ∧ t.probes.pendingBank = s.probes.pendingBank) : t.banked live bank rest := by
  obtain ⟨state, queue, same_live, same_pending⟩ := same
  simpa only [State.banked, State.waitsBank, State.liveBank, state, queue, same_live, same_pending] using h

theorem State.banked.live_iff {live bank : Bank} {rest : List Segment} {s : State} (h : s.banked live bank rest)
    (still : ∀ x ∈ rest, x.state.flying = false) :
    (s.probeBusy = false → s.liveBank bank) ∧ (s.probeBusy = true → s.waitsBank live bank) := by
  rcases h with ⟨g, running, queue, probe, flying, waits, lives⟩ | ⟨faulted, queue, lives⟩
  · have busy := State.probeBusy_of_head (by simp [running]) queue flying
    by_cases settling : g.state = .settling
    · exact ⟨fun _ => lives settling, fun is_busy => by simp [busy, settling] at is_busy⟩
    · exact ⟨fun free => by simp [busy, probe, settling] at free, fun _ => waits settling⟩
  · have free := State.probeBusy_of_still (by simp [faulted]) (queue ▸ still)
    exact ⟨fun _ => lives, fun busy => by simp [free] at busy⟩

/-- A fault stop frees the bank, whatever was in flight (R139). -/
theorem faultStop_liveBank {live bank : Bank} {rest : List Segment} {s : State} {g : Segment} (r : FaultReason)
    (running : s.motion.state = .running) (queue : s.motion.queue = g :: rest) (flying : g.state.flying = true)
    (still : ∀ x ∈ rest, x.state.flying = false) (bank_of : s.waitsBank live bank ∨ s.liveBank bank) :
    (faultStop r s).motion.state = .faulted ∧ (faultStop r s).motion.queue = rest ∧ (faultStop r s).liveBank bank := by
  have host : s.motion.state ≠ .changing := by simp [running]
  have working : s.motion.state ≠ .faulted := by simp [running]
  have in_flight : s.flying = some g := State.flying_of_head host queue flying
  have tail : (faultStop r s).motion.queue = rest := by
    rw [faultStop_motion working]
    simp [host, in_flight, queue]
  refine ⟨faultStop_state working, tail, ?_⟩
  have halted_queue : s.halted.motion.queue = rest := by
    rw [State.halted, in_flight, if_pos (by rfl), State.dropCurrent, if_neg (by exact host)]
    exact congrArg List.tail queue
  have probes : s.changeFaulted.probes = s.probes := by
    rw [State.changeFaulted, if_neg host, (halted_leaves s).2.2]
  have changed_queue : s.changeFaulted.motion.queue = rest := by rw [State.changeFaulted, if_neg host, halted_queue]
  rw [faultStop_eq working]
  change (settleBank (s.changeFaulted.setMotion { s.changeFaulted.motion with
    state := .faulted, internal := none, stopPending := false, reference := none })).liveBank bank
  rcases bank_of with waits | lives
  · refine settleBank_liveBank (probes ▸ waits.2) (State.probeBusy_of_still (by simp) ?_)
    exact changed_queue ▸ still
  · exact settleBank_of_liveBank (by rw [State.liveBank, State.setMotion_probes, probes]; exact lives)

theorem State.banked.faultStop {live bank : Bank} {rest : List Segment} {s : State} (h : s.banked live bank rest)
    (still : ∀ x ∈ rest, x.state.flying = false) (r : FaultReason) : (faultStop r s).banked live bank rest := by
  rcases h with ⟨g, running, queue, probe, flying, waits, lives⟩ | frozen
  · refine .inr (faultStop_liveBank (live := live) r running queue flying still ?_)
    by_cases settling : g.state = .settling
    · exact .inr (lives settling)
    · exact .inl (waits settling)
  · rw [faultStop_of_faulted frozen.1]
    exact .inr frozen

/-- A drop that completes hands over a segment that does not start beside one in flight, nor while FAULTED. -/
theorem State.banked.completeDrop {live bank : Bank} {rest : List Segment} {s : State} (h : s.banked live bank rest)
    (ch : Change) : (completeDrop ch s).banked live bank rest := by
  have stays {t : State} (same : t.banked live bank rest) : (becomeCurrent t).banked live bank rest := by
    rcases same with ⟨g, running, queue, probe, flying, bank_of⟩ | frozen
    · have current : t.current = some g := State.current_of_head (by simp [running]) queue
      have here : t.banked live bank rest := .inl ⟨g, running, queue, probe, flying, bank_of⟩
      rw [becomeCurrent, if_neg (by simp [running])]
      split
      · exact here.of_same ⟨rfl, rfl, rfl, rfl⟩
      · rw [current]
        dsimp only
        rwa [if_pos flying]
    · rw [becomeCurrent_of_faulted frozen.1]
      exact .inr frozen
  unfold Machine.completeDrop beginLeaving handInternal
  dsimp only
  refine stays (h.of_same ?_)
  split <;> simp

theorem State.banked.watch {live bank : Bank} {rest : List Segment} {s : State} (h : s.banked live bank rest)
    (still : ∀ x ∈ rest, x.state.flying = false) (v : Samples) (w : Watch) :
    (watch v w s).banked live bank rest := by
  have seated : (s.reseated v.seated).banked live bank rest :=
    h.of_same ⟨rfl, rfl, rfl, rfl⟩
  rcases watch_cases v w s with same | ⟨a, -, off⟩ | ⟨r, stop⟩ | ⟨-, -, lost | raised | ⟨ch, drop | pick⟩⟩
  · rwa [same]
  · rw [off]
    exact h.of_same ⟨rfl, rfl, rfl, rfl⟩
  · rw [stop]
    exact h.faultStop still r
  · rw [lost]
    exact seated.faultStop still _
  · rw [raised]
    exact seated.of_same ⟨rfl, rfl, rfl, rfl⟩
  · rw [drop]
    have noted : (noteSeated v.seated s).banked live bank rest := h.of_same ⟨rfl, rfl, rfl, rfl⟩
    exact noted.completeDrop ch
  · rw [pick]
    exact h.of_same (by simp [noteSeated])

/-- A PROBE that enters SETTLING makes the pending bank live. -/
theorem enterSettlingAt_liveBank {s : State} {g h : Segment} {rest : List Segment} {bank : Bank} (period : Nat)
    (host : s.motion.state ≠ .changing) (queue : s.motion.queue = h :: rest)
    (pending : s.probes.pendingBank = some bank) : (enterSettlingAt period g s).liveBank bank := by
  have settled := State.setCurrent_of_head host queue { g with state := .settling, decel := none, settleSince
      := period }
  rw [enterSettlingAt, settled]
  refine settleBank_liveBank pending ?_
  rw [State.probeBusy_of_head (by exact host) rfl rfl]
  simp

/-- One period moves a PROBE on, or settles it with the pending bank live. -/
theorem banked_advance {s : State} {g : Segment} {rest : List Segment} {bank : Bank}
    (running : s.motion.state = .running)
    (queue : s.motion.queue = g :: rest) (probe : g.kind = .probe)
    (flies : g.state = .running ∨ g.state = .touched ∨ g.state = .retracting)
    (pending : s.probes.pendingBank = some bank) : (advance s).banked s.probes.live bank rest := by
  have host : s.motion.state ≠ .changing := by simp [running]
  have flying : s.flying = some g := State.flying_of_head host queue (by rcases flies with h | h | h <;> rw [h] <;> rfl)
  have moved (g' : Segment) (same : g'.kind = g.kind) (state : g'.state = .running ∨ g'.state = .touched
      ∨ g'.state = .retracting) {t : State} (motion : t.motion = { s.motion with queue := g' :: rest })
      (probes : t.probes = s.probes) : t.banked s.probes.live bank rest := by
    refine .inl ⟨g', by rw [motion]; exact running, by rw [motion], same.trans probe, ?_, fun _ => ?_, fun settling => ?_⟩
    · rcases state with h | h | h <;> rw [h] <;> rfl
    · rw [State.waitsBank, probes]
      exact ⟨rfl, pending⟩
    · rcases state with h | h | h <;> rw [h] at settling <;> simp at settling
  have settled (g' h : Segment) (same : g'.kind = g.kind) (period : Nat) {t : State}
      (t_queue : t.motion.queue = h :: rest)
      (state : t.motion.state = .running) (waits : t.probes.pendingBank = some bank) :
      (enterSettlingAt period g' t).banked s.probes.live bank rest := by
    have motion := enterSettlingAt_motion (period := period) (g := g') (by simp [state]) t_queue
    refine .inl ⟨{ g' with state := .settling, decel := none, settleSince := period }, by rw [motion]; exact state,
      by rw [motion], same.trans probe, rfl, fun moving => absurd rfl moving, fun _ => ?_⟩
    exact enterSettlingAt_liveBank period (by simp [state]) t_queue waits
  have travels (g' : Segment) (same : g'.kind = g.kind) (state : g'.state = .running ∨ g'.state = .touched
      ∨ g'.state = .retracting) (p : V3 Int) (last : Bool) : (travelOn g' p last s).banked s.probes.live bank rest := by
    obtain ⟨motion, probes⟩ := travelOn_on (g := g') p host queue
    cases last with
    | false => exact moved g' same state motion probes
    | true =>
      have sent : ((s.setCurrent g').sendSetpoints p).motion = { s.motion with queue := g' :: rest } := motion
      exact settled g' g' same _ (t := (s.setCurrent g').sendSetpoints p) (by rw [sent]) (by rw [sent]; exact running)
        (by simpa [State.sendSetpoints] using pending)
  have retracts (g' : Segment) (same : g'.kind = g.kind) (state : g'.state = .retracting) :
      (backOffPeriod g' s).banked s.probes.live bank rest := by
    rw [backOffPeriod_eq]
    refine travels _ ?_ (.inr (.inr ?_)) _ _
    · exact same
    · exact state
  rw [advance_of_running running flying]
  rcases flies with state | state | state
  · rw [state]
    dsimp only
    cases decel : g.decel with
    | none =>
      dsimp only
      rw [runPeriod_eq]
      refine travels _ ?_ (.inl ?_) _ _
      · rfl
      · exact state
    | some vel =>
      unfold stopPeriod
      dsimp only
      let slower : Segment :=
        { g with dist := min g.len (g.dist + (vel - s.cfg.accel)), decel := some (vel - s.cfg.accel) }
      have set := State.setCurrent_of_head host queue slower
      split
      · exact moved slower rfl (.inl state) (by rw [set]; rfl) (by rw [set]; rfl)
      · exact moved slower rfl (.inl state) (by rw [set]; rfl) (by rw [set]; rfl)
  · rw [state]
    dsimp only
    unfold touchedPeriod
    split
    · have set := State.setCurrent_of_head host queue { g with resent := true }
      exact moved { g with resent := true } rfl (.inr (.inl state)) (by rw [set]; rfl) (by rw [set]; rfl)
    · split
      · exact settled g g rfl _ queue running pending
      · exact retracts _ rfl rfl
  · rw [state]
    exact retracts g rfl state

/-- Settles O52: the sets and entries by their checks, and the pending bank through a period, a STOP and a fault. -/
theorem libraryAndBankCommands : Obligations.LibraryAndBankCommands := by
  intro s
  refine ⟨fun i bank q fits radius low high limit => ?_, fun i => ⟨fun invalid => ?_, fun zero unknown =>
      ⟨fun absent => ?_,
    fun present => ⟨fun used => ?_, fun other free => ?_⟩⟩⟩, fun bank => ⟨fun free => ?_, fun busy => ?_⟩,
    fun n beyond byte => ?_, fun g rest bank running queue probe flies still pending => ⟨fun v order => ?_,
    fun vel state decel slow calm => ?_, fun r => ?_⟩⟩
  · have given := givenSet_setData (i := i) (bank := bank) fits radius low high limit
    have ranges := setInRange_setData (i := i) (bank := bank) given
    have uses := bankInUse_iff i bank s
    have writes := writeProbeSet_setData s given
    refine ⟨fun outside => congrArg Host.Outcome.next ?_, fun inRange busy => congrArg Host.Outcome.next ?_,
      fun inRange idle => ⟨fun absent full => congrArg Host.Outcome.next ?_,
        fun absent room => ⟨fun other => congrArg Host.Outcome.next ?_,
          fun current unseen => congrArg Host.Outcome.next ?_⟩, fun e entry => congrArg Host.Outcome.next ?_⟩⟩
    · refine writes.trans (if_pos ?_)
      have out : ¬ (validIdent i = true ∧ setInRange (setData i bank q) = true) := by
        rw [validIdent_iff, ranges, and_assoc]
        exact outside
      rcases not_and_or.mp out with bad | bad
      · rw [Bool.eq_false_iff.mpr bad]
        rfl
      · rw [Bool.eq_false_iff.mpr bad, Bool.not_false, Bool.or_true]
    all_goals
      obtain ⟨zero, unknown, inside⟩ := inRange
      have valid : validIdent i = true := (validIdent_iff i).mpr ⟨zero, unknown⟩
      have within_range := ranges.mpr inside
    · rw [writes, if_neg (by simp [valid, within_range]), if_pos (uses.mpr busy)]
    all_goals
      have free : bankInUse i bank s = false := Bool.eq_false_iff.mpr fun used => idle (uses.mp used)
      obtain ⟨rewritten, created⟩ := writeProbeSet_written given valid within_range free
    · rw [created absent, if_pos full]
    · rw [created absent, if_neg (not_le.mpr room), createEntry_of_other other]
    · rw [created absent, if_neg (not_le.mpr room), createEntry_of_unknown current unseen]
    · exact rewritten e entry
  · refine congrArg Host.Outcome.next ((deleteProbe_word i s).trans (if_pos ?_))
    rcases invalid with rfl | rfl <;> rfl
  · have valid := (validIdent_iff i).mpr ⟨zero, unknown⟩
    refine congrArg Host.Outcome.next ((deleteProbe_word i s).trans ?_)
    rw [if_neg (by simp [valid]), if_pos (by simp [absent])]
  · have valid := (validIdent_iff i).mpr ⟨zero, unknown⟩
    refine congrArg Host.Outcome.next ((deleteProbe_word i s).trans ?_)
    rw [if_neg (by simp [valid]), if_neg (by simpa [Option.isSome_iff_ne_none] using present), if_pos]
    rcases used with current | target <;> simp [identInUse, *]
  · have valid := (validIdent_iff i).mpr ⟨zero, unknown⟩
    refine congrArg Host.Outcome.next ((deleteProbe_word i s).trans ?_)
    rw [if_neg (by simp [valid]), if_neg (by simpa [Option.isSome_iff_ne_none] using present), if_neg]
    simp [identInUse, other, free]
  · refine congrArg Host.Outcome.next ((selectBank_one bank s).trans ?_)
    have settles : settleBank (s.setProbes { s.probes with pendingBank := some bank })
        = s.setProbes { s.probes with live := bank, pendingBank := none } :=
      (settleBank_of_pending rfl).trans (if_neg (Bool.eq_false_iff.mp free))
    rw [settles]
    rfl
  · refine congrArg Host.Outcome.next ((selectBank_one bank s).trans ?_)
    have waits : settleBank (s.setProbes { s.probes with pendingBank := some bank })
        = s.setProbes { s.probes with pendingBank := some bank } := (settleBank_of_pending rfl).trans (if_pos busy)
    rw [waits]
    cases bank <;> rfl
  · refine congrArg Host.Outcome.next ?_
    rw [selectBank, withLength_eq (length_one _), field_one byte]
    match n, beyond with
    | n + 2, _ => rfl
  · refine ⟨motionPeriod v order s, rfl, State.banked.live_iff (rest := rest) ?_ still⟩
    have sampled : (s.sampledIn v).motion = s.motion ∧ (s.sampledIn v).probes = s.probes := by simp [State.sampledIn]
    obtain ⟨motion, probes⟩ := sampled
    have moved := banked_advance (s := s.sampledIn v) (bank := bank) (by rw [motion]; exact running)
      (by rw [motion]; exact queue) probe flies (by rw [probes]; exact pending)
    rw [probes] at moved
    have watched_banked : (watched v order s).banked s.probes.live bank rest :=
      foldl_invariant (fun t w tracks => tracks.watch still v w) _ moved
    exact watched_banked.of_same ⟨rfl, rfl, rfl, rfl⟩
  · refine ⟨_, congrArg Host.Outcome.next (stopDecelerationEnd_of_slow running queue state decel slow calm), ?_⟩
    refine settleBank_liveBank pending (State.probeBusy_of_still (by simp) still)
  · have flying : g.state.flying = true := by rcases flies with h | h | h <;> rw [h] <;> rfl
    exact (faultStop_liveBank r running queue flying still (.inl ⟨rfl, pending⟩)).2.2

end Sys2Proof.Machine
end

section
/-! PROOFS. RESET LINK and the end of the listening (R76, R77, R98, R99, R216): the view forgotten, and taken from the
reports. -/

namespace Sys2Proof.Machine

/-! ## RESET LINK (R76, R98, R99) -/

theorem resetLink_of_linked {s : State} (linked : s.link.state = .on ∨ s.link.state = .deaf) : resetLink [] s
    = if s.objectListed then s.answer .busy [] else (resetLinkEffect s).answer .ok [] := by
  rw [resetLink, withLength_eq List.length_nil]
  rcases linked with on | deaf
  · rw [on]
  · rw [deaf]

theorem objectListed_iff (s : State) : s.objectListed = true ↔ ∃ e ∈ s.link.list, e.frame.kind = .object := by
  simp [State.objectListed]

/-- The station as RESET LINK leaves its zone, before the report (R76). -/
def State.relinked (s : State) : State := claimAfterReset (forgetHolders (dropWindows (restartLink s)))

theorem resetLinkEffect_eq (s : State) : resetLinkEffect s
    = (dropOrphan (takeUpHeldBack s.deferred (evaluate (offerPresence s.relinked)))).setEvents s.events := rfl

theorem foldl_markUnsent_keeps (l : List SlotIx) (s : State) :
    s.sameBut (l.foldl (fun u k => markUnsent k true u) s) [.probes] := by
  refine foldl_invariant (P := fun t => s.sameBut t [.probes]) (fun t k same p outside => ?_) l
    (fun p _ => by cases p <;> rfl)
  have kept := same p outside
  cases p <;> simp [State.sameIn] at outside kept ⊢ <;> exact kept

/-- The link, the peers and the clock after RESET LINK; the zone and the station's own number stay (R98, R99). -/
theorem restartLink_restarts (s : State) : (restartLink s).zone = s.zone ∧ (restartLink s).own = s.own
    ∧ (restartLink s).link = { state := .listening, list := [], run := 0, waitIdle := true, lineOut := none,
                               listeningDue := some (s.clock + 1200) }
    ∧ (restartLink s).peers = { entries := Vec.ofFn fun _ => none, presenceDue := none, heldBack := false } := by
  have kept := foldl_markUnsent_keeps (notesIn s.link.list) s
  refine ⟨kept .zone (by simp), congrArg StationBlock.number (kept .station (by simp)), ?_, rfl⟩
  have clock : ((notesIn s.link.list).foldl (fun u k => markUnsent k true u) s).clock = s.clock := kept .clock (by simp)
  rw [← clock]
  rfl

theorem mem_notesIn {l : List TxEntry} {k : SlotIx} {c : Ident} (listed : ∃ e ∈ l, e.frame = .rackNote k c) :
    k ∈ notesIn l := by
  obtain ⟨e, mem, frame⟩ := listed
  exact List.mem_filterMap.mpr ⟨e, mem, by rw [frame]⟩

/-- The slot of every listed note is unsent (R149). -/
theorem restartLink_unsent {s : State} {k : SlotIx} (listed : k ∈ notesIn s.link.list) :
    ((restartLink s).probes.slots.get k).unsent = true := by
  refine foldl_reaches (P := fun _ => True) (Q := fun t : State => (t.probes.slots.get k).unsent = true)
    (fun _ _ _ => trivial) (fun t _ => ?_) (fun t j unsent => ?_) _ listed trivial
  · rw [markUnsent, State.get_setSlot, if_pos rfl]
  · rw [markUnsent, State.get_setSlot]
    split
    · rfl
    · exact unsent

theorem claimAfterReset_leaves_cells (s : State) (c : Cell) : (claimAfterReset s).cell c = s.cell c := by
  simp [State.cell]

/-- A cell as RESET LINK leaves it. -/
theorem relinked_cell (s : State) (c : Cell) : s.relinked.cell c = if (s.cell c).state = .held s.own
    then { s.cell c with deferral := none }
    else { s.cell c with state := .heldUnknown, lost := false, owed := none, deferral := none } := by
  obtain ⟨zone, own, -⟩ := restartLink_restarts s
  have dropped : (dropWindows (restartLink s)).cell c = { s.cell c with deferral := none } := by
    refine ((restartLink s).cell_mapCells _ c).trans ?_
    rw [State.cell_congr (s := s) (by rw [zone])]
  have number : (dropWindows (restartLink s)).own = s.own := own
  rw [State.relinked, claimAfterReset_leaves_cells, forgetHolders_cell, dropped, number]

theorem relinked_leaves (s : State) : s.relinked.own = s.own ∧ s.relinked.zone.windows = []
    ∧ s.relinked.link = (restartLink s).link ∧ s.relinked.peers = (restartLink s).peers
    ∧ s.relinked.probes = (restartLink s).probes := by
  refine ⟨?_, ?_, ?_, ?_, ?_⟩
  · simp [State.relinked, State.own, dropWindows]
  all_goals simp [State.relinked, dropWindows]

theorem relinked_claim (s : State) {c : Claim} (standing : s.relinked.zone.claim = some c) :
    c.waitingState = true := by
  rw [State.relinked, claimAfterReset] at standing
  split at standing
  · next d claim =>
    split at standing
    · next waiting =>
      rw [claim] at standing
      exact Option.some.inj standing ▸ waiting
    · rw [← Option.some.inj standing]
  · next claim =>
    rw [claim] at standing
    simp at standing

theorem relinked_claim_none {s : State} (noClaim : s.zone.claim = none) : s.relinked.zone.claim = none := by
  have before : (forgetHolders (dropWindows (restartLink s))).zone.claim = none := by
    simpa [dropWindows, (restartLink_restarts s).1] using noClaim
  rw [State.relinked, claimAfterReset, before]
  exact before

theorem relinked_heldSet (s : State) : s.relinked.heldSet = s.heldSet := by
  refine CellSet.ext_has fun c => ?_
  rw [State.has_heldSet, State.has_heldSet, relinked_cell, (relinked_leaves s).1]
  split
  · rfl
  · next apart => simp [apart]

/-- Off ON a request makes at most a WAITING claim (R56). -/
theorem requestCells_waits {cs : CellSet} {s : State} (off : s.link.state ≠ .on)
    (waits : ∀ c, s.zone.claim = some c → c.waitingState = true) :
    ∀ c, (requestCells cs s).zone.claim = some c → c.waitingState = true := by
  unfold requestCells
  split
  · exact waits
  · split
    · exact waits
    · intro c standing
      rw [← Option.some.inj standing]

theorem takeUpHeldBack_waits {before : CellSet} {s : State} (off : s.link.state ≠ .on)
    (waits : ∀ c, s.zone.claim = some c → c.waitingState = true) :
    ∀ c, (takeUpHeldBack before s).zone.claim = some c → c.waitingState = true := by
  unfold takeUpHeldBack
  split
  · split
    · exact requestCells_waits (by exact off) (by exact waits)
    · exact waits
  · exact waits

theorem dropOrphan_claim {s : State} {c : Claim} (standing : (dropOrphan s).zone.claim = some c) :
    s.zone.claim = some c := by
  unfold dropOrphan at standing
  split at standing
  · next d claim =>
    split at standing
    · simp [withdrawClaim] at standing
    · exact standing
  · exact standing

theorem takeUpHeldBack_heldSet (before : CellSet) (s : State) : (takeUpHeldBack before s).heldSet = s.heldSet := by
  unfold takeUpHeldBack
  split
  · split
    · exact requestCells_heldSet _ _
    · rfl
  · rfl

/-- Settles O41: the refusals, and the link, the view and the claim behind an accepted RESET LINK. -/
theorem resetLinkStartsListening : Obligations.ResetLinkStartsListening := by
  intro s
  refine ⟨fun early => congrArg Host.Outcome.next ?_, fun linked => ⟨fun listed => congrArg Host.Outcome.next ?_,
    fun unlisted => ?_, fun unlisted calm => ?_⟩⟩
  · rw [resetLink, withLength_eq List.length_nil]
    rcases early with silent | listening
    · rw [silent]
    · rw [listening]
  · exact (resetLink_of_linked linked).trans (if_pos ((objectListed_iff s).mpr listed))
  all_goals
    have resets : resetLink [] s = (resetLinkEffect s).answer .ok [] := by
      refine (resetLink_of_linked linked).trans (if_neg fun listed => ?_)
      obtain ⟨e, mem, object⟩ := (objectListed_iff s).mp listed
      exact unlisted e mem object
    have same := sameBut_resetLink [] s
    rw [resets] at same
    obtain ⟨own, windows, link, peers, probes⟩ := relinked_leaves s
    obtain ⟨-, -, restarted, forgotten⟩ := restartLink_restarts s
  · have state : s.relinked.link.state = .listening := by rw [link, restarted]
    refine ⟨_, congrArg Host.Outcome.next resets, same, ?_, ?_, ?_, fun c standing => ?_, rfl⟩
    · simpa [resetLinkEffect_eq] using state
    · simpa [resetLinkEffect_eq] using windows
    · have before : (takeUpHeldBack s.deferred (evaluate (offerPresence s.relinked))).heldSet = s.heldSet := by
        rw [takeUpHeldBack_heldSet, ← relinked_heldSet s]
        exact State.heldSet_congr (by simp) (by simp [State.own])
      rw [← before]
      exact State.heldSet_congr (by simp [resetLinkEffect_eq]) (by simp [resetLinkEffect_eq, State.own])
    · refine takeUpHeldBack_waits (s := evaluate (offerPresence s.relinked)) (by simp [state]) (fun d stands => ?_) c
        (dropOrphan_claim standing)
      exact relinked_claim s (by simpa using stands)
  · have listed := offerPresence_listed (s := s.relinked) (by rw [link, restarted]) (by rw [link, restarted]) windows
    have noClaim := relinked_claim_none calm.1
    have unheld : s.relinked.zone.heldBack = none := by
      have zone := (restartLink_restarts s).1
      simpa [State.relinked, dropWindows, zone] using calm.2.1
    have settled : resetLinkEffect s = (evaluate (offerPresence s.relinked)).setEvents s.events := by
      have still : takeUpHeldBack s.deferred (evaluate (offerPresence s.relinked))
          = evaluate (offerPresence s.relinked) := by
        have none_held : (evaluate (offerPresence s.relinked)).zone.heldBack = none := by simpa using unheld
        rw [takeUpHeldBack, none_held]
      have none_standing : (evaluate (offerPresence s.relinked)).zone.claim = none := by simpa using noClaim
      rw [resetLinkEffect_eq, still, dropOrphan, none_standing]
    rw [settled, listed] at resets same
    refine ⟨_, congrArg Host.Outcome.next resets, same, ?_, fun p => ?_, rfl, ?_, windows, noClaim, fun c => ?_,
      fun k => ?_, fun k c note => ?_, rfl⟩
    · have placed : { s.relinked.link with list := [TxFrame.presence.placed] }
          = { (restartLink s).link with list := [TxFrame.presence.placed] } := by rw [link]
      rw [restarted] at placed
      exact placed
    · have entries : s.relinked.peers.entries = Vec.ofFn fun _ => none := by rw [peers, forgotten]
      simp [State.peer, entries]
    · have released : s.relinked.peers.heldBack = false := by rw [peers, forgotten]
      simpa using released
    · exact (State.cell_congr (by simp) c).trans (relinked_cell s c)
    · have kept := resetLinkEffect_content s k
      rwa [settled, listed] at kept
    · have unsent := restartLink_unsent (mem_notesIn note)
      rw [← probes] at unsent
      simpa using unsent

/-! ## The end of the listening (R74, R77, R216) -/

/-- The least index that meets a condition is the one found. -/
theorem find?_finRange_of_least {n : Nat} {f : Fin n → Bool} {i : Fin n} (holds : f i = true)
    (least : ∀ j, j < i → f j = false) : (List.finRange n).find? f = some i := by
  refine List.find?_eq_some_iff_getElem.mpr ⟨holds, i.val, by simp, by simp, fun j below => ?_⟩
  simpa using least ⟨j, by omega⟩ below

/-- The link ON, at the end of the listening. -/
def State.listened (s : State) (due : Nat) : State :=
  (s.reach due).setLink { (s.reach due).link with state := .on, listeningDue := none }

theorem endListening_of_due {s : State} {due : Nat} (listening : s.link.state = .listening)
    (ends : s.link.listeningDue = some due) : endListening s = becomeActive (afterClaim
      (if (settleConflicts (settleView (s.listened due))).zone.claim.isSome
        then weighClaim (settleConflicts (settleView (s.listened due)))
        else joinClaim (settleConflicts (settleView (s.listened due))))) := by
  unfold endListening
  rw [listening, ends]
  unfold State.listened
  rfl

/-- The peer's recorded report lists the cell. -/
def State.listsCell (s : State) (p : Station) (c : Cell) : Prop :=
  ∃ e r, s.peer p = some e ∧ e.report = some r ∧ r.held.has c = true

/-- Whether a peer's recorded report lists the cell. -/
def State.lists (s : State) (c : Cell) (p : Station) : Bool :=
  match s.peer p with
  | some e => ((e.report.map fun r => r.held.has c)).getD false
  | none => false

theorem State.lists_iff (s : State) (c : Cell) (p : Station) : s.lists c p = true ↔ s.listsCell p c := by
  unfold State.lists State.listsCell
  cases s.peer p with
  | none => simp
  | some e => cases report : e.report <;> simp [report]

theorem reportedHolder_eq (s : State) (c : Cell) : s.reportedHolder c = (List.finRange 8).find? (s.lists c) := by
  unfold State.reportedHolder State.lists
  rfl

theorem reportedHolder_none {s : State} {c : Cell} (unlisted : ∀ p, ¬ s.listsCell p c) : s.reportedHolder c = none :=
  (reportedHolder_eq s c).trans (List.find?_eq_none.mpr fun p _ => mt (s.lists_iff c p).mp (unlisted p))

theorem reportedHolder_least {s : State} {c : Cell} {p : Station} (listed : s.listsCell p c)
    (least : ∀ q, q < p → ¬ s.listsCell q c) : s.reportedHolder c = some p := by
  rw [reportedHolder_eq]
  exact find?_finRange_of_least ((s.lists_iff c p).mpr listed)
    fun q below => Bool.eq_false_iff.mpr (mt (s.lists_iff c q).mp (least q below))

theorem reportedHolder_lists {s : State} {c : Cell} {p : Station} (holder : s.reportedHolder c = some p) :
    s.listsCell p c := by
  rw [reportedHolder_eq] at holder
  exact (s.lists_iff c p).mp (List.find?_some holder)

theorem settleView_cell (s : State) (c : Cell) : (settleView s).cell c = if (s.cell c).state = .heldUnknown then
      match s.reportedHolder c with
      | some p => { s.cell c with state := .held p, last := some p, lost := s.isLost p }
      | none => { s.cell c with state := .free }
    else s.cell c := State.cell_mapCells _ _ _

/-- Where no report is the station's own, the reports give it no cell. -/
theorem settleView_heldSet {s : State} (absent : s.peer s.own = none) : (settleView s).heldSet = s.heldSet := by
  refine CellSet.ext_has fun c => ?_
  have own : (settleView s).own = s.own := rfl
  rw [State.has_heldSet, State.has_heldSet, own, settleView_cell]
  split
  · next unknown =>
    rw [unknown]
    cases holder : s.reportedHolder c with
    | none => rfl
    | some p =>
      obtain ⟨e, -, entry, -⟩ := reportedHolder_lists holder
      have other : p ≠ s.own := fun same => by simp [same ▸ entry] at absent
      simp [other]
  · rfl

theorem settleConflicts_of_apart {s : State}
    (apart : ∀ p e r, s.peer p = some e → e.report = some r → s.heldSet &&& r.held = 0#20) :
    settleConflicts s = s := by
  refine foldl_invariant (P := fun t : State => t = s) (fun t p same => ?_) _ rfl
  subst same
  cases entry : t.peer p with
  | none => rfl
  | some e =>
    dsimp only
    cases report : e.report with
    | none => rfl
    | some r => exact if_pos (apart p e r entry report)

/-- The view as the reports settle it (R77). -/
def State.settledFrom (s t : State) : Prop :=
  ∀ c, ((s.cell c).state ≠ .heldUnknown → t.cell c = s.cell c)
    ∧ ((s.cell c).state = .heldUnknown → (∀ p, ¬ s.listsCell p c) →
        t.cell c = { s.cell c with state := .free })
    ∧ ∀ p, (s.cell c).state = .heldUnknown → s.listsCell p c → (∀ q, q < p → ¬ s.listsCell q c) →
        t.cell c = { s.cell c with state := .held p, last := some p, lost := s.isLost p }

theorem settledFrom_of_cells {s t : State} {due : Nat} (cells : t.zone.cells = (settleView
    (s.listened due)).zone.cells) :
    s.settledFrom t := by
  intro c
  have view : t.cell c = (settleView (s.listened due)).cell c := State.cell_congr cells c
  rw [view, settleView_cell]
  refine ⟨fun known => if_neg known, fun unknown unlisted => ?_, fun p unknown listed least => ?_⟩
  · have none_holds : (s.listened due).reportedHolder c = none := reportedHolder_none unlisted
    rw [if_pos (by exact unknown), none_holds]
    rfl
  · have holds : (s.listened due).reportedHolder c = some p := reportedHolder_least listed least
    rw [if_pos (by exact unknown), holds]
    rfl

theorem becomeActive_of_joining {s : State} (joining : s.station.state = .joining) : becomeActive s
    = raiseReady (s.setStation { s.station with state := .active }) := if_pos joining

/-- Settles O42: the view the reports give, READY, and the join claim. -/
theorem listeningEndsInOn : Obligations.ListeningEndsInOn := by
  intro due s listening ends calm absent apart
  obtain ⟨noClaim, heldBack, deferCurrent, deferHandOver⟩ := calm
  have conflicts : settleConflicts (settleView (s.listened due)) = settleView (s.listened due) := by
    refine settleConflicts_of_apart fun p e r entry report => ?_
    rw [settleView_heldSet (by exact absent)]
    exact apart p e r entry report
  have ended := endListening_of_due listening ends
  rw [conflicts] at ended
  have none_settled : (settleView (s.listened due)).zone.claim = none := noClaim
  rw [none_settled, if_neg (by simp)] at ended
  refine ⟨fun retracts => ?_, fun out joining none_held room => ?_⟩
  · have unjoined : joinClaim (settleView (s.listened due)) = settleView (s.listened due) := by
      refine if_neg fun due_join => ?_
      obtain ⟨joining, armOut, -⟩ := due_join
      rcases retracts with inside | other
      · have still_inside : (settleView (s.listened due)).axes.retracted = true := inside
        exact absurd armOut (by rw [still_inside]; decide)
      · exact other joining
    rw [unjoined, afterClaim_of_settled (s := settleView (s.listened due)) 
      (fun c standing => absurd (none_settled.symm.trans standing) (by simp)) deferCurrent deferHandOver] at ended
    refine ⟨_, congrArg Host.Outcome.next ended, fun q outside => ?_, ?_, settledFrom_of_cells (due := due) ?_, ?_,
      fun joining => ?_, fun other => ?_⟩
    · unfold becomeActive
      split <;> cases q <;> simp [State.sameIn] at outside ⊢ <;> rfl
    · unfold becomeActive
      split <;> rfl
    · unfold becomeActive
      split <;> rfl
    · unfold becomeActive
      split <;> rfl
    · rw [becomeActive_of_joining (by exact joining)]
      exact ⟨rfl, rfl⟩
    · rw [becomeActive, if_neg (by exact other)]
      exact ⟨rfl, rfl⟩
  · have all_cells : CellSet.all.minus (settleView (s.listened due)).heldSet = CellSet.all := by
      rw [settleView_heldSet (by exact absent)]
      have same : (s.listened due).heldSet = 0#20 := none_held
      rw [same]
      decide
    have joins : joinClaim (settleView (s.listened due))
        = sendClaim (newClaim .join CellSet.all (settleView (s.listened due))) (settleView (s.listened due)) := by
      have isOut : (settleView (s.listened due)).axes.retracted = false := out
      rw [joinClaim, all_cells, if_pos ⟨joining, by rw [isOut]; rfl, none_settled, by decide⟩]
    have sent := sendClaim_placed (c := newClaim .join CellSet.all (settleView (s.listened due)))
      (s := settleView (s.listened due)) (fun silent => by cases silent) room
    have follows : afterClaim (sendClaim (newClaim .join CellSet.all (settleView (s.listened due)))
        (settleView (s.listened due))) = sendClaim (newClaim .join CellSet.all (settleView (s.listened due)))
          (settleView (s.listened due)) := by
      rw [sent]
      refine afterClaim_of_settled (fun c standing => .inl ?_) deferCurrent deferHandOver
      rw [← Option.some.inj standing]
      rfl
    rw [joins, follows, sent, becomeActive_of_joining (by exact joining)] at ended
    refine ⟨_, _, congrArg Host.Outcome.next ended, rfl, settledFrom_of_cells (due
        := due) rfl, rfl, rfl, rfl, rfl, rfl, ?_⟩
    exact mem_insertTx.mpr (.inl rfl)

end Sys2Proof.Machine
end

section
/-! PROOFS. The way to DEAF (R75, R85, R86, R88, R92, R93): what the entry leaves of the list, the view, the claim and the
events, and the errors and duplicate stations that lead to it. -/

namespace Sys2Proof.Machine

/-! ## The entry to DEAF, stage by stage -/

/-- The link DEAF with LINK FAULT raised, before its OBJECTs follow (R93). -/
def State.deafened (r : LinkReason) (k : Option FrameKind) (s : State) : State :=
  (raiseLinkFault r k s).setLink { s.link with
    state := .deaf, list := s.link.list.filter fun e => !e.frame.deafDrops, listeningDue := none }

/-- Each OBJECT makes its zone conflict (R58). -/
def conflictsRaised (objects : List (Station × CellSet)) (s : State) : State :=
  objects.foldl (fun t o => zoneConflict o.1 o.2 t) s

theorem enterDeaf_eq (r : LinkReason) (k : Option FrameKind) (s : State) : enterDeaf r k s
    = releaseReport (claimingToWaiting (forgetHolders (conflictsRaised (objectsIn s.link.list) (s.deafened r k)))) :=
  rfl

theorem conflictsRaised_leaves (objects : List (Station × CellSet)) (s : State) :
    (conflictsRaised objects s).zone.cells = s.zone.cells ∧ (conflictsRaised objects s).zone.claim = s.zone.claim
      ∧ (conflictsRaised objects s).link = s.link ∧ (conflictsRaised objects s).station = s.station
      ∧ (conflictsRaised objects s).peers = s.peers := by
  refine foldl_invariant (P := fun t : State => t.zone.cells = s.zone.cells ∧ t.zone.claim = s.zone.claim
    ∧ t.link = s.link ∧ t.station = s.station ∧ t.peers = s.peers) (fun t o same => ?_) _ ⟨rfl, rfl, rfl, rfl, rfl⟩
  simpa using same

theorem zoneConflict_kept (p : Station) (cs : CellSet) (s : State) :
    (zoneConflict p cs s).events.kept.zoneWait = s.events.kept.zoneWait
      ∧ (zoneConflict p cs s).events.kept.linkFault = s.events.kept.linkFault := by
  obtain ⟨m, c, kept⟩ := faultStop_kept .zoneConflict (raiseZoneConflict p cs s)
  rw [zoneConflict, kept]
  exact ⟨rfl, rfl⟩

/-- The conflicts keep ZONE WAIT and LINK FAULT with their data. -/
theorem conflictsRaised_events (objects : List (Station × CellSet)) (s : State) :
    (s.events.pends .zoneWait = true → (conflictsRaised objects s).events.pends .zoneWait = true)
      ∧ (conflictsRaised objects s).events.kept.zoneWait = s.events.kept.zoneWait
      ∧ (conflictsRaised objects s).events.kept.linkFault = s.events.kept.linkFault := by
  refine foldl_invariant (P := fun t : State =>
    (s.events.pends .zoneWait = true → t.events.pends .zoneWait = true)
      ∧ t.events.kept.zoneWait = s.events.kept.zoneWait ∧ t.events.kept.linkFault = s.events.kept.linkFault)
    (fun t o same => ?_) _ ⟨id, rfl, rfl⟩
  obtain ⟨pends, wait, fault⟩ := same
  obtain ⟨kept_wait, kept_fault⟩ := zoneConflict_kept o.1 o.2 t
  exact ⟨fun h => by simp [pends h], kept_wait.trans wait, kept_fault.trans fault⟩

/-- The view shows HELD-UNKNOWN what the station does not hold (R75). -/
def State.forgotTo (s t : State) : Prop := ∀ c, t.cell c = if (s.cell c).state = .held s.own then s.cell c
  else { s.cell c with state := .heldUnknown, lost := false, owed := none }

theorem State.forgotTo.heldSet {s t : State} (h : s.forgotTo t) (own : t.own = s.own) : t.heldSet = s.heldSet := by
  refine CellSet.ext_has fun c => ?_
  rw [State.has_heldSet, State.has_heldSet, h c, own]
  split
  · rfl
  · next apart => simp [apart]

theorem forgetHolders_forgotTo {s t : State} (cells : t.zone.cells = s.zone.cells) (own : t.own = s.own) :
    s.forgotTo (forgetHolders t) := by
  intro c
  rw [forgetHolders_cell, State.cell_congr cells, own]

/-- A forgotten view shows nothing CLAIMED, so a claim takes back nothing. -/
theorem takeBackClaim_of_forgotten {s t : State} (h : s.forgotTo t) (c : Claim) (k : Cell) :
    (takeBackClaim c t).cell k = t.cell k := by
  unfold takeBackClaim
  split
  · rw [takeBack_cell, if_neg]
    rw [h k]
    split
    · next own => simp [own]
    · simp
  · rfl

/-- What the entry to DEAF leaves of the list: no OBJECT, CLAIM or WAIT (R93). -/
theorem deafDrops_iff (f : TxFrame) :
    f.deafDrops = true ↔ f.kind = .object ∨ f.kind = .claim ∨ f.kind = .wait := by
  cases f <;> simp [TxFrame.deafDrops, TxFrame.kind]

theorem mem_releaseReport {s : State} {e : TxEntry} (listed : e ∈ (releaseReport s).link.list) :
    e ∈ s.link.list ∨ e = TxFrame.presence.placed := by
  have offered {t : State} (mem : e ∈ (offerPresence t).link.list) : e ∈ t.link.list ∨ e = TxFrame.presence.placed := by
    by_cases holds : t.holdsReports = true
    · rw [offerPresence_of_held holds] at mem
      exact .inl mem
    · rw [offerPresence_free (Bool.eq_false_iff.mpr holds), offer] at mem
      dsimp only at mem
      split at mem
      · exact .inl mem
      · simp only [TxFrame.kind] at mem
        split at mem
        · simp_all
        · simp_all
        · rcases mem_insertTx.mp mem with new | old
          · exact .inr new
          · exact .inl (List.mem_of_mem_filter old)
        · unfold placeFrame at mem
          split at mem
          · exact (mem_insertTx.mp mem).symm
          · exact .inl mem
  unfold releaseReport at listed
  split at listed
  · have from_offer := offered listed
    exact from_offer
  · exact .inl listed

/-- An offered report keeps the data of every event but LINK FAULT. -/
theorem releaseReport_kept (s : State) :
    ∃ x, (releaseReport s).events.kept = { s.events.kept with linkFault := x } := by
  have offered (t : State) : ∃ x, (offerPresence t).events.kept = { t.events.kept with linkFault := x } := by
    obtain ⟨x, kept⟩ := offer_kept .presence t
    unfold offerPresence
    split
    · exact ⟨_, rfl⟩
    · split
      all_goals
        next u offer_eq =>
        rw [offer_eq] at kept
        exact ⟨x, by simpa using kept⟩
  unfold releaseReport
  split
  · exact offered _
  · exact ⟨_, rfl⟩

theorem claimingToWaiting_none {s : State} (noClaim : s.zone.claim = none) : claimingToWaiting s = s := by
  rw [claimingToWaiting, noClaim]

theorem claimingToWaiting_waiting {s : State} {c : Claim} (claim : s.zone.claim = some c)
    (waits : c.waitingState = true) :
    claimingToWaiting s = s := by
  rw [claimingToWaiting, claim]
  exact if_pos waits

theorem claimingToWaiting_claiming {s : State} {c : Claim} (claim : s.zone.claim = some c)
    (claiming : c.waitingState = false) : claimingToWaiting s = claimToWaiting c.cells s := by
  rw [claimingToWaiting, claim]
  exact if_neg (by simp [claiming])

/-- In DEAF no WAIT is offered. -/
theorem offerWait_deaf {cs : CellSet} {s : State} (deaf : s.link.state = .deaf) : offerWait cs s = s :=
  if_neg (by simp [deaf])

/-- The claim's part of the entry to DEAF: a CLAIMING claim waits for its whole cell set (R75), a WAITING one stays. -/
structure State.claimForgot (s t : State) : Prop where
  none_stands : s.zone.claim = none → t.zone.claim = none
  waiting : ∀ c, s.zone.claim = some c → c.waitingState = true → t.zone.claim = some c
  claiming : ∀ c, s.zone.claim = some c → c.waitingState = false →
    (∃ b, t.zone.claim = some { c with waitingState := true, waiting := c.cells, timeout := b })
      ∧ t.isPending .zoneWait ∧ t.events.kept.zoneWait = some c.cells

/-- The claim's part keeps the link and the forgotten view. -/
theorem claimingToWaiting_forgot {s v : State} (forgot : s.forgotTo v) (claim : v.zone.claim = s.zone.claim)
    (deaf : v.link.state = .deaf) : s.forgotTo (claimingToWaiting v) ∧ (claimingToWaiting v).link = v.link
      ∧ s.claimForgot (claimingToWaiting v) := by
  cases standing : s.zone.claim with
  | none =>
    rw [claimingToWaiting_none (claim.trans standing)]
    exact ⟨forgot, rfl, ⟨fun _ => claim.trans standing, fun c some_claim => absurd (standing.symm.trans some_claim)
        (by simp),
      fun c some_claim => absurd (standing.symm.trans some_claim) (by simp)⟩⟩
  | some c =>
    have same {d : Claim} (stands : s.zone.claim = some d) : d = c := Option.some.inj (stands.symm.trans standing)
    cases waits : c.waitingState with
    | true =>
      rw [claimingToWaiting_waiting (claim.trans standing) waits]
      refine ⟨forgot, rfl, ⟨fun none_claim => absurd (standing.symm.trans none_claim) (by simp), fun d stands _ => ?_,
        fun d stands claiming => ?_⟩⟩
      · exact claim.trans stands
      · rw [same stands, waits] at claiming
        cases claiming
    | false =>
      rw [claimingToWaiting_claiming (claim.trans standing) waits]
      obtain ⟨waiting, cells, link, pends, data⟩ := claimToWaiting_spec (cs := c.cells) (claim.trans standing)
      refine ⟨fun k => ?_, ?_, ⟨fun none_claim => absurd (standing.symm.trans none_claim) (by simp),
        fun d stands waiting => ?_, fun d stands _ => ?_⟩⟩
      · rw [State.cell_congr cells, takeBackClaim_of_forgotten forgot, forgot k]
      · rw [link, offerWait_deaf deaf]
      · rw [same stands, waits] at waiting
        cases waiting
      · rw [same stands]
        exact ⟨waiting, pends, data⟩

/-- What the entry to DEAF leaves of the link, the view and the claim (R75, R93). -/
theorem enterDeaf_spec (r : LinkReason) (k : Option FrameKind) (s : State) :
    (enterDeaf r k s).link.state = .deaf ∧ s.forgotTo (enterDeaf r k s)
      ∧ (∀ e ∈ (enterDeaf r k s).link.list, e.frame.kind ≠ .object ∧ e.frame.kind ≠ .claim ∧ e.frame.kind ≠ .wait)
      ∧ s.claimForgot (enterDeaf r k s) := by
  obtain ⟨cells, claim, link, station, -⟩ := conflictsRaised_leaves (objectsIn s.link.list) (s.deafened r k)
  have forgot := forgetHolders_forgotTo (s := s) cells (congrArg StationBlock.number station)
  have deaf : (forgetHolders (conflictsRaised (objectsIn s.link.list) (s.deafened r k))).link.state = .deaf := by
    rw [show (forgetHolders _).link = _ from link]
    rfl
  obtain ⟨view, same_link, waits⟩ := claimingToWaiting_forgot forgot (by exact claim) deaf
  rw [enterDeaf_eq]
  generalize claimingToWaiting (forgetHolders (conflictsRaised (objectsIn s.link.list) (s.deafened r k))) = w at *
  have list : w.link.list = s.link.list.filter fun e => !e.frame.deafDrops :=
    congrArg Link.list (same_link.trans link)
  have zone : (releaseReport w).zone = w.zone := by simp
  obtain ⟨x, kept⟩ := releaseReport_kept w
  have state : (releaseReport w).link.state = w.link.state := by simp
  refine ⟨by rw [state, same_link, deaf], fun c => ?_, fun e listed => ?_,
      ⟨fun none_claim => ?_, fun c stands waiting => ?_,
    fun c stands claiming => ?_⟩⟩
  · rw [← view c]
    exact State.cell_congr (by rw [zone]) c
  · rcases mem_releaseReport listed with old | new
    · rw [list] at old
      have stays := (List.mem_filter.mp old).2
      simpa [deafDrops_iff, Bool.eq_false_iff, not_or] using stays
    · rw [new]
      simp [TxFrame.placed, TxFrame.kind]
  · rw [zone, waits.none_stands none_claim]
  · rw [zone, waits.waiting c stands waiting]
  · obtain ⟨record, pends, data⟩ := waits.claiming c stands claiming
    refine ⟨by rw [zone]; exact record, ?_, by rw [kept]; exact data⟩
    rw [State.isPending_iff] at pends ⊢
    exact releaseReport_pends _ pends

/-! ## OBJECTs in the list at the entry (R58) -/

/-- A zone conflict stands, with its fault stop. -/
def State.inConflict (p : Station) (cs : CellSet) (t : State) : Prop := t.motion.state = .faulted
  ∧ t.isPending .zoneConflict ∧ t.events.kept.zoneConflict = some (p, cs)
  ∧ ∃ tag, t.events.kept.motionFault = some (.zoneConflict, tag)

theorem zoneConflict_inConflict {p : Station} {cs : CellSet} {s : State}
    (reason : s.motion.state = .faulted → ∃ tag, s.events.kept.motionFault = some (.zoneConflict, tag)) :
    (zoneConflict p cs s).inConflict p cs := by
  obtain ⟨faulted, pends, data, -, first⟩ := zoneConflict_spec p cs s
  refine ⟨faulted, pends, data, ?_⟩
  by_cases already : s.motion.state = .faulted
  · obtain ⟨tag, kept⟩ := reason already
    refine ⟨tag, ?_⟩
    rw [zoneConflict, faultStop_of_faulted (by exact already)]
    exact kept
  · exact first already

/-- Of several OBJECTs the last is the one kept (log 50). -/
theorem conflictsRaised_last {before : List (Station × CellSet)} {p : Station} {cs : CellSet} {s : State}
    (working : s.motion.state ≠ .faulted) : (conflictsRaised (before ++ [(p, cs)]) s).inConflict p cs := by
  have earlier := foldl_invariant (P := fun t : State =>
      t.motion.state = .faulted → ∃ tag, t.events.kept.motionFault = some (.zoneConflict, tag))
    (f := fun t o => zoneConflict o.1 o.2 t) (fun t o reason _ => (zoneConflict_inConflict reason).2.2.2) before
    (b := s) (fun faulted => absurd faulted working)
  rw [conflictsRaised, List.foldl_append]
  exact zoneConflict_inConflict earlier

theorem State.inConflict.of_kept {p : Station} {cs : CellSet} {s t : State} (h : s.inConflict p cs)
    (motion : t.motion.state = s.motion.state) (pends : s.isPending .zoneConflict → t.isPending .zoneConflict)
    (kept : ∃ x, t.events.kept = { s.events.kept with linkFault := x }) : t.inConflict p cs := by
  obtain ⟨faulted, pending, data, reason⟩ := h
  obtain ⟨x, same⟩ := kept
  exact ⟨motion.trans faulted, pends pending, by rw [same]; exact data, by rw [same]; exact reason⟩

theorem objectsIn_last {pre post : List TxEntry} {e : TxEntry} {p : Station} {n : Byte} {cs : CellSet}
    (frame : e.frame = .object p n cs) (none_behind : ∀ x ∈ post, x.frame.kind ≠ .object) :
    objectsIn (pre ++ e :: post) = objectsIn pre ++ [(p, cs)] := by
  have behind : objectsIn post = [] := by
    refine List.filterMap_eq_nil_iff.mpr fun x member => ?_
    have other := none_behind x member
    cases kind : x.frame <;> simp_all [TxFrame.kind]
  rw [objectsIn, List.filterMap_append, List.filterMap_cons, frame]
  exact congrArg (fun l => objectsIn pre ++ (p, cs) :: l) behind

theorem objectsIn_nil {l : List TxEntry} (none_listed : ∀ x ∈ l, x.frame.kind ≠ .object) : objectsIn l = [] := by
  refine List.filterMap_eq_nil_iff.mpr fun x member => ?_
  have other := none_listed x member
  cases kind : x.frame <;> simp_all [TxFrame.kind]

/-- With no claim standing the conflicts of the entry stay to its end. -/
theorem enterDeaf_inConflict {r : LinkReason} {k : Option FrameKind} {s : State} {p : Station} {cs : CellSet}
    (noClaim : s.zone.claim = none)
    (conflict : (conflictsRaised (objectsIn s.link.list) (s.deafened r k)).inConflict p cs) :
    (enterDeaf r k s).inConflict p cs := by
  have none_left : (forgetHolders (conflictsRaised (objectsIn s.link.list) (s.deafened r k))).zone.claim = none :=
    (conflictsRaised_leaves (objectsIn s.link.list) (s.deafened r k)).2.1.trans noClaim
  rw [enterDeaf_eq, claimingToWaiting_none none_left]
  obtain ⟨x, kept⟩ := releaseReport_kept (forgetHolders (conflictsRaised (objectsIn s.link.list) (s.deafened r k)))
  refine conflict.of_kept (by simp) (fun pends => ?_) ⟨x, by rw [kept]; rfl⟩
  rw [State.isPending_iff] at pends ⊢
  exact releaseReport_pends _ (by exact pends)

/-! ## The events behind a dropped frame -/

/-- With room in the list a held-back report raises nothing. -/
theorem releaseReport_events_of_room {s : State} (room : s.link.list.length < 8) :
    (releaseReport s).events = s.events := by
  have offered (t : State) (free : t.link.list.length < 8) : (offerPresence t).events = t.events := by
    have same := offer_events_of_room (f := .presence) free
    unfold offerPresence
    split
    · rfl
    · split
      all_goals
        next u offer_eq =>
        rw [offer_eq] at same
        simpa using same
  unfold releaseReport
  split
  · exact offered _ room
  · rfl

/-- With no claim standing and room in the list the entry's LINK FAULT stays. -/
theorem enterDeaf_linkFault {r : LinkReason} {k : Option FrameKind} {s : State} (noClaim : s.zone.claim = none)
    (room : s.link.list.length < 8) : (enterDeaf r k s).events.kept.linkFault = some (r, k) := by
  obtain ⟨-, claim, link, -, -⟩ := conflictsRaised_leaves (objectsIn s.link.list) (s.deafened r k)
  obtain ⟨-, -, fault⟩ := conflictsRaised_events (objectsIn s.link.list) (s.deafened r k)
  have few : (forgetHolders (conflictsRaised (objectsIn s.link.list) (s.deafened r k))).link.list.length < 8 := by
    have list : (forgetHolders (conflictsRaised (objectsIn s.link.list) (s.deafened r k))).link.list
        = s.link.list.filter fun e => !e.frame.deafDrops := congrArg Link.list link
    rw [list]
    exact lt_of_le_of_lt (List.length_filter_le _ _) room
  rw [enterDeaf_eq, claimingToWaiting_none (s := forgetHolders _)
      (claim.trans noClaim), releaseReport_events_of_room few]
  exact fault

/-- The entry with a WAITING claim keeps its ZONE WAIT, and raises LINK FAULT last. -/
theorem enterDeaf_of_waiting {r : LinkReason} {k : Option FrameKind} {s : State} {c : Claim}
    (claim : s.zone.claim = some c) (waits : c.waitingState = true) (heldBack : s.peers.heldBack = false) :
    (s.isPending .zoneWait → (enterDeaf r k s).isPending .zoneWait)
      ∧ (enterDeaf r k s).events.kept.zoneWait = s.events.kept.zoneWait
      ∧ (enterDeaf r k s).events.kept.linkFault = some (r, k) := by
  obtain ⟨-, same_claim, -, -, peers⟩ := conflictsRaised_leaves (objectsIn s.link.list) (s.deafened r k)
  obtain ⟨pends, wait, fault⟩ := conflictsRaised_events (objectsIn s.link.list) (s.deafened r k)
  have entered : enterDeaf r k s = forgetHolders (conflictsRaised (objectsIn s.link.list) (s.deafened r k)) := by
    rw [enterDeaf_eq, claimingToWaiting_waiting (s := forgetHolders _) (same_claim.trans claim) waits]
    refine if_neg fun held => ?_
    have released : (conflictsRaised (objectsIn s.link.list) (s.deafened r k)).peers.heldBack = false :=
      (congrArg PeerTable.heldBack peers).trans heldBack
    exact absurd (released.symm.trans held) (by simp)
  rw [entered]
  refine ⟨fun pending => ?_, wait, fault⟩
  rw [State.isPending_iff] at pending ⊢
  exact pends (by simp [State.deafened, pending])

/-! ## The entry with nothing to follow -/

/-- The link went DEAF with this list left, and the view forgot what the station does not hold. -/
def State.wentDeaf (s t : State) (r : LinkReason) (k : Option FrameKind) (list : List TxEntry) : Prop :=
  s.sameBut t [.zone, .link, .events] ∧ t.link.state = .deaf
    ∧ t.link.list = list.filter (fun e => e.frame.kind != .claim && e.frame.kind != .wait)
    ∧ s.forgotTo t
    ∧ t.events = { s.events with pending := s.events.pending ||| EventKind.bit .linkFault
                                 kept := { s.events.kept with linkFault := some (r, k) } }

theorem enterDeaf_calm {r : LinkReason} {k : Option FrameKind} {s : State} (noClaim : s.zone.claim = none)
    (heldBack : s.peers.heldBack = false) (unlisted : ∀ e ∈ s.link.list, e.frame.kind ≠ .object) :
    enterDeaf r k s = forgetHolders (s.deafened r k) := by
  rw [enterDeaf_eq, objectsIn_nil unlisted, claimingToWaiting_none (by exact noClaim), releaseReport]
  exact if_neg fun held => absurd (heldBack.symm.trans held) (by simp)

theorem deafDrops_unlisted {l : List TxEntry} (unlisted : ∀ e ∈ l, e.frame.kind ≠ .object) :
    l.filter (fun e => !e.frame.deafDrops) = l.filter fun e => e.frame.kind != .claim && e.frame.kind != .wait := by
  refine List.filter_congr fun e member => ?_
  have other := unlisted e member
  cases frame : e.frame <;> simp_all [TxFrame.deafDrops, TxFrame.kind]

theorem enterDeaf_wentDeaf {r : LinkReason} {k : Option FrameKind} {s w : State} (same : s.sameBut w [.link])
    (noClaim : s.zone.claim = none) (heldBack : s.peers.heldBack = false)
    (unlisted : ∀ e ∈ w.link.list, e.frame.kind ≠ .object) :
    s.wentDeaf (enterDeaf r k w) r k w.link.list ∧ (enterDeaf r k w).link.run = w.link.run := by
  have zone : w.zone = s.zone := same .zone (by simp)
  have peers : w.peers = s.peers := same .peers (by simp)
  have events : w.events = s.events := same .events (by simp)
  have own : w.own = s.own := congrArg StationBlock.number (same .station (by simp))
  rw [enterDeaf_calm (by rw [zone, noClaim]) (by rw [peers, heldBack]) unlisted]
  refine ⟨⟨fun q outside => ?_, rfl, deafDrops_unlisted unlisted,
    forgetHolders_forgotTo (t := w.deafened r k) (congrArg Zone.cells zone) own, ?_⟩, rfl⟩
  · have kept := same q (by simp at outside ⊢; exact outside.2.1)
    cases q <;> simp at outside <;> exact kept
  · rw [← events]
    rfl

theorem State.wentDeaf.awaitIdle {s t : State} {r : LinkReason} {k : Option FrameKind} {list : List TxEntry}
    (h : s.wentDeaf t r k list) : s.wentDeaf (awaitIdle t) r k list := by
  obtain ⟨same, deaf, left, view, events⟩ := h
  refine ⟨fun q outside => ?_, deaf, left, view, events⟩
  have kept := same q outside
  cases q <;> simp at outside <;> exact kept

theorem countError_of_few {s : State} (few : s.link.run < 7) :
    countError s = s.setLink { s.link with run := s.link.run + 1 } := if_neg (by omega)

theorem countError_eighth {s : State} (seven : s.link.run = 7) :
    countError s = enterDeaf .deaf none (s.setLink { s.link with run := 8 }) := by
  rw [countError, seven]
  exact if_pos (by omega)

theorem earlySpoil_receiver {own : Bool} {s : State} (frames : s.frames = true) (idle : s.sendingEntry = none) :
    earlySpoil own s = afterClaim (awaitIdle (if own && s.judges then countError s else s)) := by
  rw [earlySpoil, if_neg (by simp [idle]), if_pos frames]

theorem duplicateFrame_receiver {k : FrameKind} {s : State} (frames : s.frames = true) (judges : s.judges = true)
    (idle : s.sendingEntry = none) :
    duplicateFrame k s = afterClaim (enterDeaf .duplicateStation (some k) s) :=
  if_pos (by simp [frames, judges, idle])

theorem duplicateMismatch_sending {s : State} {pre post : List TxEntry} {e : TxEntry}
    (h : sendingAt s.link.list pre e post) : duplicateMismatch s = afterClaim (enterDeaf .duplicateStation
      (some e.frame.kind) (ownerTold e.frame (awaitIdle (s.setLink { s.link with
        list := pre ++ post, lineOut := none })))) := by
  rw [duplicateMismatch, h.entry]
  dsimp only
  rw [removeSending_of_sendingAt h]

/-- The frame being sent dropped from the list, the station waiting for idle. -/
def State.unsending (s : State) (list : List TxEntry) : State :=
  awaitIdle (s.setLink { s.link with list := list, lineOut := none })

theorem unsending_sameBut (s : State) (list : List TxEntry) : s.sameBut (s.unsending list) [.link] := by
  intro q outside
  cases q <;> simp at outside <;> rfl

/-- A calm station follows nothing behind the entry to DEAF. -/
theorem afterClaim_of_wentDeaf {s t : State} {r : LinkReason} {k : Option FrameKind} {list : List TxEntry}
    (calm : s.calm) (h : s.wentDeaf t r k list) (noClaim : t.zone.claim = none) : afterClaim t = t := by
  have motion : t.motion = s.motion := h.1 .motion (by simp)
  exact afterClaim_of_settled (by simp [noClaim]) (by rw [motion, calm.2.2.1]) (by rw [motion, calm.2.2.2])

/-! ## What the entry shows behind every way to it -/

/-- The link DEAF with what it keeps of its list, and the view of a station that hears no one. -/
def State.deafView (s t : State) : Prop := t.link.state = .deaf ∧ t.heldSet = s.heldSet
  ∧ (∀ e ∈ t.link.list, e.frame.kind ≠ .object ∧ e.frame.kind ≠ .claim ∧ e.frame.kind ≠ .wait) ∧ s.forgotTo t

theorem enterDeaf_deafView {r : LinkReason} {k : Option FrameKind} {s w : State}
    (cells : w.zone.cells = s.zone.cells) (own : w.own = s.own) : s.deafView (enterDeaf r k w) := by
  obtain ⟨deaf, view, list, -⟩ := enterDeaf_spec r k w
  have from_s : s.forgotTo (enterDeaf r k w) := fun c => by rw [view c, State.cell_congr cells, own]
  have same_own : (enterDeaf r k w).own = s.own := by simpa [State.own] using own
  exact ⟨deaf, from_s.heldSet same_own, list, from_s⟩

theorem State.deafView.of_same {s t u : State} (h : s.deafView t) (same : t.sameBut u [.link])
    (state : u.link.state = t.link.state) (list : u.link.list = t.link.list) : s.deafView u := by
  obtain ⟨deaf, held, left, view⟩ := h
  have zone : u.zone = t.zone := same .zone (by simp)
  have own : u.own = t.own := congrArg StationBlock.number (same .station (by simp))
  refine ⟨state.trans deaf, (State.heldSet_congr (by rw [zone]) own).trans held, list ▸ left, fun c => ?_⟩
  rw [← view c]
  exact State.cell_congr (by rw [zone]) c

theorem State.inConflict.of_same {p : Station} {cs : CellSet} {s t : State} (h : s.inConflict p cs)
    (same : s.sameBut t [.link]) : t.inConflict p cs := by
  have events : t.events = s.events := same .events (by simp)
  refine h.of_kept (congrArg Motion.state (same .motion (by simp))) (fun pends => ?_)
    ⟨s.events.kept.linkFault, by rw [events]⟩
  rw [State.isPending, events]
  exact pends

theorem unsending_awaits (s : State) : s.sameBut (awaitIdle s) [.link] := by
  intro q outside
  cases q <;> simp at outside <;> rfl

/-- A second station's frame, and the eighth error of its own, take a receiver to DEAF (R86, R92). -/
theorem deafCommand_runs {c : Instr} {s : State}
    (leads : (∃ k, c = .duplicateStationFrame k) ∨ c = .earlySpoil true ∧ s.link.run = 7) (frames : s.frames = true)
    (judges : s.judges = true) (idle : s.sendingEntry = none) :
    ∃ r k w, s.sameBut w [.link] ∧ w.link.list = s.link.list
      ∧ (exec c s = .next (afterClaim (enterDeaf r k w)) ∨ exec c s = .next (afterClaim (awaitIdle
          (enterDeaf r k w)))) := by
  rcases leads with ⟨k, rfl⟩ | ⟨rfl, seven⟩
  · exact ⟨_, _, s, fun q _ => by cases q <;> rfl, rfl,
      .inl (congrArg Host.Outcome.next (duplicateFrame_receiver frames judges idle))⟩
  · refine ⟨.deaf, none, s.setLink { s.link with run := 8 }, fun q outside => ?_, rfl, .inr ?_⟩
    · cases q <;> simp at outside <;> rfl
    · refine congrArg Host.Outcome.next ((earlySpoil_receiver frames idle).trans ?_)
      rw [judges, Bool.and_self, if_pos rfl, countError_eighth seven]

/-- Settles O40, its first half by the calm entry, its second by what the entry makes of a claim and of OBJECTs. -/
theorem receptionErrorsLeadToDeaf : Obligations.ReceptionErrorsLeadToDeaf := by
  refine ⟨fun s calm heldBack unlisted => ?_, fun s deferCurrent deferHandOver => ?_⟩
  · have none_deaf (r : LinkReason) (k : Option FrameKind) {w : State} (claim : w.zone.claim = none) :
        (enterDeaf r k w).zone.claim = none := (enterDeaf_spec r k w).2.2.2.none_stands claim
    have settled {t : State} (zone : t.zone.claim = none) (motion : t.motion = s.motion) : afterClaim t = t :=
      afterClaim_of_settled (by simp [zone]) (by rw [motion, calm.2.2.1]) (by rw [motion, calm.2.2.2])
    refine ⟨fun frames judges idle => ⟨fun few => ⟨?_, fun rx byOther bad other => ?_⟩, fun seven => ?_, ?_, fun k => ?_⟩,
      fun e pre post list sending others => ?_⟩
    · refine congrArg Host.Outcome.next ((earlySpoil_receiver frames idle).trans ?_)
      rw [judges, Bool.and_self, if_pos rfl, countError_of_few few]
      exact settled calm.1 rfl
    · have counts : frameSpoiled rx s = afterClaim (countError s) := by
        rw [frameSpoiled, if_neg (by simp [idle]), if_pos (by simp [frames, judges]), if_neg other, if_pos bad]
      refine congrArg Host.Outcome.next (counts.trans ?_)
      rw [countError_of_few few]
      exact settled calm.1 rfl
    · have counted : s.sameBut (s.setLink { s.link with run := 8 }) [.link] := by
        intro q outside
        cases q <;> simp at outside <;> rfl
      obtain ⟨deaf, run⟩ := enterDeaf_wentDeaf (r := .deaf) (k := none) counted calm.1 heldBack unlisted
      have spoils : earlySpoil true s
          = afterClaim (awaitIdle (enterDeaf .deaf none (s.setLink { s.link with run := 8 }))) := by
        rw [earlySpoil_receiver frames idle, judges, Bool.and_self, if_pos rfl, countError_eighth seven]
      rw [afterClaim_of_wentDeaf calm deaf.awaitIdle (none_deaf _ _ calm.1)] at spoils
      exact ⟨_, congrArg Host.Outcome.next spoils, deaf.awaitIdle, run⟩
    · exact congrArg Host.Outcome.next ((earlySpoil_receiver frames idle).trans (settled calm.1 rfl))
    · obtain ⟨deaf, -⟩ := enterDeaf_wentDeaf (r := .duplicateStation) (k := some k) (w := s)
        (fun q _ => by cases q <;> rfl) calm.1 heldBack unlisted
      have finds := duplicateFrame_receiver (k := k) frames judges idle
      rw [afterClaim_of_wentDeaf calm deaf (none_deaf _ _ calm.1)] at finds
      exact ⟨_, congrArg Host.Outcome.next finds, deaf⟩
    · have at_place : sendingAt s.link.list pre e post := ⟨list, sending, others⟩
      have mismatch := duplicateMismatch_sending at_place
      have left_unlisted : ∀ x ∈ (s.unsending (pre ++ post)).link.list, x.frame.kind ≠ .object := fun x member =>
        unlisted x (by rw [list]; exact List.mem_append.mpr ((List.mem_append.mp member).imp_right
            (List.mem_cons_of_mem _)))
      obtain ⟨deaf, -⟩ := enterDeaf_wentDeaf (r := .duplicateStation) (k := some e.frame.kind)
        (unsending_sameBut s (pre ++ post)) calm.1 heldBack left_unlisted
      have told {w : State} (owner : ownerTold e.frame (s.unsending (pre ++ post)) = w) (claim : w.zone.claim = none)
          (motion : w.motion = s.motion) : exec .duplicateStationMismatch s
            = .next (enterDeaf .duplicateStation (some e.frame.kind) w) := by
        refine congrArg Host.Outcome.next (mismatch.trans ?_)
        change afterClaim (enterDeaf .duplicateStation (some e.frame.kind)
          (ownerTold e.frame (s.unsending (pre ++ post)))) = _
        rw [owner]
        refine afterClaim_of_settled (by simp [none_deaf _ _ claim]) ?_ ?_
        · simp [motion, calm.2.2.1]
        · simp [motion, calm.2.2.2]
      refine ⟨fun silent => ?_, fun k content note => ?_, fun presence none_left => ?_⟩
      · have owner : ownerTold e.frame (s.unsending (pre ++ post)) = s.unsending (pre ++ post) := by
          cases frame : e.frame <;> simp_all [TxFrame.kind, ownerTold]
        exact ⟨_, told owner calm.1 rfl, deaf⟩
      · have run := told (w := markUnsent k true (s.unsending (pre ++ post))) (by rw [note]; rfl) calm.1 rfl
        rw [note] at run deaf
        refine ⟨_, _, run, ?_, deaf⟩
        rw [enterDeaf_calm (by exact calm.1) (by exact heldBack) left_unlisted,
          enterDeaf_calm (s := markUnsent k true (s.unsending (pre ++ post))) (by exact calm.1) (by exact heldBack)
            left_unlisted]
        rfl
      · have run := told (w := (s.unsending (pre ++ post)).setPeers
            { s.peers with presenceDue := some (s.clock + 1000) })
          (by rw [presence]; exact presenceLeft_of_none (s := s.unsending (pre ++ post)) none_left heldBack) calm.1 rfl
        rw [presence] at run deaf
        refine ⟨_, _, run, ?_, deaf⟩
        rw [enterDeaf_calm (by exact calm.1) (by exact heldBack) left_unlisted, enterDeaf_calm
          (s := (s.unsending (pre ++ post)).setPeers { s.peers with presenceDue := some (s.clock + 1000) })
          (by exact calm.1) (by exact heldBack) left_unlisted]
        rfl
  · refine ⟨fun c leads frames judges idle => ?_, fun e pre post list sending others short => ?_⟩
    · obtain ⟨r, k, w, same, w_list, runs⟩ := deafCommand_runs leads frames judges idle
      have zone : w.zone = s.zone := same .zone (by simp)
      have motion : w.motion = s.motion := same .motion (by simp)
      have view := enterDeaf_deafView (r := r) (k := k) (s := s) (w := w) (by rw [zone])
        (congrArg StationBlock.number (same .station (by simp)))
      obtain ⟨-, -, -, claims⟩ := enterDeaf_spec r k w
      have settles (stands : ∀ d, (enterDeaf r k w).zone.claim = some d → d.orphan = false ∨ d.waitingState = false) :
          ∃ t, exec c s = .next t ∧ (enterDeaf r k w).sameBut t [.link] ∧ t.link.state = (enterDeaf r k w).link.state
            ∧ t.link.list = (enterDeaf r k w).link.list := by
        have current : (enterDeaf r k w).motion.deferCurrent = none := by simp [motion, deferCurrent]
        have hand : (enterDeaf r k w).motion.deferHandOver = none := by simp [motion, deferHandOver]
        rcases runs with plain | awaiting
        · rw [afterClaim_of_settled stands current hand] at plain
          exact ⟨_, plain, fun q _ => by cases q <;> rfl, rfl, rfl⟩
        · rw [afterClaim_of_settled (s := awaitIdle (enterDeaf r k w)) stands current hand] at awaiting
          exact ⟨_, awaiting, unsending_awaits _, rfl, rfl⟩
      refine ⟨fun claim standing kept => ?_, fun e pre post p n cs list object none_behind working calm => ?_⟩
      · have w_claim : w.zone.claim = some claim := by rw [zone, standing]
        cases waits : claim.waitingState with
        | true =>
          have stays := claims.waiting claim w_claim waits
          obtain ⟨t, run, parts, state, t_list⟩ := settles fun d stands => .inl (by
            rw [← Option.some.inj (stays.symm.trans stands), kept])
          refine ⟨t, run, view.of_same parts state t_list, fun claiming => absurd claiming (by simp), fun _ => ?_⟩
          rw [show t.zone = _ from parts .zone (by simp), stays]
        | false =>
          obtain ⟨⟨b, record⟩, pends, data⟩ := claims.claiming claim w_claim waits
          obtain ⟨t, run, parts, state, t_list⟩ := settles fun d stands => .inl (by
            rw [← Option.some.inj (record.symm.trans stands)]; exact kept)
          have events : t.events = (enterDeaf r k w).events := parts .events (by simp)
          refine ⟨t, run, view.of_same parts state t_list, fun _ => ⟨⟨_, (congrArg Zone.claim (parts .zone
              (by simp))).trans
            record, rfl⟩, ?_, by rw [events, data]⟩, fun waiting => absurd waiting (by simp)⟩
          rw [State.isPending, events]
          exact pends
      · have none_stands := claims.none_stands (by rw [zone, calm.1])
        obtain ⟨t, run, parts, state, t_list⟩ := settles fun d stands => absurd (none_stands.symm.trans stands)
            (by simp)
        have raised : (conflictsRaised (objectsIn w.link.list) (w.deafened r k)).inConflict p cs := by
          rw [w_list, list, objectsIn_last object none_behind]
          exact conflictsRaised_last (by rw [show (w.deafened r k).motion = _ from motion]; exact working)
        have conflict := enterDeaf_inConflict (by rw [zone, calm.1]) raised
        exact ⟨t, run, view.of_same parts state t_list, conflict.of_same parts⟩
    · have at_place : sendingAt s.link.list pre e post := ⟨list, sending, fun x member => (others x member).1⟩
      have mismatch := duplicateMismatch_sending at_place
      have room : (s.unsending (pre ++ post)).link.list.length < 8 := by
        have whole : s.link.list.length = (pre ++ post).length + 1 := by simp [list]; omega
        have left : (s.unsending (pre ++ post)).link.list.length = (pre ++ post).length := rfl
        omega
      refine ⟨fun p n cs object working calm => ?_, fun n cs claim sent standing number claiming kept heldBack => ?_⟩
      · have told : ownerTold e.frame (s.unsending (pre ++ post)) = zoneConflict p cs (s.unsending (pre ++ post)) := by
          rw [object]
          rfl
        have conflict : (zoneConflict p cs (s.unsending (pre ++ post))).inConflict p cs :=
          zoneConflict_inConflict fun faulted => absurd faulted working
        have leaves : (zoneConflict p cs (s.unsending (pre ++ post))).zone.claim = none
            ∧ (zoneConflict p cs (s.unsending (pre ++ post))).link.list = pre ++ post := by
          have claim : (s.unsending (pre ++ post)).zone.claim = none := calm.1
          have left : (s.unsending (pre ++ post)).link.list = pre ++ post := rfl
          simp [claim, left]
        have own : (zoneConflict p cs (s.unsending (pre ++ post))).own = s.own := by
          have same : (s.unsending (pre ++ post)).own = s.own := rfl
          simpa [State.own] using same
        have cells : (zoneConflict p cs (s.unsending (pre ++ post))).zone.cells = s.zone.cells := by
          have same : (s.unsending (pre ++ post)).zone.cells = s.zone.cells := rfl
          simpa using same
        have motion : (zoneConflict p cs (s.unsending (pre ++ post))).motion.deferCurrent = none
            ∧ (zoneConflict p cs (s.unsending (pre ++ post))).motion.deferHandOver = none := by
          have same : (s.unsending (pre ++ post)).motion = s.motion := rfl
          simp [same, deferCurrent, deferHandOver]
        rw [show awaitIdle _ = s.unsending (pre ++ post) from rfl, told] at mismatch
        generalize zoneConflict p cs (s.unsending (pre ++ post)) = u at *
        obtain ⟨noClaim, u_list⟩ := leaves
        have none_stands := (enterDeaf_spec .duplicateStation (some e.frame.kind) u).2.2.2.none_stands noClaim
        rw [afterClaim_of_settled (s := enterDeaf .duplicateStation (some e.frame.kind) u)
          (fun d stands => absurd (none_stands.symm.trans stands) (by simp)) (by simp [motion]) (by simp [motion])]
          at mismatch
        refine ⟨_, congrArg Host.Outcome.next mismatch, enterDeaf_deafView cells own, enterDeaf_inConflict noClaim ?_, ?_⟩
        · rw [u_list, objectsIn_nil fun x member => (others x member).2]
          refine conflict.of_kept rfl (fun pends => ?_) ⟨_, rfl⟩
          rw [State.isPending_iff] at pends ⊢
          simpa [conflictsRaised, State.deafened] using raiseLinkFault_keeps_pends _ _ _ pends
        · rw [enterDeaf_linkFault noClaim (by rw [u_list]; exact room), object]
          rfl
      · have told : ownerTold e.frame (s.unsending (pre ++ post)) = claimUndelivered (s.unsending (pre ++ post)) := by
          have stands : (s.unsending (pre ++ post)).zone.claim = some claim := standing
          rw [sent, ownerTold, stands]
          exact if_pos (by simp [number, claiming])
        obtain ⟨⟨b, waiting⟩, -, parts, pends, data, -, view, -⟩ := claimUndelivered_spec
          (s := s.unsending (pre ++ post)) (c := claim) standing number room
        rw [show awaitIdle _ = s.unsending (pre ++ post) from rfl, told] at mismatch
        generalize claimUndelivered (s.unsending (pre ++ post)) = u at *
        have own : u.own = s.own := congrArg StationBlock.number (parts .station (by simp))
        have peers : u.peers = s.peers := parts .peers (by simp)
        have motion : u.motion = s.motion := parts .motion (by simp)
        obtain ⟨deaf, forgot, left, claims⟩ := enterDeaf_spec .duplicateStation (some e.frame.kind) u
        have stays := claims.waiting _ waiting rfl
        obtain ⟨keeps, same_wait, fault⟩ := enterDeaf_of_waiting (r := .duplicateStation) (k
            := some e.frame.kind) waiting
          rfl (by rw [peers, heldBack])
        have from_s : s.forgotTo (enterDeaf .duplicateStation (some e.frame.kind) u) := by
          intro k
          have cell : u.cell k = if (s.cell k).state = .claimed s.own n
            then { s.cell k with state := .free, owed := none } else s.cell k := view k
          rw [forgot k, own, cell]
          by_cases claimed : (s.cell k).state = .claimed s.own n
          · simp [claimed]
          · rw [if_neg claimed]
        rw [afterClaim_of_settled (s := enterDeaf .duplicateStation (some e.frame.kind) u)
          (fun d stands => .inl (by rw [← Option.some.inj (stays.symm.trans stands)]; exact kept))
          (by simp [motion, deferCurrent]) (by simp [motion, deferHandOver])] at mismatch
        refine ⟨_, congrArg Host.Outcome.next mismatch, ⟨deaf, from_s.heldSet
            (by simpa [State.own] using own), left, from_s⟩,
          ⟨⟨_, stays, rfl⟩, keeps pends, same_wait.trans data⟩, ?_⟩
        rw [fault, sent]
        rfl

end Sys2Proof.Machine
end

section
/-! PROOFS. The link frame read back (R79 to R90): its payload, its characters and their bits, the arbitration by its head,
and what a receiver makes of it. -/

namespace Sys2Proof.Machine

/-! ## The payload of each kind (R83) -/

theorem cellSetOf_cellSetBytes (cs : CellSet) : cellSetOf (cellSetBytes cs) = some cs := by
  have number : beNat (cellSetBytes cs) = cs.toNat := beNat_beBytes_of_lt (by have := cs.isLt; omega)
  rw [cellSetOf, number, if_pos (by exact cs.isLt)]
  simp

theorem cellSetBytes_three (cs : CellSet) : ∃ a b c, cellSetBytes cs = [a, b, c] := ⟨_, _, _, rfl⟩

theorem ReadingKind.ofCode_code (k : ReadingKind) : ReadingKind.ofCode k.code = some k ∧ k.code ≤ 5 := by
  cases k <;> exact ⟨rfl, by decide⟩

theorem ReadingStatus.ofCode_code (st : ReadingStatus) : ReadingStatus.ofCode st.code = some st ∧ st.code ≤ 2 := by
  cases st <;> exact ⟨rfl, by decide⟩

theorem readingBytes_three (r : Reading) : ∃ b0 b1 b2, readingBytes r = [b0, b1, b2]
    ∧ b0 = BitVec.ofNat 8 (r.channel.val * 32 + r.kind.code * 4 + r.status.code) ∧ [b1, b2] = beSigned 2 r.value :=
  ⟨_, _, _, rfl, rfl, rfl⟩

theorem length_readingBytes (r : Reading) : (readingBytes r).length = 3 := by simp [readingBytes]

/-- A reading in range is read back from its three bytes. -/
theorem readingsOf_cons {r : Reading} (inRange : temperatureOk r.value = true) (rest : List Byte) :
    readingsOf (readingBytes r ++ rest) = (readingsOf rest).map (r :: ·) := by
  obtain ⟨b0, b1, b2, bytes, head, value⟩ := readingBytes_three r
  obtain ⟨kind, kind_le⟩ := ReadingKind.ofCode_code r.kind
  obtain ⟨status, status_le⟩ := ReadingStatus.ofCode_code r.status
  have code : b0.toNat = r.channel.val * 32 + r.kind.code * 4 + r.status.code := by
    rw [head, BitVec.toNat_ofNat]
    omega
  have bounds : -1000 ≤ r.value ∧ r.value ≤ 6000 := by simpa [temperatureOk] using inRange
  have reading : readingOf b0 b1 b2 = some r := by
    rw [readingOf, show b0.toNat / 4 % 8 = r.kind.code by omega, show b0.toNat % 4 = r.status.code by omega, kind, status,
      value, beInt16_beSigned (by omega) (by omega)]
    dsimp only
    rw [if_pos inRange, show b0.toNat / 32 = r.channel.val by omega]
    simp
  rw [bytes, List.cons_append, List.cons_append, List.cons_append, List.nil_append, readingsOf, reading]
  cases readingsOf rest <;> rfl

theorem readingsOf_flatMap {l : List Reading} (inRange : ∀ r ∈ l, temperatureOk r.value = true) :
    readingsOf (l.flatMap readingBytes) = some l := by
  induction l with
  | nil => rfl
  | cons r l ih =>
    rw [List.flatMap_cons, readingsOf_cons (inRange r (by simp)), ih fun x member => inRange x (by simp [member])]
    rfl

theorem length_reportPayload (r : Report) : (Msg.presence r).payload.length = 10 + 3 * r.readings.length := by
  simp [Msg.payload, cellSetBytes, length_flatMap_of_length length_readingBytes]
  omega

/-- A well-formed report is read back from its payload (Table 4-3). -/
theorem reportOf_payload {r : Report} (wellFormed : r.wellFormed = true) :
    reportOf (Msg.presence r).payload = some r := by
  obtain ⟨⟨few, distinct⟩, inRange⟩ : (r.readings.length ≤ 8 ∧ channelsDistinct r.readings = true)
      ∧ (r.readings.all fun x => temperatureOk x.value) = true := by
    simpa [Report.wellFormed] using wellFormed
  have active_byte : beNat (slice 0 1 (Msg.presence r).payload) = if r.active then 2 else 1 := by
    cases active : r.active <;> simp [Msg.payload, slice, active, beNat]
  have count : beNat (slice 9 1 (Msg.presence r).payload) = r.readings.length := by
    rw [Msg.payload, slice_after (by simp [cellSetBytes]) (by simp)]
    simp [beNat]
    omega
  have held : slice 1 3 (Msg.presence r).payload = cellSetBytes r.held := by
    have split : (Msg.presence r).payload = [if r.active then 2#8 else 1#8] ++ cellSetBytes r.held
        ++ (cellSetBytes r.waiting ++ beBytes 2 r.carried.toNat ++ [BitVec.ofNat 8 r.readings.length]
          ++ r.readings.flatMap readingBytes) := by simp [Msg.payload]
    rw [split, slice_after (by simp) (by simp [cellSetBytes])]
  have waiting : slice 4 3 (Msg.presence r).payload = cellSetBytes r.waiting := by
    have split : (Msg.presence r).payload = ((if r.active then 2#8 else 1#8) :: cellSetBytes r.held)
        ++ cellSetBytes r.waiting ++ (beBytes 2 r.carried.toNat ++ [BitVec.ofNat 8 r.readings.length]
          ++ r.readings.flatMap readingBytes) := by simp [Msg.payload]
    rw [split, slice_after (by simp [cellSetBytes]) (by simp [cellSetBytes])]
  have carried : slice 7 2 (Msg.presence r).payload = beBytes 2 r.carried.toNat := by
    have split : (Msg.presence r).payload = ((if r.active then 2#8 else 1#8) :: cellSetBytes r.held
        ++ cellSetBytes r.waiting) ++ beBytes 2 r.carried.toNat ++ ([BitVec.ofNat 8 r.readings.length]
          ++ r.readings.flatMap readingBytes) := by simp [Msg.payload]
    rw [split, slice_after (by simp [cellSetBytes]) (by simp)]
  have readings : (Msg.presence r).payload.drop 10 = r.readings.flatMap readingBytes := by
    rw [Msg.payload]
    exact List.drop_left' (by simp [cellSetBytes])
  have spelled : BitVec.ofNat 16 (beNat (beBytes 2 r.carried.toNat)) = r.carried := ofNat_beNat_word r.carried
  rw [reportOf, active_byte, count, held, waiting, carried, readings, cellSetOf_cellSetBytes, cellSetOf_cellSetBytes,
    readingsOf_flatMap (List.all_eq_true.mp inRange), spelled,
    if_pos ⟨length_reportPayload r, few, by cases r.active <;> simp⟩]
  have flag : ((if r.active then 2 else 1) == 2) = r.active := by cases r.active <;> rfl
  dsimp only
  rw [if_pos distinct, flag]

theorem ofPayload_object (t n a b c : Byte) : Msg.ofPayload .object [t, n, a, b, c]
    = if t.toNat < 8 then (cellSetOf [a, b, c]).map (Msg.object (Fin.ofNat 8 t.toNat) n) else none := rfl

theorem ofPayload_release (a b c : Byte) :
    Msg.ofPayload .release [a, b, c] = (cellSetOf [a, b, c]).map Msg.release := rfl

theorem ofPayload_claim (n a b c : Byte) :
    Msg.ofPayload .claim [n, a, b, c] = (cellSetOf [a, b, c]).map (Msg.claim n) := rfl

theorem ofPayload_wait (a b c : Byte) : Msg.ofPayload .wait [a, b, c] = (cellSetOf [a, b, c]).map Msg.wait := rfl

theorem ofPayload_rackNote (k a b : Byte) : Msg.ofPayload .rackNote [k, a, b] = if k.toNat < 24
    then some (.rackNote (Fin.ofNat 24 k.toNat) (BitVec.ofNat 16 (beNat [a, b]))) else none := rfl

theorem ofPayload_presence (p : List Byte) : Msg.ofPayload .presence p = (reportOf p).map Msg.presence := rfl

theorem Msg.ofPayload_payload {m : Msg} (sendable : ∀ r, m = .presence r → r.wellFormed = true) :
    Msg.ofPayload m.kind m.payload = some m := by
  have cells (cs : CellSet) : ∃ a b c, cellSetBytes cs = [a, b, c] ∧ cellSetOf [a, b, c] = some cs := by
    obtain ⟨a, b, c, bytes⟩ := cellSetBytes_three cs
    exact ⟨a, b, c, bytes, bytes ▸ cellSetOf_cellSetBytes cs⟩
  cases m with
  | object t n cs =>
    obtain ⟨a, b, c, bytes, read⟩ := cells cs
    have target : (BitVec.ofNat 8 t.val).toNat = t.val := by rw [BitVec.toNat_ofNat]; omega
    rw [Msg.kind, Msg.payload, bytes, ofPayload_object, target, if_pos t.isLt, read]
    simp
  | release cs =>
    obtain ⟨a, b, c, bytes, read⟩ := cells cs
    rw [Msg.kind, Msg.payload, bytes, ofPayload_release, read]
    rfl
  | claim n cs =>
    obtain ⟨a, b, c, bytes, read⟩ := cells cs
    rw [Msg.kind, Msg.payload, bytes, ofPayload_claim, read]
    rfl
  | wait cs =>
    obtain ⟨a, b, c, bytes, read⟩ := cells cs
    rw [Msg.kind, Msg.payload, bytes, ofPayload_wait, read]
    rfl
  | rackNote k c =>
    have slot : (BitVec.ofNat 8 k.val).toNat = k.val := by rw [BitVec.toNat_ofNat]; omega
    have spelled : BitVec.ofNat 16 (beNat (beBytes 2 c.toNat)) = c := ofNat_beNat_word c
    obtain ⟨a, b, bytes⟩ : ∃ a b, beBytes 2 c.toNat = [a, b] := ⟨_, _, rfl⟩
    rw [bytes] at spelled
    rw [Msg.kind, Msg.payload, bytes, ofPayload_rackNote, slot, if_pos k.isLt, spelled]
    simp
  | sampleCall => rfl
  | presence r =>
    rw [Msg.kind, ofPayload_presence, reportOf_payload (sendable r rfl)]
    rfl

theorem Msg.length_payload {m : Msg} (sendable : ∀ r, m = .presence r → r.wellFormed = true) :
    m.payload.length ≤ 34 := by
  cases m with
  | presence r =>
    have few : r.readings.length ≤ 8 := by
      have wellFormed := sendable r rfl
      simp only [Report.wellFormed, Bool.and_eq_true, decide_eq_true_eq] at wellFormed
      exact wellFormed.1.1
    rw [length_reportPayload]
    omega
  | _ => simp [Msg.payload, cellSetBytes]

/-! ## The frame's characters (R81, R82) -/

theorem FrameKind.ofCode_code (k : FrameKind) : FrameKind.ofCode k.code = k ∧ k.code ≤ 7 := by
  cases k <;> exact ⟨rfl, by decide⟩

theorem toNat_headByte (own : Station) (k : FrameKind) : (headByte own k).toNat = k.code * 32 + own.val * 4 + 3 := by
  obtain ⟨-, le⟩ := FrameKind.ofCode_code k
  rw [headByte, BitVec.toNat_ofNat]
  omega

/-- What the head of a frame shows: its sender, its kind, and its two low bits. -/
theorem headByte_fields (own : Station) (k : FrameKind) : (headByte own k).toNat % 4 = 3
    ∧ FrameKind.ofCode ((headByte own k).toNat / 32) = k ∧ Fin.ofNat 8 ((headByte own k).toNat / 4) = own := by
  rw [toNat_headByte]
  refine ⟨by omega, ?_, Fin.ext ?_⟩
  · rw [show (k.code * 32 + own.val * 4 + 3) / 32 = k.code by omega]
    exact (FrameKind.ofCode_code k).1
  · change (k.code * 32 + own.val * 4 + 3) / 4 % 8 = own.val
    omega

/-- The characters that the CRC covers. -/
def frameBody (own : Station) (m : Msg) : List Byte := headByte own m.kind :: BitVec.ofNat 8 m.payload.length :: m.payload

theorem encodeFrame_eq (own : Station) (m : Msg) : encodeFrame own m = headByte own m.kind
    :: BitVec.ofNat 8 m.payload.length :: (m.payload ++ beBytes 2 (crc16 (frameBody own m)).toNat) := rfl

theorem decodeFrame_encodeFrame (own : Station) {m : Msg} (sendable : ∀ r, m = .presence r → r.wellFormed = true) :
    decodeFrame (encodeFrame own m) = some (own, m) := by
  have short := Msg.length_payload sendable
  have length : (BitVec.ofNat 8 m.payload.length).toNat = m.payload.length := by
    rw [BitVec.toNat_ofNat]
    omega
  obtain ⟨low, kind, sender⟩ := headByte_fields own m.kind
  have covered : slice 0 (m.payload.length + 2) (encodeFrame own m) = frameBody own m := by
    rw [show encodeFrame own m = frameBody own m ++ beBytes 2 (crc16 (frameBody own m)).toNat from rfl]
    exact slice_head rfl
  have crc : beNat (beBytes 2 (crc16 (frameBody own m)).toNat) = (crc16 (frameBody own m)).toNat :=
    beNat_word _
  rw [encodeFrame_eq] at covered ⊢
  rw [decodeFrame, length, covered, List.drop_left' rfl, List.take_left' rfl, crc, kind, sender, Msg.ofPayload_payload sendable,
    if_pos ⟨short, by simp, low, rfl⟩]
  rfl

/-! ## The bits of characters (R79) -/

theorem length_characterBits (b : Byte) : (characterBits b).length = 10 := by simp [characterBits]

theorem getLastD_concat (l : List Bool) (b d : Bool) : (l ++ [b]).getLastD d = b := by
  rw [List.getLastD_eq_getLast?, List.getLast?_concat, Option.getD_some]

theorem readCharacter_characterBits (b : Byte) : readCharacter (characterBits b) = (b, false) := by
  have data : ((characterBits b).drop 1).take 8 = byteBits b := List.take_left' (length_byteBits b)
  have stop : (characterBits b).getLastD false = true := getLastD_concat _ _ _
  have start : (characterBits b).headD true = false := rfl
  rw [readCharacter, data, ofNat_bitsNat_byteBits, stop, start]
  rfl

/-- A character's ten bits are read, and the rest behind them. -/
theorem readCharacters_append {c : List Bool} (ten : c.length = 10) (more : List Bool) :
    readCharacters (c ++ more) = readCharacter c :: readCharacters more := by
  have count : (c ++ more).length / 10 = more.length / 10 + 1 := by
    rw [List.length_append, ten]
    omega
  rw [readCharacters, count, groups, List.take_left' ten, List.drop_left' ten]
  rfl

theorem readCharacters_lineBits (chars : List Byte) (more : List Bool) :
    readCharacters (lineBits chars ++ more) = chars.map (fun b => (b, false)) ++ readCharacters more := by
  induction chars with
  | nil => rfl
  | cons b chars ih =>
    rw [show lineBits (b :: chars) = characterBits b ++ lineBits chars from rfl, List.append_assoc,
      readCharacters_append (length_characterBits b), ih, readCharacter_characterBits]
    rfl

theorem receptionOf_lineBits (chars : List Byte) :
    receptionOf (lineBits chars) = { chars := chars, framing := false } := by
  have read := readCharacters_lineBits chars []
  have nothing : readCharacters [] = [] := rfl
  rw [List.append_nil, nothing, List.append_nil] at read
  rw [receptionOf, read]
  simp [Function.comp_def]

theorem length_lineBits (chars : List Byte) : (lineBits chars).length = 10 * chars.length :=
  length_flatMap_of_length length_characterBits chars

/-! ## Early spoils (R88) -/

theorem earlySpoilAt_lineBits (a b : Byte) (more : List Bool) :
    earlySpoilAt (lineBits [a, b] ++ more) = if 34 < b.toNat then some 1 else none := by
  rw [earlySpoilAt, readCharacters_lineBits]
  simp

/-- A dominant stop bit of character 0 calls for a spoil behind it. -/
theorem earlySpoilAt_framing (a : Byte) (more : List Bool) :
    earlySpoilAt (false :: byteBits a ++ false :: more) = some 0 := by
  have split : false :: byteBits a ++ false :: more = (false :: byteBits a ++ [false]) ++ more := by simp
  have stop : (readCharacter (false :: byteBits a ++ [false])).2 = true := by
    rw [readCharacter, getLastD_concat]
    rfl
  rw [earlySpoilAt, split, readCharacters_append (by simp)]
  generalize readCharacter (false :: byteBits a ++ [false]) = read at stop ⊢
  obtain ⟨c, framing⟩ := read
  cases stop
  rfl

theorem spoiledByOther_iff {bits : List Bool} (found_none : earlySpoilAt bits = none) :
    spoiledByOther bits = ((bits.drop 20).take 10 == List.replicate 10 false) := by
  rw [spoiledByOther, found_none]
  rfl

theorem drop_lineBits_two (a b : Byte) (more : List Bool) : (lineBits [a, b] ++ more).drop 20 = more :=
  List.drop_left' (length_lineBits [a, b])

/-- The dominant run of another station in character 2 is told by its ten bits (log 29). -/
theorem spoiledByOther_run {b : Byte} (short : b.toNat ≤ 34) (a : Byte) (more : List Bool) :
    spoiledByOther (lineBits [a, b] ++ List.replicate 10 false ++ more) = true := by
  rw [List.append_assoc, spoiledByOther_iff ((earlySpoilAt_lineBits a b _).trans (if_neg (by omega))),
    drop_lineBits_two, List.take_left' (List.length_replicate ..)]
  exact beq_self_eq_true _

/-- A third character ends recessive, so that no one's run stands there. -/
theorem spoiledByOther_characters {b : Byte} (short : b.toNat ≤ 34) (a c : Byte) (rest : List Byte) :
    spoiledByOther (lineBits (a :: b :: c :: rest)) = false := by
  have split : lineBits (a :: b :: c :: rest) = lineBits [a, b] ++ (characterBits c ++ lineBits rest) := by
    simp [lineBits]
  have stop : characterBits c ≠ List.replicate 10 false := by
    intro dominant
    have member : true ∈ characterBits c := by simp [characterBits]
    rw [dominant] at member
    simp at member
  rw [split, spoiledByOther_iff ((earlySpoilAt_lineBits a b _).trans (if_neg (by omega))), drop_lineBits_two,
    List.take_left' (length_characterBits c)]
  exact beq_false_of_ne stop

/-! ## What a receiver makes of a frame (R86, R89) -/

theorem encodeFrame_cons (p : Station) (m : Msg) : ∃ c rest, encodeFrame p m
    = headByte p m.kind :: BitVec.ofNat 8 m.payload.length :: c :: rest := by
  rw [encodeFrame_eq]
  cases m.payload with
  | nil => exact ⟨_, _, rfl⟩
  | cons x l => exact ⟨_, _, rfl⟩

theorem receptionInstr_encodeFrame (own p : Station) (conv : Conversions) (order : List Chan) {m : Msg}
    (sendable : ∀ r, m = .presence r → r.wellFormed = true) :
    receptionInstr own conv order (lineBits (encodeFrame p m)) false
      = if p = own then .duplicateStationFrame m.kind else acceptedInstr conv order p m := by
  obtain ⟨c, rest, chars⟩ := encodeFrame_cons p m
  have short : (BitVec.ofNat 8 m.payload.length).toNat ≤ 34 := by
    have few := Msg.length_payload sendable
    rw [BitVec.toNat_ofNat]
    omega
  have unspoiled : earlySpoilAt (lineBits (encodeFrame p m)) = none := by
    have split : lineBits (encodeFrame p m) = lineBits [headByte p m.kind, BitVec.ofNat 8 m.payload.length]
        ++ lineBits (c :: rest) := by
      rw [chars]
      simp [lineBits]
    rw [split, earlySpoilAt_lineBits, if_neg (by omega)]
  have quiet : spoiledByOther (lineBits (encodeFrame p m)) = false := by
    rw [chars]
    exact spoiledByOther_characters short _ _ _
  have decoded := decodeFrame_encodeFrame p sendable
  obtain ⟨-, kind, sender⟩ := headByte_fields p m.kind
  have from_p : receptionSender { chars := encodeFrame p m, framing := false } = some p := by
    rw [receptionSender, encodeFrame_eq]
    exact congrArg some sender
  have of_kind : receptionKind { chars := encodeFrame p m, framing := false } = m.kind := by
    rw [receptionKind, encodeFrame_eq]
    exact kind
  rw [receptionInstr, unspoiled, if_neg (by simp), quiet, if_neg (by simp), frameEndInstr, receptionOf_lineBits]
  dsimp only
  rw [from_p, of_kind]
  by_cases same : p = own
  · rw [if_pos (by rw [same]), if_pos same]
  · rw [if_neg (by simpa using same), if_neg same, if_neg (by simp [receptionBad, decoded]), decoded]

/-! ## Arbitration (R84) -/

theorem losesTo_self (l : List Bool) : losesTo l l = false := by
  induction l with
  | nil => rfl
  | cons b l ih => rw [losesTo, if_pos rfl, ih]

/-- Of two numbers sent most significant bit first the greater loses. -/
theorem losesTo_msbBits (n x y : Nat) (more : List Bool) :
    losesTo (msbBits n x ++ more) (msbBits n y ++ more) = decide (y % 2 ^ n < x % 2 ^ n) := by
  induction n with
  | zero => simp [msbBits, losesTo_self, Nat.mod_one]
  | succ n ih =>
    have x_bit : (x.testBit n).toNat = x / 2 ^ n % 2 := Nat.toNat_testBit x n
    have y_bit : (y.testBit n).toNat = y / 2 ^ n % 2 := Nat.toNat_testBit y n
    have x_low : x % 2 ^ n < 2 ^ n := Nat.mod_lt _ (by positivity)
    have y_low : y % 2 ^ n < 2 ^ n := Nat.mod_lt _ (by positivity)
    rw [msbBits, msbBits, List.cons_append, List.cons_append, losesTo, ih, Nat.mod_pow_succ, Nat.mod_pow_succ, ← x_bit,
      ← y_bit]
    cases x.testBit n <;> cases y.testBit n <;> simp <;> omega

/-- Settles O54: the frame read back, its early spoils, its end at a receiver, and its arbitration. -/
theorem linkFrameIsReadBack : Obligations.LinkFrameIsReadBack := by
  refine ⟨fun own m sendable => ⟨decodeFrame_encodeFrame own sendable, receptionOf_lineBits _, ?_⟩,
    fun a b more => ⟨earlySpoilAt_lineBits a b more, earlySpoilAt_framing a more⟩,
    fun s own conv order bits slotDominant k spoils => ⟨?_, fun frames judges idle time => ?_, fun deaf time => ?_⟩,
    fun own p conv order m sendable => receptionInstr_encodeFrame own p conv order sendable,
    fun s own conv order a b more slotDominant short => ⟨?_, fun time => ?_⟩, fun p q j k => ?_⟩
  · rw [length_lineBits, encodeFrame_eq, frameBitTimes]
    simp
    omega
  · rw [receptionInstr, spoils]
    rfl
  · have drives : s.spoils = true := by simp [State.spoils, frames, judges, idle]
    rw [State.receiverLevel, spoils]
    simp [drives]
  · have still : s.spoils = false := by simp [State.spoils, State.judges, deaf]
    rw [State.receiverLevel, spoils]
    simp [still]
  · have unspoiled : earlySpoilAt (lineBits [a, b] ++ List.replicate 10 false ++ more) = none := by
      rw [List.append_assoc, earlySpoilAt_lineBits, if_neg (by omega)]
    rw [receptionInstr, unspoiled, if_neg (by simp), spoiledByOther_run short, if_pos rfl]
  · have unspoiled : earlySpoilAt (lineBits [a, b] ++ List.replicate 10 false ++ more) = none := by
      rw [List.append_assoc, earlySpoilAt_lineBits, if_neg (by omega)]
    rw [State.receiverLevel, unspoiled]
    simp only [spoiledByOther_run short, Bool.not_true, Bool.false_and, Bool.not_false]
  · have heads := losesTo_msbBits 8 (headByte p j).toNat (headByte q k).toNat [true]
    obtain ⟨-, j_le⟩ := FrameKind.ofCode_code j
    obtain ⟨-, k_le⟩ := FrameKind.ofCode_code k
    have order : q < p ↔ q.val < p.val := Iff.rfl
    rw [characterBits, characterBits, List.cons_append, List.cons_append, losesTo, if_pos rfl, byteBits, byteBits, heads,
      toNat_headByte, toNat_headByte, decide_eq_true_iff, order]
    omega

end Sys2Proof.Machine
end

section
/-! PROOFS. The change sequence and the identity reads (7.3, 7.6 to 7.8): how a half of a change leaves its slot, the
drop and the pick (R153 to R155), the reads (R142, R143, R155), and how a change begins and is aborted (R150, R151,
R157). -/

namespace Sys2Proof.Machine

/-! ## A listed RACK NOTE stays -/

theorem TxEntry.pendingKind_note (k : SlotIx) (c : Ident) {kind : FrameKind} (other : kind ≠ .rackNote) :
    (TxFrame.rackNote k c).placed.pendingKind kind = false := by
  simp [TxEntry.pendingKind, TxFrame.placed, TxFrame.kind, other.symm]

theorem mem_mergeFirst {f : TxFrame} {e : TxEntry} (other : e.pendingKind f.kind = false) :
    ∀ {l : List TxEntry}, e ∈ l → e ∈ mergeFirst f l
  | x :: rest, mem => by
    unfold mergeFirst
    rcases List.mem_cons.mp mem with rfl | later
    · rw [if_neg (by simp [other])]
      exact List.mem_cons_self
    · split
      · exact List.mem_cons_of_mem _ later
      · exact List.mem_cons_of_mem _ (mem_mergeFirst other later)

/-- An entry of another kind, or one being sent, stays listed as a frame is offered (R94, R95). -/
theorem offer_keeps_entry {f : TxFrame} {e : TxEntry} {s : State} (other : e.pendingKind f.kind = false)
    (h : e ∈ s.link.list) : e ∈ (offer f s).2.link.list := by
  have placed : e ∈ (placeFrame f s).2.link.list := by
    unfold placeFrame
    split
    · exact mem_insertTx.mpr (.inr h)
    · exact h
  have merged : e ∈ (s.setLink { s.link with list := mergeFirst f s.link.list }).link.list := mem_mergeFirst other h
  unfold offer
  dsimp only
  split
  · exact h
  · split
    · exact merged
    · exact merged
    · next kind _ =>
      refine mem_insertTx.mpr (.inr (List.mem_filter.mpr ⟨h, ?_⟩))
      rw [kind] at other
      exact congrArg (! ·) other
    · exact placed

theorem offer_keeps_note (f : TxFrame) {k : SlotIx} {c : Ident} {s : State} (h : s.listed (.rackNote k c)) :
    (offer f s).2.listed (.rackNote k c) := by
  by_cases note : f.kind = .rackNote
  · have places : (offer f s).2 = s ∨ (offer f s).2 = (placeFrame f s).2 := by
      unfold offer
      rw [note]
      split
      · exact .inl rfl
      · exact .inr rfl
    rcases places with same | placed
    · rwa [same]
    · rw [placed, placeFrame]
      split
      · exact mem_insertTx.mpr (.inr h)
      · exact h
  · exact offer_keeps_entry (TxEntry.pendingKind_note k c note) h

theorem claimUndelivered_keeps_note {k : SlotIx} {c : Ident} {s : State} (h : s.listed (.rackNote k c)) :
    (claimUndelivered s).listed (.rackNote k c) := by
  unfold claimUndelivered
  split
  · exact h
  next claim _ =>
  have waits (cs : CellSet) : (claimToWaiting cs s).listed (.rackNote k c) := by
    unfold claimToWaiting
    split
    · exact h
    next claim _ =>
    dsimp only
    generalize waiting : raiseZoneWait cs _ = u
    have listed : u.listed (.rackNote k c) := by
      rw [State.listed] at h ⊢
      simpa [← waiting] using h
    have offered : (offerWait cs u).listed (.rackNote k c) := by
      unfold offerWait
      split
      · exact offer_keeps_note _ listed
      · exact listed
    split
    · exact offered
    · exact offered
  exact waits _

theorem sendClaim_keeps_note {k : SlotIx} {c : Ident} {s : State} (claim : Claim) (h : s.listed (.rackNote k c)) :
    (sendClaim claim s).listed (.rackNote k c) := by
  unfold sendClaim
  dsimp only
  generalize made : s.setZone _ = u
  have listed : u.listed (.rackNote k c) := by
    rw [State.listed, ← made]
    exact h
  have offered := offer_keeps_note (.claim s.zone.nextNumber claim.cells) listed
  split
  · next same => rwa [same] at offered
  · next same =>
    rw [same] at offered
    exact claimUndelivered_keeps_note offered
  · next same => rwa [same] at offered

theorem becomeCurrent_keeps_note {k : SlotIx} {c : Ident} {s : State} (h : s.listed (.rackNote k c))
    (travels : ∀ g, s.current = some g → g.kind ≠ .probe) :
    (becomeCurrent s).listed (.rackNote k c) := by
  have requests (cs : CellSet) {u : State} (listed : u.listed (.rackNote k c)) :
      (requestCells cs u).listed (.rackNote k c) := by
    unfold requestCells
    repeat' split
    · exact listed
    · exact listed
    · exact listed
    · exact sendClaim_keeps_note _ listed
    · exact listed
  unfold becomeCurrent
  dsimp only
  split
  · exact h
  split
  · exact h
  split
  · exact h
  next g current =>
  split
  · exact h
  · unfold fixGeometry
    dsimp only
    split
    · next probe => exact absurd probe.1 (travels g current)
    · split
      · simpa [State.listed] using h
      · exact requests _ (by simpa [State.listed] using h)

/-! ## Leaving a slot (R152) -/

/-- The state that follows as the arm leaves a slot by a DOCK to its clear point. -/
def State.departs (s : State) (k : SlotIx) (t : State) : Prop :=
  t.motion.state = .changing
    ∧ ∃ g, t.motion.internal = some g ∧ g.kind = .dock ∧ g.target = (s.cfg.slots.get k).clear ∧ g.feed = s.cfg.dockMax

theorem beginLeaving_departs {ph : Phase} {ch : Change} {k : SlotIx} {s : State}
    (slot : (if ph = .leavingPick then ch.pick else ch.drop) = some k) (calm : s.calm)
    (changing : s.motion.state = .changing) :
    s.departs k (beginLeaving ph ch s) ∧ (beginLeaving ph ch s).heldSet = s.heldSet
      ∧ (beginLeaving ph ch s).motion.queue = s.motion.queue
      ∧ (s.probes.pendingBank = none → (beginLeaving ph ch s).probes
          = { s.probes with change := some { ch with phase := ph, seatDue := none } }) := by
  unfold beginLeaving
  dsimp only
  rw [slot]
  obtain ⟨probes, queue, held, state, g, now, kind, target, feed, -⟩ :=
    handInternal_handed (kind := .dock) (s := s.setChange (some { ch with phase := ph, seatDue := none }))
      (s.slotPoints (some k)).clear (by simp) calm changing
  exact ⟨⟨state, g, now, kind, target, feed⟩, held, queue, probes⟩

/-! ## The seated line found as a phase waits for it (R153, R154) -/

/-- A period that finds the seated line changed is that change alone, where no other watch trips. -/
theorem motionPeriod_of_seated {v : Samples} {rest : List Watch} {s u : State} (first : seatedFirst v s = u)
    (quiet : u.quiet v) (works : ∀ a, u.works a) (follows : u.follows u.setpoints) :
    motionPeriod v (.seated :: rest) s = u := by
  have near (a : Axis) : ((u.axis a).setpoint - (u.axis a).scale).natAbs ≤ u.cfg.followLimit := by
    rw [← State.get_setpoints]
    exact follows a
  have tracked : u.axes.chan.map AxisChan.track = u.axes.chan := by
    refine V3.ext_get fun a => ?_
    rw [V3.get_map]
    exact AxisChan.track_of_running (works a).2
  rw [motionPeriod_eq_watched, watched_seated, first,
    foldl_fixed (f := fun t w => watch v w t) (watch_of_quiet quiet near), tracked]
  rfl

/-- With nothing in flight and no reference a period sends no setpoint. -/
theorem advance_of_still {s : State} (flying : s.flying = none) (reference : s.motion.state ≠ .referencing) :
    advance s = s := by
  have still : advanceReference s = s := by
    rw [advanceReference, State.referenceRun, if_neg reference]
  rw [advance, still, advanceSegment, flying]

theorem applyNote_current (k : SlotIx) (c : Ident) (src : NotedBy) (s : State) :
    (applyNote k c src s).probes.current = s.probes.current := by simp

/-- The drop completes (R153): NONE on the arm, its ident noted in the slot, and the arm leaves. -/
theorem completeDrop_departs {ch : Change} {k : SlotIx} {i : Ident} {s : State} (drop : ch.drop = some k)
    (ident : s.probes.current.ident = some i) (calm : s.calm) (changing : s.motion.state = .changing)
    (linked : s.link.state ≠ .silent) (room : s.link.list.length < 8) :
    s.departs k (completeDrop ch s) ∧ (completeDrop ch s).heldSet = s.heldSet
      ∧ (completeDrop ch s).probes.current = .none
      ∧ (completeDrop ch s).probes.slots = (applyNote k i (.station s.own) (s.setCurrentProbe .none)).probes.slots
      ∧ (completeDrop ch s).listed (.rackNote k i)
      ∧ (completeDrop ch s).probes.change = some { ch with phase := .leavingDrop, seatDue := none } := by
  generalize noted : offerNote k i (applyNote k i (.station s.own) (s.setCurrentProbe .none)) = u
  have drops : completeDrop ch s = beginLeaving .leavingDrop ch u := by
    unfold completeDrop
    dsimp only
    rw [drop, ident, Option.getD_some]
    dsimp only
    rw [noted]
  have placed := offerNote_of_room (k := k) (c := i) (s := applyNote k i (.station s.own) (s.setCurrentProbe .none))
    (by simpa using linked) (by simpa using room)
  rw [noted] at placed
  have listed : u.listed (.rackNote k i) := by
    rw [placed]
    exact mem_insertTx.mpr (.inl rfl)
  have same : u.motion = s.motion ∧ u.zone = s.zone ∧ u.station = s.station ∧ u.probes.current = .none
      ∧ u.probes.slots = (applyNote k i (.station s.own) (s.setCurrentProbe .none)).probes.slots := by
    rw [placed]
    exact ⟨by simp, by simp, by simp, applyNote_current _ _ _ _, rfl⟩
  clear placed noted
  obtain ⟨motion, zone, station, current, slots⟩ := same
  have u_calm : u.calm := by
    rw [State.calm, motion, zone]
    exact calm
  obtain ⟨⟨state, leaves⟩, held, -, -⟩ := beginLeaving_departs (ph := .leavingDrop) (ch := ch) (s := u) (k
      := k) drop u_calm
    (by rw [motion, changing])
  rw [drops]
  refine ⟨⟨state, by simpa [State.cfg, station] using leaves⟩, held.trans
      (State.heldSet_congr ?_ ?_), ?_, ?_, ?_, by simp⟩
  · rw [zone]
  · rw [State.own, station]
    rfl
  · simp [current]
  · simp [slots]
  · unfold beginLeaving handInternal
    dsimp only
    refine becomeCurrent_keeps_note listed fun g internal => ?_
    have dock := Option.some.inj ((if_pos (motion ▸ changing)).symm.trans internal)
    rw [← dock]
    simp [newSegment]

/-- EMPTY noted in a slot changes no other. -/
theorem applyNote_empty (k : SlotIx) (src : NotedBy) (s : State) : applyNote k 0x0000#16 src s
    = s.setSlot k { s.probes.slots.get k with content := 0x0000#16, notedBy := src } := by
  rw [applyNote, if_neg (by simp [validIdent]), State.setSlot]
  refine congrArg (fun l => s.setProbes { s.probes with slots := l }) (Vec.ext_get fun j => ?_)
  rw [Vec.get_mapIx]
  by_cases same : j = k
  · rw [if_pos same, same, Vec.get_set_same]
  · rw [if_neg same, Vec.get_set_other _ _ same, if_neg (by simp [validIdent])]

/-- The pick completes (R154): the slot EMPTY, the current probe UNKNOWN, and IDENTIFYING begins its read. -/
theorem completePick_reads {ch : Change} {k : SlotIx} {s : State} (pick : ch.pick = some k)
    (linked : s.link.state ≠ .silent) (room : s.link.list.length < 8) :
    s.sameBut (completePick ch s) [.link, .probes] ∧ (completePick ch s).listed (.rackNote k 0x0000#16)
      ∧ (completePick ch s).probes = { s.probes with
          current := .unknown 0xFFFF#16
          slots := s.probes.slots.set k { s.probes.slots.get k with
            content := 0x0000#16, notedBy := .station s.own }
          change := some { ch with phase := .identifying, seatDue := none }
          read := some { attempts := 1, forChange := true, since := s.clock } } := by
  have picks : completePick ch s = beginRead true (((offerNote k 0x0000#16
      (applyNote k 0x0000#16 (.station s.own) s)).setCurrentProbe (.unknown 0xFFFF#16)).setChange
        (some { ch with phase := .identifying, seatDue := none })) := by
    unfold completePick
    dsimp only
    rw [pick]
  have placed := offerNote_of_room (k := k) (c := 0x0000#16) (s := applyNote k 0x0000#16 (.station s.own) s)
    (by simpa using linked) (by simpa using room)
  rw [picks, placed, applyNote_empty]
  refine ⟨fun p outside => ?_, mem_insertTx.mpr (.inl rfl), rfl⟩
  cases p <;> simp [State.sameIn] at outside ⊢

/-- The state in which a period meets the seated line's change while nothing is in flight. -/
def State.metSeated (s : State) (v : Samples) : State := noteSeated v.seated (s.sampledIn v)

theorem metSeated_leaves (s : State) (v : Samples) : s.sameBut (s.metSeated v) [.clock, .axes, .probes]
    ∧ (s.metSeated v).clock = s.clock + 1 ∧ (s.metSeated v).probes.current = s.probes.current
    ∧ (s.metSeated v).probes.slots = s.probes.slots ∧ (s.metSeated v).probes.latchOpen = s.probes.latchOpen
    ∧ (s.metSeated v).probes.seated = v.seated
    ∧ (∀ a, ((s.metSeated v).axis a).mode = (s.axis a).mode ∧ ((s.metSeated v).axis a).setpoint = (s.axis a).setpoint
      ∧ ((s.metSeated v).axis a).scale = (s.axis a).scale) := by
  refine ⟨fun p outside => ?_, rfl, rfl, rfl, rfl, rfl, fun a => by cases a <;> exact ⟨rfl, rfl, rfl⟩⟩
  cases p <;> simp [State.sameIn, State.metSeated, State.sampledIn] at outside ⊢

/-- A phase's seated change, met with no other watch tripped, leaves the state its phase makes of it. -/
theorem motionPeriod_of_met {v : Samples} {rest : List Watch} {ch : Change} {s u : State}
    (changing : s.motion.state = .changing) (change : s.probes.change = some ch) (internal : s.motion.internal = none)
    (levels : ∀ a, v.lower.get a = false ∧ v.upper.get a = false ∧ v.ready.get a = true)
    (changed : v.seated ≠ s.probes.seated) (met : seatedInChange ch v.seated (s.metSeated v) = u)
    (noted : u.probes.seated = v.seated) (works : ∀ a, u.works a)
    (follows : s.follows s.setpoints)
    (still : u.station = s.station ∧ ∀ a, (u.axis a).setpoint = (s.axis a).setpoint ∧ (u.axis a).scale =
        (s.axis a).scale) :
    exec (.motionPeriod v (.seated :: rest)) s = .next u := by
  have sampled : (s.sampledIn v).motion = s.motion := by simp [State.sampledIn]
  have flying : (s.sampledIn v).flying = none := by
    rw [State.flying, State.current, sampled, if_pos changing, internal]
    rfl
  have moved : advance (s.sampledIn v) = s.sampledIn v :=
    advance_of_still flying (by simp [sampled, changing])
  obtain ⟨station, axes⟩ := still
  have first : seatedFirst v s = u := by
    rw [seatedFirst_eq changed, moved, change]
    exact met
  refine congrArg Host.Outcome.next (motionPeriod_of_seated first ⟨levels, noted.symm⟩ works fun a => ?_)
  obtain ⟨setpoint, scale⟩ := axes a
  rw [State.get_setpoints, setpoint, scale, State.cfg, station, ← State.get_setpoints]
  exact follows a

/-- The 300 ms of a drop or a pick run out (R153, R154): the latch goes back, and the arm leaves with SEAT TIMEOUT. -/
theorem seatTimeout_departs {waiting leaving : Phase} {latchOpen : Bool} {ch : Change} {k : SlotIx} {s : State}
    (change : s.probes.change = some ch) (phase : ch.phase = waiting)
    (slot : (if leaving = .leavingPick then ch.pick else ch.drop) = some k) (calm : s.calm)
    (changing : s.motion.state = .changing) :
    s.departs k (seatTimeout waiting leaving latchOpen s)
      ∧ (seatTimeout waiting leaving latchOpen s).heldSet = s.heldSet
      ∧ (seatTimeout waiting leaving latchOpen s).probes.latchOpen = latchOpen
      ∧ (seatTimeout waiting leaving latchOpen s).probes.current = s.probes.current
      ∧ (seatTimeout waiting leaving latchOpen s).clock = max s.clock (ch.seatDue.getD s.clock)
      ∧ (seatTimeout waiting leaving latchOpen s).probes.change
          = some { ch with phase := leaving, seatDue := none, failure := some .seatTimeout } := by
  have leaves : seatTimeout waiting leaving latchOpen s = beginLeaving leaving { ch with failure := some .seatTimeout }
      ((s.reach (ch.seatDue.getD s.clock)).setProbes { s.probes with latchOpen := latchOpen }) := by
    rw [seatTimeout, change]
    dsimp only
    rw [if_pos phase]
    rfl
  obtain ⟨departs, held, -, -⟩ := beginLeaving_departs (ph := leaving) (k := k)
    (ch := { ch with failure := some .seatTimeout })
    (s := (s.reach (ch.seatDue.getD s.clock)).setProbes { s.probes with latchOpen := latchOpen }) slot calm changing
  rw [leaves]
  exact ⟨departs, held, by simp, by simp, by simp [State.reach], by simp⟩

/-- Settles O51: the seated line from `completeDrop_departs` and `completePick_reads`, the timers from
`seatTimeout_departs`. -/
theorem seatTimersFailTheChange : Obligations.SeatTimersFailTheChange := by
  refine ⟨fun ch k v rest s changing change internal calm levels follows modes linked room => ?_,
    fun ch s changing change calm => ⟨fun phase k drop => ?_, fun phase k pick => ?_⟩⟩
  · obtain ⟨same, clock, current, slots, latch, noted, axes⟩ := metSeated_leaves s v
    have motion : (s.metSeated v).motion = s.motion := same .motion (by simp)
    have zone : (s.metSeated v).zone = s.zone := same .zone (by simp)
    have link : (s.metSeated v).link = s.link := same .link (by simp)
    have station : (s.metSeated v).station = s.station := same .station (by simp)
    have works (a : Axis) : (s.metSeated v).works a := by
      refine ⟨by rw [motion, changing]; decide, .inl ?_⟩
      rw [(axes a).1, modes]
    have meets {u : State} (met : seatedInChange ch v.seated (s.metSeated v) = u)
        (changed : v.seated ≠ s.probes.seated) :=
      motionPeriod_of_met (rest := rest) changing change internal levels changed met
    generalize s.metSeated v = w at *
    have own : w.own = s.own := by rw [State.own, station]; rfl
    have cells : w.heldSet = s.heldSet := State.heldSet_congr (by rw [zone]) own
    refine ⟨fun i phase drop on off ident => ?_, fun phase pick off on => ?_⟩
    · have met : seatedInChange ch v.seated w = completeDrop ch w := by simp only [seatedInChange, phase, off]
      obtain ⟨⟨state, g, inHand, kind, target, -⟩, held, now, shows, listed, leaving⟩ := completeDrop_departs (s
          := w) drop
        (current ▸ ident) (by rw [State.calm, motion, zone]; exact calm) (motion ▸ changing) (link ▸ linked)
        (link ▸ room)
      have run := meets met (by simp [on, off]) (by simp [noted]) (fun a => (works a).completeDrop ch) follows
        ⟨by simp [station], fun a => ?_⟩
      · obtain ⟨content, notedBy⟩ := (applyNote_notedFrom (k := k) (c := i) (src := .station w.own)
          (s := w.setCurrentProbe .none) (.inr (.inr (by simp [State.setCurrentProbe, CurrentProbe.ident])))).1 k
        refine ⟨_, g, run, by simp [clock], by simp [noted, off], now, ?_, ?_, listed, leaving, by simp [latch], state,
          inHand, kind, ?_, held.trans cells⟩
        · rw [shows, content, if_pos rfl]
        · rw [shows, notedBy, if_pos (.inl rfl), own]
        · rw [target, State.cfg, station]
          rfl
      · obtain ⟨-, setpoint, scale⟩ := axes a
        rw [← setpoint, ← scale]
        simp [State.axis]
    · have met : seatedInChange ch v.seated w = completePick ch w := by simp only [seatedInChange, phase, on]
      obtain ⟨parts, listed, probes⟩ := completePick_reads (s := w) pick (link ▸ linked) (link ▸ room)
      have kept : (completePick ch w).station = s.station ∧ (completePick ch w).axes = w.axes :=
        ⟨(parts .station (by simp)).trans station, parts .axes (by simp)⟩
      have run := meets met (by simp [on, off]) (by simp [noted]) (fun a => (works a).completePick ch) follows
        ⟨kept.1, fun a => ?_⟩
      · refine ⟨_, run, by simp [clock], fun p outside => ?_, by simp [noted, on], ?_, ?_, listed, ?_,
          by simp [latch], ?_⟩
        · exact State.sameBut_mono (State.sameBut_trans same parts) (by simp) p outside
        · rw [probes]
        · rw [probes, slots, own]
        · rw [probes]
        · rw [probes, clock]
      · rw [State.axis, kept.2]
        exact (axes a).2
  · obtain ⟨⟨state, g, inHand, kind, target, -⟩, held, latch, current, clock, leaving⟩ :=
      seatTimeout_departs (leaving := .leavingDrop) (latchOpen := false) (k
          := k) change phase (by simpa using drop) calm
        changing
    exact ⟨_, g, rfl, latch, leaving, state, inHand, kind, target, current, clock, held⟩
  · obtain ⟨⟨state, g, inHand, kind, target, -⟩, held, latch, current, clock, leaving⟩ :=
      seatTimeout_departs (leaving := .leavingPick) (latchOpen := true) (k := k) change phase (by simpa using pick) calm
        changing
    exact ⟨_, g, rfl, latch, leaving, state, inHand, kind, target, current, clock, held⟩

/-! ## Identity reads (R142, R143, R155) -/

theorem State.sameBut_setProbes (s : State) (v : Probes) : s.sameBut (s.setProbes v) [.probes] := by
  intro p outside
  cases p <;> simp [State.sameIn] at outside ⊢

theorem answeredIdent_eq (high low : Byte) : answeredIdent high low = high ++ low := by
  refine BitVec.eq_of_toNat_eq ?_
  have := high.isLt
  have := low.isLt
  rw [answeredIdent, BitVec.toNat_ofNat, BitVec.toNat_append, ← Nat.shiftLeft_add_eq_or_of_lt low.isLt]
  simp [beNat]
  omega

/-- The ident of an answer is expelled from no slot where none shows it. -/
theorem expelIdent_of_unshown {result : Option Ident} {s : State}
    (unshown : ∀ i, result = some i → ∀ k, (s.probes.slots.get k).content ≠ i) :
    expelIdent (readIdent result) s = s := by
  cases result with
  | none => exact if_neg (by simp [readIdent, validIdent])
  | some i => exact expelIdent_of_absent (unshown i rfl)

/-- A read of the host ends with the current probe (R142, Table 7-2). -/
theorem endRead_of_host {result : Option Ident} {r : IdentRead} {s : State} (read : s.probes.read = some r)
    (host : r.forChange = false) (unshown : ∀ i, result = some i → ∀ k, (s.probes.slots.get k).content ≠ i) :
    endRead result s = s.setProbes { s.probes with read := none, current := identified result s } := by
  unfold endRead
  rw [read]
  dsimp only
  rw [if_neg (by simp [host]), expelIdent_of_unshown (by exact unshown)]
  rfl

/-- A read of a change ends with the current probe, and the arm leaves the pick slot (R155). -/
theorem endRead_departs {result : Option Ident} {r : IdentRead} {ch : Change} {k : SlotIx} {s : State}
    (read : s.probes.read = some r) (forChange : r.forChange = true) (change : s.probes.change = some ch)
    (pick : ch.pick = some k) (unshown : ∀ i, result = some i → ∀ k, (s.probes.slots.get k).content ≠ i)
    (calm : s.calm) (changing : s.motion.state = .changing) (noBank : s.probes.pendingBank = none) :
    s.departs k (endRead result s) ∧ (endRead result s).heldSet = s.heldSet
      ∧ (endRead result s).motion.queue = s.motion.queue
      ∧ (endRead result s).probes = { s.probes with
          read := none, current := identifiedForChange ch result
          change := some { ch with phase := .leavingPick, failure := readFailure ch result, seatDue := none } } := by
  generalize shown : s.setProbes { s.probes with read := none, current := identifiedForChange ch result } = u
  have ends : endRead result s = beginLeaving .leavingPick { ch with failure := readFailure ch result } u := by
    unfold endRead
    rw [read]
    dsimp only
    rw [if_pos forChange, show (s.setProbes { s.probes with read := none }).probes.change = some ch from change]
    dsimp only
    rw [expelIdent_of_unshown (by exact unshown), ← shown]
    rfl
  have same : u.motion = s.motion ∧ u.zone = s.zone ∧ u.station = s.station := by simp [← shown]
  obtain ⟨motion, zone, station⟩ := same
  obtain ⟨⟨state, leaves⟩, held, queue, probes⟩ := beginLeaving_departs (ph := .leavingPick)
    (ch := { ch with failure := readFailure ch result }) (s := u) (k := k) pick
    (by rw [State.calm, motion, zone]; exact calm) (motion ▸ changing)
  rw [ends]
  refine ⟨⟨state, by simpa [State.cfg, station] using leaves⟩, held.trans (State.heldSet_congr ?_ ?_),
    by rw [queue, motion], ?_⟩
  · rw [zone]
  · rw [State.own, station]
    rfl
  · rw [probes (by simpa [← shown] using noBank), ← shown]
    rfl

theorem failAttempt_of_few {r : IdentRead} {s : State} (read : s.probes.read = some r) (few : r.attempts < 3) :
    failAttempt s = s.setProbes { s.probes with
      read := some { r with attempts := r.attempts + 1, since := s.clock } } := by
  rw [failAttempt, read]
  exact if_pos few

theorem failAttempt_of_third {r : IdentRead} {s : State} (read : s.probes.read = some r) (third : 3 ≤ r.attempts) :
    failAttempt s = endRead none s := by
  rw [failAttempt, read]
  exact if_neg (by omega)

theorem takeAnswer_good {high low : Byte} {s : State} (zero : high ++ low ≠ 0x0000#16)
    (unknown : high ++ low ≠ 0xFFFF#16) :
    takeAnswer high low (crc8 [high, low]) s = endRead (some (high ++ low)) s := by
  unfold takeAnswer
  dsimp only
  rw [answeredIdent_eq, if_pos ⟨rfl, (validIdent_iff _).mpr ⟨zero, unknown⟩⟩]

theorem takeAnswer_bad {high low check : Byte} {s : State}
    (bad : check ≠ crc8 [high, low] ∨ high ++ low = 0x0000#16 ∨ high ++ low = 0xFFFF#16) :
    takeAnswer high low check s = failAttempt s := by
  unfold takeAnswer
  dsimp only
  refine if_neg ?_
  rw [answeredIdent_eq, validIdent_iff]
  rintro ⟨good, zero, unknown⟩
  rcases bad with wrong | is_zero | is_unknown
  · exact wrong good.symm
  · exact zero is_zero
  · exact unknown is_unknown

theorem attemptTimeout_of_read {r : IdentRead} {s : State} (read : s.probes.read = some r) :
    attemptTimeout s = failAttempt (s.reach (r.since + 50)) := by
  rw [attemptTimeout, read]

/-- While CHANGING a sound bank selector has nothing pending, since no PROBE is in hand (R25, R139). -/
theorem pendingBank_of_changing {s : State} (bank : s.BankSound) (sound : s.MotionSound)
    (changing : s.motion.state = .changing) : s.probes.pendingBank = none := by
  have quiet : s.probeBusy = false := by
    rw [State.probeBusy, State.flying, State.current, if_pos changing]
    cases internal : s.motion.internal with
    | none => rfl
    | some g =>
      obtain ⟨-, -, -, -, travels⟩ := sound
      by_cases flies : g.state.flying = true
      · simp [Option.filter, flies, (travels g internal).2]
      · simp [Option.filter, flies]
  rw [← Option.not_isSome_iff_eq_none]
  intro pending
  rw [bank pending] at quiet
  cases quiet

/-- Settles O50: the reads of the host from `endRead_of_host`, those of a change from `endRead_departs`. -/
theorem probeIsIdentified : Obligations.ProbeIsIdentified := by
  refine ⟨fun s => ⟨fun refused => ?_, fun idle seated free => ?_, fun r read host => ?_⟩,
    fun r ch k s changing change phase pick read forChange calm sound bank => ?_⟩
  · refine congrArg Host.Outcome.next ?_
    rw [identifyProbe, withLength, if_pos List.length_nil, if_pos (by simpa using refused)]
  · refine congrArg Host.Outcome.next ?_
    rw [identifyProbe, withLength, if_pos List.length_nil, if_neg (by simp [idle, seated]), if_neg (by simp [free])]
    rfl
  · have unread : endRead none s = s.setProbes { s.probes with read := none, current := .unknown 0xFFFF#16 } :=
      endRead_of_host read host (by simp)
    have reached : (s.reach (r.since + 50)).probes.read = some r := read
    have timeout := attemptTimeout_of_read read
    refine ⟨?_, fun high low zero unknown absent => ?_, fun high low check bad => ⟨fun few => ?_, fun third => ?_⟩,
      fun few => ?_, fun third => ?_⟩
    · have low : s.outputs.identLow = s.requestsIdent := rfl
      rw [low, State.requestsIdent, read]
      exact decide_eq_true_iff
    · refine congrArg Host.Outcome.next ((takeAnswer_good zero unknown).trans ?_)
      exact endRead_of_host read host fun i same => Option.some.inj same ▸ absent
    · refine congrArg Host.Outcome.next ((takeAnswer_bad bad).trans ((failAttempt_of_few read few).trans ?_))
      rw [← host]
    · exact congrArg Host.Outcome.next ((takeAnswer_bad bad).trans ((failAttempt_of_third read third).trans unread))
    · refine congrArg Host.Outcome.next (timeout.trans ((failAttempt_of_few reached few).trans ?_))
      rw [← host]
      rfl
    · refine congrArg Host.Outcome.next (timeout.trans ((failAttempt_of_third reached third).trans ?_))
      exact endRead_of_host reached host (by simp)
  · have noBank := pendingBank_of_changing bank sound changing
    refine ⟨fun high low zero unknown absent => ?_, fun c fails => ?_⟩
    · obtain ⟨⟨state, h, now, kind, target, feed⟩, held, queue, probes⟩ :=
        endRead_departs (result := some (high ++ low)) read forChange change pick
          (fun i same => Option.some.inj same ▸ absent) calm changing noBank
      have run : exec (.identAnswer high low (crc8 [high, low])) s = .next (endRead (some (high ++ low)) s) :=
        congrArg Host.Outcome.next (takeAnswer_good zero unknown)
      refine ⟨fun same => ⟨_, h, run, ?_, state, now, kind, target, feed, held, queue⟩,
        fun other => ⟨_, h, run, ?_, state, now, kind, target, feed, held, queue⟩⟩
      · rw [probes, identifiedForChange, readFailure, same]
        simp
      · rw [probes, identifiedForChange, readFailure]
        simp [other, readIdent]
    · have attempt : ∃ u, exec c s = .next (failAttempt u) ∧ s.sameBut u [.clock] := by
        rcases fails with timeout | ⟨high, low, check, answer, bad⟩
        · refine ⟨s.reach (r.since + 50), ?_, fun p outside => ?_⟩
          · rw [timeout]
            exact congrArg Host.Outcome.next (attemptTimeout_of_read read)
          · cases p <;> simp [State.sameIn, State.reach] at outside ⊢
        · refine ⟨s, ?_, fun p _ => by cases p <;> rfl⟩
          rw [answer]
          exact congrArg Host.Outcome.next (takeAnswer_bad bad)
      obtain ⟨u, run, same⟩ := attempt
      have parts : u.probes = s.probes ∧ u.motion = s.motion ∧ u.zone = s.zone ∧ u.station = s.station :=
        ⟨same .probes (by simp), same .motion (by simp), same .zone (by simp), same .station (by simp)⟩
      obtain ⟨probes, motion, zone, station⟩ := parts
      refine ⟨fun few => ?_, fun third => ?_⟩
      · rw [failAttempt_of_few (probes ▸ read) few] at run
        refine ⟨_, run, fun p outside => ?_, ?_⟩
        · exact State.sameBut_mono (State.sameBut_trans same (State.sameBut_setProbes u _)) (by simp) p outside
        · simp [probes, forChange]
      · obtain ⟨⟨state, h, now, kind, target, feed⟩, held, queue, ended⟩ :=
          endRead_departs (result := none) (s := u) (probes ▸ read) forChange (probes ▸ change) pick (by simp)
            (by rw [State.calm, motion, zone]; exact calm) (motion ▸ changing) (probes ▸ noBank)
        rw [failAttempt_of_third (probes ▸ read) third] at run
        refine ⟨_, h, run, ?_, state, now, kind, ?_, ?_, held.trans (State.heldSet_congr ?_ ?_), queue.trans
            (by rw [motion])⟩
        · rw [ended, probes]
          rfl
        · rw [target, State.cfg, station]
          rfl
        · rw [feed, State.cfg, station]
          rfl
        · rw [zone]
        · rw [State.own, station]
          rfl

end Sys2Proof.Machine
end

section
/-! PROOFS. CHANGE PROBE and ABORT CHANGE (R150, R151, R157): the checks of Table 7-5, the slots chosen, the travel to
the first of them, and the abort by phase. -/

namespace Sys2Proof.Machine

/-! ## The checks and the slots (R150, R151) -/

/-- The checks of Table 7-5 in order, each with its reply. -/
def changeChecks (target : Ident) (s : State) : List (Bool × Code) :=
  [(decide (target = 0xFFFF#16), .outOfRange),
   (decide (s.station.state ≠ .active ∨ s.motion.state ≠ .idle ∧ s.motion.state ≠ .held), .wrongState),
   (s.probes.read.isSome, .busy),
   (!((s.axis .x).referenced && (s.axis .y).referenced && (s.axis .z).referenced), .notReferenced),
   (decide (s.probes.current = .known target ∨ target = 0x0000#16 ∧ s.probes.current = .none), .already),
   (decide (target ≠ 0x0000#16 ∧ s.entry target = none), .unknownProbe),
   (decide (target ≠ 0x0000#16 ∧ ∀ k : SlotIx, (s.probes.slots.get k).content ≠ target), .notInRack),
   (decide (s.probes.current ≠ .none ∧ ∀ k : SlotIx, (s.probes.slots.get k).content ≠ 0x0000#16), .rackFull)]

theorem CurrentProbe.isNone_iff (p : CurrentProbe) : p.isNone = true ↔ p = .none := by
  cases p <;> simp [CurrentProbe.isNone]

/-- The slots with a content are searched in rising order. -/
theorem slotsWith_find? (s : State) (c : Ident) (p : SlotIx → Bool) :
    (s.slotsWith c).find? p
      = (List.finRange 24).find? fun k : SlotIx => (s.probes.slots.get k).content == c && p k := by
  rw [State.slotsWith, List.find?_filter]
  simp [beq_eq_decide]

theorem slotsWith_head? (s : State) (c : Ident) :
    (s.slotsWith c).head? = (List.finRange 24).find? fun k : SlotIx => (s.probes.slots.get k).content == c := by
  rw [State.slotsWith, List.head?_filter]

theorem slotsWith_isNone_iff (s : State) (c : Ident) :
    (s.slotsWith c).head?.isNone = true ↔ ∀ k : SlotIx, (s.probes.slots.get k).content ≠ c := by
  simp [slotsWith_head?]

theorem changeRefusal_eq (target : Ident) (s : State) :
    changeRefusal target s = ((changeChecks target s).find? (·.1)).map (·.2) := by
  have referenced : s.allReferenced
      = ((s.axis .x).referenced && (s.axis .y).referenced && (s.axis .z).referenced) := by
    simp [State.allReferenced, V3.all, State.axis, V3.get]
  have carries : s.carries target = true
      ↔ (s.probes.current = .known target ∨ target = 0x0000#16 ∧ s.probes.current = .none) := by
    simp [State.carries, CurrentProbe.isNone_iff]
  have full : (!s.probes.current.isNone && (s.dropSlot none).isNone) = true
      ↔ (s.probes.current ≠ .none ∧ ∀ k : SlotIx, (s.probes.slots.get k).content ≠ 0x0000#16) := by
    have head : s.dropSlot none = (s.slotsWith 0x0000#16).head? := rfl
    rw [Bool.and_eq_true, head, slotsWith_isNone_iff, Bool.not_eq_true', ← Bool.not_eq_true, CurrentProbe.isNone_iff]
  by_cases unreadable : target = 0xFFFF#16
  · simp [changeRefusal, changeChecks, unreadable]
  · have unknown : (validIdent target && (s.entry target).isNone) = true ↔
      (target ≠ 0x0000#16 ∧ s.entry target = none) := by
      simp [validIdent, unreadable]
    have absent : (validIdent target && (s.pickSlot target).isNone) = true
        ↔ (target ≠ 0x0000#16 ∧ ∀ k : SlotIx, (s.probes.slots.get k).content ≠ target) := by
      rw [Bool.and_eq_true, validIdent_iff]
      constructor
      · rintro ⟨⟨zero, -⟩, none_shows⟩
        rw [State.pickSlot, if_neg zero, slotsWith_isNone_iff] at none_shows
        exact ⟨zero, none_shows⟩
      · rintro ⟨zero, none_shows⟩
        refine ⟨⟨zero, unreadable⟩, ?_⟩
        rwa [State.pickSlot, if_neg zero, slotsWith_isNone_iff]
    simp only [changeChecks, find?_check, List.find?_nil, Option.map_none, decide_eq_true_eq, changeRefusal,
      referenced, carries, full, unknown, absent]

theorem changeProbe_word (target : Ident) (s : State) :
    changeProbe (word target) s = match changeRefusal target s with
      | some c => s.answer c []
      | none => (beginChange (newChange target s) s).answer .ok
          (optional 1 (fun i : SlotIx => one i.val) (newChange target s).pick
            ++ optional 1 (fun i : SlotIx => one i.val) (newChange target s).drop) := by
  rw [changeProbe, withLength_eq (length_word target), fieldWord_word] <;> rfl

/-- The one slot that shows the target is picked from (R151). -/
theorem pickSlot_of_shown {target : Ident} {k : SlotIx} {s : State} (nonzero : target ≠ 0x0000#16)
    (shown : ∀ j, (s.probes.slots.get j).content = target ↔ j = k) : s.pickSlot target = some k := by
  rw [State.pickSlot, if_neg nonzero, slotsWith_head?]
  refine find?_finRange_of_least (by simpa using (shown k).mpr rfl) fun j below => ?_
  simpa [shown] using ne_of_lt below

/-- The lowest EMPTY slot of the pick slot's rack is dropped into, or of any rack where that has none (R151). -/
theorem dropSlot_of_least {pick : Option SlotIx} {k : SlotIx} {s : State} {near : SlotIx → Prop}
    (rack : ∀ j, near j ↔ ∃ p, pick = some p ∧ j.val / 6 = p.val / 6)
    (empty : (s.probes.slots.get k).content = 0x0000#16)
    (least : near k ∧ (∀ j, j < k → (s.probes.slots.get j).content = 0x0000#16 → ¬ near j)
      ∨ (∀ j, (s.probes.slots.get j).content = 0x0000#16 → ¬ near j)
        ∧ ∀ j, j < k → ¬ (s.probes.slots.get j).content = 0x0000#16) : s.dropSlot pick = some k := by
  have lowest (first : ∀ j, j < k → ¬ (s.probes.slots.get j).content = 0x0000#16) :
      (s.slotsWith 0x0000#16).head? = some k := by
    rw [slotsWith_head?]
    exact find?_finRange_of_least (by simpa using empty) fun j below => by simpa using first j below
  unfold State.dropSlot
  dsimp only
  cases pick with
  | none =>
    rcases least with ⟨close, -⟩ | ⟨-, first⟩
    · simp [rack] at close
    · exact lowest first
  | some p =>
    dsimp only
    have same_rack (j : SlotIx) : near j ↔ j.val / 6 = p.val / 6 := by simp [rack]
    simp only [same_rack] at least
    rw [slotsWith_find?]
    rcases least with ⟨close, first⟩ | ⟨far, first⟩
    · rw [find?_finRange_of_least (i := k) (by simp [empty, close]) fun j below => ?_]
      · rfl
      · simpa using first j below
    · rw [List.find?_eq_none.mpr fun j _ => by simpa using far j]
      exact lowest first

/-! ## The change begins (R151, R152) -/

theorem length_shelveHead (l : List Segment) : (shelveHead l).length = l.length := by cases l <;> rfl

/-- A travel to a slot begins with a RAPID in hand to its clear point (R152). -/
theorem beginChange_travels {ch : Change} {s : State} (calm : s.calm) :
    ∃ g, (beginChange ch s).motion.state = .changing ∧ (beginChange ch s).motion.internal = some g ∧ g.kind = .rapid
      ∧ g.feed = s.cfg.rapidMax ∧ g.tag = none
      ∧ g.target = (s.slotPoints (if ch.phase = .goingToPick then ch.pick else ch.drop)).clear
      ∧ (beginChange ch s).motion.queue.length = s.motion.queue.length ∧ (beginChange ch s).heldSet = s.heldSet
      ∧ (beginChange ch s).probes.change = some ch ∧ (beginChange ch s).probes.current = s.probes.current
      ∧ (beginChange ch s).probes.slots = s.probes.slots := by
  have begins : beginChange ch s = beginTravel ch.phase ch (s.setMotion { s.motion with
      state := .changing, queue := shelveHead s.motion.queue, internal := none }) := by
    unfold beginChange
    dsimp only
    rw [currentChanged_of_calm calm.1 calm.2.1]
  rw [begins]
  obtain ⟨-, queue, held, state, g, now, kind, target, feed, untagged⟩ :=
    handInternal_handed (kind := .rapid)
      (s := (s.setMotion { s.motion with
        state := .changing, queue := shelveHead s.motion.queue, internal := none }).setChange (some ch))
      (s.slotPoints (if ch.phase = .goingToPick then ch.pick else ch.drop)).clear (by simp) calm rfl
  exact ⟨g, state, now, kind, feed, untagged, target, (congrArg List.length queue).trans (length_shelveHead _), held,
    by simp, by simp, by simp⟩

/-! ## The abort (R157) -/

/-- A RUNNING travel begins its STOP deceleration, the change failed ABORTED (R157, R44). -/
theorem abortTravel_decelerates {ch : Change} {g : Segment} {geo : Geom} {s : State}
    (changing : s.motion.state = .changing) (internal : s.motion.internal = some g) (running : g.state = .running)
    (fast : g.decel = none) (sent : 0 < g.sent) (geom : g.geom = some geo) :
    abortTravel ch s = (s.setProbes { s.probes with change := some { ch with failure := some .aborted } }).setMotion
      { s.motion with
        internal := some { g with decel := some (profileEntry geo.len g.feed s.cfg.accel g.sent) } } := by
  have flying : (s.setChange (some { ch with failure := some .aborted })).flying = some g := by
    have current : (s.setChange (some { ch with failure := some .aborted })).current = some g :=
      (if_pos changing).trans internal
    rw [State.flying, current, Option.filter_some, if_pos (by rw [running]; rfl)]
  unfold abortTravel
  dsimp only
  rw [flying]
  dsimp only
  rw [if_pos running, decelerate, if_neg (by simp [fast]), if_neg (by omega), setCurrent_of_changing
      (by exact changing),
    Segment.len_of_geom geom]
  rfl

theorem abortCommand_of_changing {s : State} (changing : s.motion.state = .changing) :
    abortCommand [] s = (abortChange s).1.answer (abortChange s).2 [] := by
  rw [abortCommand, withLength, if_pos List.length_nil, if_neg (by simp [changing])]

/-- Settles O49: the refusals from `changeRefusal_eq`, the begin from `beginChange_travels`, the abort by phase. -/
theorem changeBeginsAndAborts : Obligations.ChangeBeginsAndAborts := by
  refine fun s => ⟨fun target => ⟨fun b c fails => ?_, ?_⟩, fun other => ?_, fun ch changing change =>
    ⟨fun phase => ?_, fun phase => ?_, fun g geo phase internal running fast sent geom => ?_⟩⟩
  · have refused : changeRefusal target s = some c := by
      rw [changeRefusal_eq]
      exact congrArg (Option.map (·.2)) fails
    refine congrArg Host.Outcome.next ?_
    rw [changeProbe_word, refused]
  · intro pick drop passes calm noPick onlySlot near noDrop least number
    have accepted : changeRefusal target s = none := by
      rw [changeRefusal_eq]
      exact congrArg (Option.map (·.2)) passes
    have picks : s.pickSlot target = pick := by
      by_cases zero : target = 0x0000#16
      · rw [State.pickSlot, if_pos zero, noPick zero]
      · obtain ⟨k, rfl, shown⟩ := onlySlot zero
        exact pickSlot_of_shown zero shown
    have made : newChange target s = {
        target := target, pick := pick, drop := drop
        phase := if drop.isSome then .goingToDrop else .goingToPick
        abort := false, failure := none, seatDue := none } := by
      unfold newChange
      dsimp only
      by_cases bare : s.probes.current = .none
      · rw [picks, if_pos ((CurrentProbe.isNone_iff _).mpr bare), noDrop (not_not_intro bare),
          if_pos ((CurrentProbe.isNone_iff _).mpr bare)]
        rfl
      · obtain ⟨k, rfl, empty, first⟩ := least bare
        have armed : ¬ s.probes.current.isNone = true := mt (CurrentProbe.isNone_iff _).mp bare
        rw [picks, if_neg armed, if_neg armed, dropSlot_of_least (fun _ => Iff.rfl) empty first]
        rfl
    obtain ⟨g, state, now, kind, feed, untagged, aim, queue, held, change, current, slots⟩ :=
      beginChange_travels (ch := newChange target s) calm
    have run := changeProbe_word target s
    rw [accepted] at run
    refine ⟨_, g, congrArg Host.Outcome.next run, state, change.trans
        (congrArg some made), now, kind, feed, untagged, fun k slot => ?_, current, slots, queue, held, ?_⟩
    · rw [aim, made]
      cases drop with
      | none => simp at slot; simp [slot, State.slotPoints]
      | some j => simp at slot; simp [slot, State.slotPoints]
    · have spelled (k : Option SlotIx) : optional 1 (fun i : SlotIx => one i.val) k = number k := by cases k <;> rfl
      rw [made]
      simp only [spelled]
      rfl
  · refine congrArg Host.Outcome.next ?_
    rw [abortCommand, withLength, if_pos List.length_nil, if_pos other]
  · have marks : abortChange s = (s.setChange (some { ch with abort := true }), .ok) := by
      rcases phase with phase | phase <;> simp only [abortChange, change, phase]
    exact congrArg Host.Outcome.next ((abortCommand_of_changing changing).trans (by rw [marks]; rfl))
  · have late : abortChange s = (s, .tooLate) := by
      rcases phase with phase | phase <;> simp only [abortChange, change, phase]
    exact congrArg Host.Outcome.next ((abortCommand_of_changing changing).trans (by rw [late]))
  · have slows : abortChange s = (abortTravel ch s, .ok) := by
      rcases phase with phase | phase <;> simp only [abortChange, change, phase]
    refine congrArg Host.Outcome.next ((abortCommand_of_changing changing).trans ?_)
    rw [slows, abortTravel_decelerates changing internal running fast sent geom]

end Sys2Proof.Machine
end

section
/-! PROOFS. The station's own claim from its CLAIM to the end of its window (R57, R59, R62), the grant of the join
claim (R74), and what waited for the end of an abandoned claim's window (R30, R47). -/

namespace Sys2Proof.Machine

/-! ## The own CLAIM is judged (R57, R62, R109) -/

theorem mem_holdReport {s : State} {e : TxEntry} (mem : e ∈ (holdReport s).link.list) :
    e ∈ s.link.list ∧ (e.frame = .presence → e.sending = true) := by
  unfold holdReport at mem
  split at mem
  · obtain ⟨listed, kept⟩ := List.mem_filter.mp mem
    refine ⟨listed, fun presence => ?_⟩
    simpa [TxEntry.pendingKind, presence, TxFrame.kind] using kept
  · next idle =>
    refine ⟨mem, fun presence => ?_⟩
    simp only [List.any_eq_true, not_exists, not_and] at idle
    simpa [TxEntry.pendingKind, presence, TxFrame.kind] using idle e mem

theorem length_holdReport (s : State) : (holdReport s).link.list.length ≤ s.link.list.length := by
  unfold holdReport
  split
  · exact List.length_filter_le _ _
  · exact le_rfl

theorem sameBut_holdReport (s : State) : s.sameBut (holdReport s) [.link, .peers] := by
  intro p outside
  cases p <;> simp [State.sameIn] at outside ⊢

/-- The station's own CLAIM opens its window, whatever it finds. -/
theorem takeClaim_own {n : Byte} {c : Claim} {s : State} (frames : s.frames = true) (claim : s.zone.claim = some c)
    (number : c.number = some n) (claiming : c.waitingState = false) :
    takeClaim s.own n c.cells s = afterClaim (if CellSet.minus c.cells s.freeSet = 0#20
      then holdReport (claimOpened s.own n c.cells s)
      else claimToWaiting (CellSet.minus c.cells s.freeSet) (holdReport (claimOpened s.own n c.cells s))) := by
  obtain ⟨-, -, claim_kept, -⟩ := claimOpened_leaves s.own n c.cells s
  have standing : (holdReport (claimOpened s.own n c.cells s)).zone.claim = some c := by
    simp [claim_kept, claim]
  have among : CellSet.minus c.cells s.freeSet &&& c.cells = CellSet.minus c.cells s.freeSet := by
    refine CellSet.ext_has fun k => ?_
    simp only [CellSet.has_and, CellSet.has_minus]
    cases c.cells.has k <;> simp
  rw [takeClaim, if_pos frames, if_pos rfl]
  unfold judgeOwnClaim
  dsimp only
  rw [show openWindow s.own n (claimCells s.own n c.cells s) = claimOpened s.own n c.cells s from rfl, standing]
  dsimp only
  rw [among]
  by_cases free : CellSet.minus c.cells s.freeSet = 0#20
  · rw [if_pos free, if_neg (by simp [free])]
  · rw [if_neg free, if_pos (by simp [free, number, claiming])]

/-! ## The end of a window (R59) -/

/-- The window over and its cells HELD, before what follows (R59). -/
def State.settledAt (s : State) (p : Station) (n : Byte) (due : Nat) : State :=
  closeWindow p n (grantCells p n (s.reach due))

theorem settledAt_cell (s : State) (p : Station) (n : Byte) (due : Nat) (k : Cell) :
    (s.settledAt p n due).cell k = if (s.cell k).state = .claimed p n
      then { s.cell k with state := .held p, last := some p } else s.cell k :=
  State.cell_mapCells _ _ k

theorem settledAt_leaves (s : State) (p : Station) (n : Byte) (due : Nat) :
    s.sameBut (s.settledAt p n due) [.clock, .zone] ∧ (s.settledAt p n due).clock = max s.clock due
      ∧ (s.settledAt p n due).zone.claim = s.zone.claim ∧ (s.settledAt p n due).zone.kept = s.zone.kept
      ∧ (s.settledAt p n due).window p n = none := by
  refine ⟨fun q outside => ?_, rfl, rfl, rfl, ?_⟩
  · cases q <;> simp [State.sameIn, State.settledAt, closeWindow, grantCells, State.reach] at outside ⊢
  · refine List.find?_eq_none.mpr fun w mem => ?_
    simpa [imp_iff_not_or] using (List.mem_filter.mp mem).2

/-- Behind its own window the station holds what it held, and what was CLAIMED by the claim. -/
theorem has_settledAt_heldSet (s : State) (n : Byte) (due : Nat) (k : Cell) :
    (s.settledAt s.own n due).heldSet.has k
      = ((s.cell k).state == .held s.own || (s.cell k).state == .claimed s.own n) := by
  have own : (s.settledAt s.own n due).own = s.own := rfl
  rw [State.has_heldSet, own, settledAt_cell]
  by_cases claimed : (s.cell k).state = .claimed s.own n
  · simp [claimed]
  · simp [claimed]

theorem endWindow_of_window {p : Station} {n : Byte} {w : Window} {s : State} (runs : s.window p n = some w) :
    endWindow p n s = if p = s.own then releaseReport (afterClaim (settle p n (s.reach (w.since + 2))))
      else afterClaim (settle p n (s.reach (w.since + 2))) := by
  rw [endWindow, runs]

theorem settle_eq (p : Station) (n : Byte) (due : Nat) (s : State) : settle p n (s.reach due)
    = if p = s.own then match s.zone.claim with
        | some c =>
          if c.number = some n ∧ !c.waitingState then grantClaim c (s.settledAt p n due) else s.settledAt p n due
        | none => s.settledAt p n due
      else s.settledAt p n due := rfl

/-- The station behind the end of the window of its own claim: no claim stands, and the window is over. -/
def State.freedAt (s : State) (n : Byte) (due : Nat) : State := (s.settledAt s.own n due).setClaim none

theorem freedAt_leaves (s : State) (n : Byte) (due : Nat) :
    s.sameBut (s.freedAt n due) [.clock, .zone] ∧ (s.freedAt n due).zone.claim = none
      ∧ (s.freedAt n due).window s.own n = none
      ∧ ∀ k, (s.freedAt n due).heldSet.has k
          = ((s.cell k).state == .held s.own || (s.cell k).state == .claimed s.own n) := by
  obtain ⟨-, -, -, -, closed⟩ := settledAt_leaves s s.own n due
  refine ⟨fun q outside => ?_, rfl, closed, has_settledAt_heldSet s n due⟩
  cases q <;> simp [State.sameIn, State.freedAt, State.settledAt, closeWindow, grantCells, State.reach,
    State.setClaim] at outside ⊢

theorem freedAt_cell (s : State) (n : Byte) (due : Nat) (k : Cell) :
    (s.freedAt n due).cell k = if (s.cell k).state = .claimed s.own n
      then { s.cell k with state := .held s.own, last := some s.own } else s.cell k := settledAt_cell s s.own n due k

theorem freedAt_kept {s : State} (n : Byte) (due : Nat) (kept : s.zone.kept = none) :
    (s.freedAt n due).zone.kept = none := kept

/-- The own claim granted, before a kept request: its record gone, and the start weighed (R59, R74). -/
def State.grantedAt (s : State) (c : Claim) (n : Byte) (due : Nat) : State :=
  if c.owner = .join then joinGranted (weigh (s.freedAt n due)) else weigh (s.freedAt n due)

theorem joinGranted_keeps_claim (s : State) : (joinGranted s).zone.claim = s.zone.claim
    ∧ (joinGranted s).zone.kept = s.zone.kept ∧ (joinGranted s).motion = s.motion := by
  unfold joinGranted
  split <;> simp

theorem grantedAt_leaves (s : State) (c : Claim) (n : Byte) (due : Nat) : (s.grantedAt c n due).zone.claim = none
    ∧ (s.grantedAt c n due).motion.deferCurrent = s.motion.deferCurrent
    ∧ (s.grantedAt c n due).motion.deferHandOver = s.motion.deferHandOver := by
  have same : (s.freedAt n due).motion = s.motion := (freedAt_leaves s n due).1 .motion (by simp)
  have noClaim : (s.freedAt n due).zone.claim = none := rfl
  unfold State.grantedAt
  split
  · obtain ⟨claim, -, motion⟩ := joinGranted_keeps_claim (weigh (s.freedAt n due))
    rw [claim, motion]
    simp [same, noClaim]
  · simp [same, noClaim]

theorem endWindow_of_grant {c : Claim} {n : Byte} {w : Window} {s : State} (claim : s.zone.claim = some c)
    (number : c.number = some n) (claiming : c.waitingState = false) (kept : s.zone.kept = none)
    (runs : s.window s.own n = some w) :
    endWindow s.own n s = releaseReport (afterClaim (s.grantedAt c n (w.since + 2))) := by
  have settled_kept := freedAt_kept n (w.since + 2) kept
  have unkept : (s.grantedAt c n (w.since + 2)).zone.kept = none := by
    unfold State.grantedAt
    split
    · rw [(joinGranted_keeps_claim _).2.1]
      simpa using settled_kept
    · simpa using settled_kept
  rw [endWindow_of_window runs, if_pos rfl, settle_eq, if_pos rfl, claim]
  dsimp only
  rw [if_pos (by simp [number, claiming])]
  have grants : grantClaim c (s.settledAt s.own n (w.since + 2)) = takeUpKept (s.grantedAt c n (w.since + 2)) := rfl
  rw [grants, takeUpKept, unkept]

/-- The own claim granted, with nothing else waiting for its end, is all that the end of its window does. -/
theorem endWindow_granted {c : Claim} {n : Byte} {w : Window} {s : State} (claim : s.zone.claim = some c)
    (number : c.number = some n) (claiming : c.waitingState = false) (kept : s.zone.kept = none)
    (runs : s.window s.own n = some w) (deferCurrent : s.motion.deferCurrent = none)
    (deferHandOver : s.motion.deferHandOver = none) :
    endWindow s.own n s = releaseReport (s.grantedAt c n (w.since + 2)) := by
  obtain ⟨noClaim, defers⟩ := grantedAt_leaves s c n (w.since + 2)
  rw [endWindow_of_grant claim number claiming kept runs, afterClaim_of_settled (by simp [noClaim])
    (defers.1.trans deferCurrent) (defers.2.trans deferHandOver)]

/-- A window of a claim is over, and what waited for it may follow. -/
theorem followClaim_of_waits {s : State} (current : s.windowOver s.motion.deferCurrent = false)
    (handOver : s.windowOver s.motion.deferHandOver = false) : followClaim s = s := by
  have stays : followHandOver s = s := if_neg (by simp [handOver])
  rw [followClaim, stays]
  exact if_neg (by simp [current])

/-- The surplus of the join claim stays where something is still to reference or to run (R74). -/
theorem joinGranted_of_unready {s : State} (unready : (∃ a, (s.axis a).referenced = false) ∨ s.motion.queue ≠ []
    ∨ s.flying.isSome = true) : joinGranted s = s := by
  refine if_neg ?_
  rintro all
  obtain ⟨⟨referenced, empty⟩, still⟩ : (s.allReferenced = true ∧ s.motion.queue = []) ∧ s.flying = none := by
    simpa [List.isEmpty_iff] using all
  rcases unready with ⟨a, unreferenced⟩ | queued | flies
  · rw [(allReferenced_iff s).mp referenced a] at unreferenced
    cases unreferenced
  · exact queued empty
  · simp [still] at flies

theorem startSegment_queue_length (g : Segment) (s : State) :
    (startSegment g s).motion.queue.length = s.motion.queue.length := by
  have moving : (if s.motion.state = .changing then s.setModes .moving
      else (s.setModes .moving).setMotionState .running).motion.queue = s.motion.queue := by
    split <;> rfl
  unfold startSegment
  dsimp only
  split
  · simp [enterSettling, enterSettlingAt, State.setCurrent_queue_length, moving]
  · rw [State.setCurrent_queue_length, moving]

theorem weigh_queue_length (s : State) : (weigh s).motion.queue.length = s.motion.queue.length := by
  unfold weigh
  split
  · rfl
  split
  · rfl
  split
  · exact startSegment_queue_length _ _
  split
  · split
    · split
      · exact State.setCurrent_queue_length _ _
      · split
        · exact State.setCurrent_queue_length _ _
        · exact startSegment_queue_length _ _
    · exact startSegment_queue_length _ _
  · exact State.setCurrent_queue_length _ _

theorem weigh_unready {s : State} (unready : (∃ a, (s.axis a).referenced = false) ∨ s.motion.queue ≠ []
    ∨ s.flying.isSome = true) : (∃ a, ((weigh s).axis a).referenced = false) ∨ (weigh s).motion.queue ≠ []
    ∨ (weigh s).flying.isSome = true := by
  rcases unready with ⟨a, unreferenced⟩ | queued | flies
  · exact .inl ⟨a, by simpa [State.axis] using unreferenced⟩
  · refine .inr (.inl fun empty => queued ?_)
    rw [← List.length_eq_zero_iff, ← weigh_queue_length, empty, List.length_nil]
  · obtain ⟨g, flying⟩ := Option.isSome_iff_exists.mp flies
    obtain ⟨current, airborne⟩ := State.current_of_flying flying
    have still : weigh s = s := by
      rw [weigh, current]
      exact if_pos (by simp [airborne])
    exact .inr (.inr (by rwa [still]))

theorem setClaim_none_cell (s : State) (k : Cell) : (s.setClaim none).cell k = s.cell k := rfl

theorem grantedAt_of_unready {c : Claim} {n : Byte} {due : Nat} {s : State} (unready : c.owner ≠ .join
      ∨ (∃ a, (s.axis a).referenced = false) ∨ s.motion.queue ≠ [] ∨ s.flying.isSome = true) :
    s.grantedAt c n due = weigh (s.freedAt n due) := by
  unfold State.grantedAt
  split
  · next join => exact joinGranted_of_unready (weigh_unready (unready.resolve_left (not_not_intro join)))
  · rfl

theorem weigh_cell (s : State) (k : Cell) : (weigh s).cell k = s.cell k := State.cell_congr (by simp) k

theorem releaseReport_cell (s : State) (k : Cell) : (releaseReport s).cell k = s.cell k := State.cell_congr (by simp) k

/-! ## What waited for the end of an abandoned claim's window (R30, R47) -/

theorem State.setClaim_of_none {s : State} (noClaim : s.zone.claim = none) : s.setClaim none = s := by
  rw [State.setClaim, ← noClaim]
  rfl

theorem afterClaim_of_none {s : State} (noClaim : s.zone.claim = none) : afterClaim s = followClaim s := by
  rw [afterClaim, dropOrphan, noClaim]

/-- Nothing current can start while it has no geometry. -/
theorem weigh_of_unfixed {s : State} (unfixed : ∀ g, s.current = some g → g.geom = none) : weigh s = s := by
  rw [weigh]
  split
  · rfl
  · next g current => exact if_pos (by simp [Segment.cellsHeld, unfixed g current])

/-- At the end of the window of an abandoned claim, granted or lost, what waited for it follows. -/
theorem endWindow_follows {n : Byte} {w : Window} {s : State} (kept : s.zone.kept = none)
    (runs : s.window s.own n = some w)
    (abandons : ∀ c, s.zone.claim = some c → c.number = some n ∧ c.waitingState = false ∧ c.owner ≠ .join)
    (unfixed : ∀ g, s.current = some g → g.geom = none) :
    endWindow s.own n s = releaseReport (followClaim (s.freedAt n (w.since + 2))) := by
  obtain ⟨same, noClaim, -⟩ := freedAt_leaves s n (w.since + 2)
  have motion : (s.freedAt n (w.since + 2)).motion = s.motion := same .motion (by simp)
  cases claim : s.zone.claim with
  | none =>
    have free : s.settledAt s.own n (w.since + 2) = s.freedAt n (w.since + 2) := (State.setClaim_of_none
      (s := s.settledAt s.own n (w.since + 2)) claim).symm
    rw [endWindow_of_window runs, if_pos rfl, settle_eq, if_pos rfl, claim]
    dsimp only
    rw [free, afterClaim_of_none noClaim]
  | some c =>
    obtain ⟨number, claiming, notJoin⟩ := abandons c claim
    have unfixed' : ∀ g, (s.freedAt n (w.since + 2)).current = some g → g.geom = none := by
      rwa [State.current, motion]
    have weighed : s.grantedAt c n (w.since + 2) = s.freedAt n (w.since + 2) :=
      (grantedAt_of_unready (.inl notJoin)).trans (weigh_of_unfixed unfixed')
    rw [endWindow_of_grant claim number claiming kept runs, weighed, afterClaim_of_none noClaim]

/-- The cell of a claim granted in its window (R59). -/
theorem releaseReport_granted {s u : State} {n : Byte} {due : Nat} (zone : u.zone.cells = (s.freedAt n due).zone.cells)
    (k : Cell) : (releaseReport u).cell k = if (s.cell k).state = .claimed s.own n
      then { s.cell k with state := .held s.own, last := some s.own } else s.cell k := by
  rw [releaseReport_cell, State.cell_congr zone, freedAt_cell]

theorem motion_of_same {s t : State} {ps : List Part} (same : s.sameBut t ps) (outside : Part.motion ∉ ps) :
    t.motion = s.motion := same .motion outside

/-! ## The grant of the join claim (R74) -/

/-- A started segment flies, with its geometry and its target. -/
theorem startSegment_flies (g : Segment) (s : State) : ∃ h m, (startSegment g s).motion = (m.setCurrent h).motion
    ∧ m = (if s.motion.state = .changing then s.setModes .moving else (s.setModes .moving).setMotionState .running)
    ∧ h.state.flying = true ∧ h.geom = g.geom ∧ h.target = g.target := by
  have settled (t : State) : (settleBank t).motion = t.motion := by simp
  unfold startSegment
  dsimp only
  split
  · exact ⟨_, _, settled _, rfl, rfl, rfl, rfl⟩
  · exact ⟨_, _, rfl, rfl, rfl, rfl, rfl⟩

/-- An internal segment that waited for the cells of the join claim starts at its grant, and no surplus goes (R74;
log 39). -/
theorem grantedAt_of_internal {c : Claim} {n : Byte} {due : Nat} {s : State} {g : Segment} {geo : Geom}
    (changing : s.motion.state = .changing) (internal : s.motion.internal = some g) (waits : g.state = .waitingZone)
    (geom : g.geom = some geo) (all : ∀ k, (s.cell k).state = .held s.own ∨ (s.cell k).state = .claimed s.own n) :
    s.grantedAt c n due = weigh (s.freedAt n due)
      ∧ ∃ h, (weigh (s.freedAt n due)).motion.internal = some h ∧ h.state.flying = true ∧ h.geom = some geo := by
  obtain ⟨same, -, -, held⟩ := freedAt_leaves s n due
  have motion : (s.freedAt n due).motion = s.motion := motion_of_same same (by simp)
  have cells : g.cellsHeld (s.freedAt n due) = true := by
    refine cellsHeld_of_geom geom (CellSet.ext_has fun k => ?_)
    rw [CellSet.has_minus, held]
    rcases all k with mine | claimed <;> simp [*]
  have starts := weigh_of_internal (s := s.freedAt n due) (g := g) (motion ▸ changing) (motion ▸ internal)
      (by rw [waits]; rfl) cells
  obtain ⟨h, m, now, moving, flies, same_geom, -⟩ := startSegment_flies g (s.freedAt n due)
  have m_changing : m.motion.state = .changing := by
    rw [moving, motion, if_pos changing]
    exact motion ▸ changing
  rw [setCurrent_of_changing m_changing] at now
  have inHand : (weigh (s.freedAt n due)).motion.internal = some h := by rw [starts, now]; rfl
  have state : (weigh (s.freedAt n due)).motion.state = .changing := by rw [starts, now]; exact m_changing
  refine ⟨?_, h, inHand, flies, same_geom.trans geom⟩
  have airborne : (weigh (s.freedAt n due)).flying.isSome = true := by
    rw [State.flying, State.current, if_pos state, inHand, Option.filter_some, if_pos flies]
    rfl
  unfold State.grantedAt
  split
  · exact joinGranted_of_unready (.inr (.inr airborne))
  · rfl

/-- With nothing left to reference or run the grant of the join claim hands the rest set over (R74). -/
theorem grantedAt_of_ready {c : Claim} {n : Byte} {due : Nat} {s : State} (join : c.owner = .join)
    (referenced : ∀ a, (s.axis a).referenced = true) (queue : s.motion.queue = []) (still : s.current = none) :
    s.grantedAt c n due = handOver (restSet s.cfg s.setpoints) (s.freedAt n due) := by
  obtain ⟨same, -, -, -⟩ := freedAt_leaves s n due
  have motion : (s.freedAt n due).motion = s.motion := motion_of_same same (by simp)
  have current : (s.freedAt n due).current = none := by rwa [State.current, motion]
  have weighed : weigh (s.freedAt n due) = s.freedAt n due := weigh_of_unfixed (by simp [current])
  have ready : (s.freedAt n due).allReferenced = true := (allReferenced_iff _).mpr referenced
  rw [State.grantedAt, if_pos join, weighed, joinGranted, if_pos
      (by simp [ready, motion, queue, State.flying, current])]
  rfl

/-- What the join claim's grant releases: all but the rest set, and what is owed. -/
theorem has_releaseSet_granted {n : Byte} {due : Nat} {s : State} (keep : CellSet)
    (all : ∀ k, (s.cell k).state = .held s.own ∨ (s.cell k).state = .claimed s.own n) :
    (s.freedAt n due).releaseSet keep = CellSet.of fun k => !keep.has k || (s.cell k).owed.isSome := by
  obtain ⟨-, -, -, held⟩ := freedAt_leaves s n due
  refine CellSet.ext_has fun k => ?_
  have mine : (s.freedAt n due).heldSet.has k = true := by
    rw [held]
    rcases all k with mine | claimed <;> simp [*]
  have owed : ((s.freedAt n due).cell k).owed = (s.cell k).owed := by
    rw [freedAt_cell]
    split <;> rfl
  rw [State.has_heldSet] at mine
  rw [State.releaseSet, CellSet.has_or, CellSet.has_minus, CellSet.has_of, State.has_owedSet, State.has_heldSet, mine, owed]
  simp

/-- A report that is taken up leaves the other frames listed (R109). -/
theorem releaseReport_keeps_listed {f : TxFrame} {s : State} (other : f.kind ≠ .presence) (h : s.listed f) :
    (releaseReport s).listed f := by
  have kept (t : State) (listed : t.listed f) : (offerPresence t).listed f := by
    by_cases holds : t.holdsReports = true
    · rwa [offerPresence_of_held holds]
    · rw [State.listed, offerPresence_free (Bool.eq_false_iff.mpr holds)]
      refine offer_keeps_entry (e := f.placed) ?_ listed
      have presence : TxFrame.presence.kind = .presence := rfl
      simp [TxEntry.pendingKind, TxFrame.placed, presence, other]
  unfold releaseReport
  split
  · exact kept _ h
  · exact h

/-! ## The statement -/

/-- What waits for a claim goes on waiting while the window of the claim runs (R30, R47). -/
theorem windowOver_of_running {n : Byte} {d : Option Byte} {s : State} (runs : (s.window s.own n).isSome = true)
    (waits : d = none ∨ d = some n) : s.windowOver d = false := by
  rcases waits with rfl | rfl
  · rfl
  · simp [State.windowOver, runs]

/-- An OBJECT inside its window withdraws an abandoned claim, and nothing follows yet (R63). -/
theorem takeObject_withdraws {sender : Station} {n : Byte} {cs : CellSet} {c : Claim} {s : State}
    (frames : s.frames = true) (notLost : s.notLost sender) (claim : s.zone.claim = some c) (number : c.number = some n)
    (orphan : c.orphan = true) (runs : (s.window s.own n).isSome = true)
    (current : s.motion.deferCurrent = none ∨ s.motion.deferCurrent = some n)
    (handOver : s.motion.deferHandOver = none ∨ s.motion.deferHandOver = some n) :
    (takeObject sender s.own n cs s).zone.claim = none ∧ (takeObject sender s.own n cs s).motion = s.motion := by
  have heard := hear_of_notLost notLost
  have zone : (hear sender s).zone = s.zone := heard .zone (by simp)
  have own : (hear sender s).own = s.own := congrArg StationBlock.number (heard .station (by simp))
  rw [takeObject_inTime frames runs, if_pos own.symm]
  generalize hear sender s = u at *
  obtain ⟨⟨w, standing, shape⟩, -, same, -, windows, -⟩ :=
    objected_spec (s := u) (n := n) (cs := cs) (zone ▸ claim) number
  rw [← own]
  generalize takeBack u.own n (objectClaim n cs u) = v at *
  have waits : w.orphan = true ∧ w.waitingState = true := by
    rw [shape]
    exact ⟨orphan, rfl⟩
  have parts := State.sameBut_trans heard same
  have motion : v.motion = s.motion := motion_of_same parts (by simp)
  obtain ⟨withdrawn, gone, -⟩ := withdrawClaim_spec v
  have left : (withdrawClaim v).motion = s.motion := (motion_of_same withdrawn (by simp)).trans motion
  have open_window : ((withdrawClaim v).window (withdrawClaim v).own n).isSome = true := by
    have v_own : v.own = s.own := (congrArg StationBlock.number (same .station (by simp))).trans own
    have station : (withdrawClaim v).own = v.own := congrArg StationBlock.number (withdrawn .station (by simp))
    rw [State.window, gone, station, v_own]
    simpa [State.window, windows, zone] using runs
  have drops : dropOrphan v = withdrawClaim v := by
    rw [dropOrphan, standing]
    exact if_pos (by simp [waits])
  have stays : followClaim (withdrawClaim v) = withdrawClaim v :=
    followClaim_of_waits (windowOver_of_running open_window (left ▸ current))
      (windowOver_of_running open_window (left ▸ handOver))
  rw [retryCheck_of_orphan standing waits.1, afterClaim, drops, stays]
  exact ⟨by rw [gone], left⟩

/-- With no claim standing the current segment becomes current, whatever request was held back (R26). -/
theorem becomeCurrent_of_free {s : State} {g : Segment} (noClaim : s.zone.claim = none)
    (able : s.motion.state ≠ .held ∧ s.motion.state ≠ .faulted) (current : s.current = some g)
    (grounded : g.state.flying = false) : becomeCurrent s = fixGeometry g
      ((s.setMotion { s.motion with deferCurrent := none }).setZone { s.zone with heldBack := none }) := by
  unfold becomeCurrent
  rw [if_neg (by simp [able]), abandoned_of_none noClaim, current]
  dsimp only
  rw [if_neg (by simp), if_neg (by simp [grounded])]
  rfl

/-- A request of a station with no claim makes one, or is held back (R55, R56). -/
theorem requestCells_asks {cs : CellSet} {s : State} (some_cells : cs ≠ 0#20) (noClaim : s.zone.claim = none) :
    (requestCells cs s).zone.claim.isSome = true ∨ (requestCells cs s).zone.heldBack.isSome = true := by
  have undelivered {t : State} (stands : t.zone.claim.isSome = true) :
      (claimUndelivered t).zone.claim.isSome = true := by
    obtain ⟨c, claim⟩ := Option.isSome_iff_exists.mp stands
    obtain ⟨⟨b, waits⟩, -⟩ := claimToWaiting_spec (cs := CellSet.minus c.cells t.freeSet) claim
    rw [claimUndelivered, claim]
    exact Option.isSome_iff_exists.mpr ⟨_, waits⟩
  have sent (c : Claim) : (sendClaim c s).zone.claim.isSome = true := by
    unfold sendClaim
    dsimp only
    generalize made : s.setZone _ = u
    have stands : (offer (.claim s.zone.nextNumber c.cells) u).2.zone.claim.isSome = true := by
      rw [← made]
      simp
    split
    · next same => rwa [same] at stands
    · next same =>
      rw [same] at stands
      exact undelivered stands
    · next same => rwa [same] at stands
  rw [requestCells, if_neg some_cells, noClaim, if_neg (by simp)]
  split
  · split
    · exact .inr rfl
    · exact .inl (sent _)
  · exact .inl rfl

/-- The cells that a station holds behind the window of its own claim. -/
def State.grantedSet (s : State) (n : Byte) : CellSet :=
  CellSet.of fun k => (s.cell k).state == .held s.own || (s.cell k).state == .claimed s.own n

/-- The head that waited for the end of an abandoned claim's window is fixed, and starts or asks for its cells. -/
theorem endWindow_head {n : Byte} {w : Window} {s : State} {g : Segment} {rest : List Segment}
    (kept : s.zone.kept = none) (runs : s.window s.own n = some w)
    (abandons : ∀ c, s.zone.claim = some c → c.number = some n ∧ c.waitingState = false ∧ c.owner ≠ .join)
    (deferCurrent : s.motion.deferCurrent = some n) (deferHandOver : s.motion.deferHandOver = none)
    (idle : s.motion.state = .idle) (queue : s.motion.queue = g :: rest) (queued : g.state = .queued)
    (unfixed : g.geom = none) :
    ∃ v : State, endWindow s.own n s = releaseReport (fixGeometry g v)
      ∧ v.motion = { s.motion with deferCurrent := none }
      ∧ v.station = s.station ∧ v.axes = s.axes ∧ v.zone.claim = none
      ∧ ∀ k, v.heldSet.has k = ((s.cell k).state == .held s.own || (s.cell k).state == .claimed s.own n) := by
  obtain ⟨same, noClaim, closed, held⟩ := freedAt_leaves s n (w.since + 2)
  have host : s.motion.state ≠ .changing := by simp [idle]
  have follows := endWindow_follows kept runs abandons fun x current => by
    rwa [← Option.some.inj ((State.current_of_head host queue).symm.trans current)]
  have parts : (s.freedAt n (w.since + 2)).motion = s.motion ∧ (s.freedAt n (w.since + 2)).station = s.station
      ∧ (s.freedAt n (w.since + 2)).axes = s.axes :=
    ⟨same .motion (by simp), same .station (by simp), same .axes (by simp)⟩
  obtain ⟨motion, station, axes⟩ := parts
  rw [show s.own = (s.freedAt n (w.since + 2)).own from rfl] at closed
  rw [follows]
  generalize s.freedAt n (w.since + 2) = u at *
  have stays : followHandOver u = u := if_neg (by simp [motion, deferHandOver, State.windowOver])
  have due : u.windowOver u.motion.deferCurrent = true := by
    simp [State.windowOver, motion, deferCurrent, closed, abandoned_of_none noClaim]
  have current : (u.setMotion { u.motion with deferCurrent := none }).current = some g :=
    State.current_of_head (s := u.setMotion { u.motion with deferCurrent := none }) (rest := rest)
      (by simp [motion, idle]) (by simp [motion, queue])
  refine ⟨_, congrArg releaseReport ((congrArg followCurrent stays).trans ((if_pos due).trans
    (becomeCurrent_of_free noClaim (by simp [motion, idle]) current
        (by rw [queued]; rfl)))), ?_, station, axes, noClaim, held⟩
  simp [motion]

/-- The hand-over that waited for the end of an abandoned claim's window is made on the empty queue. -/
theorem endWindow_handOver {n : Byte} {w : Window} {s : State} (kept : s.zone.kept = none)
    (runs : s.window s.own n = some w)
    (abandons : ∀ c, s.zone.claim = some c → c.number = some n ∧ c.waitingState = false ∧ c.owner ≠ .join)
    (deferCurrent : s.motion.deferCurrent = none) (deferHandOver : s.motion.deferHandOver = some n)
    (host : s.motion.state = .idle ∨ s.motion.state = .held) (referenced : ∀ a, (s.axis a).referenced = true)
    (queue : s.motion.queue = []) :
    ∃ v : State, endWindow s.own n s = releaseReport (handOver (restSet s.cfg s.setpoints) v)
      ∧ v.motion = { s.motion with deferHandOver := none } ∧ v.station = s.station
      ∧ v.zone = (s.freedAt n (w.since + 2)).zone := by
  obtain ⟨same, noClaim, closed, -⟩ := freedAt_leaves s n (w.since + 2)
  have current : s.current = none := by
    rw [State.current, if_neg (by rcases host with idle | held <;> simp [*]), queue]
    rfl
  have follows := endWindow_follows kept runs abandons (by simp [current])
  have parts : (s.freedAt n (w.since + 2)).motion = s.motion ∧ (s.freedAt n (w.since + 2)).station = s.station
      ∧ (s.freedAt n (w.since + 2)).axes = s.axes :=
    ⟨same .motion (by simp), same .station (by simp), same .axes (by simp)⟩
  obtain ⟨motion, station, axes⟩ := parts
  rw [show s.own = (s.freedAt n (w.since + 2)).own from rfl] at closed
  rw [follows]
  generalize s.freedAt n (w.since + 2) = u at *
  have over_now : u.windowOver u.motion.deferHandOver = true := by
    simp [State.windowOver, motion, deferHandOver, closed, abandoned_of_none noClaim]
  have due : (u.setMotion { u.motion with deferHandOver := none }).emptyHandOverDue = true := by
    have all : u.allReferenced = true := (allReferenced_iff u).mpr (by simpa [State.axis, axes] using referenced)
    have grounded : (u.setMotion { u.motion with deferHandOver := none }).flying = none := by
      rw [State.flying, State.current]
      simp only [State.setMotion_motion, motion]
      exact congrArg (Option.filter _) current
    have state : (u.motion.state == .idle || u.motion.state == .held) = true := by
      rcases host with idle | held <;> simp [*]
    rw [State.emptyHandOverDue, grounded,
      show (u.setMotion { u.motion with deferHandOver := none }).allReferenced = true
      from all]
    simpa [motion, queue] using state
  have hands : followHandOver u
      = handOver (restSet s.cfg s.setpoints) (u.setMotion { u.motion with deferHandOver := none }) := by
    have rest : (u.setMotion { u.motion with deferHandOver := none }).restHere = restSet s.cfg s.setpoints := by
      simp [State.restHere, State.cfg, State.setpoints, station, axes]
    rw [followHandOver, if_pos over_now, handOverIfEmpty_of_due due noClaim, rest]
  have stays (t : State) (kept : t.motion.deferCurrent = none) : followCurrent t = t :=
    if_neg (by simp [kept, State.windowOver])
  refine ⟨u.setMotion { u.motion with deferHandOver := none }, ?_, by simp [motion], station, rfl⟩
  rw [followClaim, hands, stays _ (by simp [motion, deferCurrent])]

/-- Settles O34: the CLAIM from `takeClaim_own`, the grants from `endWindow_granted`, what waited from
`endWindow_follows`. -/
theorem settledClaimIsGranted : Obligations.SettledClaimIsGranted := by
  refine ⟨fun n s deferCurrent deferHandOver => ⟨fun c claim number claiming kept frames free => ?_, ?_,
    fun c w claim number claiming join kept runs all => ?_, fun c w claim number claiming notJoin kept runs => ?_,
    fun p w other noClaim runs => ?_⟩, fun n s running kept => ⟨?_, fun abandoned => ⟨?_, ?_⟩⟩⟩
  · obtain ⟨same, windows, claim_kept, -, -, cells⟩ := claimOpened_leaves s.own n c.cells s
    have parts := State.sameBut_trans same (sameBut_holdReport (claimOpened s.own n c.cells s))
    have run := takeClaim_own frames claim number claiming
    have motion := motion_of_same parts (by simp)
    have zone : (holdReport (claimOpened s.own n c.cells s)).zone = (claimOpened s.own n c.cells s).zone := by simp
    rw [if_pos free, afterClaim_of_settled (fun x standing => .inl ?_) (motion ▸ deferCurrent) (motion ▸ deferHandOver)]
      at run
    · refine ⟨_, congrArg Host.Outcome.next run, State.sameBut_mono parts (by simp), ?_, ?_, fun k => ?_, fun e mem =>
        (mem_holdReport mem).2⟩
      · rw [zone, claim_kept, claim]
      · rw [zone, windows]
      · rw [State.cell_congr (s := claimOpened s.own n c.cells s) (by rw [zone]), cells, claimCells_cell]
        have within : c.cells.within s.freeSet = true := beq_iff_eq.mpr free
        simp [within]
    · rw [zone, claim_kept, claim] at standing
      rwa [← Option.some.inj standing]
  · intro c claim number claiming kept frames unclaimed blocking taken
    obtain ⟨same, windows, claim_kept, -, -, cells⟩ := claimOpened_leaves s.own n c.cells s
    have parts := State.sameBut_trans same (sameBut_holdReport (claimOpened s.own n c.cells s))
    have run := takeClaim_own frames claim number claiming
    rw [if_neg taken] at run
    have zone : (holdReport (claimOpened s.own n c.cells s)).zone = (claimOpened s.own n c.cells s).zone := by simp
    have list := length_holdReport (claimOpened s.own n c.cells s)
    have listed (e : TxEntry) := mem_holdReport (s := claimOpened s.own n c.cells s) (e := e)
    have link : (claimOpened s.own n c.cells s).link = s.link := same .link (by simp)
    have view (k : Cell) : (holdReport (claimOpened s.own n c.cells s)).cell k = s.cell k := by
      rw [State.cell_congr (s := claimOpened s.own n c.cells s) (by rw [zone]), cells, claimCells_cell,
        if_neg (fun both => taken (beq_iff_eq.mp both.1))]
    have link_state : (holdReport (claimOpened s.own n c.cells s)).link.state = s.link.state := by
      rw [← link]
      simp
    have standing : (holdReport (claimOpened s.own n c.cells s)).zone.claim = some c := by rw [zone, claim_kept, claim]
    rw [← zone] at windows
    have own : (holdReport (claimOpened s.own n c.cells s)).own = s.own := by
      simpa [State.own] using congrArg StationBlock.number (parts .station (by simp))
    have next_number : (holdReport (claimOpened s.own n c.cells s)).zone.nextNumber = s.zone.nextNumber := by
      rw [zone]
      unfold claimOpened openWindow claimCells
      split <;> rfl
    rw [link] at list
    have members (e : TxEntry) (mem : e ∈ (holdReport (claimOpened s.own n c.cells s)).link.list) :
        e ∈ s.link.list := by simpa only [link] using (listed e mem).1
    generalize holdReport (claimOpened s.own n c.cells s) = u at *
    obtain ⟨⟨b, waits⟩, taken_cells, sent, pends, data⟩ := claimToWaiting_spec (cs := blocking) standing
    have after := State.sameBut_trans parts (claimToWaiting_sameBut blocking u)
    rw [afterClaim_of_settled (fun x now => .inl ?_) (motion_of_same after (by simp) ▸ deferCurrent)
      (motion_of_same after (by simp) ▸ deferHandOver)] at run
    · refine ⟨_, _, congrArg Host.Outcome.next run, State.sameBut_mono after (by simp), waits, rfl, ?_, fun k => ?_, ?_,
        pends, data, fun on room none_waits => ?_⟩
      · simpa using windows
      · rw [State.cell_congr taken_cells, takeBackClaim_of_number number, takeBack_cell, own, view,
          if_neg (unclaimed k)]
      · simpa using next_number
      · have placed := offerWait_placed (s := u) taken (link_state.trans on) (by omega)
          fun e mem => none_waits e (members e mem)
        rw [State.listed, sent, placed]
        exact mem_insertTx.mpr (.inl rfl)
    · rw [waits] at now
      rw [← Option.some.inj now]
      exact kept
  · have run := endWindow_granted claim number claiming kept runs deferCurrent deferHandOver
    obtain ⟨noClaim, -, -⟩ := grantedAt_leaves s c n (w.since + 2)
    obtain ⟨same, -, -, -⟩ := freedAt_leaves s n (w.since + 2)
    have weighed : (weigh (s.freedAt n (w.since + 2))).zone = (s.freedAt n (w.since + 2)).zone := by simp
    have reported (t : State) : (releaseReport t).zone = t.zone ∧ (releaseReport t).motion = t.motion
        ∧ (releaseReport t).clock = t.clock := by simp
    have unsurplus (only : s.grantedAt c n (w.since + 2) = weigh (s.freedAt n (w.since + 2))) (k : Cell) :
        (releaseReport (s.grantedAt c n (w.since + 2))).cell k = if (s.cell k).state = .claimed s.own n
          then { s.cell k with state := .held s.own, last := some s.own } else s.cell k :=
      releaseReport_granted (by rw [only, weighed]) k
    refine ⟨_, congrArg Host.Outcome.next run, ?_, ?_, fun unready => unsurplus (grantedAt_of_unready (.inr unready)),
      fun g geo changing internal waits geom => ?_, fun surplus on =>
          ⟨fun k => ?_, fun some_released room unlisted => ?_⟩⟩
    · rw [(reported _).1, noClaim]
    · rw [(reported _).2.2, State.grantedAt, if_pos join]
      simp
      rfl
    · obtain ⟨only, h, inHand, flies, same_geom⟩ :=
        grantedAt_of_internal (due := w.since + 2) (c := c) changing internal waits geom all
      exact ⟨unsurplus only, h, by rw [(reported _).2.1, only, inHand], flies, same_geom⟩
    · obtain ⟨referenced, queue, still⟩ := surplus
      have hands := grantedAt_of_ready (due := w.since + 2) (n := n) join referenced queue still
      have clock : (releaseReport (s.grantedAt c n (w.since + 2))).clock = (s.freedAt n (w.since + 2)).clock := by
        simp [hands]
      have on' : (s.freedAt n (w.since + 2)).link.state = .on := by rw [same .link (by simp), on]
      rw [clock, releaseReport_cell, hands, handOver_cell, has_releaseSet_granted _ all]
      by_cases goes : (CellSet.of fun k => !(restSet s.cfg s.setpoints).has k || (s.cell k).owed.isSome).has k = true
      · have free : (s.freedAt n (w.since + 2)).releasedState = .free := by rw [State.releasedState, on']
        have owed : ((s.freedAt n (w.since + 2)).cell k).owed = (s.cell k).owed := by
          rw [freedAt_cell]
          split <;> rfl
        have deferral : ((s.freedAt n (w.since + 2)).cell k).deferral = (s.cell k).deferral := by
          rw [freedAt_cell]
          split <;> rfl
        rw [if_pos goes, if_pos goes, State.released, free, owed, deferral, freedAt_cell]
          <;> cases (s.cell k).owed <;> rfl
      · rw [if_neg goes, if_neg goes, freedAt_cell]
    · obtain ⟨referenced, queue, still⟩ := surplus
      have hands := grantedAt_of_ready (due := w.since + 2) (n := n) join referenced queue still
      obtain ⟨-, -, -, lists, -⟩ := handOver_handsOver (restSet s.cfg s.setpoints) (s.freedAt n (w.since + 2))
      refine releaseReport_keeps_listed (by simp [TxFrame.kind]) ?_
      have released := has_releaseSet_granted (due := w.since + 2) (restSet s.cfg s.setpoints) all
      have link : (s.freedAt n (w.since + 2)).link = s.link := same .link (by simp)
      rw [hands, ← released]
      exact lists (by rw [← released] at some_released; exact some_released) (by simp [link, on]) (by rwa [link])
        (by rwa [link])
  · have run := endWindow_granted claim number claiming kept runs deferCurrent deferHandOver
    rw [grantedAt_of_unready (.inl notJoin)] at run
    obtain ⟨-, noClaim, closed, -⟩ := freedAt_leaves s n (w.since + 2)
    have weighed : (weigh (s.freedAt n (w.since + 2))).zone = (s.freedAt n (w.since + 2)).zone := by simp
    have reported (t : State) : (releaseReport t).zone = t.zone := by simp
    have zone := (reported (weigh (s.freedAt n (w.since + 2)))).trans weighed
    refine ⟨_, congrArg Host.Outcome.next run, ?_, ?_, ?_, fun k => releaseReport_granted (by rw [weighed]) k⟩
    · rw [zone, noClaim]
    · rw [runs, State.window, zone]
      exact fun same => Option.some_ne_none w (same.trans closed)
    · simp
      rfl
  · have settles : endWindow p n s = s.settledAt p n (w.since + 2) := by
      rw [endWindow_of_window runs, if_neg other, settle_eq, if_neg other]
      refine afterClaim_of_settled (fun c claim => ?_) deferCurrent deferHandOver
      have standing : s.zone.claim = some c := claim
      rw [noClaim] at standing
      cases standing
    obtain ⟨same, clock, claim, -, closed⟩ := settledAt_leaves s p n (w.since + 2)
    exact ⟨_, congrArg Host.Outcome.next settles, same, clock, closed, claim.trans noClaim, settledAt_cell s p n _⟩
  · intro sender cs c frames notLost claim abandons current handOver
    obtain ⟨number, -, orphan, -⟩ := abandons
    exact ⟨_, rfl, takeObject_withdraws frames notLost claim number orphan running current handOver⟩
  · intro g rest deferCurrent deferHandOver idle queue queued unfixed rapid need
    obtain ⟨w, runs⟩ := Option.isSome_iff_exists.mp running
    obtain ⟨v, ends, motion, station, axes, noClaim, held⟩ := endWindow_head kept runs (fun c claim => by
      obtain ⟨number, claiming, -, notJoin⟩ := abandoned c claim
      exact ⟨number, claiming, notJoin⟩) deferCurrent deferHandOver idle queue queued unfixed
    have here : needSet v.cfg v.setpoints g.target = need ∧ v.setpoints = s.setpoints := by
      simp [State.cfg, State.setpoints, station, axes, need]
    have holds : v.heldSet = s.grantedSet n := CellSet.ext_has fun k => by rw [held, State.grantedSet, CellSet.has_of]
    have travels : g.travels v := by simp [Segment.travels, rapid]
    have v_idle : v.motion.state = .idle := by rw [motion]; exact idle
    have v_queue : v.motion.queue = g :: rest := by rw [motion]; exact queue
    have fixed : geometry g v = { start := s.setpoints, len := pathLength s.setpoints g.target, need := need } := by
      rw [geometry, here.1, here.2]
    have host : v.motion.state ≠ .changing := by simp [v_idle]
    have set (x : Segment) : v.setCurrent x = v.setMotion { v.motion with queue := x :: rest } :=
      State.setCurrent_of_head host v_queue x
    have reported (t : State) : (releaseReport t).motion = t.motion ∧ (releaseReport t).zone = t.zone := by simp
    by_cases missing : CellSet.minus need (s.grantedSet n) = 0#20
    · have missing' : CellSet.minus (needSet v.cfg v.setpoints g.target) v.heldSet = 0#20 := by
        rwa [here.1, holds]
      have starts := weigh_of_head (g := { g with geom := some (geometry g v), state := .queued }) (rest := rest)
        (s := v.setMotion { v.motion with queue := { g with geom := some (geometry g v), state := .queued } :: rest })
        v_idle rfl rfl (cellsHeld_of_geom rfl (by exact missing'))
      rw [if_neg (by simp [rapid])] at starts
      rw [fixGeometry_of_held travels missing', set, starts] at ends
      obtain ⟨h, m, now, moving, flies, geom, target⟩ :=
        startSegment_flies { g with geom := some (geometry g v), state := .queued }
          (v.setMotion { v.motion with queue := { g with geom := some (geometry g v), state := .queued } :: rest })
      rw [if_neg (by exact host)] at moving
      have flown : m.setCurrent h = m.setMotion { m.motion with queue := h :: rest } :=
        State.setCurrent_of_head (g := { g with geom := some (geometry g v), state := .queued })
          (by rw [moving]; simp [State.setMotionState]) (by rw [moving]; rfl) h
      rw [flown] at now
      refine ⟨_, h, congrArg Host.Outcome.next ends, ?_, ?_, target,
        geom.trans (congrArg some fixed), fun _ => ⟨flies, ?_⟩,
        fun some_missing => absurd missing some_missing⟩
      · rw [(reported _).1, now]
        rfl
      · rw [(reported _).1, now, moving]
        simp [State.setMotionState, motion]
      · rw [(reported _).1, now, moving]
        rfl
    · have missing' : CellSet.minus (needSet v.cfg v.setpoints g.target) v.heldSet ≠ 0#20 := by
        rwa [here.1, holds]
      rw [fixGeometry_of_missing travels missing', set, fixed] at ends
      have asked (cs : CellSet) (t : State) : (requestCells cs t).motion = t.motion := by simp
      refine ⟨_, { g with
          geom := some { start := s.setpoints, len := pathLength s.setpoints g.target, need := need }
          state := .waitingZone }, congrArg Host.Outcome.next ends, ?_, ?_, ?_, rfl,
        fun none_missing => absurd none_missing missing, fun _ => ⟨rfl, ?_, ?_⟩⟩
      · rw [(reported _).1, asked]
        rfl
      · rw [(reported _).1, asked, motion]
        rfl
      · rfl
      · rw [(reported _).1, asked]
        exact v_idle
      · rw [(reported _).2]
        exact requestCells_asks missing' noClaim
  · intro deferCurrent deferHandOver host referenced queue
    obtain ⟨w, runs⟩ := Option.isSome_iff_exists.mp running
    obtain ⟨v, ends, motion, station, zone⟩ := endWindow_handOver kept runs (fun c claim => by
      obtain ⟨number, claiming, -, notJoin⟩ := abandoned c claim
      exact ⟨number, claiming, notJoin⟩) deferCurrent deferHandOver host referenced queue
    refine ⟨_, congrArg Host.Outcome.next ends, ?_, fun k => ?_⟩
    · simpa using motion
    · have handed : (releaseReport (handOver (restSet s.cfg s.setpoints) v)).heldSet
          = (handOver (restSet s.cfg s.setpoints) v).heldSet := State.heldSet_congr (by simp) (by simp [State.own])
      have own : v.own = s.own := congrArg StationBlock.number station
      have cell : v.cell k = (s.freedAt n (w.since + 2)).cell k := State.cell_congr (by rw [zone]) k
      rw [handed, handOver_heldSet, CellSet.has_minus, CellSet.has_and, State.has_heldSet, State.has_owedSet, own, cell,
        freedAt_cell, CellSet.has_of]
      by_cases claimed : (s.cell k).state = .claimed s.own n
      · cases owed : (s.cell k).owed <;> simp [claimed, owed]
      · have other : ((s.cell k).state == .claimed s.own n) = false := beq_eq_false_iff_ne.mpr claimed
        cases owed : (s.cell k).owed with
        | none => simp [claimed, owed, other]
        | some o =>
          simp only [if_neg claimed, owed, other, Option.isSome_some, Option.isNone_some, Bool.and_true, Bool.and_false]
          cases ((s.cell k).state == .held s.own) <;> simp

end Sys2Proof.Machine
end

section
/-! PROOFS. The transmit list and the receive-error run sound (R91 to R96): what each operation of the Link Controller
on its list keeps. -/

namespace Sys2Proof.Machine

/-! ## A sound list -/

/-- The transmit list is sound in a link state. -/
def listSound (st : LinkState) (l : List TxEntry) : Prop :=
  l.length ≤ 8 ∧ listSorted l ∧ (∀ e ∈ l, e.attempts < 16) ∧ l.countP (·.sending) ≤ 1
    ∧ (st = .silent → l = []) ∧ (st = .deaf → ∀ e ∈ l, e.frame.deafDrops = false)

theorem Link.sound_iff (l : Link) :
    l.Sound ↔ listSound l.state l.list ∧ l.run ≤ 8 ∧ (l.state ≠ .deaf → l.run < 8) := by
  simp only [Link.Sound, listSound, and_assoc]

/-- A list of its own is sound where the link is, run and state as they were. -/
theorem Link.Sound.relist {l m : Link} (h : l.Sound) (same : m.state = l.state ∧ m.run = l.run)
    (list : listSound l.state l.list → listSound l.state m.list) : m.Sound := by
  obtain ⟨sound, run⟩ := l.sound_iff.mp h
  rw [Link.sound_iff, same.1, same.2]
  exact ⟨list sound, run⟩

theorem deafDrops_of_kind {f g : TxFrame} (h : f.kind = g.kind) : f.deafDrops = g.deafDrops := by
  simp [TxFrame.deafDrops, h]

theorem listSound.sublist {st : LinkState} {l m : List TxEntry} (h : listSound st l) (sub : m.Sublist l) :
    listSound st m := by
  obtain ⟨length, sorted, attempts, sending, silent, deaf⟩ := h
  refine ⟨sub.length_le.trans length, sorted.sublist sub, fun e mem => attempts e (sub.subset mem),
    (sub.countP_le).trans sending, fun off => ?_, fun off e mem => deaf off e (sub.subset mem)⟩
  rw [silent off] at sub
  exact List.sublist_nil.mp sub

theorem listSound.filter {st : LinkState} {l : List TxEntry} (h : listSound st l) (p : TxEntry → Bool) :
    listSound st (l.filter p) := h.sublist List.filter_sublist

/-- A list of the same kinds in the same order is sound with its own counts. -/
theorem listSound.of_kinds {st : LinkState} {l m : List TxEntry} (h : listSound st l)
    (kinds : m.map (·.frame.kind) = l.map (·.frame.kind)) (attempts : ∀ e ∈ m, e.attempts < 16)
    (sending : m.countP (·.sending) ≤ 1) : listSound st m := by
  obtain ⟨length, sorted, -, -, silent, deaf⟩ := h
  have same_length : m.length = l.length := by simpa using congrArg List.length kinds
  have by_kind (x : List TxEntry) : listSorted x ↔ (x.map (·.frame.kind)).Pairwise fun j k => j.code ≤ k.code := by
    rw [List.pairwise_map]
    rfl
  refine ⟨same_length ▸ length, (by_kind m).mpr (kinds ▸ (by_kind l).mp sorted), attempts, sending,
    fun off => ?_, fun off e mem => ?_⟩
  · rw [silent off] at same_length
    exact List.length_eq_zero_iff.mp same_length
  · have kind : e.frame.kind ∈ l.map (·.frame.kind) := kinds ▸ List.mem_map_of_mem mem
    obtain ⟨x, listed, same⟩ := List.mem_map.mp kind
    rw [← deafDrops_of_kind same]
    exact deaf off x listed

theorem listSound.map {st : LinkState} {l : List TxEntry} (h : listSound st l) {g : TxEntry → TxEntry}
    (kind : ∀ x ∈ l, (g x).frame.kind = x.frame.kind) (attempts : ∀ x ∈ l, (g x).attempts < 16)
    (sending : ∀ x ∈ l, (g x).sending = true → x.sending = true) : listSound st (l.map g) := by
  refine h.of_kinds ?_ ?_ ?_
  · rw [List.map_map]
    exact List.map_congr_left kind
  · intro e mem
    obtain ⟨x, listed, rfl⟩ := List.mem_map.mp mem
    exact attempts x listed
  · rw [List.countP_map]
    exact (List.countP_mono_left sending).trans h.2.2.2.1

/-! ## A frame joins the list (R94, R95) -/

theorem insertTx_sorted {e : TxEntry} {l : List TxEntry} (h : listSorted l) : listSorted (insertTx e l) := by
  induction l with
  | nil => exact List.pairwise_singleton _ _
  | cons x rest ih =>
    obtain ⟨first, tail⟩ := List.pairwise_cons.mp h
    unfold insertTx
    split
    · next lower =>
      refine List.pairwise_cons.mpr ⟨fun y mem => ?_, ih tail⟩
      rcases mem_insertTx.mp mem with rfl | later
      · exact lower
      · exact first y later
    · next higher =>
      refine List.pairwise_cons.mpr ⟨fun y mem => ?_, h⟩
      rcases List.mem_cons.mp mem with rfl | later
      · omega
      · exact (by omega : e.frame.kind.code ≤ x.frame.kind.code).trans (first y later)

theorem countP_insertTx (p : TxEntry → Bool) (e : TxEntry) (l : List TxEntry) :
    (insertTx e l).countP p = (e :: l).countP p := by
  induction l with
  | nil => rfl
  | cons x rest ih =>
    unfold insertTx
    split
    · simp only [List.countP_cons, ih]
      omega
    · rfl

theorem listSound.insert {st : LinkState} {l : List TxEntry} (h : listSound st l) (linked : st ≠ .silent)
    (room : l.length < 8) {f : TxFrame} (hears : st = .deaf → f.deafDrops = false) :
    listSound st (insertTx f.placed l) := by
  obtain ⟨-, sorted, attempts, sending, -, deaf⟩ := h
  refine ⟨?_, insertTx_sorted sorted, fun e mem => ?_, ?_, fun off => absurd off linked, fun off e mem => ?_⟩
  · rw [length_insertTx]
    omega
  · rcases mem_insertTx.mp mem with rfl | listed
    · simp [TxFrame.placed]
    · exact attempts e listed
  · rw [countP_insertTx, List.countP_cons_of_neg (by simp [TxFrame.placed])]
    exact sending
  · rcases mem_insertTx.mp mem with rfl | listed
    · exact hears off
    · exact deaf off e listed

theorem TxFrame.addCells_kind (cs : CellSet) (f : TxFrame) : (f.addCells cs).kind = f.kind := by cases f <;> rfl

theorem mergeFirst_kinds (f : TxFrame) (l : List TxEntry) :
    (mergeFirst f l).map (·.frame.kind) = l.map (·.frame.kind) ∧ (mergeFirst f l).map (·.attempts) = l.map (·.attempts)
      ∧ (mergeFirst f l).countP (·.sending) = l.countP (·.sending) := by
  induction l with
  | nil => exact ⟨rfl, rfl, rfl⟩
  | cons x rest ih =>
    obtain ⟨kinds, attempts, sending⟩ := ih
    unfold mergeFirst
    split
    · simp [TxFrame.addCells_kind, List.countP_cons]
    · simp [kinds, attempts, sending, List.countP_cons]

theorem listSound.mergeFirst {st : LinkState} {l : List TxEntry} (h : listSound st l) (f : TxFrame) :
    listSound st (mergeFirst f l) := by
  obtain ⟨kinds, attempts, sending⟩ := mergeFirst_kinds f l
  refine h.of_kinds kinds (fun e mem => ?_) (sending ▸ h.2.2.2.1)
  have count : e.attempts ∈ l.map (·.attempts) := attempts ▸ List.mem_map_of_mem mem
  obtain ⟨x, listed, same⟩ := List.mem_map.mp count
  exact same ▸ h.2.2.1 x listed

/-- An offer keeps a sound link sound, where a DEAF link is offered no frame that it drops (R93, R94). -/
theorem Link.Sound.offer {s : State} (h : s.link.Sound) {f : TxFrame}
    (hears : s.link.state = .deaf → f.deafDrops = false) : (offer f s).2.link.Sound := by
  have placed (linked : s.link.state ≠ .silent) : (placeFrame f s).2.link.Sound := by
    unfold placeFrame
    split
    · next room => exact h.relist ⟨rfl, rfl⟩ fun sound => sound.insert linked room hears
    · exact h
  unfold Machine.offer
  dsimp only
  split
  · exact h
  next linked =>
  split
  · exact h.relist ⟨rfl, rfl⟩ fun sound => sound.mergeFirst f
  · exact h.relist ⟨rfl, rfl⟩ fun sound => sound.mergeFirst f
  · next kind pending =>
    refine h.relist ⟨rfl, rfl⟩ fun sound => (sound.filter _).insert linked ?_ hears
    have pends : ∃ e ∈ s.link.list, e.pendingKind .presence = true := by
      rw [kind] at pending
      exact List.any_eq_true.mp pending
    obtain ⟨e, mem, waits⟩ := pends
    have shorter := List.length_filter_lt_length_iff_exists (p := fun x => !x.pendingKind .presence).mpr
      ⟨e, mem, by simpa using waits⟩
    exact shorter.trans_le sound.1
  · exact placed linked

/-! ## Sending (R89, R91, R95, R96) -/

theorem Link.Sound.removeSending {s : State} (h : s.link.Sound) : (removeSending s).link.Sound :=
  h.relist ⟨rfl, rfl⟩ fun sound => sound.filter _

theorem Link.Sound.loseArbitration {s : State} (h : s.link.Sound) : (loseArbitration s).link.Sound := by
  unfold Machine.loseArbitration
  split
  · refine h.relist ⟨rfl, rfl⟩ fun sound => sound.map (fun _ _ => rfl) (fun x mem => ?_) (by simp)
    exact sound.2.2.1 x mem
  · exact h

/-- The entry being sent is the only one of its list. -/
theorem sending_unique {l : List TxEntry} (one : l.countP (·.sending) ≤ 1) {x e : TxEntry} (x_mem : x ∈ l)
    (e_mem : e ∈ l) (x_sending : x.sending = true) (e_sending : e.sending = true) : x = e := by
  rw [List.countP_eq_length_filter] at one
  have x_in : x ∈ l.filter (·.sending) := List.mem_filter.mpr ⟨x_mem, x_sending⟩
  have e_in : e ∈ l.filter (·.sending) := List.mem_filter.mpr ⟨e_mem, e_sending⟩
  cases found : l.filter (·.sending) with
  | nil => simp [found] at x_in
  | cons y rest =>
    have alone : rest = [] := by
      rw [found, List.length_cons] at one
      exact List.length_eq_zero_iff.mp (by omega)
    rw [found, alone, List.mem_singleton] at x_in e_in
    rw [x_in, e_in]

/-- The frame back in its place with its new count (R91, R95). -/
theorem listSound.back {st : LinkState} {l : List TxEntry} (h : listSound st l) {e : TxEntry} {f : TxFrame}
    {attempts : Nat} (few : attempts < 16) (listed : ∀ x ∈ l, x.sending = true → x = e)
    (kind : f.kind = e.frame.kind) :
    listSound st (l.map fun x => if x.sending then { frame := f, attempts := attempts, sending := false } else x) := by
  refine h.map (fun x mem => ?_) (fun x mem => ?_) fun x _ sends => ?_
  · split
    · next sending => rw [listed x mem sending, kind]
    · rfl
  · split
    · exact few
    · exact h.2.2.1 x mem
  · split at sends
    · cases sends
    · exact sends

theorem Link.Sound.backToPending {s : State} (h : s.link.Sound) {attempts : Nat} (few : attempts < 16) :
    (backToPending attempts s).link.Sound := by
  unfold Machine.backToPending
  split
  · exact h
  next e sends =>
  have e_sends : e.sending = true := List.find?_some sends
  have only (sound : listSound s.link.state s.link.list) (x : TxEntry) (mem : x ∈ s.link.list)
      (sending : x.sending = true) : x = e :=
    sending_unique sound.2.2.2.1 mem (List.mem_of_find?_eq_some sends) sending e_sends
  dsimp only
  refine h.relist ⟨rfl, rfl⟩ fun sound => ?_
  split
  · exact (sound.filter _).back few (fun x mem => only sound x (List.mem_filter.mp mem).1) (TxFrame.addCells_kind _ _)
  · exact (sound.filter _).back few (fun x mem => only sound x (List.mem_filter.mp mem).1) (TxFrame.addCells_kind _ _)
  · exact sound.filter _
  · exact sound.back few (only sound) rfl

theorem markFirst_kinds (st : LinkState) (l : List TxEntry) :
    (markFirst st l).map (·.frame.kind) = l.map (·.frame.kind) ∧ (markFirst st l).map (·.attempts) = l.map (·.attempts)
      ∧ (markFirst st l).countP (·.sending) ≤ l.countP (·.sending) + 1 := by
  induction l with
  | nil => simp [markFirst]
  | cons x rest ih =>
    obtain ⟨kinds, attempts, sending⟩ := ih
    unfold markFirst
    split
    · simp [List.countP_cons]
    · simp only [List.map_cons, kinds, attempts, List.countP_cons, true_and]
      omega

theorem Link.Sound.startSending {s : State} (h : s.link.Sound) : (startSending s).link.Sound := by
  unfold Machine.startSending
  split
  · exact h
  next free =>
  split
  · refine h.relist ⟨rfl, rfl⟩ fun sound => ?_
    obtain ⟨kinds, attempts, sending⟩ := markFirst_kinds s.link.state s.link.list
    have none_sends : s.link.list.countP (·.sending) = 0 := by
      rw [List.countP_eq_zero]
      intro x mem
      have idle : s.sendingEntry = none := by simpa using (not_or.mp free).2
      simpa using List.find?_eq_none.mp idle x mem
    refine sound.of_kinds kinds (fun e mem => ?_) ?_
    · have count : e.attempts ∈ s.link.list.map (·.attempts) := attempts ▸ List.mem_map_of_mem mem
      obtain ⟨x, listed, same⟩ := List.mem_map.mp count
      exact same ▸ sound.2.2.1 x listed
    · change (markFirst s.link.state s.link.list).countP (·.sending) ≤ 1
      omega
  · exact h.relist ⟨rfl, rfl⟩ fun sound => sound

end Sys2Proof.Machine
end

section
/-! PROOFS. What the shared operations that send no CLAIM leave of a sound Link Controller and of a sound claim (R55,
R57, R75, R91 to R94). -/

namespace Sys2Proof.Machine

/-! ## The claim and its window -/

/-- The Zone Unit's claim is sound: the first part of `State.ZoneSound`. -/
def State.ClaimSound (s : State) : Prop :=
  ∀ c, s.zone.claim = some c →
    CellSet.minus c.waiting c.cells = 0#20
      ∧ (c.waitingState = false → c.waiting = 0#20 ∧ c.number.isSome
          ∧ ∀ n, c.number = some n → (s.window s.own n).isSome →
              ∀ k, c.cells.has k = true → (s.cell k).state = .claimed s.own n)

theorem State.zoneSound_iff (s : State) : s.ZoneSound ↔ s.ClaimSound ∧ s.peer s.own = none
    ∧ (s.station.state = .config → s.link.state = .silent ∧ s.zone.windows = []) := Iff.rfl

/-- No window runs under the number of the station's next CLAIM. -/
def State.Fresh (s : State) : Prop := s.window s.own s.zone.nextNumber = none

/-- No CLAIM has gone yet, or it stands and will not be withdrawn. -/
def State.Ready (s : State) : Prop := s.Fresh ∨ ∃ c, s.zone.claim = some c ∧ c.orphan = false

/-- Nothing is asked of a state. -/
def State.Any (_ : State) : Prop := True

/-- What all but a few operations leave of what a claim's soundness rests on besides the claim and its cells. -/
structure State.Unmoved (s t : State) : Prop where
  silent : s.link.state = .silent → t.link.state = .silent
  own : t.own = s.own
  mode : t.station.state = s.station.state
  entry : t.peer s.own = s.peer s.own
  windows : t.zone.windows = s.zone.windows
  number : t.zone.nextNumber = s.zone.nextNumber

/-- A step that keeps the claim as it is, and the station's CLAIMED cells. -/
structure State.Still (s t : State) : Prop extends State.Unmoved s t where
  link : s.link.Sound → t.link.Sound
  claim : t.zone.claim = s.zone.claim
  claimed : ∀ n k, (s.cell k).state = .claimed s.own n → (t.cell k).state = .claimed s.own n

/-- A step that sends no CLAIM. -/
structure State.Calm (s t : State) : Prop extends State.Unmoved s t where
  link : s.link.Sound → t.link.Sound
  claimSound : s.ClaimSound → t.ClaimSound

/-- A step from one condition on the claim numbers to another that keeps link and claim sound. -/
def State.Leads (P Q : State → Prop) (s t : State) : Prop :=
  s.link.Sound → t.link.Sound ∧ (s.ZoneSound → P s → t.ZoneSound ∧ Q t)

theorem State.Unmoved.refl (s : State) : s.Unmoved s := ⟨id, rfl, rfl, rfl, rfl, rfl⟩

theorem State.Unmoved.trans {s t u : State} (h : s.Unmoved t) (k : t.Unmoved u) : s.Unmoved u :=
  ⟨k.silent ∘ h.silent, k.own.trans h.own, k.mode.trans h.mode, by rw [← h.entry, ← h.own, k.entry],
    k.windows.trans h.windows, k.number.trans h.number⟩

theorem State.Unmoved.window {s t : State} (h : s.Unmoved t) (p : Station) (n : Byte) :
    t.window p n = s.window p n := by
  rw [State.window, State.window, h.windows]

theorem State.Unmoved.fresh {s t : State} (h : s.Unmoved t) (fresh : s.Fresh) : t.Fresh := by
  rw [State.Fresh, h.own, h.number, h.window]
  exact fresh

theorem State.Unmoved.zoneSound {s t : State} (h : s.Unmoved t) (claim : s.ClaimSound → t.ClaimSound)
    (sound : s.ZoneSound) : t.ZoneSound := by
  obtain ⟨claimSound, absent, config⟩ := s.zoneSound_iff.mp sound
  refine ⟨claim claimSound, by rw [h.own, h.entry, absent], fun inConfig => ?_⟩
  obtain ⟨silent, none⟩ := config (h.mode ▸ inConfig)
  exact ⟨h.silent silent, h.windows.trans none⟩

theorem State.Still.of_same {s t : State} (same : t.link = s.link ∧ t.zone = s.zone ∧ t.station = s.station
    ∧ t.peers = s.peers) : s.Still t := by
  obtain ⟨link, zone, station, peers⟩ := same
  refine ⟨⟨fun h => by rw [link, h], by rw [State.own, station]; rfl, by rw [station], by rw [State.peer, peers]; rfl,
    by rw [zone], by rw [zone]⟩, fun h => by rwa [link], by rw [zone], fun n k h => ?_⟩
  rwa [State.cell, zone]

theorem State.Still.refl (s : State) : s.Still s := .of_same ⟨rfl, rfl, rfl, rfl⟩

theorem evaluate_still (s : State) : s.Still (evaluate s) := .of_same (by simp)

theorem State.still_reach (s : State) (due : Nat) : s.Still (s.reach due) := .of_same ⟨rfl, rfl, rfl, rfl⟩

theorem State.still_setMotion (s : State) (m : Motion) : s.Still (s.setMotion m) := .of_same ⟨rfl, rfl, rfl, rfl⟩

theorem State.still_setProbes (s : State) (p : Probes) : s.Still (s.setProbes p) := .of_same ⟨rfl, rfl, rfl, rfl⟩

theorem State.still_setEvents (s : State) (e : Events) : s.Still (s.setEvents e) := .of_same ⟨rfl, rfl, rfl, rfl⟩

theorem State.still_setAxis (s : State) (a : Axis) (c : AxisChan) :
    s.Still (s.setAxis a c) :=
  .of_same ⟨rfl, rfl, rfl, rfl⟩

theorem State.Still.trans {s t u : State} (h : s.Still t) (k : t.Still u) : s.Still u :=
  ⟨h.toUnmoved.trans k.toUnmoved, k.link ∘ h.link, k.claim.trans h.claim,
    fun n c claimed => h.own ▸ k.claimed n c (by rw [h.own]; exact h.claimed n c claimed)⟩

theorem State.Still.calm {s t : State} (h : s.Still t) : s.Calm t := by
  refine ⟨h.toUnmoved, h.link, fun sound c stands => ?_⟩
  obtain ⟨within, running⟩ := sound c (h.claim ▸ stands)
  refine ⟨within, fun claiming => ?_⟩
  obtain ⟨none, number, cells⟩ := running claiming
  refine ⟨none, number, fun n numbered runs k has => ?_⟩
  rw [h.own] at runs ⊢
  exact h.claimed n k (cells n numbered (h.window s.own n ▸ runs) k has)

theorem State.Calm.trans {s t u : State} (h : s.Calm t) (k : t.Calm u) : s.Calm u :=
  ⟨h.toUnmoved.trans k.toUnmoved, k.link ∘ h.link, k.claimSound ∘ h.claimSound⟩

theorem State.Calm.leads {s t : State} (h : s.Calm t) : s.Leads State.Fresh State.Fresh t :=
  fun link => ⟨h.link link, fun sound fresh => ⟨h.zoneSound h.claimSound sound, h.fresh fresh⟩⟩

theorem State.Calm.any {s t : State} (h : s.Calm t) : s.Leads State.Any State.Any t :=
  fun link => ⟨h.link link, fun sound _ => ⟨h.zoneSound h.claimSound sound, trivial⟩⟩

theorem State.Still.ready {s t : State} (h : s.Still t) : s.Leads State.Ready State.Ready t := by
  refine fun link => ⟨h.link link, fun sound ready => ⟨h.zoneSound h.calm.claimSound sound, ?_⟩⟩
  rcases ready with fresh | ⟨c, stands, kept⟩
  · exact .inl (h.fresh fresh)
  · exact .inr ⟨c, h.claim ▸ stands, kept⟩

theorem State.Leads.trans {P Q R : State → Prop} {s t u : State} (h : s.Leads P Q t) (k : t.Leads Q R u) :
    s.Leads P R u := by
  intro link
  obtain ⟨link', keeps⟩ := h link
  obtain ⟨link'', keeps'⟩ := k link'
  refine ⟨link'', fun sound holds => ?_⟩
  obtain ⟨sound', holds'⟩ := keeps sound holds
  exact keeps' sound' holds'

theorem State.Leads.imp {P P' Q Q' : State → Prop} {s t : State} (h : s.Leads P Q t) (before : P' s → P s)
    (after : Q t → Q' t) : s.Leads P' Q' t := by
  intro link
  obtain ⟨link', keeps⟩ := h link
  refine ⟨link', fun sound holds => ?_⟩
  obtain ⟨sound', holds'⟩ := keeps sound (before holds)
  exact ⟨sound', after holds'⟩

/-- What follows a CLAIM may follow where none was sent. -/
theorem State.Leads.fresh {Q : State → Prop} {s t : State} (h : s.Leads State.Ready Q t) : s.Leads State.Fresh Q t :=
  h.imp .inl id

theorem State.Leads.any {P Q : State → Prop} {s t : State} (h : s.Leads P Q t) : s.Leads P State.Any t :=
  h.imp id fun _ => trivial

/-! ## The transmit list -/

/-- An operation on the link alone. -/
theorem State.Still.of_link {s t : State}
    (same : t.zone = s.zone ∧ t.station = s.station ∧ t.peers.entries = s.peers.entries)
    (state : t.link.state = s.link.state) (link : s.link.Sound → t.link.Sound) : s.Still t := by
  obtain ⟨zone, station, entries⟩ := same
  refine ⟨⟨fun h => state ▸ h, by rw [State.own, station]; rfl, by rw [station], by rw [State.peer, entries]; rfl,
    by rw [zone], by rw [zone]⟩, link, by rw [zone], fun n k h => ?_⟩
  rwa [State.cell, zone]

theorem offer_still {f : TxFrame} (s : State) (hears : s.link.state = .deaf → f.deafDrops = false) :
    s.Still (offer f s).2 :=
  .of_link (by simp) (by simp) fun sound => sound.offer hears

theorem offer_still_of {f : TxFrame} {s t : State} {o : Offer} (h : offer f s = (o, t))
    (hears : s.link.state = .deaf → f.deafDrops = false) : s.Still t := by
  have still := offer_still s hears
  rwa [h] at still

theorem State.Still.of_peers (s : State) {v : PeerTable} (entries : v.entries = s.peers.entries) :
    s.Still (s.setPeers v) :=
  .of_link ⟨rfl, rfl, entries⟩ rfl id

theorem presenceLeft_still (s : State) : s.Still (presenceLeft s) :=
  .of_link (by simp) (by simp) fun sound => by simpa using sound

theorem offerPresence_still (s : State) : s.Still (offerPresence s) := by
  have hears : s.link.state = .deaf → TxFrame.presence.deafDrops = false := fun _ => rfl
  unfold offerPresence
  split
  · exact .of_peers s rfl
  split
  · next h => exact (offer_still_of h hears).trans (.of_peers _ rfl)
  · next h => exact .trans (.trans (offer_still_of h hears) (State.Still.of_peers _ (by rfl))) (presenceLeft_still _)
  · next h => exact (offer_still_of h hears).trans (.of_peers _ rfl)

theorem releaseReport_still (s : State) : s.Still (releaseReport s) := by
  unfold releaseReport
  split
  · exact .trans (.of_peers s (by rfl)) (offerPresence_still _)
  · exact .refl s

theorem offerNote_still (k : SlotIx) (content : Ident) (s : State) : s.Still (offerNote k content s) := by
  have hears : s.link.state = .deaf → (TxFrame.rackNote k content).deafDrops = false := fun _ => rfl
  unfold offerNote
  split
  · next h => exact offer_still_of h hears
  · next h => exact (offer_still_of h hears).trans (.of_same (by simp))
  · next h => exact (offer_still_of h hears).trans (.of_same (by simp))

theorem expelIdent_still (i : Ident) (s : State) : s.Still (expelIdent i s) := by
  unfold expelIdent
  split
  · refine foldl_invariant (P := s.Still) (fun t k still => ?_) _ (.refl s)
    split
    · exact still.trans (.trans (.of_same (by simp)) (offerNote_still _ _ _))
    · exact still
  · exact .refl s

/-- A frame that a station not ON never places (R62). -/
theorem offerWait_still (cs : CellSet) (s : State) : s.Still (offerWait cs s) := by
  unfold offerWait
  split
  · next on => exact offer_still s fun deaf => by simp [on.1] at deaf
  · exact .refl s

/-! ## Fault stops and hand-overs -/

theorem faultStop_still (r : FaultReason) (s : State) : s.Still (faultStop r s) := by
  have cells (k : Cell) : (faultStop r s).cell k = s.cell k := State.cell_congr (by simp) k
  exact ⟨⟨fun h => by simpa using h, by simp [State.own], by simp, by simp [State.peer], by simp, by simp⟩,
    fun h => by simpa using h, by simp, fun n k h => by rwa [cells]⟩

theorem zoneConflict_still (p : Station) (cs : CellSet) (s : State) : s.Still (zoneConflict p cs s) :=
  .trans (.of_same (by simp)) (faultStop_still _ _)

/-- A change of cells that are not CLAIMED by the station. -/
theorem State.Still.of_mapCells {s : State} {f : Cell → CellEntry → CellEntry}
    (claimed : ∀ n k, (s.cell k).state = .claimed s.own n → (f k (s.cell k)).state = .claimed s.own n) :
    s.Still (s.mapCells f) :=
  ⟨⟨id, rfl, rfl, rfl, rfl, rfl⟩, id, rfl, fun n k h => by rw [State.cell_mapCells, claimed n k h]⟩

theorem handOver_still (keep : CellSet) (s : State) : s.Still (handOver keep s) := by
  refine ⟨⟨fun h => by simpa using h, by simp [State.own], by simp, by simp [State.peer], by simp, by simp⟩,
    fun sound => ?_, by simp, fun n k claimed => ?_⟩
  · unfold handOver
    dsimp only
    split
    · exact sound
    · generalize cells : s.mapCells _ = freed
      have same : freed.link = s.link := cells ▸ rfl
      exact Link.Sound.offer (f := .release (s.releaseSet keep)) (by rwa [same]) fun _ => rfl
  · have kept : (s.releaseSet keep).has k = false := by
      simp [State.releaseSet, State.owedSet, State.has_cellsWhere, claimed]
    rw [handOver_cell, kept]
    exact claimed

theorem handOverIfEmpty_still (s : State) : s.Still (handOverIfEmpty s) := by
  unfold handOverIfEmpty
  split
  · split
    · exact .of_same ⟨rfl, rfl, rfl, rfl⟩
    · exact handOver_still _ _
  · exact .refl s

theorem weigh_still (s : State) : s.Still (weigh s) := .of_same (by simp)

end Sys2Proof.Machine
end

section
/-! PROOFS. The operations on the claim that send no CLAIM, and those that may send one (R55, R56, R62, R63, R66, R70,
R75, R91, R92). -/

namespace Sys2Proof.Machine

/-! ## A claim goes to WAITING, is withdrawn or marked -/

/-- The operations on the Zone Unit's other fields. -/
theorem State.Still.of_zone (s : State) {z : Zone}
    (same : z.cells = s.zone.cells ∧ z.claim = s.zone.claim ∧ z.windows = s.zone.windows
      ∧ z.nextNumber = s.zone.nextNumber) :
    s.Still (s.setZone z) := by
  obtain ⟨cells, claim, windows, number⟩ := same
  refine ⟨⟨id, rfl, rfl, rfl, windows, number⟩, id, claim, fun n k h => ?_⟩
  have same : (s.setZone z).cell k = s.cell k := State.cell_congr cells k
  rw [same, h]

/-- A claim is gone. -/
theorem State.Calm.of_noClaim (s : State) {z : Zone}
    (same : z.claim = none ∧ z.windows = s.zone.windows ∧ z.nextNumber = s.zone.nextNumber) : s.Calm (s.setZone z) := by
  obtain ⟨claim, windows, number⟩ := same
  exact ⟨⟨id, rfl, rfl, rfl, windows, number⟩, id, fun _ c stands => by cases claim.symm.trans stands⟩

/-- Marks of the claim alone change. -/
theorem State.Calm.of_marks {s : State} {c d : Claim} (stands : s.zone.claim = some c)
    (same : d.number = c.number ∧ d.cells = c.cells ∧ d.waitingState = c.waitingState ∧ d.waiting = c.waiting) :
    s.Calm (s.setClaim (some d)) := by
  obtain ⟨number, cells, state, waiting⟩ := same
  refine ⟨⟨id, rfl, rfl, rfl, rfl, rfl⟩, id, fun sound e marked => ?_⟩
  obtain rfl : d = e := Option.some.inj marked
  rw [number, cells, state, waiting]
  exact sound c stands

theorem claimToWaiting_none {s : State} (none : s.zone.claim = none) (cs : CellSet) : claimToWaiting cs s = s := by
  rw [claimToWaiting, none]

/-- A claim that is WAITING for cells of its own is sound. -/
theorem claimSound_of_waiting {s : State}
    (waits : ∀ c, s.zone.claim = some c → c.waitingState = true ∧ CellSet.minus c.waiting c.cells = 0#20) :
    s.ClaimSound := by
  intro c stands
  obtain ⟨waiting, within⟩ := waits c stands
  exact ⟨within, fun claiming => by cases waiting.symm.trans claiming⟩

theorem claimToWaiting_claimSound {cs : CellSet} {s : State}
    (within : ∀ c, s.zone.claim = some c → CellSet.minus cs c.cells = 0#20) : (claimToWaiting cs s).ClaimSound := by
  cases claim : s.zone.claim with
  | none =>
    rw [claimToWaiting_none claim]
    exact fun c stands => by cases claim.symm.trans stands
  | some c =>
    obtain ⟨⟨b, waits⟩, -⟩ := claimToWaiting_spec (cs := cs) claim
    refine claimSound_of_waiting fun d stands => ?_
    cases waits.symm.trans stands
    exact ⟨rfl, within c claim⟩

theorem claimToWaiting_link {cs : CellSet} {s : State} (sound : s.link.Sound) : (claimToWaiting cs s).link.Sound := by
  cases claim : s.zone.claim with
  | none => rwa [claimToWaiting_none claim]
  | some c =>
    obtain ⟨-, -, link, -⟩ := claimToWaiting_spec (cs := cs) claim
    rw [link]
    exact (offerWait_still cs s).link sound

theorem claimToWaiting_unmoved (cs : CellSet) (s : State) : s.Unmoved (claimToWaiting cs s) :=
  ⟨fun h => by simpa using h, by simp [State.own], by simp, by simp [State.peer], by simp, by simp⟩

theorem claimToWaiting_calm {cs : CellSet} {s : State}
    (within : ∀ c, s.zone.claim = some c → CellSet.minus cs c.cells = 0#20) : s.Calm (claimToWaiting cs s) :=
  ⟨claimToWaiting_unmoved cs s, claimToWaiting_link, fun _ => claimToWaiting_claimSound within⟩

theorem minus_minus_self (cells free : CellSet) : CellSet.minus (CellSet.minus cells free) cells = 0#20 := by
  refine CellSet.ext_has fun k => ?_
  simp only [CellSet.has_minus, CellSet.has_zero]
  cases cells.has k <;> simp

theorem minus_and_self (cs cells : CellSet) : CellSet.minus (cs &&& cells) cells = 0#20 := by
  refine CellSet.ext_has fun k => ?_
  simp

theorem minus_self (cells : CellSet) : CellSet.minus cells cells = 0#20 := by
  refine CellSet.ext_has fun k => ?_
  simp

theorem claimUndelivered_calm (s : State) : s.Calm (claimUndelivered s) := by
  unfold claimUndelivered
  split
  · exact (State.Still.refl s).calm
  · next c claim =>
    refine .trans (claimToWaiting_calm fun d stands => ?_) (State.Still.of_zone _ (by exact ⟨rfl, rfl, rfl, rfl⟩)).calm
    cases claim.symm.trans stands
    exact minus_minus_self _ _

theorem claimingToWaiting_claimSound {s : State}
    (within : ∀ c, s.zone.claim = some c → CellSet.minus c.waiting c.cells = 0#20) :
    (claimingToWaiting s).ClaimSound := by
  unfold claimingToWaiting
  split
  · next c claim =>
    split
    · next waits =>
      refine claimSound_of_waiting fun d stands => ?_
      cases claim.symm.trans stands
      exact ⟨waits, within c claim⟩
    · refine claimToWaiting_claimSound fun d stands => ?_
      cases claim.symm.trans stands
      exact minus_self _
  · next claim => exact fun c stands => by cases claim.symm.trans stands

theorem claimingToWaiting_link {s : State} (sound : s.link.Sound) : (claimingToWaiting s).link.Sound := by
  unfold claimingToWaiting
  split
  · split
    · exact sound
    · exact claimToWaiting_link sound
  · exact sound

theorem withdrawClaim_calm (s : State) : s.Calm (withdrawClaim s) :=
  (State.Calm.of_noClaim s (by exact ⟨rfl, rfl, rfl⟩)).trans (offerPresence_still _).calm

theorem currentChanged_calm (s : State) : s.Calm (currentChanged s) := by
  have dropped := (State.Still.of_zone s (z := { s.zone with heldBack := none }) ⟨rfl, rfl, rfl, rfl⟩).calm
  unfold currentChanged
  dsimp only
  split
  · exact dropped
  · next c claim =>
    split
    · exact dropped
    · split
      · exact dropped.trans (withdrawClaim_calm _)
      · exact dropped.trans (.of_marks claim ⟨rfl, rfl, rfl, rfl⟩)

theorem dropOrphan_calm (s : State) : s.Calm (dropOrphan s) := by
  unfold dropOrphan
  split
  · split
    · exact withdrawClaim_calm s
    · exact (State.Still.refl s).calm
  · exact (State.Still.refl s).calm

theorem markTimeout_calm {c : Claim} {s : State} (stands : s.zone.claim = some c) : s.Calm (markTimeout c s) :=
  (State.Calm.of_marks (d := { c with timeout := true }) stands ⟨rfl, rfl, rfl, rfl⟩).trans
    (State.Still.of_same (by simp [markTimeout])).calm

/-! ## Entry to DEAF (R75, R92, R93) -/

theorem enterDeaf_unmoved {s : State} (linked : s.link.state ≠ .silent) (r : LinkReason) (k : Option FrameKind) :
    s.Unmoved (enterDeaf r k s) :=
  ⟨fun silent => absurd silent linked, by simp [State.own], by simp, by simp [State.peer], by simp, by simp⟩

theorem enterDeaf_link {s : State} (list : listSound s.link.state s.link.list) (run : s.link.run ≤ 8) (r : LinkReason)
    (k : Option FrameKind) : (enterDeaf r k s).link.Sound := by
  obtain ⟨-, -, link, -⟩ := conflictsRaised_leaves (objectsIn s.link.list) (s.deafened r k)
  rw [enterDeaf_eq]
  refine (releaseReport_still _).link (claimingToWaiting_link ?_)
  rw [show (forgetHolders _).link = _ from link]
  obtain ⟨length, sorted, attempts, sending, -⟩ := list.filter fun e => !e.frame.deafDrops
  refine ⟨length, sorted, attempts, sending, fun silent => (by cases silent), fun _ e listed => ?_, run,
    fun apart => absurd rfl apart⟩
  simpa using (List.mem_filter.mp listed).2

theorem enterDeaf_claimSound {s : State} (sound : s.ClaimSound) (r : LinkReason) (k : Option FrameKind) :
    (enterDeaf r k s).ClaimSound := by
  obtain ⟨-, claim, -⟩ := conflictsRaised_leaves (objectsIn s.link.list) (s.deafened r k)
  rw [enterDeaf_eq]
  refine (releaseReport_still _).calm.claimSound (claimingToWaiting_claimSound fun c stands => ?_)
  exact (sound c (claim.symm.trans stands)).1

theorem enterDeaf_isCalm {s : State} (linked : s.link.state ≠ .silent) (r : LinkReason) (k : Option FrameKind) :
    s.Calm (enterDeaf r k s) :=
  ⟨enterDeaf_unmoved linked r k, fun sound =>
      have parts := s.link.sound_iff.mp sound
      enterDeaf_link parts.1 parts.2.1 r k,
    fun sound => enterDeaf_claimSound sound r k⟩

theorem countError_calm {s : State} (judges : s.judges = true) : s.Calm (countError s) := by
  have apart : s.link.state ≠ .deaf := by
    intro deaf
    simp [State.judges, deaf] at judges
  have linked : s.link.state ≠ .silent := by
    intro silent
    simp [State.judges, silent] at judges
  have counted : s.Unmoved (s.setLink { s.link with run := s.link.run + 1 }) := ⟨id, rfl, rfl, rfl, rfl, rfl⟩
  unfold countError
  dsimp only
  split
  · exact ⟨counted.trans (enterDeaf_unmoved (s := s.setLink { s.link with run := s.link.run + 1 }) linked _ _),
      fun sound => enterDeaf_link (s := s.setLink { s.link with run := s.link.run + 1 }) (s.link.sound_iff.mp sound).1
        (Nat.succ_le_of_lt ((s.link.sound_iff.mp sound).2.2 apart)) _ _,
      fun sound => enterDeaf_claimSound (s := s.setLink { s.link with run := s.link.run + 1 }) sound _ _⟩
  · next few =>
    refine State.Still.calm (.of_link (by exact ⟨rfl, rfl, rfl⟩) (by rfl) fun sound => ?_)
    have few' : s.link.run + 1 < 8 := Nat.lt_of_not_le few
    exact (Link.sound_iff _).mpr ⟨(s.link.sound_iff.mp sound).1, by exact few'.le, fun _ => few'⟩

/-! ## The owner of a frame is told (R85, R91) -/

theorem removeSending_still (s : State) : s.Still (removeSending s) :=
  .of_link ⟨rfl, rfl, rfl⟩ rfl fun sound => sound.removeSending

theorem ownerTold_calm (f : TxFrame) (s : State) : s.Calm (ownerTold f s) := by
  cases f with
  | claim n cs =>
    unfold ownerTold
    dsimp only
    split
    · split
      · exact claimUndelivered_calm s
      · exact (State.Still.refl s).calm
    · exact (State.Still.refl s).calm
  | object t n cs => exact (zoneConflict_still _ _ s).calm
  | rackNote k c => exact (State.Still.of_same (by simp [ownerTold])).calm
  | presence => exact (presenceLeft_still s).calm
  | release cs => exact (State.Still.refl s).calm
  | wait cs => exact (State.Still.refl s).calm
  | sampleCall => exact (State.Still.refl s).calm

theorem attemptSpoiled_calm (s : State) : s.Calm (attemptSpoiled s) := by
  unfold attemptSpoiled
  split
  · exact (State.Still.refl s).calm
  · next e sending =>
    split
    · exact ((removeSending_still s).trans (.of_same (by simp))).calm.trans (ownerTold_calm _ _)
    · next few =>
      exact (State.Still.of_link (by simp) (by simp) fun sound =>
        sound.backToPending (Nat.lt_of_not_le few)).calm

/-! ## The operations that may send a CLAIM -/

/-- A claim stands that will not be withdrawn. -/
def State.Stands (s : State) : Prop := ∃ c, s.zone.claim = some c ∧ c.orphan = false

theorem claimUndelivered_stands {s : State} (h : s.Stands) : (claimUndelivered s).Stands := by
  obtain ⟨c, stands, kept⟩ := h
  rw [claimUndelivered, stands]
  obtain ⟨⟨b, waits⟩, -⟩ := claimToWaiting_spec (cs := CellSet.minus c.cells s.freeSet) stands
  exact ⟨_, waits, kept⟩

/-- The claim record as its CLAIM is offered (R55). -/
def State.claimMade (s : State) (c : Claim) : State :=
  s.setZone { s.zone with
    claim := some { c with number := some s.zone.nextNumber, waitingState := false, waiting := 0#20 }
    nextNumber := s.zone.nextNumber + 1 }

theorem claimMade_leads {s : State} {c : Claim} (kept : c.orphan = false) :
    s.Leads State.Fresh State.Stands (s.claimMade c) := by
  refine fun link => ⟨link, fun sound fresh => ⟨⟨fun d stands => ?_, sound.2.1, sound.2.2⟩, _, rfl, kept⟩⟩
  obtain rfl := Option.some.inj stands
  refine ⟨by simp [CellSet.minus], fun _ => ⟨rfl, rfl, fun n numbered running => ?_⟩⟩
  obtain rfl := Option.some.inj numbered
  have none : (s.claimMade c).window s.own s.zone.nextNumber = none := fresh
  rw [show (s.claimMade c).own = s.own from rfl, none] at running
  cases running

/-- A CLAIM sent under a number that no window has, and not from DEAF, leaves a sound claim standing. -/
theorem sendClaim_leads {s : State} {c : Claim} (linked : s.link.state ≠ .deaf) (kept : c.orphan = false) :
    s.Leads State.Fresh State.Stands (sendClaim c s) := by
  have made := claimMade_leads (s := s) kept
  have hears : (s.claimMade c).link.state = .deaf → (TxFrame.claim s.zone.nextNumber c.cells).deafDrops = false :=
    fun deaf => absurd deaf linked
  have still {t : State} (h : (s.claimMade c).Still t) : (s.claimMade c).Leads State.Stands State.Stands t :=
    fun link => ⟨h.link link, fun sound ⟨d, stands, kept'⟩ =>
      ⟨h.zoneSound h.calm.claimSound sound, d, h.claim ▸ stands, kept'⟩⟩
  unfold sendClaim
  dsimp only
  split
  · next h => exact made.trans (still (offer_still_of h hears))
  · next t h =>
    refine made.trans ((still (offer_still_of h hears)).trans ?_)
    have calm := claimUndelivered_calm t
    exact fun link => ⟨calm.link link, fun sound stands =>
      ⟨calm.zoneSound calm.claimSound sound, claimUndelivered_stands stands⟩⟩
  · next h => exact made.trans (still (offer_still_of h hears))

theorem State.Leads.refl (P : State → Prop) (s : State) :
    s.Leads P P s :=
  fun link => ⟨link, fun sound holds => ⟨sound, holds⟩⟩

theorem requestCells_leads (cs : CellSet) (s : State) : s.Leads State.Ready State.Ready (requestCells cs s) := by
  unfold requestCells
  split
  · exact .refl _ s
  split
  · exact (State.Still.of_zone s ⟨rfl, rfl, rfl, rfl⟩).ready
  next unclaimed =>
  have fresh : s.Ready → s.Fresh := by
    rintro (fresh | ⟨c, stands, -⟩)
    · exact fresh
    · simp [stands] at unclaimed
  split
  · next on =>
    split
    · exact (State.Still.of_zone s ⟨rfl, rfl, rfl, rfl⟩).ready
    · exact (sendClaim_leads (c := newClaim s.requester cs s) (by simp [on]) rfl).imp fresh .inr
  · have calm : s.Calm (raiseZoneWait cs (s.setClaim
        (some { newClaim s.requester cs s with waitingState := true, waiting := cs }))) := by
      refine .trans (t := s.setClaim (some { newClaim s.requester cs s with waitingState := true, waiting := cs })) ?_
        (State.Still.of_same (by simp)).calm
      refine ⟨⟨id, rfl, rfl, rfl, rfl, rfl⟩, id, fun _ => claimSound_of_waiting fun d stands => ?_⟩
      obtain rfl := Option.some.inj stands
      exact ⟨rfl, minus_self cs⟩
    exact calm.leads.imp fresh .inl

/-- The retry check leaves a claim sent standing. -/
theorem retryCheck_leads (s : State) : s.Leads State.Fresh State.Ready (retryCheck s) := by
  unfold retryCheck
  split
  · exact (State.Leads.refl State.Ready s).fresh
  · next c claim =>
    split
    · next may =>
      simp only [Bool.and_eq_true, Bool.not_eq_true', beq_iff_eq] at may
      obtain ⟨⟨⟨⟨-, kept⟩, on⟩, -⟩, -⟩ := may
      exact (sendClaim_leads (by simp [on]) kept).imp id .inr
    · exact (State.Leads.refl State.Ready s).fresh

theorem takeUpHeldBack_leads (before : CellSet) (s : State) :
    s.Leads State.Ready State.Ready (takeUpHeldBack before s) := by
  unfold takeUpHeldBack
  split
  · split
    · exact (State.Still.of_zone s (by exact ⟨rfl, rfl, rfl, rfl⟩)).ready.trans (requestCells_leads _ _)
    · exact .refl _ s
  · exact .refl _ s

/-- A held-back request sends nothing while a claim stands (R56). -/
theorem takeUpHeldBack_still {s : State} {c : Claim} (stands : s.zone.claim = some c) (before : CellSet) :
    s.Still (takeUpHeldBack before s) := by
  unfold takeUpHeldBack
  split
  · next cs _ =>
    split
    · have dropped := State.Still.of_zone s (z := { s.zone with heldBack := none }) ⟨rfl, rfl, rfl, rfl⟩
      unfold requestCells
      split
      · exact dropped
      · rw [if_pos (by simp [stands])]
        exact dropped.trans (.of_zone _ ⟨rfl, rfl, rfl, rfl⟩)
    · exact .refl s
  · exact .refl s

theorem deferralsEnded_leads (before : CellSet) (s : State) :
    s.Leads State.Fresh State.Ready (deferralsEnded before s) := by
  unfold deferralsEnded
  dsimp only
  split
  · next c claim =>
    split
    · exact (takeUpHeldBack_still claim before).calm.leads.trans (retryCheck_leads _)
    · exact (takeUpHeldBack_leads before s).fresh
  · exact (takeUpHeldBack_leads before s).fresh

end Sys2Proof.Machine
end

section
/-! PROOFS. What the Motion Unit, the change sequence and its segments leave of a sound link and claim: at most one
CLAIM goes in a command (R26, R30, R44, R152). -/

namespace Sys2Proof.Machine

/-! ## The current segment and what follows a claim -/

theorem refuseZeroLength_calm (g : Segment) (s : State) : s.Calm (refuseZeroLength g s) := by
  have gone : s.Still (s.dropCurrent.setMotionState .held) := .of_same (by simp)
  exact (gone.calm.trans (currentChanged_calm _)).trans
    (State.Still.trans (.of_same (by simp)) (handOverIfEmpty_still _)).calm

theorem fixGeometry_leads (g : Segment) (s : State) : s.Leads State.Ready State.Any (fixGeometry g s) := by
  unfold fixGeometry
  dsimp only
  split
  · exact (refuseZeroLength_calm g s).any.imp (fun _ => trivial) id
  split
  · exact (State.Still.trans (.of_same (by simp)) (weigh_still _)).ready.any
  · exact (State.Still.ready (.of_same (by simp))).trans (requestCells_leads _ _).any

theorem becomeCurrent_leads (s : State) : s.Leads State.Ready State.Any (becomeCurrent s) := by
  have stays : s.Leads State.Ready State.Any s := (State.Leads.refl _ s).any
  unfold becomeCurrent
  split
  · exact stays
  split
  · exact (s.still_setMotion _).ready.any
  split
  · exact stays
  split
  · exact stays
  · have dropped := (s.still_setMotion { s.motion with deferCurrent := none }).trans
      (.of_zone _ (z := { s.zone with heldBack := none }) ⟨rfl, rfl, rfl, rfl⟩)
    exact dropped.ready.trans (fixGeometry_leads _ _)

theorem dropOrphan_leads (s : State) : s.Leads State.Ready State.Ready (dropOrphan s) := by
  refine fun link => ⟨(dropOrphan_calm s).link link, fun sound ready =>
    ⟨(dropOrphan_calm s).zoneSound (dropOrphan_calm s).claimSound sound, ?_⟩⟩
  rcases ready with fresh | ⟨c, stands, kept⟩
  · exact .inl ((dropOrphan_calm s).fresh fresh)
  · have same : dropOrphan s = s := by
      rw [dropOrphan, stands]
      exact if_neg (by simp [kept])
    exact .inr ⟨c, by rw [same, stands], kept⟩

theorem followHandOver_still (s : State) : s.Still (followHandOver s) := by
  unfold followHandOver
  split
  · exact (s.still_setMotion _).trans (handOverIfEmpty_still _)
  · exact .refl s

theorem followCurrent_leads (s : State) : s.Leads State.Ready State.Any (followCurrent s) := by
  unfold followCurrent
  split
  · exact (s.still_setMotion _).ready.trans (becomeCurrent_leads _)
  · exact (State.Leads.refl _ s).any

theorem afterClaim_leads (s : State) : s.Leads State.Ready State.Any (afterClaim s) :=
  (dropOrphan_leads s).trans ((followHandOver_still _).ready.trans (followCurrent_leads _))

/-! ## The change sequence -/

theorem handInternal_leads (kind : SegKind) (target : V3 Int) (s : State) :
    s.Leads State.Ready State.Any (handInternal kind target s) :=
  (s.still_setMotion _).ready.trans (becomeCurrent_leads _)

theorem beginTravel_leads (ph : Phase) (ch : Change) (s : State) :
    s.Leads State.Ready State.Any (beginTravel ph ch s) :=
  (s.still_setProbes _).ready.trans (handInternal_leads _ _ _)

theorem beginLeaving_leads (ph : Phase) (ch : Change) (s : State) :
    s.Leads State.Ready State.Any (beginLeaving ph ch s) :=
  (s.still_setProbes _).ready.trans (handInternal_leads _ _ _)

theorem endChange_leads (ch : Change) (s : State) : s.Leads State.Ready State.Any (endChange ch s) := by
  unfold endChange
  dsimp only
  split
  · exact (State.Still.of_same (by simp)).ready.trans (becomeCurrent_leads _)
  · exact (State.Still.of_same (by simp)).ready.trans (becomeCurrent_leads _)

/-- The segment in hand goes, with a claim made for it (R30). -/
theorem gone_calm (s : State) : s.Calm (currentChanged s.dropCurrent) :=
  (State.Still.of_same (by simp)).calm.trans (currentChanged_calm _)

theorem endDeceleration_leads (s : State) : s.Leads State.Fresh State.Any (endDeceleration s) := by
  have stays : s.Leads State.Fresh State.Any s := (State.Leads.refl _ s).any
  unfold endDeceleration
  split
  · split
    · exact (gone_calm s).leads.trans (endChange_leads _ _).fresh
    · exact stays
  · have held : s.Still (s.dropCurrent.setMotionState .held) := .of_same (by simp)
    exact ((held.calm.trans (currentChanged_calm _)).trans (State.Still.of_same (by simp)).calm).leads.any

theorem decelerate_leads (g : Segment) (s : State) : s.Leads State.Fresh State.Any (decelerate g s) := by
  unfold decelerate
  split
  · exact (State.Leads.refl _ s).any
  split
  · exact endDeceleration_leads s
  · exact (State.Still.of_same (by simp)).calm.leads.any

theorem abortTravel_leads (ch : Change) (s : State) : s.Leads State.Fresh State.Any (abortTravel ch s) := by
  have marked : s.Leads State.Fresh State.Fresh (s.setChange (some { ch with failure := some .aborted })) :=
    (s.still_setProbes _).calm.leads
  unfold abortTravel
  dsimp only
  split
  · split
    · exact marked.trans (decelerate_leads _ _)
    · exact marked.any
  · exact marked.trans ((gone_calm _).leads.trans (endChange_leads _ _).fresh)

theorem abortChange_leads (s : State) : s.Leads State.Fresh State.Any (abortChange s).1 := by
  have stays : s.Leads State.Fresh State.Any s := (State.Leads.refl _ s).any
  have marked (c : Option Change) : s.Leads State.Fresh State.Any (s.setChange c) :=
    (s.still_setProbes _).calm.leads.any
  unfold abortChange
  split
  · exact stays
  next ch _ =>
  split
  · exact abortTravel_leads ch s
  · exact abortTravel_leads ch s
  · exact marked _
  · exact marked _
  · exact stays
  · exact stays
  · exact stays

/-- The ident of a drop or of a read stands in the view, and its notes in the list (R141, R149). -/
theorem noted_still (o : Option SlotIx) (content : Ident) (src : NotedBy) (s : State) :
    s.Still (match o with
      | some k => offerNote k content (applyNote k content src s)
      | none => s) := by
  cases o with
  | none => exact .refl s
  | some k => exact .trans (.of_same (by simp)) (offerNote_still _ _ _)

theorem completeDrop_leads (ch : Change) (s : State) : s.Leads State.Ready State.Any (completeDrop ch s) := by
  unfold completeDrop
  dsimp only
  refine State.Leads.trans (State.Still.ready ?_) (beginLeaving_leads _ _ _)
  exact .trans (.of_same (by simp)) (noted_still _ _ _ _)

theorem completePick_still (ch : Change) (s : State) : s.Still (completePick ch s) := by
  unfold completePick
  dsimp only
  refine (noted_still ch.pick 0x0000#16 (.station s.own) s).trans ?_
  exact ((State.still_setProbes _ _).trans (State.still_setProbes _ _)).trans (State.still_setProbes _ _)

theorem seatTimeout_leads (waiting leaving : Phase) (latchOpen : Bool) (s : State) :
    s.Leads State.Ready State.Any (seatTimeout waiting leaving latchOpen s) := by
  have stays : s.Leads State.Ready State.Any s := (State.Leads.refl _ s).any
  unfold seatTimeout
  split
  · split
    · exact (State.Still.of_same (by exact ⟨rfl, rfl, rfl, rfl⟩)).ready.trans (beginLeaving_leads _ _ _)
    · exact stays
  · exact stays

theorem endRead_leads (result : Option Ident) (s : State) : s.Leads State.Ready State.Any (endRead result s) := by
  unfold endRead
  split
  · exact (State.Leads.refl _ s).any
  have shown (p : CurrentProbe) (i : Ident) :
      s.Still (expelIdent i ((s.setProbes { s.probes with read := none }).setCurrentProbe p)) :=
    .trans (.of_same (by simp)) (expelIdent_still _ _)
  dsimp only
  split
  · split
    · exact (shown _ _).ready.trans (beginLeaving_leads _ _ _)
    · exact (s.still_setProbes _).ready.any
  · exact (shown _ _).ready.any

theorem failAttempt_leads (s : State) : s.Leads State.Ready State.Any (failAttempt s) := by
  unfold failAttempt
  split
  · exact (State.Leads.refl _ s).any
  split
  · exact (s.still_setProbes _).ready.any
  · exact endRead_leads none s

theorem takeAnswer_leads (high low check : Byte) (s : State) :
    s.Leads State.Ready State.Any (takeAnswer high low check s) := by
  unfold takeAnswer
  dsimp only
  split
  · exact endRead_leads _ s
  · exact failAttempt_leads s

theorem attemptTimeout_leads (s : State) : s.Leads State.Ready State.Any (attemptTimeout s) := by
  unfold attemptTimeout
  split
  · exact (State.Still.of_same (by exact ⟨rfl, rfl, rfl, rfl⟩)).ready.trans (failAttempt_leads _)
  · exact (State.Leads.refl _ s).any

theorem beginChange_leads (ch : Change) (s : State) : s.Leads State.Fresh State.Any (beginChange ch s) :=
  ((currentChanged_calm s).trans (State.still_setMotion _ _).calm).leads.trans
    (beginTravel_leads _ _ _).fresh

/-! ## Moves -/

theorem removeUnstarted_calm (s : State) : s.Calm (removeUnstarted s) := by
  have removed : s.Calm (s.setMotion { s.motion with queue := s.motion.queue.filter (·.state.flying) }) :=
    (s.still_setMotion _).calm
  unfold removeUnstarted
  dsimp only
  split
  · exact removed.trans (currentChanged_calm _)
  · exact removed

theorem appendMove_leads (g : Segment) (s : State) : s.Leads State.Ready State.Any (appendMove g s) := by
  have joined : s.Leads State.Ready State.Ready (s.setMotion { s.motion with queue := s.motion.queue ++ [g] }) :=
    (s.still_setMotion _).ready
  unfold appendMove
  dsimp only
  split
  · exact joined.trans (becomeCurrent_leads _)
  · exact joined.any

theorem stopEffect_leads (s : State) : s.Leads State.Fresh State.Any (stopEffect s) := by
  have stays : s.Leads State.Fresh State.Any s := (State.Leads.refl _ s).any
  have moved (m : Motion) : s.Leads State.Fresh State.Any (s.setMotion m) :=
    (s.still_setMotion m).calm.leads.any
  unfold stopEffect
  split
  · exact moved _
  · split
    · unfold stopSegment
      split
      · exact decelerate_leads _ s
      · exact moved _
    · exact stays
  · exact stays
  · exact stays
  · exact moved _
  · exact abortChange_leads s

theorem shedAbortedClaim_calm (s : State) : s.Calm (shedAbortedClaim s) := by
  unfold shedAbortedClaim
  dsimp only
  split
  · split
    · exact currentChanged_calm s
    · exact (State.Still.refl s).calm
  · exact (State.Still.refl s).calm

theorem completeHost_leads (g : Segment) (s : State) : s.Leads State.Fresh State.Any (completeHost g s) := by
  unfold completeHost
  dsimp only
  have asked : s.Still (if g.untouchedProbe then requestNoContact g s.dropCurrent else s.dropCurrent) := by
    split
    · exact .of_same (by simp)
    · exact .of_same (by simp)
  generalize (if g.untouchedProbe then requestNoContact g s.dropCurrent else s.dropCurrent) = u at asked
  have told : s.Still (raiseSegmentDone (g.tag.getD 0) u) := asked.trans (.of_same (by simp))
  have idle : s.Calm ((currentChanged (raiseSegmentDone (g.tag.getD 0) u)).setModes .idle) :=
    (told.calm.trans (currentChanged_calm _)).trans (State.Still.of_same (by simp)).calm
  generalize (currentChanged (raiseSegmentDone (g.tag.getD 0) u)).setModes .idle = v at idle
  split
  · exact (idle.trans ((v.still_setMotion _).trans (handOver_still _ _)).calm).leads.any
  · exact (idle.trans ((handOver_still _ v).trans (State.still_setMotion _ _)).calm).leads.trans
      (becomeCurrent_leads _).fresh

theorem continueTravel_leads (ch : Change) (s : State) : s.Leads State.Ready State.Any (continueTravel ch s) :=
  (handOver_still _ s).ready.trans (handInternal_leads _ _ _)

theorem endPhase_leads (ch : Change) (s : State) : s.Leads State.Ready State.Any (endPhase ch s) := by
  have kept : s.Leads State.Ready State.Ready (handOver s.restHere s) := (handOver_still _ s).ready
  unfold endPhase
  dsimp only
  split
  · exact kept.trans (State.still_setProbes _ _).ready.any
  · exact kept.trans (State.still_setProbes _ _).ready.any
  · split
    · exact kept.trans (endChange_leads _ _)
    · exact kept.trans (beginTravel_leads _ _ _)
  · exact kept.trans (endChange_leads _ _)
  · exact kept.any
  · exact kept.any
  · exact kept.any

theorem completeInternal_leads (g : Segment) (ch : Change) (s : State) :
    s.Leads State.Fresh State.Any (completeInternal g ch s) := by
  have done : s.Leads State.Fresh State.Fresh ((currentChanged s.dropCurrent).setModes .idle) :=
    ((gone_calm s).trans (State.Still.of_same (by simp)).calm).leads
  unfold completeInternal
  dsimp only
  split
  · exact done.trans ((handOver_still _ _).ready.trans (endChange_leads _ _)).fresh
  split
  · exact done.trans (continueTravel_leads _ _).fresh
  · exact done.trans (endPhase_leads _ _).fresh

theorem completeSegment_leads (s : State) : s.Leads State.Fresh State.Any (completeSegment s) := by
  have stays : s.Leads State.Fresh State.Any s := (State.Leads.refl _ s).any
  unfold completeSegment
  split
  · split
    · split
      · split
        · exact completeInternal_leads _ _ s
        · exact stays
      · exact completeHost_leads _ s
    · exact stays
  · exact stays

theorem takeScaleFault_calm (a : Axis) (s : State) : s.Calm (takeScaleFault a s) := by
  have lost : s.Calm (s.setAxis a { s.axis a with referenced := false }) := (s.still_setAxis _ _).calm
  have flushed : s.Calm (if (s.axis a).referenced
      then removeUnstarted (s.setAxis a { s.axis a with referenced := false })
      else s.setAxis a { s.axis a with referenced := false }) := by
    split
    · exact lost.trans (removeUnstarted_calm _)
    · exact lost
  unfold takeScaleFault
  dsimp only
  split
  · exact flushed
  · exact flushed.trans (faultStop_still _ _).calm
  · exact flushed.trans (faultStop_still _ _).calm
  · exact flushed

end Sys2Proof.Machine
end

section
/-! PROOFS. What the frames of the room and the peers' entries leave of a sound link and claim (R57, R58, R60, R65, R70
to R73, R101 to R105). -/

namespace Sys2Proof.Machine

/-! ## Frames heard (R101, R104) -/

theorem runCleared_still (s : State) : s.Still s.runCleared := by
  unfold State.runCleared
  split
  · refine .of_link ⟨rfl, rfl, rfl⟩ rfl fun sound => ?_
    exact (Link.sound_iff _).mpr ⟨(s.link.sound_iff.mp sound).1, Nat.zero_le 8, fun _ => Nat.zero_lt_succ 7⟩
  · exact .refl s

/-- The entry of a station other than this one changes. -/
theorem setPeer_still {p : Station} {s : State} (other : p ≠ s.own) (e : Option Peer) : s.Still (s.setPeer p e) :=
  ⟨⟨id, rfl, rfl, Vec.get_set_other _ _ other.symm, rfl, rfl⟩, id, rfl, fun _ _ h => h⟩

/-- A change of the cells' marks, or of the states of cells that this station has not CLAIMED. -/
theorem State.Still.of_states {s : State} {f : Cell → CellEntry → CellEntry}
    (same : ∀ k e, (f k e).state = e.state ∨ ∀ n, e.state ≠ .claimed s.own n) : s.Still (s.mapCells f) := by
  refine .of_mapCells fun n k claimed => ?_
  rcases same k (s.cell k) with kept | apart
  · rw [kept, claimed]
  · exact absurd claimed (apart n)

theorem clearLostMarks_still (p : Station) (s : State) : s.Still (clearLostMarks p s) := by
  refine .of_states fun k e => .inl ?_
  split <;> rfl

theorem hear_still (p : Station) (s : State) : s.Still (hear p s) := by
  by_cases own : p = s.own
  · rw [own, hear_own]
    exact .refl s
  have cleared := runCleared_still s
  have other : p ≠ s.runCleared.own := by rwa [cleared.own]
  have entered (e : Option Peer) : s.Still (s.runCleared.setPeer p e) := cleared.trans (setPeer_still other e)
  cases entry : s.peer p with
  | none =>
    rw [hear_absent own entry]
    exact entered _
  | some e =>
    rw [hear_present own entry]
    split
    · exact ((entered _).trans (clearLostMarks_still _ _)).trans (evaluate_still _)
    · exact entered _

/-! ## Claims taken back (R60, R71) -/

theorem takeBack_still {p : Station} {s : State} (other : p ≠ s.own) (n : Byte) : s.Still (takeBack p n s) := by
  refine .of_states fun k e => ?_
  split
  · next claimed => exact .inr fun m => by simp [claimed, other]
  · exact .inl rfl

/-- A number taken back that no claim carries while CLAIMING. -/
theorem takeBack_calm {p : Station} {n : Byte} {s : State}
    (apart : p = s.own → ∀ c, s.zone.claim = some c → c.waitingState = false → c.number ≠ some n) :
    s.Calm (takeBack p n s) := by
  by_cases own : p = s.own
  · refine ⟨⟨id, rfl, rfl, rfl, rfl, rfl⟩, id, fun sound c stands => ?_⟩
    obtain ⟨within, running⟩ := sound c stands
    refine ⟨within, fun claiming => ?_⟩
    obtain ⟨none, numbered, cells⟩ := running claiming
    refine ⟨none, numbered, fun m number runs k has => ?_⟩
    have claimed := cells m number runs k has
    have different : m ≠ n := fun same => apart own c stands claiming (same ▸ number)
    rw [takeBack_cell, claimed, if_neg (by simp [different])]
    exact claimed
  · exact (takeBack_still own n).calm

/-- No cell is CLAIMED under that number once it is taken back, as a claim of its own goes to WAITING too (R62). -/
theorem claimToWaiting_unclaimed {c : Claim} {n : Byte} {s : State} (claim : s.zone.claim = some c)
    (number : c.number = some n) (cs : CellSet) (k : Cell) :
    ((claimToWaiting cs s).cell k).state ≠ .claimed s.own n := by
  obtain ⟨-, cells, -⟩ := claimToWaiting_spec (cs := cs) claim
  have back : takeBackClaim c s = takeBack s.own n s := by rw [takeBackClaim, number]
  rw [State.cell_congr cells, back, takeBack_cell]
  split
  · simp
  · assumption

/-- No step of R71's claims claims a cell. -/
theorem claimToWaiting_claims_none {p : Station} {n : Byte} {k : Cell} {s : State}
    (unclaimed : (s.cell k).state ≠ .claimed p n) (cs : CellSet) :
    ((claimToWaiting cs s).cell k).state ≠ .claimed p n := by
  cases claim : s.zone.claim with
  | none => rwa [claimToWaiting_none claim]
  | some c =>
    obtain ⟨-, cells, -⟩ := claimToWaiting_spec (cs := cs) claim
    rw [State.cell_congr cells, takeBackClaim]
    split
    · rw [takeBack_cell]
      split
      · simp
      · exact unclaimed
    · exact unclaimed

theorem takeBack_claims_none {p q : Station} {n m : Byte} {k : Cell} {s : State}
    (unclaimed : (s.cell k).state ≠ .claimed p n) : ((takeBack q m s).cell k).state ≠ .claimed p n := by
  rw [takeBack_cell]
  split
  · simp
  · exact unclaimed

/-- One claim of step 2 of R71 is taken away. -/
def takeOne (cs : CellSet) (t : State) (xm : Station × Byte) : State :=
  if xm.1 = t.own then
    match t.zone.claim with
    | some c =>
      if c.number = some xm.2 && !c.waitingState then claimToWaiting (cs &&& c.cells) t
      else takeBack xm.1 xm.2 t
    | none => takeBack xm.1 xm.2 t
  else takeBack xm.1 xm.2 t

theorem takeClaims_eq (cs : CellSet) (s : State) : takeClaims cs s = (claimsAmong cs s).foldl (takeOne cs) s := rfl

theorem takeOne_calm (cs : CellSet) (s : State) (xm : Station × Byte) : s.Calm (takeOne cs s xm) := by
  unfold takeOne
  split
  · split
    · next c claim =>
      split
      · refine claimToWaiting_calm fun d stands => ?_
        cases claim.symm.trans stands
        exact minus_and_self _ _
      · next apart =>
        refine takeBack_calm fun _ d stands claiming number => apart ?_
        cases claim.symm.trans stands
        simp [number, claiming]
    · next claim => exact takeBack_calm fun _ d stands => by cases claim.symm.trans stands
  · next other => exact (takeBack_still other _).calm

theorem takeOne_unclaims (cs : CellSet) (s : State) (n : Byte) (k : Cell) :
    ((takeOne cs s (s.own, n)).cell k).state ≠ .claimed s.own n := by
  have back : ((takeBack s.own n s).cell k).state ≠ .claimed s.own n := by
    rw [takeBack_cell]
    split
    · simp
    · assumption
  unfold takeOne
  rw [if_pos rfl]
  split
  · next c claim =>
    split
    · next names =>
      exact claimToWaiting_unclaimed claim (by simpa using (Bool.and_eq_true_iff.mp names).1) _ _
    · exact back
  · exact back

theorem takeOne_claims_none {cs : CellSet} {s : State} {xm : Station × Byte} {p : Station} {n : Byte} {k : Cell}
    (unclaimed : (s.cell k).state ≠ .claimed p n) : ((takeOne cs s xm).cell k).state ≠ .claimed p n := by
  unfold takeOne
  split
  · split
    · split
      · exact claimToWaiting_claims_none unclaimed _
      · exact takeBack_claims_none unclaimed
    · exact takeBack_claims_none unclaimed
  · exact takeBack_claims_none unclaimed

theorem takeClaims_calm (cs : CellSet) (s : State) : s.Calm (takeClaims cs s) :=
  foldl_invariant (P := s.Calm) (fun t xm calm => calm.trans (takeOne_calm cs t xm)) _ (State.Still.refl s).calm

/-- The report's cells are none of this station's CLAIMED ones after step 2 of R71. -/
theorem takeClaims_unclaimed {cs : CellSet} {s : State} {k : Cell} (listed : cs.has k = true) (n : Byte) :
    ((takeClaims cs s).cell k).state ≠ .claimed s.own n := by
  rw [takeClaims_eq]
  by_cases claimed : (s.cell k).state = .claimed s.own n
  · have mem : (s.own, n) ∈ claimsAmong cs s := by
      refine List.mem_filterMap.mpr ⟨k, List.mem_finRange k, ?_⟩
      rw [claimed]
      exact if_pos listed
    refine foldl_reaches (P := fun t => t.own = s.own) (Q := fun t : State => (t.cell k).state ≠ .claimed s.own n)
      (fun t xm own => (takeOne_calm cs t xm).own.trans own) (fun t own => ?_)
      (fun t xm => takeOne_claims_none) _ mem rfl
    rw [← own]
    exact takeOne_unclaims cs t n k
  · exact foldl_invariant (P := fun t : State => (t.cell k).state ≠ .claimed s.own n)
      (fun t xm => takeOne_claims_none) _ claimed

/-- Steps 3 and 4 of R71 leave this station's CLAIMED cells, where the report lists none. -/
theorem setHolder_still {p : Station} {cs : CellSet} {s : State}
    (unclaimed : ∀ k n, cs.has k = true → (s.cell k).state ≠ .claimed s.own n) : s.Still (setHolder p cs s) := by
  refine .of_mapCells fun n k claimed => ?_
  split
  · next listed => exact absurd claimed (unclaimed k n listed)
  · rw [if_neg (by simp [claimed])]
    exact claimed

/-! ## A peer's entry, its report and its end (R65, R70 to R73, R102) -/

theorem meetConflict_still (p : Station) (cs : CellSet) (s : State) : s.Still (meetConflict p cs s) := by
  unfold meetConflict
  split
  · exact .refl s
  · exact zoneConflict_still _ _ s

theorem applyReport_leads (p : Station) (r : Report) (s : State) :
    s.Leads State.Fresh State.Any (applyReport p r s) := by
  have taken : s.Calm (takeClaims r.held (meetConflict p r.held s)) :=
    (meetConflict_still p r.held s).calm.trans (takeClaims_calm _ _)
  have unclaimed (k : Cell) (n : Byte) (listed : r.held.has k = true) :
      ((takeClaims r.held (meetConflict p r.held s)).cell k).state
        ≠ .claimed (takeClaims r.held (meetConflict p r.held s)).own n := by
    rw [(takeClaims_calm _ _).own]
    exact takeClaims_unclaimed listed n
  unfold applyReport
  dsimp only
  generalize takeClaims r.held (meetConflict p r.held s) = u at taken unclaimed
  have placed : u.Still (if u.link.state = .on then setHolder p r.held u else u) := by
    split
    · exact setHolder_still unclaimed
    · exact .refl u
  generalize (if u.link.state = .on then setHolder p r.held u else u) = v at placed
  have ended : v.Still (endOwings p r.waiting v) := by
    refine .of_states fun k e => .inl ?_
    split <;> rfl
  exact ((taken.trans placed.calm).trans ended.calm).leads.trans ((retryCheck_leads _).trans (afterClaim_leads _))

theorem takePresence_leads (p : Station) (r : Report) (s : State) :
    s.Leads State.Fresh State.Any (takePresence p r s) := by
  unfold takePresence
  split
  · next accepted =>
    simp only [Bool.and_eq_true, bne_iff_ne] at accepted
    obtain ⟨⟨⟨⟨-, other⟩, -⟩, -⟩, -⟩ := accepted
    have heard := hear_still p s
    have recorded : (hear p s).Still (recordReport p r (hear p s)) := by
      unfold recordReport
      split
      · exact setPeer_still (by rwa [heard.own]) _
      · exact .refl _
    exact ((heard.trans recorded).calm.leads.trans (applyReport_leads p r _)).trans (evaluate_still _).calm.any
  · exact (State.Leads.refl _ s).any

theorem peerGone_leads (p : Station) (s : State) : s.Leads State.Fresh State.Any (peerGone p s) := by
  have owed : s.Still (dropOwed p s) := by
    refine .of_states fun k e => .inl ?_
    split <;> rfl
  have deferred : (dropOwed p s).Still (dropDeferrals p (dropOwed p s)) := by
    refine .of_states fun k e => .inl ?_
    split <;> rfl
  have ended := owed.trans deferred
  unfold peerGone
  dsimp only
  cases claim : s.zone.claim with
  | none =>
    rw [if_neg (by simp)]
    exact ended.calm.leads.trans ((takeUpHeldBack_leads _ _).trans (afterClaim_leads _)).fresh
  | some c =>
    rw [if_pos (by simp)]
    have kept := takeUpHeldBack_still (ended.claim.trans claim) s.deferred
    exact (ended.trans kept).calm.leads.trans ((retryCheck_leads _).trans (afterClaim_leads _))

/-- An entry that stands is a peer's: the station has none of its own (R100). -/
theorem State.ZoneSound.other {s : State} {p : Station} {e : Peer} (sound : s.ZoneSound) (entry : s.peer p = some e) :
    p ≠ s.own := by
  rintro rfl
  cases sound.2.1.symm.trans entry

theorem losePeer_leads (p : Station) (s : State) : s.Leads State.Fresh State.Any (losePeer p s) := by
  unfold losePeer
  split
  · next e entry =>
    split
    · exact (State.Leads.refl _ s).any
    dsimp only
    have still (other : p ≠ s.own) : s.Still (dropClaims p (markLost p (raisePeerLost p
        ((s.reach (e.lastHeard + 3000)).setPeer p (some { e with lost := true }))))) := by
      have lost : s.Still (raisePeerLost p ((s.reach (e.lastHeard + 3000)).setPeer p (some { e with lost := true }))) :=
        ((s.still_reach (e.lastHeard + 3000)).trans
          (setPeer_still (s := s.reach (e.lastHeard + 3000)) other (some { e with lost := true }))).trans
          (.of_same (by simp))
      generalize raisePeerLost p ((s.reach (e.lastHeard + 3000)).setPeer p (some { e with lost := true })) = u at lost
      have marked : u.Still (markLost p u) := by
        refine .of_states fun k e => .inl ?_
        split <;> rfl
      refine (lost.trans marked).trans (.of_states fun k e => ?_)
      split
      · next claimed =>
        refine .inr fun n same => other ?_
        rw [CellEntry.claimedBy, same] at claimed
        rw [← lost.own]
        exact (of_decide_eq_true claimed).symm
      · exact .inl rfl
    have gone : s.Leads State.Fresh State.Fresh (dropClaims p (markLost p (raisePeerLost p
        ((s.reach (e.lastHeard + 3000)).setPeer p (some { e with lost := true }))))) := by
      refine fun link => ⟨by simpa using link, fun sound fresh => ?_⟩
      have calm := (still (sound.other entry)).calm
      exact ⟨calm.zoneSound calm.claimSound sound, calm.fresh fresh⟩
    exact (gone.trans (peerGone_leads p _)).trans (evaluate_still _).calm.any
  · exact (State.Leads.refl _ s).any

/-- A forgotten peer's entry goes, with its cells (R73, R105). -/
theorem forgotten_still (p : Station) (s : State) (other : p ≠ s.own) : s.Still (freeCellsOf p (s.setPeer p none)) := by
  refine (setPeer_still other none).trans (.of_states fun k e => ?_)
  split
  · next held => exact .inr fun n => by simp [held]
  · exact .inl rfl

/-! ## Claims, windows and grants (R57 to R59) -/

theorem claimCells_still (p : Station) (n : Byte) (cs : CellSet) (s : State) : s.Still (claimCells p n cs s) := by
  unfold claimCells
  split
  · next free =>
    refine .of_mapCells fun m k claimed => ?_
    split
    · next named =>
      have isFree := (CellSet.within_iff _ _).mp free k named
      rw [State.freeSet, State.has_cellsWhere, claimed] at isFree
      cases isFree
    · exact claimed
  · exact .refl s

/-- A window that opens is the only new one. -/
theorem openWindow_window {p q : Station} {n m : Byte} (s : State) (apart : q ≠ p ∨ m ≠ n) :
    (openWindow q m s).window p n = s.window p n := by
  have other : ((q == p) && (m == n)) = false := by
    rw [Bool.and_eq_false_iff]
    rcases apart with station | number
    · exact .inl (by simpa using station)
    · exact .inr (by simpa using number)
  simp [State.window, openWindow, State.setZone, List.find?_append, other]

theorem openWindow_leads {p : Station} {s : State} (linked : s.link.state ≠ .silent) (other : p ≠ s.own) (n : Byte) :
    s.Leads State.Fresh State.Fresh (openWindow p n s) := by
  have same (m : Byte) : (openWindow p n s).window s.own m = s.window s.own m := openWindow_window s (.inl other)
  refine fun link => ⟨link, fun sound fresh => ⟨⟨fun c stands => ?_, sound.2.1, fun config =>
    absurd (sound.2.2 config).1 linked⟩, (same _).trans fresh⟩⟩
  obtain ⟨within, running⟩ := sound.1 c stands
  refine ⟨within, fun claiming => ?_⟩
  obtain ⟨none, numbered, cells⟩ := running claiming
  exact ⟨none, numbered, fun m number runs => cells m number (same m ▸ runs)⟩

theorem sendObject_still (p : Station) (n : Byte) (overlap : CellSet) (s : State) :
    s.Still (sendObject p n overlap s) := by
  unfold sendObject
  split
  · exact zoneConflict_still _ _ s
  next apart =>
  have hears : s.link.state = .deaf → (TxFrame.object p n overlap).deafDrops = false := fun deaf => absurd deaf apart
  split
  · next h => exact offer_still_of h hears
  · next h => exact (offer_still_of h hears).trans (zoneConflict_still _ _ _)
  · next h => exact (offer_still_of h hears).trans (zoneConflict_still _ _ _)

theorem judgePeerClaim_leads {p : Station} {s : State} (linked : s.link.state ≠ .silent) (other : p ≠ s.own) (n : Byte)
    (cs : CellSet) : s.Leads State.Fresh State.Ready (judgePeerClaim p n cs s) := by
  have claimed := claimCells_still p n cs s
  have same : (claimCells p n cs s).link.state = s.link.state := by
    unfold claimCells
    split <;> rfl
  have opened : s.Leads State.Fresh State.Fresh (openWindow p n (claimCells p n cs s)) :=
    claimed.calm.leads.trans (openWindow_leads (by rwa [same]) (by rwa [claimed.own]) n)
  unfold judgePeerClaim
  dsimp only
  generalize openWindow p n (claimCells p n cs s) = u at opened
  have objected : u.Still (if s.ownSet &&& cs = 0#20 then u else sendObject p n (s.ownSet &&& cs) u) := by
    split
    · exact .refl u
    · exact sendObject_still _ _ _ u
  generalize (if s.ownSet &&& cs = 0#20 then u else sendObject p n (s.ownSet &&& cs) u) = v at objected
  have ended : v.Still (endDeferrals p cs v) := by
    refine .of_states fun k e => .inl ?_
    split <;> rfl
  exact opened.trans ((objected.trans ended).calm.leads.trans (deferralsEnded_leads _ _))

theorem holdReport_still (s : State) : s.Still (holdReport s) := by
  unfold holdReport
  split
  · refine State.Still.trans (t := s.setLink { s.link with
      list := s.link.list.filter fun e => !e.pendingKind .presence }) ?_ (.of_peers _ rfl)
    exact .of_link ⟨rfl, rfl, rfl⟩ rfl fun sound => sound.relist ⟨rfl, rfl⟩ fun list => list.filter _
  · exact .refl s

/-- The station's own CLAIM carries a number given already, and the cells of the claim of that number. -/
def State.sent (s : State) (n : Byte) (cs : CellSet) : Prop :=
  n ≠ s.zone.nextNumber ∧ ∀ c, s.zone.claim = some c → c.waitingState = false → c.number = some n → cs = c.cells

/-- A claim that finds every cell FREE is sound in its window. -/
theorem ownClaim_claimSound {n : Byte} {cs : CellSet} {s : State} (sound : s.ClaimSound) (sent : s.sent n cs)
    (free : ∀ c, s.zone.claim = some c → c.number = some n → c.waitingState = false → cs.minus s.freeSet = 0#20) :
    (openWindow s.own n (claimCells s.own n cs s)).ClaimSound := by
  have claimed := claimCells_still s.own n cs s
  intro c stands
  have before : s.zone.claim = some c := by simpa using stands
  obtain ⟨within, running⟩ := sound c before
  refine ⟨within, fun claiming => ?_⟩
  obtain ⟨none, numbered, cells⟩ := running claiming
  refine ⟨none, numbered, fun m number runs k has => ?_⟩
  change ((claimCells s.own n cs s).cell k).state = .claimed (claimCells s.own n cs s).own m
  have own : (openWindow s.own n (claimCells s.own n cs s)).own = s.own := claimed.own
  rw [own] at runs
  rw [claimed.own]
  by_cases same : m = n
  · subst same
    have allFree : CellSet.within cs s.freeSet = true := by
      rw [CellSet.within, free c before number claiming]
      rfl
    rw [claimCells_cell, if_pos ⟨allFree, sent.2 c before claiming number ▸ has⟩]
  · rw [openWindow_window _ (.inr (Ne.symm same)), claimed.window] at runs
    exact claimed.claimed m k (cells m number runs k has)

theorem judgeOwnClaim_leads {n : Byte} {cs : CellSet} {s : State} (linked : s.link.state ≠ .silent) :
    s.Leads (fun u => u.Fresh ∧ u.sent n cs) State.Fresh (judgeOwnClaim n cs s) := by
  have claimed := claimCells_still s.own n cs s
  have held := holdReport_still (openWindow s.own n (claimCells s.own n cs s))
  have own : (openWindow s.own n (claimCells s.own n cs s)).own = s.own := claimed.own
  have claim : (holdReport (openWindow s.own n (claimCells s.own n cs s))).zone.claim = s.zone.claim := by simp
  have fresh : s.Fresh → s.sent n cs → (openWindow s.own n (claimCells s.own n cs s)).Fresh := by
    intro fresh sent
    have number : (openWindow s.own n (claimCells s.own n cs s)).zone.nextNumber = s.zone.nextNumber := claimed.number
    rw [State.Fresh, own, number, openWindow_window _ (.inr sent.1), claimed.window]
    exact fresh
  have zone {t : State} (unmoved : (openWindow s.own n (claimCells s.own n cs s)).Unmoved t) (claimSound : t.ClaimSound)
      (sound : s.ZoneSound) : t.ZoneSound := by
    refine ⟨claimSound, ?_, fun config => ?_⟩
    · rw [unmoved.own, unmoved.entry, own]
      exact claimed.entry.trans sound.2.1
    · exact absurd (sound.2.2 (by rw [← claimed.mode]; exact unmoved.mode ▸ config)).1 linked
  have judged (waits : ∀ c, s.zone.claim = some c → c.number = some n → c.waitingState = false →
      cs.minus s.freeSet = 0#20) : s.Leads (fun u => u.Fresh ∧ u.sent n cs) State.Fresh
        (holdReport (openWindow s.own n (claimCells s.own n cs s))) :=
    fun link => ⟨held.link (claimed.link link), fun sound ⟨free, sent⟩ =>
      ⟨zone held.toUnmoved (held.calm.claimSound (ownClaim_claimSound sound.1 sent waits)) sound,
        held.fresh (fresh free sent)⟩⟩
  unfold judgeOwnClaim
  dsimp only
  split
  · next c stands =>
    have stood : s.zone.claim = some c := claim.symm.trans stands
    split
    · have waits := claimToWaiting_unmoved (CellSet.minus cs s.freeSet &&& c.cells)
        (holdReport (openWindow s.own n (claimCells s.own n cs s)))
      refine fun link => ⟨claimToWaiting_link (held.link (claimed.link link)), fun sound ⟨free, sent⟩ =>
        ⟨zone (held.toUnmoved.trans waits) (claimToWaiting_claimSound fun d now => ?_) sound,
          waits.fresh (held.fresh (fresh free sent))⟩⟩
      cases stands.symm.trans now
      exact minus_and_self _ _
    · next met =>
      refine judged fun d now number claiming => ?_
      cases stood.symm.trans now
      by_contra blocked
      exact met ⟨number, by simp [claiming], blocked⟩
  · next none =>
    refine judged fun d now => ?_
    cases (claim.symm.trans none).symm.trans now

end Sys2Proof.Machine
end

section
/-! PROOFS. What the ends of the settle windows, objections, releases, timers and the link's events leave of a sound
link and claim (R59 to R61, R64 to R70, R80, R84 to R92). -/

namespace Sys2Proof.Machine

/-! ## The end of a settle window (R59) -/

theorem closeWindow_window_same (p : Station) (n : Byte) (s : State) : (closeWindow p n s).window p n = none := by
  refine List.find?_eq_none.mpr fun w mem names => ?_
  have kept := (List.mem_filter.mp mem).2
  rw [names] at kept
  cases kept

/-- A window that ends takes no other with it, and opens none. -/
theorem closeWindow_window {p q : Station} {n m : Byte} {s : State} (runs : ((closeWindow q m s).window p n).isSome) :
    (s.window p n).isSome := by
  obtain ⟨w, found⟩ := Option.isSome_iff_exists.mp runs
  rw [State.window, List.find?_isSome]
  have names : (w.station == p && w.number == n) = true :=
    List.find?_some (p := fun w : Window => w.station == p && w.number == n) found
  exact ⟨w, (List.mem_filter.mp (List.mem_of_find?_eq_some found)).1, names⟩

theorem settled_leads (p : Station) (n : Byte) (s : State) :
    s.Leads State.Fresh State.Fresh (closeWindow p n (grantCells p n s)) := by
  refine fun link => ⟨link, fun sound fresh => ⟨⟨fun c stands => ?_, sound.2.1, fun config => ?_⟩, ?_⟩⟩
  · obtain ⟨within, running⟩ := sound.1 c stands
    refine ⟨within, fun claiming => ?_⟩
    obtain ⟨none, numbered, cells⟩ := running claiming
    refine ⟨none, numbered, fun m number runs k has => ?_⟩
    have claimed := cells m number (closeWindow_window runs) k has
    have apart : (s.cell k).state ≠ .claimed p n := by
      intro same
      obtain ⟨rfl, rfl⟩ : s.own = p ∧ m = n := by simpa [claimed] using same
      have closed : (closeWindow s.own m (grantCells s.own m s)).window s.own m = Option.none :=
        closeWindow_window_same _ _ _
      rw [show (closeWindow s.own m (grantCells s.own m s)).own = s.own from rfl, closed] at runs
      cases runs
    have cell : (closeWindow p n (grantCells p n s)).cell k = s.cell k :=
      (s.cell_mapCells _ k).trans (if_neg apart)
    rw [cell, claimed]
    rfl
  · obtain ⟨silent, none⟩ := sound.2.2 config
    refine ⟨silent, ?_⟩
    change s.zone.windows.filter _ = []
    rw [none, List.filter_nil]
  · by_contra runs
    have running := closeWindow_window (Option.isSome_iff_ne_none.mpr runs)
    rw [show (closeWindow p n (grantCells p n s)).own = s.own from rfl] at running
    have none : s.window s.own s.zone.nextNumber = none := fresh
    rw [show (closeWindow p n (grantCells p n s)).zone.nextNumber = s.zone.nextNumber from rfl,
      show (grantCells p n s).window s.own s.zone.nextNumber = s.window s.own s.zone.nextNumber from rfl,
      none] at running
    cases running

theorem takeUpKept_leads (s : State) : s.Leads State.Ready State.Ready (takeUpKept s) := by
  unfold takeUpKept
  split
  · exact (State.Still.of_zone s (by exact ⟨rfl, rfl, rfl, rfl⟩)).ready.trans (requestCells_leads _ _)
  · exact .refl _ s

theorem grantClaim_leads (c : Claim) (s : State) : s.Leads State.Fresh State.Ready (grantClaim c s) := by
  have granted : s.Calm (weigh (s.setClaim none)) :=
    (State.Calm.of_noClaim s (by exact ⟨rfl, rfl, rfl⟩)).trans (weigh_still _).calm
  have surplus (t : State) : t.Still (joinGranted t) := by
    unfold joinGranted
    split
    · exact handOver_still _ t
    · exact .refl t
  unfold grantClaim
  dsimp only
  split
  · exact (granted.trans (surplus _).calm).leads.trans (takeUpKept_leads _).fresh
  · exact granted.leads.trans (takeUpKept_leads _).fresh

theorem settle_leads (p : Station) (n : Byte) (s : State) : s.Leads State.Fresh State.Ready (settle p n s) := by
  have settled := settled_leads p n s
  unfold settle
  dsimp only
  split
  · split
    · split
      · exact settled.trans (grantClaim_leads _ _)
      · exact settled.imp id .inl
    · exact settled.imp id .inl
  · exact settled.imp id .inl

theorem endWindow_leads (p : Station) (n : Byte) (s : State) : s.Leads State.Fresh State.Any (endWindow p n s) := by
  unfold endWindow
  split
  · dsimp only
    have followed (due : Nat) : s.Leads State.Fresh State.Any (afterClaim (settle p n (s.reach due))) :=
      (s.still_reach due).calm.leads.trans ((settle_leads p n _).trans (afterClaim_leads _))
    split
    · exact (followed _).trans (releaseReport_still _).calm.any
    · exact followed _
  · exact (State.Leads.refl _ s).any

/-! ## OBJECT, WAIT and RELEASE (R60, R61, R64, R69) -/

/-- A claim with that number is WAITING. -/
def State.waitsUnder (s : State) (n : Byte) : Prop :=
  ∀ c, s.zone.claim = some c → c.waitingState = false → c.number ≠ some n

theorem minus_or_and (waiting cs cells : CellSet) (within : CellSet.minus waiting cells = 0#20) :
    CellSet.minus (waiting ||| (cs &&& cells)) cells = 0#20 := by
  refine CellSet.ext_has fun k => ?_
  have outside : (CellSet.minus waiting cells).has k = false := by rw [within, CellSet.has_zero]
  simp only [CellSet.has_minus, CellSet.has_or, CellSet.has_and, CellSet.has_zero] at outside ⊢
  cases named : cells.has k
  · simpa [named] using outside
  · simp

theorem objectClaim_calm (n : Byte) (cs : CellSet) (s : State) :
    s.Calm (objectClaim n cs s) ∧ (objectClaim n cs s).waitsUnder n := by
  unfold objectClaim
  split
  · next c claim =>
    split
    · split
      · next waits =>
        refine ⟨⟨⟨id, rfl, rfl, rfl, rfl, rfl⟩, id, fun sound => claimSound_of_waiting fun d stands => ?_⟩,
          fun d stands claiming => ?_⟩
        · obtain rfl := Option.some.inj stands
          exact ⟨waits, minus_or_and _ _ _ (sound c claim).1⟩
        · obtain rfl := Option.some.inj stands
          cases waits.symm.trans claiming
      · refine ⟨claimToWaiting_calm fun d stands => ?_, fun d stands claiming => ?_⟩
        · cases claim.symm.trans stands
          exact minus_and_self _ _
        · obtain ⟨⟨b, waits⟩, -⟩ := claimToWaiting_spec (cs := cs &&& c.cells) claim
          cases waits.symm.trans stands
          cases claiming
    · next apart =>
      refine ⟨(State.Still.refl s).calm, fun d stands _ => ?_⟩
      cases claim.symm.trans stands
      exact apart
  · next none => exact ⟨(State.Still.refl s).calm, fun d stands => by cases none.symm.trans stands⟩

theorem objectInTime_calm (target : Station) (n : Byte) (cs : CellSet) (s : State) :
    s.Calm (objectInTime target n cs s) := by
  unfold objectInTime
  dsimp only
  split
  · obtain ⟨calm, waits⟩ := objectClaim_calm n cs s
    exact calm.trans (takeBack_calm fun _ => waits)
  · next other => exact (takeBack_still other n).calm

theorem objectLate_still (sender target : Station) (cs : CellSet) (s : State) :
    s.Still (objectLate sender target cs s) := by
  unfold objectLate
  split
  · split
    · exact .refl s
    · exact zoneConflict_still _ _ s
  split
  · exact zoneConflict_still _ _ s
  · exact .refl s

/-- The retry check, and what follows (R66). -/
theorem retried_leads (s : State) : s.Leads State.Fresh State.Any (afterClaim (retryCheck s)) :=
  (retryCheck_leads s).trans (afterClaim_leads _)

theorem takeObject_leads (sender target : Station) (n : Byte) (cs : CellSet) (s : State) :
    s.Leads State.Fresh State.Any (takeObject sender target n cs s) := by
  have heard := (hear_still sender s).calm
  unfold takeObject
  dsimp only
  split
  · split
    · exact (heard.trans (objectInTime_calm target n cs _)).leads.trans (retried_leads _)
    · exact (heard.trans (objectLate_still sender target cs _).calm).leads.trans (retried_leads _)
  · exact (State.Leads.refl _ s).any

theorem takeWait_still (p : Station) (cs : CellSet) (s : State) : s.Still (takeWait p cs s) := by
  have heard := hear_still p s
  unfold takeWait
  dsimp only
  split
  · split
    · exact heard
    · refine heard.trans (.of_states fun k e => .inl ?_)
      split <;> rfl
  · exact .refl s

theorem takeRelease_leads (p : Station) (cs : CellSet) (s : State) :
    s.Leads State.Fresh State.Any (takeRelease p cs s) := by
  have heard := hear_still p s
  have freed (t : State) : t.Still (freeReleased p cs t) := by
    refine .of_states fun k e => ?_
    split
    · next held => exact .inr fun n => by simp [held.2]
    · exact .inl rfl
  unfold takeRelease
  dsimp only
  split
  · split
    · exact heard.calm.leads.trans (retried_leads _)
    · exact (heard.trans (freed _)).calm.leads.trans (retried_leads _)
  · exact (State.Leads.refl _ s).any

theorem takeClaim_leads {p : Station} {n : Byte} {cs : CellSet} {s : State} :
    s.Leads (fun u => u.Fresh ∧ (p = u.own → u.sent n cs)) State.Any (takeClaim p n cs s) := by
  unfold takeClaim
  split
  · next frames =>
    have linked : s.link.state ≠ .silent := by
      intro silent
      simp [State.frames, silent] at frames
    split
    · next own =>
      exact ((judgeOwnClaim_leads linked).imp (fun ⟨free, sent⟩ => ⟨free, sent own⟩) .inl).trans (afterClaim_leads _)
    · next other =>
      have heard := hear_still p s
      have judged := judgePeerClaim_leads (s := hear p s) (by simpa using linked) (by rwa [heard.own]) n cs
      exact (heard.calm.leads.trans (judged.trans (afterClaim_leads _))).imp (fun h => h.1) id
  · exact (State.Leads.refl State.Fresh s).imp (fun h => h.1) fun _ => trivial

/-! ## Timers (R66, R67, R70) -/

theorem retryRoom_leads (s : State) : s.Leads State.Fresh State.Any (retryRoom s) := by
  unfold retryRoom
  split
  · exact (State.Still.of_zone s (by exact ⟨rfl, rfl, rfl, rfl⟩)).calm.leads.trans (retried_leads _)
  · exact (State.Leads.refl _ s).any

theorem waitTimeout_calm (s : State) : s.Calm (waitTimeout s) := by
  unfold waitTimeout
  split
  · next c claim =>
    split
    · exact (s.still_reach (c.made + s.cfg.waitLimit * 1000 + 1)).calm.trans (markTimeout_calm claim)
    · exact (State.Still.refl s).calm
  · exact (State.Still.refl s).calm

theorem raiseZoneOverstay_still (k : Cell) (p : Station) (s : State) : s.Still (raiseZoneOverstay k p s) :=
  .of_same (by simp)

theorem overstay_still (k : Cell) (s : State) : s.Still (overstay k s) := by
  unfold overstay
  split
  · next o owed =>
    split
    · exact .refl s
    · dsimp only
      refine State.Still.trans ((s.still_reach _).trans (.of_states fun j e => .inl ?_)) (raiseZoneOverstay_still _ _ _)
      split <;> rfl
  · exact .refl s

theorem deferralExpiry_leads (k : Cell) (s : State) : s.Leads State.Fresh State.Any (deferralExpiry k s) := by
  unfold deferralExpiry
  split
  · dsimp only
    refine State.Leads.trans (State.Calm.leads (State.Still.calm ?_))
      ((deferralsEnded_leads _ _).trans (afterClaim_leads _))
    refine (s.still_reach _).trans (.of_states fun j e => .inl ?_)
    split <;> rfl
  · exact (State.Leads.refl _ s).any

/-! ## Notes, samples and reports -/

theorem takeRackNote_still (p : Station) (k : SlotIx) (c : Ident) (s : State) : s.Still (takeRackNote p k c s) := by
  unfold takeRackNote
  split
  · exact (hear_still p s).trans (.of_same (by simp))
  · exact .refl s

theorem takeSampleCall_still (p : Station) (v : Conversions) (order : List Chan) (s : State) :
    s.Still (takeSampleCall p v order s) := by
  unfold takeSampleCall
  split
  · exact ((hear_still p s).trans (.of_same (by simp))).trans (offerPresence_still _)
  · exact .refl s

theorem endPresencePeriod_still (s : State) : s.Still (endPresencePeriod s) := by
  unfold endPresencePeriod
  split
  · next due _ =>
    exact ((s.still_reach due).trans (.of_peers _ (by rfl))).trans (offerPresence_still _)
  · exact .refl s

/-! ## The link's events (R80, R84 to R89) -/

theorem startSending_still (s : State) : s.Still (startSending s) :=
  .of_link (by simp) (by simp) fun sound => sound.startSending

theorem loseArbitration_still (s : State) : s.Still (loseArbitration s) :=
  .of_link (by simp) (by simp) fun sound => sound.loseArbitration

theorem awaitIdle_still (s : State) : s.Still (awaitIdle s) := .of_link ⟨rfl, rfl, rfl⟩ rfl id

theorem lineIdle_still (s : State) : s.Still (lineIdle s) := .of_link ⟨rfl, rfl, rfl⟩ rfl id

/-- A link that sends is not SILENT (R94). -/
theorem linked_of_sending {s : State} (sound : s.link.Sound) (sends : s.sendingEntry.isSome) :
    s.link.state ≠ .silent := by
  intro silent
  rw [State.sendingEntry, sound.2.2.2.2.1 silent] at sends
  cases sends

theorem deliver_still (s : State) : s.Still (deliver s) := by
  unfold deliver
  split
  · next e _ =>
    refine (removeSending_still s).trans ?_
    cases e.frame with
    | presence => exact presenceLeft_still _
    | rackNote k c => exact .of_same (by simp [toldDelivered])
    | object => exact .refl _
    | release => exact .refl _
    | claim => exact .refl _
    | wait => exact .refl _
    | sampleCall => exact .refl _
  · exact .refl s

theorem duplicateMismatch_leads (s : State) : s.Leads State.Fresh State.Any (duplicateMismatch s) := by
  unfold duplicateMismatch
  split
  · next e sends =>
    intro link
    have linked := linked_of_sending link (by rw [sends]; rfl)
    have removed : s.Calm (awaitIdle (removeSending s)) := ((removeSending_still s).trans (awaitIdle_still _)).calm
    have told := removed.trans (ownerTold_calm e.frame (awaitIdle (removeSending s)))
    have state : (ownerTold e.frame (awaitIdle (removeSending s))).link.state = s.link.state := by
      simp [awaitIdle, removeSending]
    have deaf := told.trans (enterDeaf_isCalm (by rwa [state]) .duplicateStation (some e.frame.kind))
    exact deaf.leads.trans (afterClaim_leads _).fresh link
  · exact (State.Leads.refl _ s).any

theorem earlySpoil_leads (own : Bool) (s : State) : s.Leads State.Fresh State.Any (earlySpoil own s) := by
  unfold earlySpoil
  split
  · exact ((attemptSpoiled_calm s).trans (awaitIdle_still _).calm).leads.trans (afterClaim_leads _).fresh
  split
  · have counted : s.Calm (if (own && s.judges) = true then countError s else s) := by
      split
      · next judges => exact countError_calm (Bool.and_eq_true_iff.mp judges).2
      · exact (State.Still.refl s).calm
    exact (counted.trans (awaitIdle_still _).calm).leads.trans (afterClaim_leads _).fresh
  · exact (State.Leads.refl _ s).any

theorem linked_of_judges {s : State} (judges : s.judges = true) : s.link.state ≠ .silent := by
  intro silent
  simp [State.judges, silent] at judges

theorem duplicateFound_leads {s : State} (judges : s.judges = true) (k : FrameKind) :
    s.Leads State.Fresh State.Any (duplicateFound k s) :=
  (enterDeaf_isCalm (linked_of_judges judges) .duplicateStation (some k)).leads.trans (afterClaim_leads _).fresh

theorem frameSpoiled_leads (rx : Reception) (s : State) : s.Leads State.Fresh State.Any (frameSpoiled rx s) := by
  unfold frameSpoiled
  split
  · exact (attemptSpoiled_calm s).leads.trans (afterClaim_leads _).fresh
  split
  · next receives =>
    have judges := (Bool.and_eq_true_iff.mp receives).2
    split
    · exact duplicateFound_leads judges _
    split
    · exact (countError_calm judges).leads.trans (afterClaim_leads _).fresh
    · exact (State.Leads.refl _ s).any
  · exact (State.Leads.refl _ s).any

theorem duplicateFrame_leads (k : FrameKind) (s : State) : s.Leads State.Fresh State.Any (duplicateFrame k s) := by
  unfold duplicateFrame
  split
  · next receives => exact duplicateFound_leads (Bool.and_eq_true_iff.mp (Bool.and_eq_true_iff.mp receives).1).2 k
  · exact (State.Leads.refl _ s).any

theorem driverFault_leads (s : State) : s.Leads State.Fresh State.Any (driverFault s) := by
  unfold driverFault
  split
  · exact ((attemptSpoiled_calm s).trans (awaitIdle_still _).calm).leads.trans (afterClaim_leads _).fresh
  · exact (State.Leads.refl _ s).any

end Sys2Proof.Machine
end

section
/-! PROOFS. Every command keeps a sound link and a sound claim (R55, R57, R60, R75, R91 to R94). -/

namespace Sys2Proof.Machine

/-! ## The start-up, RESET LINK and the end of the listening (R76, R77, R98, R215, R216) -/

/-- The link with its list cleared, LISTENING (R98, R99). -/
theorem Link.Sound.of_cleared {l : Link} (cleared : l.state = .listening ∧ l.list = [] ∧ l.run = 0) : l.Sound := by
  obtain ⟨state, list, run⟩ := cleared
  simp [Link.Sound, state, list, run, listSorted]

theorem State.fresh_of_no_window {s : State} (none : s.zone.windows = []) : s.Fresh := by
  rw [State.Fresh, State.window, none, List.find?_nil]

/-- With no window a claim whose number and sets stand is sound, whatever the cells. -/
theorem claimSound_of_no_window {s t : State} (sound : s.ClaimSound) (claim : t.zone.claim = s.zone.claim)
    (none : t.zone.windows = []) : t.ClaimSound := by
  intro c stands
  obtain ⟨within, running⟩ := sound c (claim ▸ stands)
  refine ⟨within, fun claiming => ?_⟩
  obtain ⟨nothing, numbered, -⟩ := running claiming
  refine ⟨nothing, numbered, fun n _ runs => ?_⟩
  rw [State.window, none] at runs
  cases runs

theorem claimAfterReset_claimSound {s : State} (sound : s.ClaimSound) : (claimAfterReset s).ClaimSound := by
  unfold claimAfterReset
  split
  · next c claim =>
    split
    · exact sound
    · refine claimSound_of_waiting fun d stands => ?_
      obtain rfl := Option.some.inj stands
      exact ⟨rfl, minus_self _⟩
  · exact sound

theorem relinked_leads {s : State} (linked : s.link.state ≠ .silent) : s.Leads State.Fresh State.Fresh s.relinked := by
  obtain ⟨own, windows, link, peers, -⟩ := relinked_leaves s
  obtain ⟨-, -, cleared, entries⟩ := restartLink_restarts s
  refine fun _ => ⟨Link.Sound.of_cleared (by rw [link, cleared]; exact ⟨rfl, rfl, rfl⟩), fun sound _ =>
    ⟨⟨?_, ?_, fun config => ?_⟩, State.fresh_of_no_window windows⟩⟩
  · have claim : (forgetHolders (dropWindows (restartLink s))).zone.claim = s.zone.claim := by
      simp [dropWindows]
    have none : (forgetHolders (dropWindows (restartLink s))).zone.windows = [] := by simp [dropWindows]
    exact claimAfterReset_claimSound (claimSound_of_no_window sound.1 claim none)
  · rw [State.peer, peers, entries]
    exact Vec.get_ofFn _ _
  · have mode : s.relinked.station.state = s.station.state := by simp [State.relinked, dropWindows]
    exact absurd (sound.2.2 (mode ▸ config)).1 linked

theorem resetLinkEffect_leads {s : State} (linked : s.link.state ≠ .silent) :
    s.Leads State.Fresh State.Any (resetLinkEffect s) := by
  rw [resetLinkEffect_eq]
  have reported := (offerPresence_still s.relinked).trans (evaluate_still _)
  have taken := (takeUpHeldBack_leads s.deferred (evaluate (offerPresence s.relinked))).trans (dropOrphan_leads _)
  have ended := reported.ready.trans (taken.trans (State.still_setEvents _ s.events).ready)
  exact (relinked_leads linked).trans ended.any.fresh

/-- The link is ON (R97). -/
theorem listened_still {s : State} (listening : s.link.state = .listening) (due : Nat) : s.Still ((s.reach due).setLink
    { (s.reach due).link with state := .on, listeningDue := none }) := by
  refine ⟨⟨fun silent => absurd (listening.symm.trans silent) (by decide), rfl, rfl, rfl, rfl, rfl⟩, fun sound => ?_,
    rfl, fun _ _ h => h⟩
  obtain ⟨length, sorted, attempts, sending, -, -, run, few⟩ := sound
  exact ⟨length, sorted, attempts, sending, fun silent => absurd (show LinkState.on = .silent from silent) (by decide),
    fun deaf => absurd (show LinkState.on = .deaf from deaf) (by decide), run, fun _ => few (by simp [listening])⟩

theorem settleView_still (s : State) : s.Still (settleView s) := by
  refine .of_states fun k e => ?_
  split
  · next unknown => exact .inr fun n => by simp [unknown]
  · exact .inl rfl

theorem settleConflicts_still (s : State) : s.Still (settleConflicts s) := by
  refine foldl_invariant (P := s.Still) (fun t p still => ?_) _ (.refl s)
  split
  · split
    · exact still.trans (meetConflict_still _ _ _)
    · exact still
  · exact still

theorem joinClaim_leads {s : State} (linked : s.link.state ≠ .deaf) :
    s.Leads State.Fresh State.Ready (joinClaim s) := by
  unfold joinClaim
  dsimp only
  split
  · exact (sendClaim_leads linked rfl).imp id .inr
  · exact (State.Leads.refl _ s).fresh

theorem weighClaim_leads (s : State) : s.Leads State.Fresh State.Ready (weighClaim s) := by
  have stays : s.Leads State.Fresh State.Ready s := (State.Leads.refl _ s).fresh
  unfold weighClaim
  split
  · next c claim =>
    split
    · next waits =>
      split
      · exact retryCheck_leads s
      · have weighed : s.Calm (s.setClaim (some { c with waiting := c.cells.minus s.freeSet })) := by
          refine ⟨⟨id, rfl, rfl, rfl, rfl, rfl⟩, id, fun _ => claimSound_of_waiting fun d stands => ?_⟩
          obtain rfl := Option.some.inj stands
          exact ⟨waits, minus_minus_self _ _⟩
        exact (weighed.trans (offerWait_still _ _).calm).leads.imp id .inl
    · exact stays
  · exact stays

/-- READY: the station leaves its start-up (R216). -/
theorem becomeActive_leads (s : State) : s.Leads State.Any State.Any (becomeActive s) := by
  unfold becomeActive
  split
  · refine fun link => ⟨by simpa using link, fun sound _ => ⟨⟨?_, ?_, fun config => ?_⟩, trivial⟩⟩
    · exact sound.1
    · exact sound.2.1
    · cases config
  · exact .refl _ s

theorem endListening_leads (s : State) : s.Leads State.Fresh State.Any (endListening s) := by
  unfold endListening
  split
  · next due listening _ =>
    dsimp only
    have on := listened_still listening due
    have state : ((s.reach due).setLink
      { (s.reach due).link with state := .on, listeningDue := none }).link.state = .on := rfl
    generalize (s.reach due).setLink { (s.reach due).link with state := .on, listeningDue := none } = u at on state
    have settled := on.trans ((settleView_still u).trans (settleConflicts_still _))
    have linked : (settleConflicts (settleView u)).link.state ≠ .deaf := by simp [state]
    generalize settleConflicts (settleView u) = v at settled linked
    have claimed : v.Leads State.Fresh State.Ready (if v.zone.claim.isSome then weighClaim v else joinClaim v) := by
      split
      · exact weighClaim_leads v
      · exact joinClaim_leads linked
    exact settled.calm.leads.trans ((claimed.trans (afterClaim_leads _)).trans (becomeActive_leads _))
  · exact (State.Leads.refl _ s).any

theorem State.still_answer (s : State) (code : Code) (data : List Byte) :
    s.Still (s.answer code data) :=
  .of_same (by simp)

theorem startUp_leads {s : State} (config : s.station.state = .config) : s.Leads State.Fresh State.Any (startUp s) := by
  unfold startUp
  dsimp only
  generalize joins : forgetHolders _ = u
  have facts : (u.link.state = .listening ∧ u.link.list = [] ∧ u.link.run = 0) ∧ u.zone.claim = s.zone.claim
      ∧ u.zone.windows = s.zone.windows ∧ u.peer u.own = s.peer s.own ∧ u.station.state = .joining := by
    subst joins
    exact ⟨⟨rfl, rfl, rfl⟩, rfl, rfl, rfl, rfl⟩
  obtain ⟨cleared, claim, windows, entry, joining⟩ := facts
  have joined : s.Leads State.Fresh State.Fresh u := by
    refine fun _ => ⟨.of_cleared cleared, fun sound _ => ?_⟩
    have none : u.zone.windows = [] := windows.trans (sound.2.2 config).2
    exact ⟨⟨claimSound_of_no_window sound.1 claim none, entry.trans sound.2.1,
      fun inConfig => by cases joining.symm.trans inConfig⟩, State.fresh_of_no_window none⟩
  exact joined.trans ((offerPresence_still u).trans (State.still_answer _ _ _)).calm.leads.any

/-! ## The motion period (R6, R144) -/

/-- No CLAIM has gone in this period, or the seated line, whose change alone may lead to one, is noted. -/
def State.metSeat (level : Bool) (s : State) : Prop := s.Fresh ∨ s.probes.seated = level

theorem State.Still.metSeat {level : Bool} {s t : State} (h : s.Still t) (seated : t.probes.seated = s.probes.seated) :
    s.Leads (State.metSeat level) (State.metSeat level) t := by
  refine fun link => ⟨h.link link, fun sound met => ⟨h.zoneSound h.calm.claimSound sound, ?_⟩⟩
  rcases met with fresh | noted
  · exact .inl (h.fresh fresh)
  · exact .inr (seated.trans noted)

theorem noteSeated_still (level : Bool) (s : State) : s.Still (noteSeated level s) := s.still_setProbes _

theorem seatedOutside_still (level : Bool) (s : State) : s.Still (seatedOutside level s) := by
  unfold seatedOutside
  dsimp only
  split
  · exact (s.still_setProbes _).trans (faultStop_still _ _)
  · exact .of_same (by simp)

theorem seatedInChange_leads (ch : Change) (level : Bool) (s : State) :
    s.Leads State.Ready State.Any (seatedInChange ch level s) := by
  unfold seatedInChange
  split
  · exact completeDrop_leads ch s
  · exact (completePick_still ch s).ready.any
  · exact ((s.still_setProbes _).trans (faultStop_still _ _)).ready.any

theorem watchSeated_notes (level : Bool) (s : State) : (watchSeated level s).probes.seated = level := by
  unfold watchSeated
  split
  · next same => exact same.symm
  dsimp only
  split
  · unfold seatedInChange
    split
    · simp [noteSeated]
    · simp [noteSeated]
    · simp [noteSeated]
  · unfold seatedOutside
    dsimp only
    split
    · simp [noteSeated]
    · simp [noteSeated]

theorem watchSeated_leads (level : Bool) (s : State) :
    s.Leads (State.metSeat level) (State.metSeat level) (watchSeated level s) := by
  have notes := watchSeated_notes level s
  have unnoted (changed : level ≠ s.probes.seated) (met : s.metSeat level) : s.Fresh :=
    met.resolve_right fun noted => changed noted.symm
  unfold watchSeated at notes ⊢
  split
  · exact .refl _ s
  · next changed =>
    rw [if_neg changed] at notes
    dsimp only at notes ⊢
    have noted := noteSeated_still level s
    have turned : s.Leads State.Ready State.Any (match (noteSeated level s).probes.change with
        | some ch => seatedInChange ch level (noteSeated level s)
        | none => seatedOutside level (noteSeated level s)) := by
      split
      · exact noted.ready.trans (seatedInChange_leads _ _ _)
      · exact (noted.trans (seatedOutside_still _ _)).ready.any
    exact turned.fresh.imp (unnoted changed) fun _ => .inr notes

theorem watch_leads (v : Samples) (w : Watch) (s : State) :
    s.Leads (State.metSeat v.seated) (State.metSeat v.seated) (watch v w s) := by
  have stays : s.Leads (State.metSeat v.seated) (State.metSeat v.seated) s := .refl _ s
  have stops (r : FaultReason) : s.Leads (State.metSeat v.seated) (State.metSeat v.seated) (faultStop r s) :=
    (faultStop_still r s).metSeat (by simp)
  have level (r : FaultReason) (a : Axis) (bad : Bool) :
      s.Leads (State.metSeat v.seated) (State.metSeat v.seated) (watchLevel r a bad s) := by
    unfold watchLevel
    split
    · split
      · exact stays
      · exact stops r
      · exact stops r
      · exact State.Still.metSeat (s.still_setAxis _ _) rfl
    · exact stays
  cases w with
  | limit a => exact level _ _ _
  | drive a => exact level _ _ _
  | following a =>
    unfold watch watchFollowing
    dsimp only
    split
    · exact stays
    · split
      · exact stops _
      · exact stays
    · split
      · exact stops _
      · exact stays
    · exact stays
  | seated => exact watchSeated_leads v.seated s

theorem motionPeriod_leads (v : Samples) (order : List Watch) (s : State) :
    s.Leads State.Fresh State.Any (motionPeriod v order s) := by
  have moved : s.Still (advance (sampleLevels v (s.setClock (s.clock + 1)))) := .of_same (by simp)
  have watched : s.Leads State.Fresh (State.metSeat v.seated)
      ((watchOrder order).foldl (fun t w => watch v w t) (advance (sampleLevels v (s.setClock (s.clock + 1))))) :=
    foldl_invariant (P := s.Leads State.Fresh (State.metSeat v.seated))
      (fun t w kept => kept.trans (watch_leads v w t)) _ (moved.calm.leads.imp id .inl)
  exact watched.any.trans (State.Still.of_same (by exact ⟨rfl, rfl, rfl, rfl⟩)).calm.any

/-! ## The commands -/

/-- The reply of a command changes nothing else. -/
theorem State.Leads.answer {P Q : State → Prop} {s t : State} (h : s.Leads P Q t) (code : Code) (data : List Byte) :
    s.Leads P State.Any (t.answer code data) := h.any.trans (t.still_answer code data).calm.any

theorem State.still_answered (s : State) (code : Code) (data : List Byte) :
    s.Leads State.Fresh State.Any (s.answer code data) := (State.Leads.refl State.Fresh s).answer code data

/-- A command of a wrong data length is refused (R201). -/
theorem withLength_leads {n : Nat} {data : List Byte} {s t : State} (h : s.Leads State.Fresh State.Any t) :
    s.Leads State.Fresh State.Any (withLength n data s t) := by
  unfold withLength
  split
  · exact h
  · exact s.still_answered _ _

theorem start_leads (data : List Byte) (s : State) : s.Leads State.Fresh State.Any (start data s) := by
  unfold start
  split
  · exact s.still_answered _ _
  split
  · next joins => exact startUp_leads joins.1
  · exact s.still_answered _ _

theorem configure_still (data : List Byte) (s : State) : s.Still (configure data s) :=
  ⟨⟨fun h => by simpa using h, by simp [State.own], by simp, by simp [State.peer], by simp, by simp⟩,
    fun h => by simpa using h, by simp, fun n k h => by simpa [State.cell] using h⟩

theorem resetLink_leads (data : List Byte) (s : State) : s.Leads State.Fresh State.Any (resetLink data s) := by
  unfold resetLink
  refine withLength_leads ?_
  split
  · exact s.still_answered _ _
  · exact s.still_answered _ _
  · next on =>
    split
    · exact s.still_answered _ _
    · exact (resetLinkEffect_leads (by simp [on])).answer _ _
  · next deaf =>
    split
    · exact s.still_answered _ _
    · exact (resetLinkEffect_leads (by simp [deaf])).answer _ _

theorem queueMove_leads (data : List Byte) (s : State) : s.Leads State.Fresh State.Any (queueMove data s) := by
  unfold queueMove
  refine withLength_leads ?_
  dsimp only
  split
  · exact s.still_answered _ _
  · exact (appendMove_leads _ s).fresh.answer _ _

theorem stop_leads (data : List Byte) (s : State) : s.Leads State.Fresh State.Any (stop data s) :=
  withLength_leads ((stopEffect_leads s).answer _ _)

theorem resume_leads (data : List Byte) (s : State) : s.Leads State.Fresh State.Any (resume data s) := by
  unfold resume
  refine withLength_leads ?_
  split
  · have idle : s.Calm (shedAbortedClaim (s.setMotionState .idle)) :=
      (s.still_setMotion _).calm.trans (shedAbortedClaim_calm _)
    exact (idle.leads.trans (becomeCurrent_leads _).fresh).answer _ _
  · exact s.still_answered _ _

theorem flushMoves_leads (data : List Byte) (s : State) : s.Leads State.Fresh State.Any (flushMoves data s) := by
  unfold flushMoves
  refine withLength_leads (State.Leads.answer (Q := State.Fresh) ?_ _ _)
  split
  · exact (removeUnstarted_calm s).leads
  · exact ((removeUnstarted_calm s).trans (handOverIfEmpty_still _).calm).leads

theorem changeProbe_leads (data : List Byte) (s : State) : s.Leads State.Fresh State.Any (changeProbe data s) := by
  unfold changeProbe
  refine withLength_leads ?_
  dsimp only
  split
  · exact s.still_answered _ _
  · exact (beginChange_leads _ s).answer _ _

theorem abortCommand_leads (data : List Byte) (s : State) : s.Leads State.Fresh State.Any (abortCommand data s) := by
  unfold abortCommand
  refine withLength_leads ?_
  split
  · exact s.still_answered _ _
  · exact (abortChange_leads s).answer _ _

theorem createEntry_still (i : Ident) (bank : Bank) (q : QualSet) (s : State) : s.Still (createEntry i bank q s) := by
  unfold createEntry
  dsimp only
  split
  · exact ((s.still_setProbes _).trans (State.still_setProbes _ _)).trans (expelIdent_still _ _)
  · exact s.still_setProbes _

theorem writeProbeSet_leads (data : List Byte) (s : State) : s.Leads State.Fresh State.Any (writeProbeSet data s) := by
  unfold writeProbeSet
  refine withLength_leads ?_
  dsimp only
  split
  · exact s.still_answered _ _
  split
  · exact s.still_answered _ _
  split
  · exact s.still_answered _ _
  split
  · exact State.Leads.answer (s.still_setProbes _).calm.leads _ _
  split
  · exact s.still_answered _ _
  · exact (createEntry_still _ _ _ s).calm.leads.answer _ _

theorem setRackSlot_leads (data : List Byte) (s : State) : s.Leads State.Fresh State.Any (setRackSlot data s) := by
  unfold setRackSlot
  refine withLength_leads ?_
  split
  · exact s.still_answered _ _
  · exact (State.Still.trans (.of_same (by simp)) (offerNote_still _ _ _)).calm.leads.answer _ _

theorem callSample_leads (data : List Byte) (s : State) : s.Leads State.Fresh State.Any (callSample data s) := by
  have hears : s.link.state = .deaf → TxFrame.sampleCall.deafDrops = false := fun _ => rfl
  unfold callSample
  refine withLength_leads ?_
  split
  · exact s.still_answered _ _
  split
  · next h => exact (offer_still_of h hears).calm.leads.answer _ _
  · next h => exact (offer_still_of h hears).calm.leads.answer _ _
  · next h => exact (offer_still_of h hears).calm.leads.answer _ _

theorem forgetPeer_leads (data : List Byte) (s : State) : s.Leads State.Fresh State.Any (forgetPeer data s) := by
  unfold forgetPeer
  refine withLength_leads ?_
  split
  · exact s.still_answered _ _
  next p _ =>
  split
  · next lost =>
    have gone : s.Leads State.Fresh State.Fresh (freeCellsOf p (s.setPeer p none)) := by
      refine fun link => ⟨link, fun sound fresh => ?_⟩
      have other : p ≠ s.own := by
        rintro rfl
        rw [State.isLost, sound.2.1] at lost
        cases lost
      have calm := (forgotten_still p s other).calm
      exact ⟨calm.zoneSound calm.claimSound sound, calm.fresh fresh⟩
    exact ((gone.trans (peerGone_leads p _)).trans (evaluate_still _).calm.any).answer _ _
  · exact s.still_answered _ _

theorem positionTimeout_still (s : State) : s.Still (positionTimeout s) := by
  unfold positionTimeout
  split
  · split
    · exact (s.still_reach _).trans (faultStop_still _ _)
    · exact .refl s
  · exact .refl s

theorem stopDecelerationEnd_leads (s : State) : s.Leads State.Fresh State.Any (stopDecelerationEnd s) := by
  unfold stopDecelerationEnd
  split
  · split
    · exact endDeceleration_leads s
    · exact (State.Leads.refl _ s).any
  · exact (State.Leads.refl _ s).any

theorem takeScaleCount_calm (a : Axis) (forward : Bool) (s : State) : s.Calm (takeScaleCount a forward s) := by
  unfold takeScaleCount
  dsimp only
  by_cases fits : fits32 (if forward then (s.axis a).scale + 1 else (s.axis a).scale - 1) = true
  · rw [if_pos fits]
    exact (s.still_setAxis _ _).calm
  · rw [if_neg fits]
    exact takeScaleFault_calm a s

theorem endReference_still (s : State) : s.Still (endReference s) := by
  unfold endReference
  split
  · split
    · exact State.Still.trans (.of_same (by simp)) (handOverIfEmpty_still _)
    · exact .refl s
  · exact .refl s

theorem takeTouch_still (c : V3 Int) (s : State) : s.Still (takeTouch c s) := by
  unfold takeTouch
  split
  · exact faultStop_still _ s
  · exact .of_same (by simp)
  · exact .refl s
  · exact .of_same (by simp)
  · exact .refl s

/-! ## Every step -/

/-- A command that touches none of the parts of which link and claim are made. -/
theorem untouched_still {c : Instr} {s t : State} (run : exec c s = .next t)
    (apart : ∀ q ∈ [Part.link, .zone, .station, .peers], q ∉ touchedBy c) : s.Still t := by
  have frame := exec_sameBut run
  exact .of_same ⟨frame .link (apart _ (by simp)), frame .zone (apart _ (by simp)), frame .station (apart _ (by simp)),
    frame .peers (apart _ (by simp))⟩

/-- The frames of the station's own that a command brings are those it sent (`State.ownFramesTrue`). -/
def State.fedBy (c : Instr) (s : State) : Prop :=
  s.Fresh ∧ ∀ p n cs, c = .claimAccepted p n cs → p = s.own → s.sent n cs

/-- Every command but the resets keeps a sound link, and a sound claim where it brings true frames. -/
theorem exec_leads (c : Instr) (s : State) (on : ∀ p, c ≠ .powerOn p) (anew : ∀ data p, c ≠ .resetStation data p) :
    ∃ t, exec c s = .next t ∧ s.Leads (State.fedBy c) State.Any t := by
  have free {t : State} (h : s.Leads State.Fresh State.Any t) : s.Leads (State.fedBy c) State.Any t :=
    h.imp (fun fed => fed.1) id
  have still {t : State} (h : s.Still t) : s.Leads (State.fedBy c) State.Any t := free h.calm.leads.any
  have ready {t : State} (h : s.Leads State.Ready State.Any t) : s.Leads (State.fedBy c) State.Any t := free h.fresh
  cases c with
  | powerOn p => exact absurd rfl (on p)
  | resetStation data p => exact absurd rfl (anew data p)
  | configure data => exact ⟨_, rfl, still (configure_still data s)⟩
  | start data => exact ⟨_, rfl, free (start_leads data s)⟩
  | resetLink data => exact ⟨_, rfl, free (resetLink_leads data s)⟩
  | queueMove data => exact ⟨_, rfl, free (queueMove_leads data s)⟩
  | stop data => exact ⟨_, rfl, free (stop_leads data s)⟩
  | resume data => exact ⟨_, rfl, free (resume_leads data s)⟩
  | flushMoves data => exact ⟨_, rfl, free (flushMoves_leads data s)⟩
  | changeProbe data => exact ⟨_, rfl, free (changeProbe_leads data s)⟩
  | abortChange data => exact ⟨_, rfl, free (abortCommand_leads data s)⟩
  | writeProbeSet data => exact ⟨_, rfl, free (writeProbeSet_leads data s)⟩
  | setRackSlot data => exact ⟨_, rfl, free (setRackSlot_leads data s)⟩
  | callSample data => exact ⟨_, rfl, free (callSample_leads data s)⟩
  | forgetPeer data => exact ⟨_, rfl, free (forgetPeer_leads data s)⟩
  | motionPeriod v order => exact ⟨_, rfl, free (motionPeriod_leads v order s)⟩
  | segmentComplete => exact ⟨_, rfl, free (completeSegment_leads s)⟩
  | positionTimeout => exact ⟨_, rfl, still (positionTimeout_still s)⟩
  | stopDecelerationEnd => exact ⟨_, rfl, free (stopDecelerationEnd_leads s)⟩
  | scaleCount a forward => exact ⟨_, rfl, free (takeScaleCount_calm a forward s).leads.any⟩
  | scaleFault a => exact ⟨_, rfl, free (takeScaleFault_calm a s).leads.any⟩
  | referenceEnd => exact ⟨_, rfl, still (endReference_still s)⟩
  | touch counts => exact ⟨_, rfl, still (takeTouch_still _ s)⟩
  | frameSendStart => exact ⟨_, rfl, still (startSending_still s)⟩
  | arbitrationLost => exact ⟨_, rfl, still (loseArbitration_still s)⟩
  | duplicateStationMismatch => exact ⟨_, rfl, free (duplicateMismatch_leads s)⟩
  | earlySpoil own => exact ⟨_, rfl, free (earlySpoil_leads own s)⟩
  | frameSpoiled rx byOther => exact ⟨_, rfl, free (frameSpoiled_leads rx s)⟩
  | duplicateStationFrame kind => exact ⟨_, rfl, free (duplicateFrame_leads kind s)⟩
  | frameDelivered => exact ⟨_, rfl, still (deliver_still s)⟩
  | claimAccepted p n cs => exact ⟨_, rfl, takeClaim_leads.imp (fun fed => ⟨fed.1, fed.2 p n cs rfl⟩) id⟩
  | settleWindowEnd p n => exact ⟨_, rfl, free (endWindow_leads p n s)⟩
  | objectAccepted p q n cs => exact ⟨_, rfl, free (takeObject_leads p q n cs s)⟩
  | waitAccepted p cs => exact ⟨_, rfl, still (takeWait_still p cs s)⟩
  | claimRetryRoom => exact ⟨_, rfl, free (retryRoom_leads s)⟩
  | zoneWaitTimeout => exact ⟨_, rfl, free (waitTimeout_calm s).leads.any⟩
  | zoneOverstay k => exact ⟨_, rfl, still (overstay_still k s)⟩
  | releaseAccepted p cs => exact ⟨_, rfl, free (takeRelease_leads p cs s)⟩
  | deferralExpiry k => exact ⟨_, rfl, free (deferralExpiry_leads k s)⟩
  | presenceAccepted p r => exact ⟨_, rfl, free (takePresence_leads p r s)⟩
  | peerLost p => exact ⟨_, rfl, free (losePeer_leads p s)⟩
  | rackNoteAccepted p k content => exact ⟨_, rfl, still (takeRackNote_still p k content s)⟩
  | sampleCallAccepted p v order => exact ⟨_, rfl, still (takeSampleCall_still p v order s)⟩
  | presencePeriod => exact ⟨_, rfl, still (endPresencePeriod_still s)⟩
  | listeningEnd => exact ⟨_, rfl, free (endListening_leads s)⟩
  | dropTimeout => exact ⟨_, rfl, ready (seatTimeout_leads _ _ _ s)⟩
  | pickTimeout => exact ⟨_, rfl, ready (seatTimeout_leads _ _ _ s)⟩
  | identAnswer high low check => exact ⟨_, rfl, ready (takeAnswer_leads high low check s)⟩
  | identAttemptTimeout => exact ⟨_, rfl, ready (attemptTimeout_leads s)⟩
  | lineIdle => exact ⟨_, rfl, still (lineIdle_still s)⟩
  | lineDriverFault => exact ⟨_, rfl, free (driverFault_leads s)⟩
  | _ =>
    obtain ⟨t, run, -⟩ := everyCommandCompletesInItsParts _ s
    exact ⟨t, run, still (untouched_still run (by simp [touchedBy]))⟩

/-- A reset gives the values of power-on, or a refusal that changes nothing (R217). -/
theorem reset_cases {c : Instr} {s t : State} (run : exec c s = .next t)
    (reset : (∃ p, c = .powerOn p) ∨ ∃ data p, c = .resetStation data p) : s.Still t ∨ t.link.Sound ∧ t.ZoneSound := by
  rcases reset with ⟨p, rfl⟩ | ⟨data, p, rfl⟩
  · obtain rfl : (State.powerOn p).setPending s.pending = t := Host.Outcome.next.inj run
    exact .inr ⟨powerOn_linkSound p, powerOn_zoneSound p⟩
  · obtain rfl : resetStation data p s = t := Host.Outcome.next.inj run
    unfold resetStation withLength
    split
    · exact .inr ⟨powerOn_linkSound p, powerOn_zoneSound p⟩
    · exact .inl (s.still_answer _ _)

theorem exec_keeps_link {c : Instr} {s t : State} (link : s.link.Sound) (run : exec c s = .next t) :
    t.link.Sound ∧ (s.ZoneSound → s.fedBy c → t.ZoneSound) := by
  by_cases reset : (∃ p, c = .powerOn p) ∨ ∃ data p, c = .resetStation data p
  · rcases reset_cases run reset with still | sound
    · exact ⟨still.link link, fun zone _ => still.zoneSound still.calm.claimSound zone⟩
    · exact ⟨sound.1, fun _ _ => sound.2⟩
  · obtain ⟨on, anew⟩ := not_or.mp reset
    obtain ⟨u, done, leads⟩ := exec_leads c s (fun p h => on ⟨p, h⟩) fun data p h => anew ⟨data, p, h⟩
    obtain rfl : t = u := Host.Outcome.next.inj (run.symm.trans done)
    exact ⟨(leads link).1, fun zone fed => ((leads link).2 zone fed).1⟩

/-- Settles O57: each command is a chain of operations that keep the link and the claim sound, of which one at most
sends a CLAIM, under a number that no window has. -/
theorem stepKeepsLinkSound : Obligations.StepKeepsLinkSound := by
  refine ⟨fun s t link run => ?_, fun s t link zone true_frames run => ?_⟩
  · rcases step_cases run with rfl | ⟨c, rest, -, run⟩
    · exact link
    · exact (exec_keeps_link (s := s.setPending rest) link run).1
  · rcases step_cases run with rfl | ⟨c, rest, front, run⟩
    · exact zone
    · refine (exec_keeps_link (s := s.setPending rest) link run).2 zone ⟨true_frames.2, ?_⟩
      rintro p n cs rfl rfl
      exact true_frames.1 n cs rest front

end Sys2Proof.Machine
end
